-- ==== Sys2Proof/Word.lean ====
section
/-! DEFINITION. The plainest words of the KMN12 node: registers are 64 bits wide (R30), bytes are 8, and the
unit numbers of R16 and R26 are bounded by the counts of R15. -/

namespace Sys2Proof

/-- A control-space register or a core G register (R30, R111). -/
abbrev Word := BitVec 64
/-- One byte of memory. -/
abbrev Byte := BitVec 8
/-- A 32-bit instruction word (R116), FP32 value or count. -/
abbrev W32 := BitVec 32
/-- A 16-bit field. -/
abbrev W16 := BitVec 16
/-- An SM3 digest. -/
abbrev Digest := BitVec 256
/-- A physical core, index 17p + core of R17: 672 clusters of 17 cores (R15). -/
abbrev CoreId := Fin 11424
/-- A physical cluster (R16). -/
abbrev ClusterId := Fin 672
/-- A logical cluster (R16). -/
abbrev LClusterId := Fin 640
/-- A command queue (R73). -/
abbrev QueueId := Fin 4096
/-- A voltage region (R57). -/
abbrev RegionId := Fin 84
/-- An AXL link (R317). -/
abbrev LinkId := Fin 48
/-- A pseudo-channel (R295). -/
abbrev PcId := Fin 384
/-- A transport context (R349). -/
abbrev CtxId := Fin 1048576
/-- A job slot (R86, R109). -/
abbrev JobSlotId := Fin 16
/-- A master by the hardware path an access arrives on (R432): 0 host, 1 P-die, 2 dispatch, 3 management,
4 JTAG, 5 job units, 6 remote nodes, 7 Granite. -/
abbrev Master := Fin 8

end Sys2Proof
end

