-- ==== Sys2Proof/Syntax.lean ====
section
/-! DEFINITION. The commands of the block: one constructor per row of spec/opcode_table.json, with the row's operands.
A row that stands for an instruction of a core carries the physical core and the 32-bit word the core fetched (R116);
a row that stands for a started queue command names it by its queue and SEQ, and its parameters lie in the slot that
COMMAND_START took (R83, R85); a row that stands for an event carries what the outside world brings (a sensor's
reading, a packet, the value written). -/

namespace Sys2Proof

/-- A packet of R352: header fields and payload (LENGTH is the payload's length). -/
structure Packet where
  op : Byte
  flags : Byte
  dstNode : W16
  srcNode : W16
  dstSpan : W16
  srcSpan : W16
  tag : W16
  epoch : Byte
  dstCtx : W32
  seq : W32
  arg : Word
  payload : List Byte
  deriving DecidableEq, Repr

/-- What a partner's capability flit carries (R319), its contract for each VC (R332) and its MAX_GEN. -/
structure Capability where
  gens : BitVec 3
  maxGen : Nat
  lanes : BitVec 2
  node : BitVec 13
  link : BitVec 6
  alloc : List Nat
  contract : List Nat
  burst : List Nat
  encrypt : Bool
  deriving DecidableEq, Repr

/-- A message of the admission exchange on VC4 (R334). -/
inductive AdmissionMsg where
  /-- Step 1: the certificate chain and a 32-byte nonce. -/
  | hello (chain : List Byte) (nonce : Digest)
  /-- Step 2: the ephemeral public key and the signature over SM3 of the R334 fields. -/
  | signature (ephemeral : List Byte) (sig : BitVec 512)
  deriving DecidableEq, Repr

/-- A FENCE record of a token (R375): one Span-scope tracked tensor. -/
structure FenceRec where
  track : Nat
  touched : Bool
  errSum : Nat
  errInf : Bool
  errCount : Nat
  amax : List W32
  deriving DecidableEq, Repr

/-- A VERDICT record of a token (R375). -/
structure VerdictRec where
  shard : W32
  largest : Digest
  smallest : Digest
  deriving DecidableEq, Repr

/-- A token of R375, its KIND given by the command that carries it. -/
structure Token where
  want : Bool
  cut : Bool
  fail : Bool
  cands : W16
  step : Word
  fence : List FenceRec
  verdict : List VerdictRec
  deriving DecidableEq, Repr

/-- A time beacon (R404), with the local receive time read as the beacon arrives. -/
structure BeaconMsg where
  spanTime : Word
  echoTx : Word
  echoRx : Word
  hops : Byte
  root : W16
  deriving DecidableEq, Repr

/-- An IEEE 1588 message as the servo uses it (R404): the master's time less the node's Span time, in ns. -/
structure PtpMsg where
  error : Int
  deriving DecidableEq, Repr

/-- Modes of the host port (R448). -/
inductive HostMode where
  | down | pcie4 | pcie5 | pcie6 | cxl11 | cxl20 | cxl31
  deriving DecidableEq, Repr

/-- The path and source of a management message (R455): I3C, or Ethernet from an IPv6 address. -/
structure MgtPath where
  i3c : Bool
  peer : BitVec 128
  deriving DecidableEq, Repr

/-- The transport of an SPDM request (R444). -/
inductive SpdmPath where
  | doe | mctp
  deriving DecidableEq, Repr

/-- What a host write to configuration space or BAR2 does (R449, R451, R452): it commits an HDM decoder or takes that back,
enables or disables an IDE stream or the MSI-X table, or writes another register of BAR2. -/
inductive CompWrite where
  | hdm (committed : Bool)
  | ide (stream : Fin 2) (enabled : Bool)
  | msix (enabled : Bool)
  | bar2 (off size : Nat) (v : Word)
  deriving DecidableEq, Repr

/-- One command of the block. -/
inductive Instr where
  /-- REGISTER_WRITE (R30). -/
  | registerWrite (m : Master) (off size : Nat) (v : Word)
  /-- EVENT_FLAG_CLEAR (R11). -/
  | eventFlagClear (m : Master) (off : Nat) (v hwSet : Word)
  /-- RATE_WINDOW_END (R58). -/
  | rateWindowEnd (r : RegionId) (rate : BitVec 12)
  /-- TELLTALE_REPORT (R64). -/
  | telltaleReport (r : RegionId) (t : Fin 4) (delay : BitVec 8) (tapChange : Bool)
  /-- GRANITE_REPLAN (R65). -/
  | graniteReplan
  /-- OP_REQUEST_WRITE (R60). -/
  | opRequestWrite (m : Master) (v : Word)
  /-- OP_POINT_APPLY (R60). -/
  | opPointApply
  /-- OP_RAISE_STEP (R60). -/
  | opRaiseStep
  /-- POWER_LIMIT_LOWER (R61). -/
  | powerLimitLower (watts : Nat)
  /-- POWER_LIMIT_RAISE (R61). -/
  | powerLimitRaise (watts : Nat)
  /-- THERMAL_LOWER (R62). -/
  | thermalLower (r : RegionId) (temp : BitVec 11)
  /-- THERMAL_RAISE (R62). -/
  | thermalRaise (r : RegionId) (temp : BitVec 11)
  /-- THERMAL_HOLD (R62). -/
  | thermalHold (r : RegionId) (temp : BitVec 11)
  /-- THERMAL_HOLD_LIFT (R62). -/
  | thermalHoldLift (r : RegionId) (temp : BitVec 11)
  /-- THERMAL_SHUTDOWN (R62). -/
  | thermalShutdown (r : RegionId) (temp : BitVec 11)
  /-- LEDGER_PERIODIC_WRITE (R70). -/
  | ledgerPeriodicWrite (ok : Bool)
  /-- QUEUE0_RING_WRITE (R73). -/
  | queue0RingWrite (m : Master) (completion : Bool) (v : Word)
  /-- QUEUE0_ENABLE (R78). -/
  | queue0Enable (m : Master) (v : Word)
  /-- QUEUE0_DISABLE (R78). -/
  | queue0Disable (m : Master) (v : Word)
  /-- QUEUE0_RESET (R78). -/
  | queue0Reset (m : Master) (v : Word)
  /-- DOORBELL_WRITE (R76). -/
  | doorbellWrite (m : Master) (q : QueueId) (v : Word)
  /-- CH_WRITE (R81). -/
  | chWrite (m : Master) (q : QueueId) (v : Word)
  /-- COMMAND_START (R79). -/
  | commandStart
  /-- Q_CREATE (R92). -/
  | qCreate (q : QueueId) (seq : BitVec 32)
  /-- Q_DESTROY (R78). -/
  | qDestroy (q : QueueId) (seq : BitVec 32)
  /-- Q_PAUSE (R92). -/
  | qPause (q : QueueId) (seq : BitVec 32)
  /-- Q_RESUME (R92). -/
  | qResume (q : QueueId) (seq : BitVec 32)
  /-- Q_RESET (R78). -/
  | qReset (q : QueueId) (seq : BitVec 32)
  /-- Q_NOP (R91). -/
  | qNop (q : QueueId) (seq : BitVec 32)
  /-- DISPATCH_CORE_FAIL (R90). -/
  | dispatchCoreFail (d : Fin 8) (q : QueueId) (seq : BitVec 32)
  /-- MEM_COPY (R360). -/
  | memCopy (q : QueueId) (seq : BitVec 32)
  /-- MEM_FILL (R301). -/
  | memFill (q : QueueId) (seq : BitVec 32)
  /-- MEM_QUERY (R301). -/
  | memQuery (q : QueueId) (seq : BitVec 32)
  /-- MEM_RESERVE (R301). -/
  | memReserve (q : QueueId) (seq : BitVec 32)
  /-- MEM_RELEASE (R301). -/
  | memRelease (q : QueueId) (seq : BitVec 32)
  /-- JOB_BEGIN (R92). -/
  | jobBegin (q : QueueId) (seq : BitVec 32)
  /-- JOB_TEARDOWN (R400). -/
  | jobTeardown (q : QueueId) (seq : BitVec 32)
  /-- TEARDOWN_LIMIT (R400). -/
  | teardownLimit (j : JobSlotId)
  /-- SCHED_LOAD (R94). -/
  | schedLoad (q : QueueId) (seq : BitVec 32)
  /-- SCHED_UNLOAD (R92). -/
  | schedUnload (q : QueueId) (seq : BitVec 32)
  /-- SCHED_RUN (R101). -/
  | schedRun (q : QueueId) (seq : BitVec 32)
  /-- SCHED_HALT (R92). -/
  | schedHalt (q : QueueId) (seq : BitVec 32)
  /-- STEP_WAIT (R92). -/
  | stepWait (q : QueueId) (seq : BitVec 32)
  /-- TALLY_SET (R92). -/
  | tallySet (q : QueueId) (seq : BitVec 32)
  /-- TALLY_READ (R92). -/
  | tallyRead (q : QueueId) (seq : BitVec 32)
  /-- UNIT_ISSUE (R101). -/
  | unitIssue (l : LClusterId) (k : Fin 16)
  /-- UNIT_COMMIT (R102). -/
  | unitCommit (c : CoreId)
  /-- FENCE_COMPLETE (R103). -/
  | fenceComplete (j : JobSlotId)
  /-- STEP_TIMEOUT (R105). -/
  | stepTimeout (j : JobSlotId)
  /-- INTEGER_ALU (R118). -/
  | integerAlu (c : CoreId) (w : BitVec 32)
  /-- ADDI (R119). -/
  | addi (c : CoreId) (w : BitVec 32)
  /-- ANDI (R119). -/
  | andi (c : CoreId) (w : BitVec 32)
  /-- ORI (R119). -/
  | ori (c : CoreId) (w : BitVec 32)
  /-- XORI (R119). -/
  | xori (c : CoreId) (w : BitVec 32)
  /-- SHIFT_BY_IMMEDIATE (R119). -/
  | shiftByImmediate (c : CoreId) (w : BitVec 32)
  /-- SLTI (R119). -/
  | slti (c : CoreId) (w : BitVec 32)
  /-- LUI (R119). -/
  | lui (c : CoreId) (w : BitVec 32)
  /-- COMPARE_TO_PREDICATE (R120). -/
  | compareToPredicate (c : CoreId) (w : BitVec 32)
  /-- PREDICATE_LOGIC (R120). -/
  | predicateLogic (c : CoreId) (w : BitVec 32)
  /-- SCALAR_FP32 (R121). -/
  | scalarFp32 (c : CoreId) (w : BitVec 32)
  /-- NEAR_LOAD (R113). -/
  | nearLoad (c : CoreId) (w : BitVec 32)
  /-- NEAR_STORE (R113). -/
  | nearStore (c : CoreId) (w : BitVec 32)
  /-- LDF (R117). -/
  | ldf (c : CoreId) (w : BitVec 32)
  /-- STF (R117). -/
  | stf (c : CoreId) (w : BitVec 32)
  /-- GLOBAL_LOAD (R127). -/
  | globalLoad (c : CoreId) (w : BitVec 32)
  /-- GLOBAL_STORE (R127). -/
  | globalStore (c : CoreId) (w : BitVec 32)
  /-- ATOMIC_INTEGER (R129). -/
  | atomicInteger (c : CoreId) (w : BitVec 32)
  /-- CAS (R129). -/
  | cas (c : CoreId) (w : BitVec 32)
  /-- ATOMIC_FADD (R129). -/
  | atomicFadd (c : CoreId) (w : BitVec 32)
  /-- GADD (R129). -/
  | gadd (c : CoreId) (w : BitVec 32)
  /-- ACOPY (R130). -/
  | acopy (c : CoreId) (w : BitVec 32)
  /-- BRANCH (R122). -/
  | branch (c : CoreId) (w : BitVec 32)
  /-- JAL (R122). -/
  | jal (c : CoreId) (w : BitVec 32)
  /-- JALR (R122). -/
  | jalr (c : CoreId) (w : BitVec 32)
  /-- LOOP (R123). -/
  | loopStart (c : CoreId) (w : BitVec 32)
  /-- CSRR (R124). -/
  | csrr (c : CoreId) (w : BitVec 32)
  /-- CSRW (R124). -/
  | csrw (c : CoreId) (w : BitVec 32)
  /-- CSRS (R124). -/
  | csrs (c : CoreId) (w : BitVec 32)
  /-- CSRC (R124). -/
  | csrc (c : CoreId) (w : BitVec 32)
  /-- FENCE (R124). -/
  | fence (c : CoreId) (w : BitVec 32)
  /-- END (R124). -/
  | end_ (c : CoreId) (w : BitVec 32)
  /-- TRAP (R124). -/
  | trapUnit (c : CoreId) (w : BitVec 32)
  /-- TWAIT (R125). -/
  | twait (c : CoreId) (w : BitVec 32)
  /-- TWAIT_TIMEOUT (R125). -/
  | twaitTimeout (c : CoreId)
  /-- TREAD (R125). -/
  | tread (c : CoreId) (w : BitVec 32)
  /-- TSIG (R126). -/
  | tsig (c : CoreId) (w : BitVec 32)
  /-- TWLOAD (R209). -/
  | twload (c : CoreId) (w : BitVec 32)
  /-- TWLOAD_PROCEED (R209). -/
  | twloadProceed (c : CoreId)
  /-- TWLOAD_WAIT_TIMEOUT (R209). -/
  | twloadWaitTimeout (c : CoreId)
  /-- TSTREAM (R196). -/
  | tstream (c : CoreId) (w : BitVec 32)
  /-- TREADACC (R197). -/
  | treadacc (c : CoreId) (w : BitVec 32)
  /-- TVACQ (R132). -/
  | tvacq (c : CoreId) (w : BitVec 32)
  /-- TVREL (R132). -/
  | tvrel (c : CoreId) (w : BitVec 32)
  /-- TVQUERY (R132). -/
  | tvquery (c : CoreId) (w : BitVec 32)
  /-- TCFG (R192). -/
  | tcfg (c : CoreId) (w : BitVec 32)
  /-- TA_TFLAG_CLEAR (R207). -/
  | taTflagClear (m : Master) (c : CoreId) (t : Fin 4) (v : Word)
  /-- VECTOR_INTEGER (R146). -/
  | vectorInteger (c : CoreId) (w : BitVec 32)
  /-- VECTOR_FP32 (R147). -/
  | vectorFp32 (c : CoreId) (w : BitVec 32)
  /-- VECTOR_COMPARE (R148). -/
  | vectorCompare (c : CoreId) (w : BitVec 32)
  /-- VSPLAT (R148). -/
  | vsplat (c : CoreId) (w : BitVec 32)
  /-- VEXT (R148). -/
  | vext (c : CoreId) (w : BitVec 32)
  /-- VREDSUM (R148). -/
  | vredsum (c : CoreId) (w : BitVec 32)
  /-- VREDMAX (R148). -/
  | vredmax (c : CoreId) (w : BitVec 32)
  /-- VREDFSUM (R149). -/
  | vredfsum (c : CoreId) (w : BitVec 32)
  /-- VREDFMAX (R148). -/
  | vredfmax (c : CoreId) (w : BitVec 32)
  /-- VECTOR_WIDENING (R150). -/
  | vectorWidening (c : CoreId) (w : BitVec 32)
  /-- VECTOR_DOT (R151). -/
  | vectorDot (c : CoreId) (w : BitVec 32)
  /-- FP32_PAIR (R152). -/
  | fp32Pair (c : CoreId) (w : BitVec 32)
  /-- VLD (R156). -/
  | vld (c : CoreId) (w : BitVec 32)
  /-- VST (R156). -/
  | vst (c : CoreId) (w : BitVec 32)
  /-- VLDS (R156). -/
  | vlds (c : CoreId) (w : BitVec 32)
  /-- VSTS (R156). -/
  | vsts (c : CoreId) (w : BitVec 32)
  /-- VLDBC (R156). -/
  | vldbc (c : CoreId) (w : BitVec 32)
  /-- VGATHER (R158). -/
  | vgather (c : CoreId) (w : BitVec 32)
  /-- VSCATTER (R158). -/
  | vscatter (c : CoreId) (w : BitVec 32)
  /-- VLD_STRUCTURE (R157). -/
  | vldStructure (c : CoreId) (w : BitVec 32)
  /-- VST_STRUCTURE (R157). -/
  | vstStructure (c : CoreId) (w : BitVec 32)
  /-- VLD_D2P (R154). -/
  | vldD2p (c : CoreId) (w : BitVec 32)
  /-- VST_P2D (R154). -/
  | vstP2d (c : CoreId) (w : BitVec 32)
  /-- VSETVL (R163). -/
  | vsetvl (c : CoreId) (w : BitVec 32)
  /-- VMOV (R163). -/
  | vmov (c : CoreId) (w : BitVec 32)
  /-- CHECK_FAULT (R417). -/
  | checkFault (c : CoreId)
  /-- QNT_SETUP (R228). -/
  | qntSetup (q : QueueId) (seq : BitVec 32)
  /-- QNT_READ (R229). -/
  | qntRead (q : QueueId) (seq : BitVec 32)
  /-- QNT_HISTORY_SET (R229). -/
  | qntHistorySet (q : QueueId) (seq : BitVec 32)
  /-- QNT_RESET (R229). -/
  | qntReset (q : QueueId) (seq : BitVec 32)
  /-- SLV_BATCH (R258). -/
  | slvBatch (q : QueueId) (seq : BitVec 32)
  /-- SOLVER_PROBLEM (R260). -/
  | solverProblem (l : LClusterId)
  /-- SLV_DEADLINE_EXPIRY (R263). -/
  | slvDeadlineExpiry (q : QueueId) (seq : BitVec 32) (progress : List (Nat × Option Nat))
  /-- SLV_ABORT (R265). -/
  | slvAbort (q : QueueId) (seq : BitVec 32)
  /-- PATROL_SCRUB (R294). -/
  | patrolScrub (a : Nat)
  /-- PPR (R306). -/
  | ppr (pc : PcId) (row : Nat)
  /-- PAGE_RETIRE (R307). -/
  | pageRetire (pc : PcId) (page : Nat)
  /-- MAP_OUT_BEGIN (R308). -/
  | mapOutBegin (pc : PcId)
  /-- MAP_OUT (R308). -/
  | mapOut (pc : PcId)
  /-- INCREMENTAL_RETRAIN (R312). -/
  | incrementalRetrain (pc : PcId)
  /-- FULL_RETRAIN (R313). -/
  | fullRetrain (pc : PcId)
  /-- FULL_RETRAIN_END (R313). -/
  | fullRetrainEnd (pc : PcId) (eye : Bool)
  /-- LINK_ENABLE (R321). -/
  | linkEnable (m : Master) (n : LinkId) (v : Word)
  /-- LINK_DISABLE (R321). -/
  | linkDisable (m : Master) (n : LinkId) (v : Word)
  /-- AXL_RETRAIN (R321). -/
  | axlRetrain (m : Master) (n : LinkId) (v : Word)
  /-- VC_ALLOC_WRITE (R330). -/
  | vcAllocWrite (m : Master) (n : LinkId) (vc : Fin 8) (v : Word)
  /-- SIGNAL_DETECT (R319). -/
  | signalDetect (n : LinkId) (lanes : BitVec 2)
  /-- TRAINING_TIMEOUT (R320). -/
  | trainingTimeout (n : LinkId)
  /-- TRAINING_RETRY (R320). -/
  | trainingRetry (n : LinkId) (lanes : BitVec 2)
  /-- TRAINING_DONE (R319). -/
  | trainingDone (n : LinkId) (cap : Capability) (lanesKept : List (BitVec 2))
  /-- ADMISSION_MESSAGE (R334). -/
  | admissionMessage (n : LinkId) (a : AdmissionMsg)
  /-- ADMISSION_VERDICT (R335). -/
  | admissionVerdict (n : LinkId) (admitted : Bool)
  /-- ADMIT_TIMEOUT (R335). -/
  | admitTimeout (n : LinkId)
  /-- FLIT_SEND (R331). -/
  | flitSend (n : LinkId) (vc : Fin 8)
  /-- FLIT_RECEIVE (R327). -/
  | flitReceive (n : LinkId) (bytes : List Byte) (fecCorrected fecBad : Nat)
  /-- REPLAY_TIMEOUT (R327). -/
  | replayTimeout (n : LinkId)
  /-- FAST_RETRAIN (R321). -/
  | fastRetrain (n : LinkId) (expected : BitVec 12)
  /-- FAST_RETRAIN_TIMEOUT (R321). -/
  | fastRetrainTimeout (n : LinkId)
  /-- LANE_DROP (R328). -/
  | laneDrop (n : LinkId) (lane : Fin 2)
  /-- LINK_DOWN (R340). -/
  | linkDown (n : LinkId)
  /-- LINK_RATE_WINDOW (R332). -/
  | linkRateWindow (n : LinkId)
  /-- ROUTE_LOAD (R341). -/
  | routeLoad (q : QueueId) (seq : BitVec 32)
  /-- LINK_RESET (R344). -/
  | linkReset (q : QueueId) (seq : BitVec 32)
  /-- CTX_OPEN (R350). -/
  | ctxOpen (q : QueueId) (seq : BitVec 32)
  /-- BIND_REPEAT (R350). -/
  | bindRepeat (x : CtxId)
  /-- BIND_TIMEOUT (R350). -/
  | bindTimeout (x : CtxId)
  /-- CTX_CLOSE (R351). -/
  | ctxClose (q : QueueId) (seq : BitVec 32)
  /-- CTX_QUERY (R351). -/
  | ctxQuery (q : QueueId) (seq : BitVec 32)
  /-- CTX_SELECT_WRITE (R373). -/
  | ctxSelectWrite (m : Master) (v : Word)
  /-- BIND (R350). -/
  | bindPacket (n : LinkId) (p : Packet)
  /-- LOAD (R355). -/
  | loadPacket (n : LinkId) (p : Packet)
  /-- STORE (R355). -/
  | storePacket (n : LinkId) (p : Packet)
  /-- ATOMIC (R359). -/
  | atomicPacket (n : LinkId) (p : Packet)
  /-- SIGNAL (R98). -/
  | signalPacket (n : LinkId) (p : Packet)
  /-- COPY_OPEN (R362). -/
  | copyOpen (n : LinkId) (p : Packet)
  /-- PIECE (R362). -/
  | piecePacket (n : LinkId) (p : Packet)
  /-- MSG (R367). -/
  | msgPacket (n : LinkId) (p : Packet)
  /-- RED_PIECE (R365). -/
  | redPiece (n : LinkId) (p : Packet)
  /-- REPLY (R354). -/
  | replyPacket (n : LinkId) (p : Packet)
  /-- PIECE_ACK (R362). -/
  | pieceAck (n : LinkId) (p : Packet)
  /-- QUERY (R357). -/
  | queryPacket (n : LinkId) (p : Packet)
  /-- QUERY_REPLY (R357). -/
  | queryReply (n : LinkId) (p : Packet)
  /-- REQUEST_TIMEOUT (R356). -/
  | requestTimeout (x : CtxId) (seq : BitVec 32)
  /-- QUERY_TIMER (R356). -/
  | queryTimer (x : CtxId)
  /-- RNR_RESEND (R368). -/
  | rnrResend (x : CtxId) (seq : BitVec 32)
  /-- MSG_SEND (R366). -/
  | msgSend (q : QueueId) (seq : BitVec 32)
  /-- MSG_RECV_POST (R366). -/
  | msgRecvPost (q : QueueId) (seq : BitVec 32)
  /-- CONFLUENCE_DELIVERY (R279). -/
  | confluenceDelivery (j : JobSlotId) (red : BitVec 16) (level child : Nat)
  /-- SNAP_TAKE (R378). -/
  | snapTake (q : QueueId) (seq : BitVec 32)
  /-- SNAP_TRIGGER (R377). -/
  | snapTrigger (j : JobSlotId)
  /-- FENCE_UP (R376). -/
  | fenceUp (j : JobSlotId) (from_ : Nat) (tok : Token)
  /-- FENCE_DOWN (R376). -/
  | fenceDown (j : JobSlotId) (from_ : Nat) (tok : Token)
  /-- SNAPSHOT_PAGE_COPY (R382). -/
  | snapshotPageCopy (j : JobSlotId)
  /-- STAGE_FULL_RESUME (R382). -/
  | stageFullResume (j : JobSlotId)
  /-- VERDICT_UP (R384). -/
  | verdictUp (j : JobSlotId) (from_ : Nat) (tok : Token)
  /-- VERDICT_DOWN (R384). -/
  | verdictDown (j : JobSlotId) (from_ : Nat) (tok : Token)
  /-- SNAP_ABORT (R387). -/
  | snapAbort (q : QueueId) (seq : BitVec 32)
  /-- SNAP_STATUS (R387). -/
  | snapStatus (q : QueueId) (seq : BitVec 32)
  /-- SNAP_RESTORE (R388). -/
  | snapRestore (q : QueueId) (seq : BitVec 32)
  /-- RESTORE_UP (R389). -/
  | restoreUp (j : JobSlotId) (from_ : Nat) (tok : Token)
  /-- RESTORE_DOWN (R389). -/
  | restoreDown (j : JobSlotId) (from_ : Nat) (tok : Token)
  /-- NODE_ID_WRITE (R395). -/
  | nodeIdWrite (m : Master) (v : Word)
  /-- DRAIN_DONE (R401). -/
  | drainDone (n : LinkId) (tag : BitVec 16) (epoch : BitVec 8)
  /-- DRAIN_DONE_RESEND (R401). -/
  | drainDoneResend (n : LinkId) (e : Fin 256)
  /-- BEACON_SEND (R404). -/
  | beaconSend
  /-- BEACON (R404). -/
  | beaconArrival (n : LinkId) (b : BeaconMsg)
  /-- LOCK_LOST (R404). -/
  | lockLost
  /-- PTP_MESSAGE (R404). -/
  | ptpMessage (peer : BitVec 128) (p : PtpMsg)
  /-- HEALTH_SUMMARY (R406). -/
  | healthSummary
  /-- HEALTH_READ (R427). -/
  | healthRead (q : QueueId) (seq : BitVec 32)
  /-- LEDGER_READ (R92). -/
  | ledgerRead (q : QueueId) (seq : BitVec 32)
  /-- OP_POINT (R92). -/
  | opPoint (q : QueueId) (seq : BitVec 32)
  /-- TILE_PHASE_FAIL (R421). -/
  | tilePhaseFail (t : Fin 12)
  /-- GRANITE_TAKEOVER (R429). -/
  | graniteTakeover
  /-- PDIE_CORE_FAULT (R423). -/
  | pdieCoreFault (k : Fin 64)
  /-- MBX_DB_WRITE (R435). -/
  | mbxDbWrite (m : Master) (slot : Fin 8) (v : Word)
  /-- POWER_LIMIT (R435). -/
  | powerLimit (m : Master)
  /-- VERIFY_IMAGE (R435). -/
  | verifyImage (m : Master)
  /-- KEY_IMPORT (R439). -/
  | keyImport (m : Master)
  /-- KEY_CLEAR (R439). -/
  | keyClear (m : Master)
  /-- ADMIT_READ (R435). -/
  | admitRead (m : Master)
  /-- POLICY_READ (R435). -/
  | policyRead (m : Master)
  /-- CONFIG_READ (R435). -/
  | configRead (m : Master)
  /-- BUNDLE_STAGE (R437). -/
  | bundleStage (m : Master)
  /-- SIGN (R435). -/
  | sign (m : Master)
  /-- TWO_PARTY_NONCE (R441). -/
  | twoPartyNonce (q : QueueId) (seq : BitVec 32)
  /-- TWO_PARTY_PROPOSE (R441). -/
  | twoPartyPropose (q : QueueId) (seq : BitVec 32)
  /-- TWO_PARTY_STATUS (R441). -/
  | twoPartyStatus (q : QueueId) (seq : BitVec 32)
  /-- POWER_ON (R457). -/
  | powerOn
  /-- PERST_DEASSERT (R457). -/
  | perstDeassert
  /-- CONFIG_READY (R458). -/
  | configReady (lanes : BitVec 16) (mode : HostMode)
  /-- HBM_TRAINED (R457). -/
  | hbmTrained
  /-- MEMORY_ACTIVE (R457). -/
  | memoryActive
  /-- WARM_RESET (R460). -/
  | warmReset (orderly : Bool)
  /-- NODE_RESET (R462). -/
  | nodeReset (q : QueueId) (seq : BitVec 32)
  /-- CLUSTER_RESET (R463). -/
  | clusterReset (q : QueueId) (seq : BitVec 32)
  /-- FUNCTION_LEVEL_RESET (R449). -/
  | functionLevelReset
  /-- HOST_SNOOP (R450). -/
  | hostSnoop (a : Nat)
  /-- HDM_ACCESS (R451). -/
  | hdmAccess (a : Nat) (data : Option (List Byte)) (cache : Bool)
  /-- BIRSP (R451). -/
  | birsp (a : Nat)
  /-- BI_TIMEOUT (R451). -/
  | biTimeout (a : Nat)
  /-- IDE_KEY_LOAD (R452). -/
  | ideKeyLoad (m : Master) (v : Word)
  /-- IDE_FAIL (R452). -/
  | ideFail (stream : Fin 2)
  /-- WIDTH_DOWN (R453). -/
  | widthDown (lanes : BitVec 16)
  /-- HOST_LINK_DOWN (R453). -/
  | hostLinkDown
  /-- CXL_DETECT_RETRY (R453). -/
  | cxlDetectRetry (lanes : BitVec 16) (mode : HostMode)
  /-- HOST_ACCESS_TIMEOUT (R453). -/
  | hostAccessTimeout (q : QueueId) (seq : BitVec 32)
  /-- MGT_REGISTER_READ (R455). -/
  | mgtRegisterRead (t : MgtPath) (off : Nat)
  /-- MGT_REGISTER_WRITE (R455). -/
  | mgtRegisterWrite (t : MgtPath) (off : Nat) (v : Word)
  /-- MGT_SLOT_SUBMIT (R455). -/
  | mgtSlotSubmit (t : MgtPath) (slot : List Byte)
  /-- MGT_PEER_WRITE (R466). -/
  | mgtPeerWrite (m : Master) (i3c : Bool) (w : Fin 2) (v : Word)
  /-- GET_VERSION (R444). -/
  | getVersion (t : SpdmPath) (req : List Byte)
  /-- GET_CAPABILITIES (R444). -/
  | getCapabilities (t : SpdmPath) (req : List Byte)
  /-- NEGOTIATE_ALGORITHMS (R444). -/
  | negotiateAlgorithms (t : SpdmPath) (req : List Byte)
  /-- GET_DIGESTS (R444). -/
  | getDigests (t : SpdmPath) (req : List Byte)
  /-- GET_CERTIFICATE (R444). -/
  | getCertificate (t : SpdmPath) (req : List Byte)
  /-- CHALLENGE (R444). -/
  | challenge (t : SpdmPath) (req : List Byte)
  /-- GET_MEASUREMENTS (R444). -/
  | getMeasurements (t : SpdmPath) (req : List Byte)
  /-- UNDERVOLTAGE (R474). -/
  | undervoltage
  /-- OVERVOLTAGE (R474). -/
  | overvoltage
  /-- REFCLK_156_PRESENT (R478). -/
  | refclk156Present
  /-- SOLVER_UNIT_CHECK_FAULT (R267). -/
  | solverUnitCheckFault (l : LClusterId)
  /-- CLUSTER_SCHEDULER_FAULT (R419). -/
  | clusterSchedulerFault (l : LClusterId)
  /-- STANDBY_PAIR_FAIL (R429). -/
  | standbyPairFail
  /-- PAGE_RETIRE_DONE (R307). -/
  | pageRetireDone (entry : Fin 4096)
  /-- CHUNK_OVERDUE (R397). -/
  | chunkOverdue (tag : BitVec 16) (epoch : BitVec 8) (lowest : Nat) (grandparent : Bool)
  /-- COMPONENT_REGISTER_WRITE (R449). -/
  | componentRegisterWrite (w : CompWrite)
  deriving DecidableEq, Repr

end Sys2Proof
end

