-- ==== Sys2Proof/Config.lean ====
section
/-! DEFINITION. What the manual leaves open: functions with no body, so that no proof can see a value of theirs. The
cryptographic functions stand for the algorithms the manual names and does not define (SM2, SM3, SM4, HMAC: R336, R337,
R396, R433 to R444, R452); the free values stand for results the manual calls undefined or does not state. -/

namespace Sys2Proof.Config

/-- The SM3 digest of a message (named in R396, R436 and others, its steps not given: log entry 4). -/
opaque sm3 : List Byte → Digest

/-- SM2 signature check: public key, signer's identifier, digest, signature (R436, R440; log entry 4). -/
opaque sm2Verify : List Byte → List Byte → Digest → List Byte → Bool

/-- SM2 signature of a digest under a private key; the number stands for the random k of the signing (R435, R444; log
entry 4). -/
opaque sm2Sign : List Byte → Digest → Nat → List Byte

/-- SM2 decryption of a ciphertext under a private key, none where its check fails (R439, R452; log entry 4). -/
opaque sm2Decrypt : List Byte → List Byte → Option (List Byte)

/-- The public key of an SM2 private key (R438; log entry 4). -/
opaque sm2Public : List Byte → List Byte

/-- SM4-GCM: key, IV, associated data, plain text; the cipher text and the 16-byte tag (R324, R337; log entry 4). -/
opaque sm4Gcm : List Byte → List Byte → List Byte → List Byte → List Byte × List Byte

/-- SM4-GCM opened: key, IV, associated data, cipher text, tag; the plain text, none where the tag fails (R337; log
entry 4). -/
opaque sm4Open : List Byte → List Byte → List Byte → List Byte → List Byte → Option (List Byte)

/-- The link key of an epoch of a direction, from the admission exchange (R334, R337; log entry 4). -/
opaque linkKey : Digest → Digest → Nat → Bool → List Byte

/-- A certificate chain verifies up to the vendor root (R334, R335; log entry 4). -/
opaque chainVerifies : List Byte → Bool

/-- The digest of the leaf of a certificate chain (R333; log entry 4). -/
opaque leafDigest : List Byte → Digest

/-- The SM3 digest of the vendor root key in Granite's mask ROM (R436). -/
opaque vendorRoot : Digest

/-- The image set that manufacture leaves in a flash, set A or (true) set B: R438 gives no content (log entry 3). -/
opaque factorySet : Bool → List Byte

/-- The device identity private key, derived from the root secret (R438; log entry 4). -/
opaque identityKey : List Byte

/-- The device certificate chain (R438). -/
opaque deviceChain : List Byte

/-- The bytes of the configuration record's service section, whose layout R438 does not give: the map's bytes, the repair
log, the retirement table and the CONFIG count (log entry 3). -/
opaque serviceSection : List Byte → List (Nat × Nat) → List (Nat × Nat × Nat) → Nat → List Byte

/-- The bytes of the configuration record's manufacturing section (R438; log entry 3). -/
opaque manufacturingSection : List Byte

/-- The bytes of the protection record, whose layout R438 does not give: the policy entries, master enables, admission list,
key-slot usages, authority keys and the PROT count (log entry 3). -/
opaque protectionRecord : List Byte → Byte → List (Digest × Bool) → List (Nat × Nat) → List (List Byte × List Byte) → Nat →
  List Byte

/-- HMAC-SM3 of a message under a derived key named by its label (R70, R438; log entry 4). -/
opaque hmac : String → List Byte → Digest

/-- Granite's random source: the n-th number drawn (R334, R441; log entry 4). -/
opaque random : Nat → Digest

/-- The n-th free value: a result the manual leaves undefined or does not state, after which the machine goes on (log
entry 3). -/
opaque free : Nat → Nat

/-- Whether the n-th choice the manual leaves open falls one way (log entry 3). -/
opaque freeBool : Nat → Bool

/-- Whether a fused multiply-add of 0 and infinity with a quiet NaN addend sets NV: IEEE 754-2019, which R121 follows,
leaves it open (log entry 3). -/
opaque fmaInvalid : Bool

/-- A value clipped into bounds that cross, lower above upper, which R256 does not state (log entry 3). -/
opaque clipCrossed : Int → Int → Int → Int

end Sys2Proof.Config
end

