-- ==== Sys2Proof/Machine/Base.lean ====
section
/-! DEFINITION. Bit fields, byte order (R8) and the sparse collections every part of the state uses. -/

namespace Sys2Proof.Machine

/-! ## Bit fields -/

/-- Bits hi:lo of a number (R8). -/
def bits (n hi lo : Nat) : Nat := (n >>> lo) % 2 ^ (hi + 1 - lo)

/-- Bits hi:lo of a word. -/
def fld (w : Word) (hi lo : Nat) : Nat := bits w.toNat hi lo

/-- Bit i of a number. -/
def tbit (n i : Nat) : Bool := (n >>> i) % 2 == 1

/-- A number with its bits hi:lo replaced. -/
def putBits (n hi lo v : Nat) : Nat :=
  n - (bits n hi lo) * 2 ^ lo + (v % 2 ^ (hi + 1 - lo)) * 2 ^ lo

/-- A Bool as a number. -/
def b2n (b : Bool) : Nat := if b then 1 else 0

/-- The two's-complement value of the low n bits of a number. -/
def sext (n x : Nat) : Int :=
  let y := x % 2 ^ n
  if y < 2 ^ (n - 1) then (y : Int) else (y : Int) - (2 ^ n : Nat)

/-- The n-bit two's-complement code of an integer. -/
def toBits (n : Nat) (z : Int) : Nat := (z % ((2 ^ n : Nat) : Int)).toNat

/-- Saturation of an integer into [lo, hi]. -/
def clampInt (lo hi z : Int) : Int := if z < lo then lo else if hi < z then hi else z

/-- Saturating increment of an n-bit count (R12). -/
def satInc (n x : Nat) : Nat := min (x + 1) (2 ^ n - 1)

/-- Saturating sum in n bits. -/
def satAdd (n x y : Nat) : Nat := min (x + y) (2 ^ n - 1)

/-- Ceiling of a quotient. -/
def cdiv (a b : Nat) : Nat := (a + b - 1) / b

/-- The position of the highest set bit, 0 for 0. -/
def log2 (n : Nat) : Nat := Nat.log2 n

/-! ## Bytes, little-endian (R8) -/

/-- The n low bytes of a number, the lowest first (R8). -/
def leBytes : Nat → Nat → List Byte
  | 0, _ => []
  | n + 1, v => BitVec.ofNat 8 v :: leBytes n (v / 256)

/-- The number that bytes spell, the lowest first (R8). -/
def leNat : List Byte → Nat
  | [] => 0
  | b :: bs => b.toNat + 256 * leNat bs

/-- n bytes of a list from position i; bytes past its end read 0. -/
def slice (bs : List Byte) (i n : Nat) : List Byte :=
  let t := (bs.drop i).take n
  t ++ List.replicate (n - t.length) 0#8

/-- The number n bytes of a list spell from position i (R8). -/
def leAt (bs : List Byte) (i n : Nat) : Nat := leNat (slice bs i n)

/-- A list with the bytes from position i replaced by others. -/
def splice (bs : List Byte) (i : Nat) (new : List Byte) : List Byte :=
  slice bs 0 i ++ new ++ bs.drop (i + new.length)

/-- All bytes are zero. -/
def allZero (bs : List Byte) : Bool := bs.all (· == 0#8)

/-- A list cut into pieces of n, the last one perhaps shorter; `fuel` bounds their number. -/
def chunksOf {α : Type} : Nat → Nat → List α → List (List α)
  | 0, _, _ => []
  | fuel + 1, n, xs => if xs.isEmpty then [] else xs.take n :: chunksOf fuel n (xs.drop n)

/-! ## Sparse collections

A collection is a list of (key, value) pairs with rising keys and no value equal to the collection's default. -/

/-- The value at a key; `d` where the key is not listed. -/
def mget {α : Type} (d : α) : List (Nat × α) → Nat → α
  | [], _ => d
  | (k, v) :: m, i => if k = i then v else mget d m i

/-- The value at a key, none where it is not listed. -/
def mfind {α : Type} : List (Nat × α) → Nat → Option α
  | [], _ => none
  | (k, v) :: m, i => if k = i then some v else mfind m i

/-- The collection without a key. -/
def merase {α : Type} : List (Nat × α) → Nat → List (Nat × α)
  | [], _ => []
  | (k, v) :: m, i => if k = i then merase m i else (k, v) :: merase m i

/-- The collection with a key's value, the key put in its place. -/
def minsert {α : Type} : List (Nat × α) → Nat → α → List (Nat × α)
  | [], i, v => [(i, v)]
  | (k, u) :: m, i, v =>
    if i < k then (i, v) :: (k, u) :: m
    else if i = k then (i, v) :: m
    else (k, u) :: minsert m i v

/-- The collection with a key's value written, in canonical form: writing the default removes the entry. -/
def mset {α : Type} [DecidableEq α] (d : α) (m : List (Nat × α)) (i : Nat) (v : α) : List (Nat × α) :=
  if v = d then merase m i else minsert m i v

/-- Keys strictly rising from above `lo` (as an exclusive bound one lower), and no value the default. -/
def mwfFrom {α : Type} [DecidableEq α] (d : α) : Nat → List (Nat × α) → Bool
  | _, [] => true
  | lo, (k, v) :: m => decide (lo ≤ k) && !decide (v = d) && mwfFrom d (k + 1) m

/-- The canonical form of a collection. -/
def mwf {α : Type} [DecidableEq α] (d : α) (m : List (Nat × α)) : Bool := mwfFrom d 0 m

/-- The keys of a collection in rising order. -/
def mkeys {α : Type} (m : List (Nat × α)) : List Nat := m.map (·.1)

/-! ## Lists of numbers as sets, rising -/

/-- A number put into a rising list. -/
def sinsert : List Nat → Nat → List Nat
  | [], i => [i]
  | k :: m, i => if i < k then i :: k :: m else if i = k then k :: m else k :: sinsert m i

/-- The element at a position, `d` past the end. -/
def nth {α : Type} (d : α) (xs : List α) (i : Nat) : α := (xs[i]?).getD d

/-- A list with the element at a position replaced; unchanged past the end. -/
def setNth {α : Type} : List α → Nat → α → List α
  | [], _, _ => []
  | _ :: xs, 0, v => v :: xs
  | x :: xs, i + 1, v => x :: setNth xs i v

/-- The first element a predicate accepts is replaced. -/
def updFirst {α : Type} (p : α → Bool) (f : α → α) : List α → List α
  | [] => []
  | x :: xs => if p x then f x :: xs else x :: updFirst p f xs

/-- The numbers lo, lo + 1, …, n of them. -/
def upFrom : Nat → Nat → List Nat
  | _, 0 => []
  | lo, n + 1 => lo :: upFrom (lo + 1) n

/-- The least number below `n`, from `i`, that a predicate accepts. -/
def leastFrom (p : Nat → Bool) : Nat → Nat → Option Nat
  | _, 0 => none
  | i, n + 1 => if p i then some i else leastFrom p (i + 1) n

/-- The bits of a number that are set below `n`, rising. -/
def setBits (x n : Nat) : List Nat := (List.range n).filter (tbit x)

/-- The sum of a list. -/
def sumNat (xs : List Nat) : Nat := xs.foldl (· + ·) 0

/-- The number whose set bits are the listed ones. -/
def ofSetBits (xs : List Nat) : Nat := xs.foldl (fun a i => a ||| 2 ^ i) 0

/-- A list sorted by a key, rising; equal keys keep their order. -/
def sortBy {α : Type} (key : α → Nat) (xs : List α) : List α := xs.foldr (insertByR key) []
where
  insertByR {α : Type} (key : α → Nat) (x : α) : List α → List α
    | [] => [x]
    | y :: ys => if key x ≤ key y then x :: y :: ys else y :: insertByR key x ys

end Sys2Proof.Machine
end

