-- ==== Sys2Proof/Machine/Float.lean ====
section
/-! DEFINITION. Binary floating point as R121, R147, R151 to R155 use it: every operation forms its exact result as an
integer times a power of two and rounds it once. -/

namespace Sys2Proof.Machine

/-- What a floating code stands for: a NaN (signalling or quiet), an infinity, or ±m × 2^e exactly. -/
inductive FVal where
  | nan (signalling : Bool)
  | inf (neg : Bool)
  | fin (neg : Bool) (m : Nat) (e : Int)
  deriving DecidableEq, Repr

/-- A binary interchange format: exponent bits and fraction bits, with IEEE 754 codes for infinity and NaN. -/
structure FFmt where
  eb : Nat
  fb : Nat
  deriving DecidableEq, Repr

/-- Binary32 (R121). -/
def f32Fmt : FFmt := ⟨8, 23⟩
/-- Binary64 (R154). -/
def f64Fmt : FFmt := ⟨11, 52⟩
/-- BF16 (R150, R167). -/
def bf16Fmt : FFmt := ⟨8, 7⟩
/-- FP16 (R167). -/
def f16Fmt : FFmt := ⟨5, 10⟩

/-- Exponent bias. -/
def FFmt.bias (f : FFmt) : Int := ((2 ^ (f.eb - 1) - 1 : Nat) : Int)
/-- Significand precision. -/
def FFmt.prec (f : FFmt) : Nat := f.fb + 1
/-- Least normal exponent. -/
def FFmt.emin (f : FFmt) : Int := 1 - f.bias
/-- Greatest exponent. -/
def FFmt.emax (f : FFmt) : Int := f.bias

/-- The value of a code of an interchange format. -/
def FFmt.decode (f : FFmt) (c : Nat) : FVal :=
  let frac := c % 2 ^ f.fb
  let ex := (c >>> f.fb) % 2 ^ f.eb
  let neg := tbit c (f.eb + f.fb)
  if ex = 2 ^ f.eb - 1 then (if frac = 0 then .inf neg else .nan (!tbit frac (f.fb - 1)))
  else if ex = 0 then .fin neg frac (f.emin - f.fb)
  else .fin neg (2 ^ f.fb + frac) ((ex : Int) - f.bias - f.fb)

/-- The accrued exceptions of R137: NV, DZ, OF, UF, NX. -/
structure FFlags where
  nv : Bool := false
  dz : Bool := false
  of : Bool := false
  uf : Bool := false
  nx : Bool := false
  deriving DecidableEq, Repr

/-- Flags joined. -/
def FFlags.or (a b : FFlags) : FFlags := ⟨a.nv || b.nv, a.dz || b.dz, a.of || b.of, a.uf || b.uf, a.nx || b.nx⟩
/-- The bits of CSR.FFLAGS (R137). -/
def FFlags.bits (a : FFlags) : Nat := 16 * b2n a.nv + 8 * b2n a.dz + 4 * b2n a.of + 2 * b2n a.uf + b2n a.nx
/-- Only NV. -/
def FFlags.invalid : FFlags := { nv := true }

/-- A significand rounded to an integer multiple of 2^q: the quotient and whether it was inexact. The number is
(n + s) × 2^e with 0 ≤ s < 1 and s > 0 exactly when `sticky`. Rounding: 0 to nearest even, 1 toward zero, 2 down, 3 up,
4 to nearest with ties away (R137). -/
def roundAt (mode : Nat) (neg : Bool) (n : Nat) (e q : Int) (sticky : Bool) : Nat × Bool :=
  if q ≤ e then
    let m := n * 2 ^ (e - q).toNat
    (if sticky && ((mode = 2 && neg) || (mode = 3 && !neg)) then m + 1 else m, sticky)
  else
    let sh := (q - e).toNat
    let m := n / 2 ^ sh
    let r := n % 2 ^ sh
    let half := 2 ^ (sh - 1)
    let inexact := r != 0 || sticky
    let up : Bool :=
      if mode = 0 then half < r || (r = half && (sticky || m % 2 = 1))
      else if mode = 1 then false
      else if mode = 2 then neg && inexact
      else if mode = 3 then !neg && inexact
      else half ≤ r
    (if up then m + 1 else m, inexact)

/-- What a rounding to a format gives: significand and exponent, or overflow, with the exceptions of R121. -/
structure Rounded where
  ovf : Bool
  m : Nat
  q : Int
  flags : FFlags
  deriving DecidableEq, Repr

/-- A number (n + s) × 2^e rounded once to precision p with least normal exponent emin and greatest emax; tininess is
detected after rounding with the exponent unbounded (R121). -/
def roundFmt (p : Nat) (emin emax : Int) (mode : Nat) (neg : Bool) (n : Nat) (e : Int) (sticky : Bool) : Rounded :=
  if n = 0 && !sticky then ⟨false, 0, 0, {}⟩
  else
    let top : Int := (log2 n : Int) + e
    let qfree := top - ((p : Int) - 1)
    let q := max qfree (emin - ((p : Int) - 1))
    let r := roundAt mode neg n e q sticky
    let rfree := roundAt mode neg n e qfree sticky
    let tiny : Bool := (if rfree.1 < 2 ^ p then top else top + 1) < emin
    if r.1 != 0 && emax < (log2 r.1 : Int) + q then ⟨true, 0, 0, { of := true, nx := true }⟩
    else ⟨false, r.1, q, { nx := r.2, uf := tiny && r.2 }⟩

/-- The code of a rounded significand: m × 2^q with m below 2^p or equal to it. -/
def FFmt.pack (f : FFmt) (neg : Bool) (m : Nat) (q : Int) : Nat :=
  let sgn := b2n neg * 2 ^ (f.eb + f.fb)
  let (m, q) := if 2 ^ f.prec ≤ m then (m / 2, q + 1) else (m, q)
  if m < 2 ^ f.fb then sgn + m
  else sgn + (m - 2 ^ f.fb) + (q + f.fb + f.bias).toNat * 2 ^ f.fb

/-- Infinity of a format. -/
def FFmt.infCode (f : FFmt) (neg : Bool) : Nat := b2n neg * 2 ^ (f.eb + f.fb) + (2 ^ f.eb - 1) * 2 ^ f.fb
/-- Largest finite value of a format. -/
def FFmt.maxCode (f : FFmt) (neg : Bool) : Nat := f.infCode neg - 1
/-- The canonical quiet NaN (R121): 0x7FC0_0000 in binary32. -/
def FFmt.nanCode (f : FFmt) : Nat := (2 ^ f.eb - 1) * 2 ^ f.fb + 2 ^ (f.fb - 1)
/-- The code of an overflow under a rounding mode (IEEE 754-2019, R121). -/
def FFmt.overCode (f : FFmt) (mode : Nat) (neg : Bool) : Nat :=
  if mode = 1 || (mode = 2 && !neg) || (mode = 3 && neg) then f.maxCode neg else f.infCode neg

/-- A number (n + s) × 2^e rounded once to a format: its code and exceptions. -/
def FFmt.round (f : FFmt) (mode : Nat) (neg : Bool) (n : Nat) (e : Int) (sticky : Bool) : Nat × FFlags :=
  let r := roundFmt f.prec f.emin f.emax mode neg n e sticky
  if r.ovf then (f.overCode mode neg, r.flags) else (f.pack neg r.m r.q, r.flags)

/-- An exact integer multiple of 2^e rounded once; an exact zero takes the given sign. -/
def FFmt.roundInt (f : FFmt) (mode : Nat) (zneg : Bool) (z e : Int) : Nat × FFlags :=
  if z = 0 then (b2n zneg * 2 ^ (f.eb + f.fb), {}) else f.round mode (decide (z < 0)) z.natAbs e false

/-- The signed significand of a finite value at exponent e, which must not exceed the value's own. -/
def FVal.at (v : FVal) (e : Int) : Int :=
  match v with
  | .fin neg m e' => (if neg then -1 else 1) * ((m * 2 ^ (e' - e).toNat : Nat) : Int)
  | _ => 0

/-- The exponent of a finite value. -/
def FVal.ex : FVal → Int
  | .fin _ _ e => e
  | _ => 0

/-- The sign of a value; a NaN has none. -/
def FVal.neg : FVal → Bool
  | .fin n _ _ => n
  | .inf n => n
  | .nan _ => false

/-- Whether a value is zero. -/
def FVal.isZero : FVal → Bool
  | .fin _ m _ => m = 0
  | _ => false

/-- Whether a value is a NaN. -/
def FVal.isNan : FVal → Bool
  | .nan _ => true
  | _ => false

/-- Whether a value is a signalling NaN. -/
def FVal.isSnan : FVal → Bool
  | .nan s => s
  | _ => false

/-- Whether a value is an infinity. -/
def FVal.isInf : FVal → Bool
  | .inf _ => true
  | _ => false

/-- A value with its sign changed. -/
def FVal.negate : FVal → FVal
  | .fin n m e => .fin (!n) m e
  | .inf n => .inf (!n)
  | .nan s => .nan s

/-- The exact product of two values; none where it is a NaN. -/
def FVal.mul? (a b : FVal) : Option FVal :=
  match a, b with
  | .nan _, _ | _, .nan _ => none
  | .inf n, x => if x.isZero then none else some (.inf (n != x.neg))
  | x, .inf n => if x.isZero then none else some (.inf (n != x.neg))
  | .fin n m e, .fin n' m' e' => some (.fin (n != n') (m * m') (e + e'))

/-- The sum of two values rounded once (R121): IEEE 754 rules for NaN, infinity and the sign of an exact zero. `snan`
says that an operand was a signalling NaN. -/
def FFmt.addVals (f : FFmt) (mode : Nat) (a b : FVal) : Nat × FFlags :=
  match a, b with
  | .nan s, .nan s' => (f.nanCode, { nv := s || s' })
  | .nan s, _ => (f.nanCode, { nv := s })
  | _, .nan s => (f.nanCode, { nv := s })
  | .inf n, .inf n' => if n = n' then (f.infCode n, {}) else (f.nanCode, FFlags.invalid)
  | .inf n, _ => (f.infCode n, {})
  | _, .inf n => (f.infCode n, {})
  | .fin n m e, .fin n' m' e' =>
    let q := min e e'
    let z := FVal.at (.fin n m e) q + FVal.at (.fin n' m' e') q
    let zneg := if m = 0 && m' = 0 && n = n' then n else mode = 2
    f.roundInt mode zneg z q

/-- a + b (R121). -/
def FFmt.add (f : FFmt) (mode a b : Nat) : Nat × FFlags := f.addVals mode (f.decode a) (f.decode b)

/-- A code with its sign bit changed. -/
def FFmt.negCode (f : FFmt) (a : Nat) : Nat :=
  if tbit a (f.eb + f.fb) then a - 2 ^ (f.eb + f.fb) else a + 2 ^ (f.eb + f.fb)

/-- a − b (R121). -/
def FFmt.sub (f : FFmt) (mode a b : Nat) : Nat × FFlags := f.addVals mode (f.decode a) (f.decode b).negate

/-- a × b (R121). -/
def FFmt.mul (f : FFmt) (mode a b : Nat) : Nat × FFlags :=
  let x := f.decode a
  let y := f.decode b
  if x.isNan || y.isNan then (f.nanCode, { nv := x.isSnan || y.isSnan })
  else match x.mul? y with
    | none => (f.nanCode, FFlags.invalid)
    | some (.inf n) => (f.infCode n, {})
    | some (.fin n m e) => if m = 0 then (b2n n * 2 ^ (f.eb + f.fb), {}) else f.round mode n m e false
    | some (.nan _) => (f.nanCode, {})

/-- a × b + c rounded once (R121); `c` is a value, so that its sign may have been changed. -/
def FFmt.fmaVals (f : FFmt) (mode : Nat) (x y z : FVal) : Nat × FFlags :=
  if x.isNan || y.isNan then (f.nanCode, { nv := x.isSnan || y.isSnan || z.isSnan })
  else match x.mul? y with
    | none => (f.nanCode, { nv := if z.isNan then z.isSnan || Config.fmaInvalid else true })
    | some p => f.addVals mode p z

/-- a × b + c (R121). -/
def FFmt.fma (f : FFmt) (mode a b c : Nat) : Nat × FFlags := f.fmaVals mode (f.decode a) (f.decode b) (f.decode c)

/-- c − a × b (R121). -/
def FFmt.fnma (f : FFmt) (mode a b c : Nat) : Nat × FFlags :=
  f.fmaVals mode (f.decode a).negate (f.decode b) (f.decode c)

/-- a / b (R121). -/
def FFmt.div (f : FFmt) (mode a b : Nat) : Nat × FFlags :=
  match f.decode a, f.decode b with
  | .nan s, .nan s' => (f.nanCode, { nv := s || s' })
  | .nan s, _ => (f.nanCode, { nv := s })
  | _, .nan s => (f.nanCode, { nv := s })
  | .inf _, .inf _ => (f.nanCode, FFlags.invalid)
  | .inf n, y => (f.infCode (n != y.neg), {})
  | x, .inf n => (b2n (x.neg != n) * 2 ^ (f.eb + f.fb), {})
  | .fin n m e, .fin n' m' e' =>
    if m' = 0 then (if m = 0 then (f.nanCode, FFlags.invalid) else (f.infCode (n != n'), { dz := true }))
    else if m = 0 then (b2n (n != n') * 2 ^ (f.eb + f.fb), {})
    else
      let k := 2 * f.prec + 3 + log2 m'
      let num := m * 2 ^ k
      f.round mode (n != n') (num / m') (e - e' - k) (num % m' != 0)

/-- √a (R121). -/
def FFmt.sqrt (f : FFmt) (mode a : Nat) : Nat × FFlags :=
  match f.decode a with
  | .nan s => (f.nanCode, { nv := s })
  | .inf n => if n then (f.nanCode, FFlags.invalid) else (f.infCode false, {})
  | .fin n m e =>
    if m = 0 then (a, {})
    else if n then (f.nanCode, FFlags.invalid)
    else
      let k : Nat := 2 * f.prec + 4 + (if e % 2 = 0 then 0 else 1)
      let num := m * 2 ^ k
      let r := Nat.sqrt num
      f.round mode false r ((e - k) / 2) (r * r != num)

/-- The order of two values that are not NaN: the sign of a − b, zeros equal. -/
def FVal.cmp (a b : FVal) : Int :=
  match a, b with
  | .inf n, .inf n' => (if n then -1 else 1) - (if n' then -1 else 1)
  | .inf n, _ => if n then -1 else 1
  | _, .inf n => if n then 1 else -1
  | x, y =>
    let q := min x.ex y.ex
    x.at q - y.at q

/-- minimumNumber (`mx` false) and maximumNumber (`mx` true) of IEEE 754-2019, −0 below +0 (R121). -/
def FFmt.minMax (f : FFmt) (mx : Bool) (a b : Nat) : Nat × FFlags :=
  let x := f.decode a
  let y := f.decode b
  let fl : FFlags := { nv := x.isSnan || y.isSnan }
  if x.isNan then (if y.isNan then (f.nanCode, fl) else (b, fl))
  else if y.isNan then (a, fl)
  else
    let d := x.cmp y
    let aLess := d < 0 || (d = 0 && x.neg && !y.neg)
    (if aLess = mx then b else a, fl)

/-- FEQ, FLT, FLE and FUNORD (R120), in the order 0 to 3. -/
def FFmt.compare (f : FFmt) (op a b : Nat) : Bool × FFlags :=
  let x := f.decode a
  let y := f.decode b
  let un := x.isNan || y.isNan
  if op = 0 then (!un && x.cmp y = 0, { nv := x.isSnan || y.isSnan })
  else if op = 1 then (!un && x.cmp y < 0, { nv := un })
  else if op = 2 then (!un && x.cmp y ≤ 0, { nv := un })
  else (un, {})

/-- An integer in [lo, hi] from a value, rounded under a mode; NaN and values beyond saturate and set NV (R121). -/
def FVal.toInt (v : FVal) (mode : Nat) (lo hi : Int) : Int × FFlags :=
  match v with
  | .nan _ => (hi, FFlags.invalid)
  | .inf n => (if n then lo else hi, FFlags.invalid)
  | .fin n m e =>
    let r := roundAt mode n m e 0 false
    let z : Int := if n then -(r.1 : Int) else r.1
    if z < lo then (lo, FFlags.invalid) else if hi < z then (hi, FFlags.invalid) else (z, { nx := r.2 })

/-- A code of one format converted to another, rounded once. -/
def FFmt.convert (src dst : FFmt) (mode c : Nat) : Nat × FFlags :=
  match src.decode c with
  | .nan s => (dst.nanCode, { nv := s })
  | .inf n => (dst.infCode n, {})
  | .fin n m e => if m = 0 then (b2n n * 2 ^ (dst.eb + dst.fb), {}) else dst.round mode n m e false

/-- FCLASS (R121): bit 0 −∞ to bit 9 quiet NaN. -/
def f32Class (c : Nat) : Nat :=
  match f32Fmt.decode c with
  | .inf true => 1
  | .inf false => 2 ^ 7
  | .nan s => if s then 2 ^ 8 else 2 ^ 9
  | .fin n m _ =>
    if m = 0 then (if n then 2 ^ 3 else 2 ^ 4)
    else if m < 2 ^ 23 then (if n then 2 ^ 2 else 2 ^ 5)
    else (if n then 2 ^ 1 else 2 ^ 6)

end Sys2Proof.Machine
end

