-- ==== Sys2Proof/Machine/Operands.lean ====
section
/-! DEFINITION. The fields of instruction words and the row of the table a word belongs to (R116, R117, R145). -/

namespace Sys2Proof.Machine

/-- The rows of the table that stand for instructions of a core. -/
inductive CoreOp where
  | integerAlu | addi | andi | ori | xori | shiftByImmediate | slti | lui | compareToPredicate | predicateLogic
  | scalarFp32 | nearLoad | nearStore | ldf | stf | globalLoad | globalStore | atomicInteger | cas | atomicFadd | gadd
  | acopy | branch | jal | jalr | loopStart | csrr | csrw | csrs | csrc | fence | endUnit | trapUnit | twait | tread
  | tsig | twload | tstream | treadacc | tvacq | tvrel | tvquery | tcfg | vectorInteger | vectorFp32 | vectorCompare
  | vsplat | vext | vredsum | vredmax | vredfsum | vredfmax | vectorWidening | vectorDot | fp32Pair | vld | vst | vlds
  | vsts | vldbc | vgather | vscatter | vldStructure | vstStructure | vldD2p | vstP2d | vsetvl | vmov
  deriving DecidableEq, Repr

/-! ## Fields (R116) -/

/-- Bits hi:lo of an instruction word. -/
def wf (w : W32) (hi lo : Nat) : Nat := bits w.toNat hi lo
/-- Major opcode. -/
def major (w : W32) : Nat := wf w 31 26
/-- rd, rs, ra count, rt, ga or vd. -/
def fd (w : W32) : Nat := wf w 25 21
/-- ra, gb or va. -/
def fa (w : W32) : Nat := wf w 20 16
/-- rb, gc or vb. -/
def fb (w : W32) : Nat := wf w 15 11
/-- func of formats R and P. -/
def func (w : W32) : Nat := wf w 10 0
/-- imm16 or off16, sign-extended. -/
def simm16 (w : W32) : Int := sext 16 (wf w 15 0)
/-- imm16, zero-extended. -/
def uimm16 (w : W32) : Nat := wf w 15 0
/-- imm21 or off21, sign-extended. -/
def simm21 (w : W32) : Int := sext 21 (wf w 20 0)
/-- func of format V. -/
def vfunc (w : W32) : Nat := wf w 3 0
/-- op of format VM. -/
def vmop (w : W32) : Nat := wf w 2 0
/-- pg of formats V and VM. -/
def vpg (w : W32) : Nat := wf w 10 8
/-- Z of formats V and VM. -/
def vz (w : W32) : Bool := tbit w.toNat 7
/-- SH of formats V and VM. -/
def vsh (w : W32) : Bool := tbit w.toNat 6
/-- EW of formats V and VM. -/
def vew (w : W32) : Nat := wf w 5 4
/-- Element width in bytes. -/
def vwidth (w : W32) : Nat := 2 ^ vew w
/-- GL of format VM. -/
def vgl (w : W32) : Bool := tbit w.toNat 3

/-- The row a word belongs to; none where the major opcode, func, SUB, OP or op is not assigned, which gives ILLEGAL
(R117, R125, R129, R131, R145). -/
def selectOp (w : W32) : Option CoreOp :=
  let f := func w
  let sub := wf w 15 12
  let tsub := wf w 10 6
  match major w with
  | 0x01 => some .integerAlu
  | 0x02 => some .addi
  | 0x03 => some .andi
  | 0x04 => some .ori
  | 0x05 => some .xori
  | 0x06 => some .shiftByImmediate
  | 0x07 => some .slti
  | 0x08 => some .lui
  | 0x09 => some .compareToPredicate
  | 0x0A => some .predicateLogic
  | 0x10 | 0x11 | 0x12 | 0x13 | 0x14 | 0x15 | 0x16 => some .nearLoad
  | 0x17 | 0x18 | 0x19 | 0x1A => some .nearStore
  | 0x1B => some .ldf
  | 0x1C => some .stf
  | 0x1D => if f ≤ 6 then some .globalLoad else if 8 ≤ f && f ≤ 11 then some .globalStore else none
  | 0x1E =>
    let o := f % 16
    if o ≤ 8 then some .atomicInteger else if o = 9 then some .cas else if o = 10 then some .atomicFadd
    else if o = 11 then some .gadd else none
  | 0x1F => some .acopy
  | 0x20 => some .branch
  | 0x21 => some .jal
  | 0x22 => some .jalr
  | 0x23 => some .loopStart
  | 0x24 =>
    if sub = 0 then some .csrr else if sub = 1 then some .csrw else if sub = 2 then some .csrs
    else if sub = 3 then some .csrc else if sub = 4 then some .fence else if sub = 5 then some .endUnit
    else if sub = 6 then some .trapUnit else none
  | 0x25 =>
    let o := wf w 12 10
    if o = 0 then some .twait else if o = 1 then some .tread else if o = 2 then some .tsig else none
  | 0x26 => some .scalarFp32
  | 0x28 => some .vectorInteger
  | 0x29 => if vfunc w ≤ 14 then some .vectorFp32 else none
  | 0x2A => if vfunc w ≤ 5 then some .vectorWidening else if vfunc w ≤ 12 then some .vectorDot else none
  | 0x2B => if vfunc w ≤ 8 then some .fp32Pair else none
  | 0x2C =>
    let o := vfunc w
    if o ≤ 9 then some .vectorCompare else if o = 10 then some .vsplat else if o = 11 then some .vext
    else if o = 12 then some .vredsum else if o = 13 then some .vredmax else if o = 14 then some .vredfsum
    else some .vredfmax
  | 0x2D =>
    let o := vmop w
    if o = 0 then some .vld else if o = 1 then some .vst else if o = 2 then some .vlds else if o = 3 then some .vsts
    else if o = 4 then some .vldbc else if o = 5 then some .vgather else if o = 6 then some .vscatter else none
  | 0x2E =>
    let o := vmop w
    if o ≤ 2 then some .vldStructure else if o ≤ 5 then some .vstStructure else if o = 6 then some .vldD2p
    else some .vstP2d
  | 0x2F => if vfunc w = 0 then some .vsetvl else if vfunc w = 1 then some .vmov else none
  | 0x30 => some .twload
  | 0x31 => some .tstream
  | 0x32 => some .treadacc
  | 0x33 =>
    if tsub = 0 then some .tvacq else if tsub = 1 then some .tvrel else if tsub = 2 then some .tvquery else none
  | 0x34 => some .tcfg
  | _ => none

/-- A word a row of the table may bring: one that belongs to it, or one that belongs to no row and so is illegal in
whatever row delivers it (R117). -/
def wordFits (op : CoreOp) (w : W32) : Bool := selectOp w == some op || selectOp w == none

end Sys2Proof.Machine
end

