-- ==== Sys2Proof/Machine/RegTable.lean ====
section
/-! DEFINITION. The registers of the control space, as the register headers and field tables of the manual give them
(R9, R10, R28, R29, R30): where each lies, its reset value, and which of its bits software writes how. -/

namespace Sys2Proof.Machine

/-- The registers of the control space, by name. -/
inductive RegTag where
  /-- TEL.OP_REQUEST (R72): requested operating point. -/
  | telOpRequest
  /-- TEL.OP_STATE (R72): operating point in force. -/
  | telOpState
  /-- TEL.THERM (R72): hottest region. -/
  | telTherm
  /-- TEL.EVENTS (R72): timing and ageing event flags, under R11. -/
  | telEvents
  /-- TEL.CNT_THROTTLE (R72): THROTTLE events. -/
  | telCntThrottle
  /-- TEL.CNT_HOLD (R72): HOLD events. -/
  | telCntHold
  /-- TEL.CNT_FLOOR (R72): FLOOR events. -/
  | telCntFloor
  /-- TEL.CNT_CEILING (R72): CEILING events. -/
  | telCntCeiling
  /-- TEL.CNT_WEAK (R72): WEAK events. -/
  | telCntWeak
  /-- TEL.CNT_LEDGER_FAIL (R72): LEDGER_FAIL events. -/
  | telCntLedgerFail
  /-- TEL.MARGIN_MIN (R72): smallest estimated remaining margin of the node. -/
  | telMarginMin
  /-- TEL.LEDGER (R72): ledger state, loaded by Granite at boot. -/
  | telLedger
  /-- TEL.RG_SET (R72): loop and setpoints of region r. -/
  | telRgSet
  /-- TEL.RG_STATUS (R72): measured state of region r. -/
  | telRgStatus
  /-- TEL.RG_TAPS (R72): matched-delay taps of region r. -/
  | telRgTaps
  /-- TEL.RG_TELLTALE (R72): latest tell-tale reports of region r. -/
  | telRgTelltale
  /-- TEL.RG_MARGIN (R72): ageing state of region r. -/
  | telRgMargin
  /-- CQ.CAPS (R108): queue capabilities. -/
  | cqCaps
  /-- CQ.EVENTS (R108): queue event flags, under R11. -/
  | cqEvents
  /-- CQ.CNT_QUEUE_ERROR (R108): QUEUE_ERROR events. -/
  | cqCntQueueError
  /-- CQ.CNT_CRING_FULL (R108): CRING_FULL events. -/
  | cqCntCringFull
  /-- CQ.CNT_DB_DISCARD (R108): DB_DISCARD events. -/
  | cqCntDbDiscard
  /-- CQ.CNT_DENIED (R108): DENIED events. -/
  | cqCntDenied
  /-- CQ.CNT_FW_RESTART (R108): FW_RESTART events. -/
  | cqCntFwRestart
  /-- CQ.CNT_NOTIFY_DROP (R108): NOTIFY_DROP events. -/
  | cqCntNotifyDrop
  /-- CQ.ERR_LAST (R108): the queue that last entered ERROR. -/
  | cqErrLast
  /-- CQ.DB (R108): doorbell of queue q. -/
  | cqDb
  /-- CQ.CH (R108): completion-ring consumed count of queue q. -/
  | cqCh
  /-- CQ.Q_RING (R108): command ring of queue q. -/
  | cqQRing
  /-- CQ.Q_CRING (R108): completion ring of queue q. -/
  | cqQCring
  /-- CQ.Q_CTRL (R108): control of queue q. -/
  | cqQCtrl
  /-- CQ.Q_STATE (R108): ring counts of queue q. -/
  | cqQState
  /-- CQ.Q_CSTATE (R108): completion state of queue q. -/
  | cqQCstate
  /-- CQ.Q_ERR (R108): cause of queue q's last entry to ERROR. -/
  | cqQErr
  /-- CQ.PMSI (R108): P-die notification target of vector v (R93). -/
  | cqPmsi
  /-- SCH.CAPS (R109): schedule capabilities. -/
  | schCaps
  /-- SCH.PLACE_INFO (R109): placement in force (R22). -/
  | schPlaceInfo
  /-- SCH.EVENTS (R109): schedule event flags, under R11. -/
  | schEvents
  /-- SCH.CNT_STEP_TIMEOUT (R109): STEP_TIMEOUT events. -/
  | schCntStepTimeout
  /-- SCH.CNT_UNIT_FAULT (R109): UNIT_FAULT events. -/
  | schCntUnitFault
  /-- SCH.CNT_TALLY_SAT (R109): TALLY_SAT events. -/
  | schCntTallySat
  /-- SCH.CNT_REPLAY (R109): REPLAY events. -/
  | schCntReplay
  /-- SCH.CNT_SIG_DROP (R109): SIG_DROP events, one per dropped signal. -/
  | schCntSigDrop
  /-- SCH.FAULT (R109): the last unit fault under R105. -/
  | schFault
  /-- SCH.JOB (R109): job slot j. -/
  | schJob
  /-- SCH.STEP (R109): fences completed by job slot j since JOB_BEGIN. -/
  | schStep
  /-- SCH.VARY_COUNT (R109): VARIES units committed by job slot j. -/
  | schVaryCount
  /-- SCH.TABLE (R109): table slot t. -/
  | schTable
  /-- SCH.TABLE_BASE (R109): image of table slot t. -/
  | schTableBase
  /-- SCH.PLACE (R109): placement record of logical cluster l, from 0 to 639, as made at placement. -/
  | schPlace
  /-- SCH.SERVE (R109): units currently serving logical cluster l. The layout is that of SCH.PLACE. The fields follow spare remaps made under *Faults and continuity*, while SCH.PLACE keeps the record. -/
  | schServe
  /-- CLS.STATUS (R110): state of the physical cluster's scheduler. -/
  | clsStatus
  /-- CLS.EVENTS (R110): cluster event flags, under R11. -/
  | clsEvents
  /-- CLS.CNT_REPLAY (R110): REPLAY events. -/
  | clsCntReplay
  /-- CLS.CNT_UNIT_FAULT (R110): UNIT_FAULT events. -/
  | clsCntUnitFault
  /-- CORE.STATUS (R139): state of the physical core. -/
  | coreStatus
  /-- CORE.FAULT (R139): the last fault, as CSR.FCAUSE. -/
  | coreFault
  /-- CORE.FPC (R139): PC of the last fault. -/
  | coreFpc
  /-- CORE.FADDR (R139): fault address or word. -/
  | coreFaddr
  /-- CORE.EVENTS (R139): core event flags, under R11. -/
  | coreEvents
  /-- CORE.CNT_PROG_FAULT (R139): PROG_FAULT events. -/
  | coreCntProgFault
  /-- CORE.CNT_RESTART (R139): RESTART events. -/
  | coreCntRestart
  /-- CORE.CNT_HW_CHECK (R139): HW_CHECK events. -/
  | coreCntHwCheck
  /-- TA.TFLAG0–TA.TFLAG3 (R216): sticky flags of tile t, under R11 and R207. -/
  | taTflag
  /-- TA.CNT_OVERFLOW (R216): OVERFLOW events of all tiles. -/
  | taCntOverflow
  /-- TA.CNT_INVALID (R216): INVALID events. -/
  | taCntInvalid
  /-- TA.CNT_INF_INF (R216): INF_INF events. -/
  | taCntInfInf
  /-- TA.CNT_NAN_IN (R216): NAN_IN events. -/
  | taCntNanIn
  /-- TA.CNT_INF_IN (R216): INF_IN events. -/
  | taCntInfIn
  /-- TA.VERSION (R216): live weight versions. -/
  | taVersion
  /-- TA.REFS (R216): reference counts. -/
  | taRefs
  /-- TA.ACC (R216): tile modes and anchors. -/
  | taAcc
  /-- TA.TERR (R216): last TENSOR fault. -/
  | taTerr
  /-- QNT.CAPS (R235): tracking capacity. -/
  | qntCaps
  /-- QNT.FREE (R235): free capacity. -/
  | qntFree
  /-- QNT.EVENTS (R235): tracking event flags, under R11. -/
  | qntEvents
  /-- QNT.CNT_CLAMP (R235): CLAMP events. -/
  | qntCntClamp
  /-- QNT.CNT_NONFINITE (R235): NONFINITE events. -/
  | qntCntNonfinite
  /-- QNT.TT_CFG (R235): parameters of tracked tensor t. -/
  | qntTtCfg
  /-- QNT.TT_DIV (R235): channel divisor of tracked tensor t. -/
  | qntTtDiv
  /-- QNT.TT_STATE (R235): state summary of tracked tensor t. -/
  | qntTtState
  /-- QNT.TT_SQERR (R235): error sum of the last touched step. -/
  | qntTtSqerr
  /-- QNT.TT_COUNT (R235): element count of the last touched step. -/
  | qntTtCount
  /-- SLV.CAPS (R268): solver capabilities. -/
  | slvCaps
  /-- SLV.EVENTS (R268): solver event flags, under R11. -/
  | slvEvents
  /-- SLV.CNT_OVERFLOW (R268): OVERFLOW events. -/
  | slvCntOverflow
  /-- SLV.CNT_PIVOT_REG (R268): PIVOT_REG events. -/
  | slvCntPivotReg
  /-- SLV.CNT_DEADLINE (R268): DEADLINE events. -/
  | slvCntDeadline
  /-- SLV.CNT_ABORT (R268): ABORT events. -/
  | slvCntAbort
  /-- SLV.ACTIVE (R268): batches in progress. -/
  | slvActive
  /-- SLV.LAST (R268): the batch that last replied. -/
  | slvLast
  /-- SLU.STATUS (R269): state of the cluster's solver unit. -/
  | sluStatus
  /-- SLU.DONE (R269): problems ended on this unit. -/
  | sluDone
  /-- MEM.CAPS (R316): memory capabilities. -/
  | memCaps
  /-- MEM.RESERVE_BASE (R316): J of R299; set by Granite at boot and by refills. -/
  | memReserveBase
  /-- MEM.ALLOC_TOP (R316): allocation limit (R310). -/
  | memAllocTop
  /-- MEM.STATE (R316): repair state. -/
  | memState
  /-- MEM.EVENTS (R316): memory event flags, under R11. -/
  | memEvents
  /-- MEM.CNT_HBM_CORRECTED (R316): HBM_CORRECTED events. -/
  | memCntHbmCorrected
  /-- MEM.CNT_HBM_UNCORR (R316): HBM_UNCORR events. -/
  | memCntHbmUncorr
  /-- MEM.CNT_SHALE_CORRECTED (R316): SHALE_CORRECTED events. -/
  | memCntShaleCorrected
  /-- MEM.CNT_SHALE_UNCORR (R316): SHALE_UNCORR events. -/
  | memCntShaleUncorr
  /-- MEM.CNT_PPR (R316): PPR events. -/
  | memCntPpr
  /-- MEM.CNT_RETIRE (R316): RETIRE events. -/
  | memCntRetire
  /-- MEM.CNT_MAP_OUT (R316): MAP_OUT events. -/
  | memCntMapOut
  /-- MEM.CNT_RETRAIN (R316): RETRAIN events. -/
  | memCntRetrain
  /-- MEM.CNT_REPAIR_LIMIT (R316): REPAIR_LIMIT events. -/
  | memCntRepairLimit
  /-- MEM.ERR_LAST (R316): the last uncorrectable location. -/
  | memErrLast
  /-- MEM.RETRAIN_LAST (R316): the last full retrain. -/
  | memRetrainLast
  /-- MEM.MIGRATE (R316): migration in progress. -/
  | memMigrate
  /-- MEM.PC_STATE (R316): state of pseudo-channel p. -/
  | memPcState
  /-- MEM.RETIRE (R316): retirement table entry i; loaded by Granite at boot. -/
  | memRetire
  /-- AXL.CAPS (R347): link capabilities. -/
  | axlCaps
  /-- AXL.CTRL (R347): link control. -/
  | axlCtrl
  /-- AXL.STATE (R347): link state. -/
  | axlState
  /-- AXL.PARTNER (R347): partner from the capability flit. -/
  | axlPartner
  /-- AXL.EVENTS (R347): link event flags, under R11. -/
  | axlEvents
  /-- AXL.CNT_LINK_DOWN (R347): LINK_DOWN events. -/
  | axlCntLinkDown
  /-- AXL.CNT_LANE_DROP (R347): LANE_DROP events. -/
  | axlCntLaneDrop
  /-- AXL.CNT_REPLAY (R347): REPLAY events. -/
  | axlCntReplay
  /-- AXL.CNT_RETRAIN (R347): RETRAIN events. -/
  | axlCntRetrain
  /-- AXL.CNT_EYE_LOW (R347): EYE_LOW events. -/
  | axlCntEyeLow
  /-- AXL.CNT_TAG_FAIL (R347): TAG_FAIL events. -/
  | axlCntTagFail
  /-- AXL.CNT_QUARANTINE (R347): QUARANTINE events. -/
  | axlCntQuarantine
  /-- AXL.CNT_ISOLATE (R347): ISOLATE events. -/
  | axlCntIsolate
  /-- AXL.ANOM (R347): anomaly counts since the last entry to ADMITTING (R338). -/
  | axlAnom
  /-- AXL.ANOM_LIMIT (R347): isolation limits (R339); 0 disables. -/
  | axlAnomLimit
  /-- AXL.FEC (R347): FEC counts of all lanes (R326). -/
  | axlFec
  /-- AXL.EYE0, AXL.EYE1 (R347): eye margin of the lane (R323). -/
  | axlEye
  /-- AXL.REPLAY_CFG (R347): replay parameters (R327). -/
  | axlReplayCfg
  /-- AXL.VC0–AXL.VC7 (R347): credits and contract of VC m (R330 to R332). -/
  | axlVc
  /-- CTX.CAPS (R373): context capabilities. -/
  | ctxCaps
  /-- CTX.STATE (R373): context counts. -/
  | ctxState
  /-- CTX.EVENTS (R373): context event flags, under R11. -/
  | ctxEvents
  /-- CTX.CNT_RETRY (R373): RETRY events. -/
  | ctxCntRetry
  /-- CTX.CNT_UNRESOLVED (R373): UNRESOLVED events. -/
  | ctxCntUnresolved
  /-- CTX.LATE_COUNT (R373): LATE events. -/
  | ctxLateCount
  /-- CTX.CNT_NO_CONTEXT (R373): NO_CONTEXT events. -/
  | ctxCntNoContext
  /-- CTX.CNT_GADD_SAT (R373): GADD_SAT events. -/
  | ctxCntGaddSat
  /-- CTX.CNT_COPY_FAIL (R373): COPY_FAIL events. -/
  | ctxCntCopyFail
  /-- CTX.CNT_REDUCE_MISMATCH (R373): REDUCE_MISMATCH events. -/
  | ctxCntReduceMismatch
  /-- CTX.CNT_RNR (R373): RNR events. -/
  | ctxCntRnr
  /-- CTX.SELECT (R373): entry shown in CTX.ENTRY0–CTX.ENTRY7. -/
  | ctxSelect
  /-- CTX.ENTRY0–CTX.ENTRY7 (R373): word w of the snapshot. -/
  | ctxEntry
  /-- CTX.RESOLVE_LAST (R373): the last resolution. -/
  | ctxResolveLast
  /-- SNP.CAPS (R394): snapshot capabilities. -/
  | snpCaps
  /-- SNP.SHARE (R394): snapshot-class share (R304). -/
  | snpShare
  /-- SNP.STAGE (R394): staging use. -/
  | snpStage
  /-- SNP.EVENTS (R394): snapshot event flags, under R11. -/
  | snpEvents
  /-- SNP.CNT_SNAP_DONE (R394): SNAP_DONE events. -/
  | snpCntSnapDone
  /-- SNP.CNT_DIVERGENCE (R394): DIVERGENCE events, one per diverged shard. -/
  | snpCntDivergence
  /-- SNP.CNT_STAGE_FULL (R394): STAGE_FULL events. -/
  | snpCntStageFull
  /-- SNP.CNT_FAIL (R394): FAIL events. -/
  | snpCntFail
  /-- SNP.TRIGGER (R394): automatic triggers of job slot j (R377). -/
  | snpTrigger
  /-- SNP.JOB_STATE (R394): snapshot state of job slot j. -/
  | snpJobState
  /-- SNP.LAST (R394): the last snapshot of job slot j. -/
  | snpLast
  /-- SNP.STANDING (R394): standing block of job slot j. -/
  | snpStanding
  /-- TIME.NOW (R408): the time counter (R55). -/
  | timeNow
  /-- TIME.SPAN_NOW (R408): Span time (R403). -/
  | timeSpanNow
  /-- TIME.OFFSET (R408): servo offset. -/
  | timeOffset
  /-- TIME.CTRL (R408): time sources. -/
  | timeCtrl
  /-- TIME.STATUS (R408): servo state. -/
  | timeStatus
  /-- TIME.NODE_ID (R408): node and Span numbers (R395). -/
  | timeNodeId
  /-- TIME.TEARDOWN_LIMIT (R408): teardown wait limit (R400). -/
  | timeTeardownLimit
  /-- TIME.EVENTS (R408): job and time event flags, under R11. -/
  | timeEvents
  /-- TIME.CNT_FILTER_DROP (R408): FILTER_DROP events. -/
  | timeCntFilterDrop
  /-- TIME.CNT_TEARDOWN_LIMIT (R408): TEARDOWN_LIMIT events. -/
  | timeCntTeardownLimit
  /-- TIME.CNT_LOCK_LOST (R408): LOCK_LOST events. -/
  | timeCntLockLost
  /-- TIME.CNT_ID_REFUSED (R408): ID_REFUSED events. -/
  | timeCntIdRefused
  /-- TIME.FILTER_SEL (R408): filter entry shown in TIME.FILTER_ENTRY. -/
  | timeFilterSel
  /-- TIME.FILTER_ENTRY (R408): the selected filter entry. -/
  | timeFilterEntry
  /-- GRN.CAPS (R447): Granite capacities. -/
  | grnCaps
  /-- GRN.STATE (R447): Granite state. -/
  | grnState
  /-- GRN.BUNDLE (R447): running bundle version. -/
  | grnBundle
  /-- GRN.BUNDLE_DIGEST0–3 (R447): bundle digest (R436). -/
  | grnBundleDigest
  /-- GRN.POWER_LIMIT (R447): package power limit (R61). -/
  | grnPowerLimit
  /-- GRN.PROT_COUNT (R447): record counts (R438). -/
  | grnProtCount
  /-- GRN.MAP_VERSION (R447): current disabled-unit map version. -/
  | grnMapVersion
  /-- GRN.ROLLBACK (R447): anti-rollback counters. -/
  | grnRollback
  /-- GRN.EVENTS (R447): Granite event flags, under R11. -/
  | grnEvents
  /-- GRN.CNT_GW_DENIED (R447): GW_DENIED events. -/
  | grnCntGwDenied
  /-- GRN.CNT_POLICY_DENIED (R447): POLICY_DENIED events. -/
  | grnCntPolicyDenied
  /-- GRN.CNT_TAKEOVER (R447): TAKEOVER events. -/
  | grnCntTakeover
  /-- GRN.CNT_CHANGE_APPLIED (R447): CHANGE_APPLIED events. -/
  | grnCntChangeApplied
  /-- GRN.CNT_CHANGE_REFUSED (R447): CHANGE_REFUSED events. -/
  | grnCntChangeRefused
  /-- GRN.CNT_VERIFY_FAIL (R447): VERIFY_FAIL events. -/
  | grnCntVerifyFail
  /-- GRN.CNT_DEBUG_UNLOCKED (R447): DEBUG_UNLOCKED events. -/
  | grnCntDebugUnlocked
  /-- GRN.IDENTITY0–3 (R447): SM3 of the device identity public key. -/
  | grnIdentity
  /-- GRN.MBX_DB (R447): mailbox doorbell of master m (R435). -/
  | grnMbxDb
  /-- GRN.MBX_STATUS (R447): mailbox state of master m. -/
  | grnMbxStatus
  /-- GRN.MAP (R447): the disabled-unit map. -/
  | grnMap
  /-- GRN.KEYSLOT (R447): key slot s. -/
  | grnKeyslot
  /-- HST.CAPS (R466): host port capabilities. -/
  | hstCaps
  /-- HST.LINK (R466): host link state. -/
  | hstLink
  /-- HST.BOOT (R466): boot progress (R457). -/
  | hstBoot
  /-- HST.RESET (R466): reset state. -/
  | hstReset
  /-- HST.EVENTS (R466): host event flags, under R11. -/
  | hstEvents
  /-- HST.CNT_LINK_DOWN (R466): LINK_DOWN events. -/
  | hstCntLinkDown
  /-- HST.CNT_WIDTH_DOWN (R466): WIDTH_DOWN events. -/
  | hstCntWidthDown
  /-- HST.CNT_IDE_FAIL (R466): IDE_FAIL events. -/
  | hstCntIdeFail
  /-- HST.CNT_MGT_DROP (R466): MGT_DROP events. -/
  | hstCntMgtDrop
  /-- HST.CNT_BI_TIMEOUT (R466): BI_TIMEOUT events. -/
  | hstCntBiTimeout
  /-- HST.SF (R466): snoop filter use (R451). -/
  | hstSf
  /-- HST.IDE_KEY (R466): IDE key blob load (R452). -/
  | hstIdeKey
  /-- HST.IDE_STATE (R466): IDE stream state. -/
  | hstIdeState
  /-- HST.MGT_PEER0–1 (R466): management peer address (R454). -/
  | hstMgtPeer
  deriving DecidableEq, Repr

/-- Where a register lies and how its bits are written (R9, R10). -/
structure RegInfo where
  /-- Control-space offset of the first of them (R28). -/
  base : Nat
  /-- Counts and strides of the arrays it is part of, the widest stride first. -/
  dims : List (Nat × Nat)
  /-- Reset value of its header. -/
  reset : Nat
  /-- Bits with access RW. -/
  rw : Nat
  /-- Bits with access W1C. -/
  w1c : Nat
  /-- Bits with access WO. -/
  wo : Nat
  /-- Bits with access GW. -/
  gw : Nat
  deriving DecidableEq, Repr

/-- The header and field table of a register. -/
def RegTag.info : RegTag → RegInfo
  | .telOpRequest => ⟨0x8000000, [], 1, 3, 0, 0, 0⟩
  | .telOpState => ⟨0x8000008, [], 1, 0, 0, 0, 0⟩
  | .telTherm => ⟨0x8000010, [], 0, 0, 0, 0, 0⟩
  | .telEvents => ⟨0x8000018, [], 0, 0, 0x3F, 0, 0⟩
  | .telCntThrottle => ⟨0x8000020, [], 0, 0, 0, 0, 0⟩
  | .telCntHold => ⟨0x8000028, [], 0, 0, 0, 0, 0⟩
  | .telCntFloor => ⟨0x8000030, [], 0, 0, 0, 0, 0⟩
  | .telCntCeiling => ⟨0x8000038, [], 0, 0, 0, 0, 0⟩
  | .telCntWeak => ⟨0x8000040, [], 0, 0, 0, 0, 0⟩
  | .telCntLedgerFail => ⟨0x8000048, [], 0, 0, 0, 0, 0⟩
  | .telMarginMin => ⟨0x8000050, [], 0, 0, 0, 0, 0⟩
  | .telLedger => ⟨0x8000058, [], 0, 0, 0, 0, 0⟩
  | .telRgSet => ⟨0x8001000, [(84, 0x40)], 0x38426C352001, 0, 0, 0, 0xFFFFFFFFF001⟩
  | .telRgStatus => ⟨0x8001008, [(84, 0x40)], 0, 0, 0, 0, 0⟩
  | .telRgTaps => ⟨0x8001010, [(84, 0x40)], 0x803C0, 0, 0, 0, 0xFFFFFF⟩
  | .telRgTelltale => ⟨0x8001018, [(84, 0x40)], 0, 0, 0, 0, 0⟩
  | .telRgMargin => ⟨0x8001020, [(84, 0x40)], 0, 0, 0, 0, 0⟩
  | .cqCaps => ⟨0x1000000, [], 0x8101000, 0, 0, 0, 0⟩
  | .cqEvents => ⟨0x1000008, [], 0, 0, 0x3F, 0, 0⟩
  | .cqCntQueueError => ⟨0x1000010, [], 0, 0, 0, 0, 0⟩
  | .cqCntCringFull => ⟨0x1000018, [], 0, 0, 0, 0, 0⟩
  | .cqCntDbDiscard => ⟨0x1000020, [], 0, 0, 0, 0, 0⟩
  | .cqCntDenied => ⟨0x1000028, [], 0, 0, 0, 0, 0⟩
  | .cqCntFwRestart => ⟨0x1000030, [], 0, 0, 0, 0, 0⟩
  | .cqCntNotifyDrop => ⟨0x1000040, [], 0, 0, 0, 0, 0⟩
  | .cqErrLast => ⟨0x1000038, [], 0, 0, 0, 0, 0⟩
  | .cqDb => ⟨0x1010000, [(4096, 8)], 0, 0, 0, 0xFFFFFFFF, 0⟩
  | .cqCh => ⟨0x1020000, [(4096, 8)], 0, 0xFFFFFFFF, 0, 0, 0⟩
  | .cqQRing => ⟨0x1100000, [(4096, 0x40)], 0, 0x7FFFFFFFFFFDF, 0, 0, 0⟩
  | .cqQCring => ⟨0x1100008, [(4096, 0x40)], 0, 0x7FFFFFFFFFFFF, 0, 0, 0⟩
  | .cqQCtrl => ⟨0x1100010, [(4096, 0x40)], 0, 0x1FFE31, 0, 2, 0⟩
  | .cqQState => ⟨0x1100018, [(4096, 0x40)], 0, 0, 0, 0, 0⟩
  | .cqQCstate => ⟨0x1100020, [(4096, 0x40)], 0, 0, 0, 0, 0⟩
  | .cqQErr => ⟨0x1100028, [(4096, 0x40)], 0, 0, 0, 0, 0⟩
  | .cqPmsi => ⟨0x1030000, [(2048, 8)], 0, 0x8000000000FFF7FF, 0, 0, 0⟩
  | .schCaps => ⟨0x2000000, [], 0x20000100010, 0, 0, 0, 0⟩
  | .schPlaceInfo => ⟨0x2000008, [], 0, 0, 0, 0, 0⟩
  | .schEvents => ⟨0x2000010, [], 0, 0, 0x1F, 0, 0⟩
  | .schCntStepTimeout => ⟨0x2000018, [], 0, 0, 0, 0, 0⟩
  | .schCntUnitFault => ⟨0x2000020, [], 0, 0, 0, 0, 0⟩
  | .schCntTallySat => ⟨0x2000028, [], 0, 0, 0, 0, 0⟩
  | .schCntReplay => ⟨0x2000030, [], 0, 0, 0, 0, 0⟩
  | .schCntSigDrop => ⟨0x2000040, [], 0, 0, 0, 0, 0⟩
  | .schFault => ⟨0x2000038, [], 0, 0, 0, 0, 0⟩
  | .schJob => ⟨0x2000400, [(16, 0x40)], 0, 0, 0, 0, 0⟩
  | .schStep => ⟨0x2000408, [(16, 0x40)], 0, 0, 0, 0, 0⟩
  | .schVaryCount => ⟨0x2000410, [(16, 0x40)], 0, 0, 0, 0, 0⟩
  | .schTable => ⟨0x2000800, [(16, 0x20)], 0, 0, 0, 0, 0⟩
  | .schTableBase => ⟨0x2000808, [(16, 0x20)], 0, 0, 0, 0, 0⟩
  | .schPlace => ⟨0x2001000, [(640, 8)], 0, 0, 0, 0, 0⟩
  | .schServe => ⟨0x2003000, [(640, 8)], 0, 0, 0, 0, 0⟩
  | .clsStatus => ⟨0x10000000, [(672, 0x40000)], 0, 0, 0, 0, 0⟩
  | .clsEvents => ⟨0x10000008, [(672, 0x40000)], 0, 0, 3, 0, 0⟩
  | .clsCntReplay => ⟨0x10000010, [(672, 0x40000)], 0, 0, 0, 0, 0⟩
  | .clsCntUnitFault => ⟨0x10000018, [(672, 0x40000)], 0, 0, 0, 0, 0⟩
  | .coreStatus => ⟨0x10020000, [(672, 0x40000), (17, 0x1000)], 0, 0, 0, 0, 0⟩
  | .coreFault => ⟨0x10020008, [(672, 0x40000), (17, 0x1000)], 0, 0, 0, 0, 0⟩
  | .coreFpc => ⟨0x10020010, [(672, 0x40000), (17, 0x1000)], 0, 0, 0, 0, 0⟩
  | .coreFaddr => ⟨0x10020018, [(672, 0x40000), (17, 0x1000)], 0, 0, 0, 0, 0⟩
  | .coreEvents => ⟨0x10020020, [(672, 0x40000), (17, 0x1000)], 0, 0, 7, 0, 0⟩
  | .coreCntProgFault => ⟨0x10020028, [(672, 0x40000), (17, 0x1000)], 0, 0, 0, 0, 0⟩
  | .coreCntRestart => ⟨0x10020030, [(672, 0x40000), (17, 0x1000)], 0, 0, 0, 0, 0⟩
  | .coreCntHwCheck => ⟨0x10020038, [(672, 0x40000), (17, 0x1000)], 0, 0, 0, 0, 0⟩
  | .taTflag => ⟨0x10020800, [(672, 0x40000), (17, 0x1000), (4, 8)], 0xFFFFFF00FFFF0000, 0, 0x1F, 0, 0⟩
  | .taCntOverflow => ⟨0x10020820, [(672, 0x40000), (17, 0x1000)], 0, 0, 0, 0, 0⟩
  | .taCntInvalid => ⟨0x10020828, [(672, 0x40000), (17, 0x1000)], 0, 0, 0, 0, 0⟩
  | .taCntInfInf => ⟨0x10020830, [(672, 0x40000), (17, 0x1000)], 0, 0, 0, 0, 0⟩
  | .taCntNanIn => ⟨0x10020838, [(672, 0x40000), (17, 0x1000)], 0, 0, 0, 0, 0⟩
  | .taCntInfIn => ⟨0x10020840, [(672, 0x40000), (17, 0x1000)], 0, 0, 0, 0, 0⟩
  | .taVersion => ⟨0x10020848, [(672, 0x40000), (17, 0x1000)], 0, 0, 0, 0, 0⟩
  | .taRefs => ⟨0x10020850, [(672, 0x40000), (17, 0x1000)], 0, 0, 0, 0, 0⟩
  | .taAcc => ⟨0x10020858, [(672, 0x40000), (17, 0x1000)], 0, 0, 0, 0, 0⟩
  | .taTerr => ⟨0x10020860, [(672, 0x40000), (17, 0x1000)], 0, 0, 0, 0, 0⟩
  | .qntCaps => ⟨0x7000000, [], 0x1000000001000, 0, 0, 0, 0⟩
  | .qntFree => ⟨0x7000008, [], 0x1000000001000, 0, 0, 0, 0⟩
  | .qntEvents => ⟨0x7000010, [], 0, 0, 3, 0, 0⟩
  | .qntCntClamp => ⟨0x7000018, [], 0, 0, 0, 0, 0⟩
  | .qntCntNonfinite => ⟨0x7000020, [], 0, 0, 0, 0, 0⟩
  | .qntTtCfg => ⟨0x7010000, [(4096, 0x40)], 0, 0, 0, 0, 0⟩
  | .qntTtDiv => ⟨0x7010008, [(4096, 0x40)], 0, 0, 0, 0, 0⟩
  | .qntTtState => ⟨0x7010010, [(4096, 0x40)], 0, 0, 0, 0, 0⟩
  | .qntTtSqerr => ⟨0x7010018, [(4096, 0x40)], 0, 0, 0, 0, 0⟩
  | .qntTtCount => ⟨0x7010020, [(4096, 0x40)], 0, 0, 0, 0, 0⟩
  | .slvCaps => ⟨0x7400000, [], 0x28020804000, 0, 0, 0, 0⟩
  | .slvEvents => ⟨0x7400008, [], 0, 0, 0xF, 0, 0⟩
  | .slvCntOverflow => ⟨0x7400010, [], 0, 0, 0, 0, 0⟩
  | .slvCntPivotReg => ⟨0x7400018, [], 0, 0, 0, 0, 0⟩
  | .slvCntDeadline => ⟨0x7400020, [], 0, 0, 0, 0, 0⟩
  | .slvCntAbort => ⟨0x7400028, [], 0, 0, 0, 0, 0⟩
  | .slvActive => ⟨0x7400030, [], 0, 0, 0, 0, 0⟩
  | .slvLast => ⟨0x7400038, [], 0, 0, 0, 0, 0⟩
  | .sluStatus => ⟨0x10010000, [(672, 0x40000)], 0, 0, 0, 0, 0⟩
  | .sluDone => ⟨0x10010008, [(672, 0x40000)], 0, 0, 0, 0, 0⟩
  | .memCaps => ⟨0x3000000, [], 0x1800C001000, 0, 0, 0, 0⟩
  | .memReserveBase => ⟨0x3000008, [], 0x8880000000, 0, 0, 0, 0⟩
  | .memAllocTop => ⟨0x3000010, [], 0x8880000000, 0, 0, 0, 0⟩
  | .memState => ⟨0x3000018, [], 0, 0, 0, 0, 0⟩
  | .memEvents => ⟨0x3000020, [], 0, 0, 0x1FF, 0, 0⟩
  | .memCntHbmCorrected => ⟨0x3000028, [], 0, 0, 0, 0, 0⟩
  | .memCntHbmUncorr => ⟨0x3000030, [], 0, 0, 0, 0, 0⟩
  | .memCntShaleCorrected => ⟨0x3000038, [], 0, 0, 0, 0, 0⟩
  | .memCntShaleUncorr => ⟨0x3000040, [], 0, 0, 0, 0, 0⟩
  | .memCntPpr => ⟨0x3000048, [], 0, 0, 0, 0, 0⟩
  | .memCntRetire => ⟨0x3000050, [], 0, 0, 0, 0, 0⟩
  | .memCntMapOut => ⟨0x3000058, [], 0, 0, 0, 0, 0⟩
  | .memCntRetrain => ⟨0x3000060, [], 0, 0, 0, 0, 0⟩
  | .memCntRepairLimit => ⟨0x3000068, [], 0, 0, 0, 0, 0⟩
  | .memErrLast => ⟨0x3000070, [], 0, 0, 0, 0, 0⟩
  | .memRetrainLast => ⟨0x3000078, [], 0, 0, 0, 0, 0⟩
  | .memMigrate => ⟨0x3000080, [], 0, 0, 0, 0, 0⟩
  | .memPcState => ⟨0x3001000, [(384, 8)], 0, 0, 0, 0, 0⟩
  | .memRetire => ⟨0x3010000, [(4096, 8)], 0, 0, 0, 0, 0⟩
  | .axlCaps => ⟨0x4000000, [(48, 0x10000)], 0x207, 0, 0, 0, 0⟩
  | .axlCtrl => ⟨0x4000008, [(48, 0x10000)], 0x31, 0x31, 0, 0x80, 4⟩
  | .axlState => ⟨0x4000010, [(48, 0x10000)], 0, 0, 0, 0, 0⟩
  | .axlPartner => ⟨0x4000018, [(48, 0x10000)], 0, 0, 0, 0, 0⟩
  | .axlEvents => ⟨0x4000020, [(48, 0x10000)], 0, 0, 0xFF, 0, 0⟩
  | .axlCntLinkDown => ⟨0x4000028, [(48, 0x10000)], 0, 0, 0, 0, 0⟩
  | .axlCntLaneDrop => ⟨0x4000030, [(48, 0x10000)], 0, 0, 0, 0, 0⟩
  | .axlCntReplay => ⟨0x4000038, [(48, 0x10000)], 0, 0, 0, 0, 0⟩
  | .axlCntRetrain => ⟨0x4000040, [(48, 0x10000)], 0, 0, 0, 0, 0⟩
  | .axlCntEyeLow => ⟨0x4000048, [(48, 0x10000)], 0, 0, 0, 0, 0⟩
  | .axlCntTagFail => ⟨0x4000050, [(48, 0x10000)], 0, 0, 0, 0, 0⟩
  | .axlCntQuarantine => ⟨0x4000058, [(48, 0x10000)], 0, 0, 0, 0, 0⟩
  | .axlCntIsolate => ⟨0x4000060, [(48, 0x10000)], 0, 0, 0, 0, 0⟩
  | .axlAnom => ⟨0x4000068, [(48, 0x10000)], 0, 0, 0, 0, 0⟩
  | .axlAnomLimit => ⟨0x4000070, [(48, 0x10000)], 0x1001000040008, 0, 0, 0, 0xFFFFFFFFFFFFFFFF⟩
  | .axlFec => ⟨0x4000078, [(48, 0x10000)], 0, 0, 0, 0, 0⟩
  | .axlEye => ⟨0x4000080, [(48, 0x10000), (2, 8)], 0xC, 0, 0, 0, 0xFF⟩
  | .axlReplayCfg => ⟨0x4000090, [(48, 0x10000)], 0x800004E20, 0xFFFFFFFFFF, 0, 0, 0⟩
  | .axlVc => ⟨0x4000100, [(48, 0x10000), (8, 8)], 0, 0xFFF000FFFFF00, 0, 0, 0⟩
  | .ctxCaps => ⟨0x5000000, [], 0xF1000100000, 0, 0, 0, 0⟩
  | .ctxState => ⟨0x5000008, [], 0, 0, 0, 0, 0⟩
  | .ctxEvents => ⟨0x5000010, [], 0, 0, 0xFF, 0, 0⟩
  | .ctxCntRetry => ⟨0x5000018, [], 0, 0, 0, 0, 0⟩
  | .ctxCntUnresolved => ⟨0x5000020, [], 0, 0, 0, 0, 0⟩
  | .ctxLateCount => ⟨0x5000028, [], 0, 0, 0, 0, 0⟩
  | .ctxCntNoContext => ⟨0x5000030, [], 0, 0, 0, 0, 0⟩
  | .ctxCntGaddSat => ⟨0x5000038, [], 0, 0, 0, 0, 0⟩
  | .ctxCntCopyFail => ⟨0x5000040, [], 0, 0, 0, 0, 0⟩
  | .ctxCntReduceMismatch => ⟨0x5000048, [], 0, 0, 0, 0, 0⟩
  | .ctxCntRnr => ⟨0x5000050, [], 0, 0, 0, 0, 0⟩
  | .ctxSelect => ⟨0x5000058, [], 0, 0xFFFFF, 0, 0, 0⟩
  | .ctxEntry => ⟨0x5000060, [(8, 8)], 0, 0, 0, 0, 0⟩
  | .ctxResolveLast => ⟨0x50000A0, [], 0, 0, 0, 0, 0⟩
  | .snpCaps => ⟨0x6000000, [], 0x1000020000, 0, 0, 0, 0⟩
  | .snpShare => ⟨0x6000008, [], 6, 0x7F, 0, 0, 0⟩
  | .snpStage => ⟨0x6000010, [], 0, 0, 0, 0, 0⟩
  | .snpEvents => ⟨0x6000018, [], 0, 0, 0xF, 0, 0⟩
  | .snpCntSnapDone => ⟨0x6000020, [], 0, 0, 0, 0, 0⟩
  | .snpCntDivergence => ⟨0x6000028, [], 0, 0, 0, 0, 0⟩
  | .snpCntStageFull => ⟨0x6000030, [], 0, 0, 0, 0, 0⟩
  | .snpCntFail => ⟨0x6000038, [], 0, 0, 0, 0, 0⟩
  | .snpTrigger => ⟨0x6001000, [(16, 0x40)], 0, 0xFFFFFFFFFFFFFFFF, 0, 0, 0⟩
  | .snpJobState => ⟨0x6001008, [(16, 0x40)], 0, 0, 0, 0, 0⟩
  | .snpLast => ⟨0x6001010, [(16, 0x40)], 0, 0, 0, 0, 0⟩
  | .snpStanding => ⟨0x6001018, [(16, 0x40)], 0, 0, 0, 0, 0⟩
  | .timeNow => ⟨0xA000000, [], 0, 0, 0, 0, 0⟩
  | .timeSpanNow => ⟨0xA000008, [], 0, 0, 0, 0, 0⟩
  | .timeOffset => ⟨0xA000010, [], 0, 0, 0, 0, 0⟩
  | .timeCtrl => ⟨0xA000018, [], 3, 0x13, 0, 0, 0⟩
  | .timeStatus => ⟨0xA000020, [], 0, 0, 0, 0, 0⟩
  | .timeNodeId => ⟨0xA000028, [], 0x1FFF, 0xFFFF00001FFF, 0, 0, 0⟩
  | .timeTeardownLimit => ⟨0xA000030, [], 0x64, 0xFFFFFFFF, 0, 0, 0⟩
  | .timeEvents => ⟨0xA000038, [], 0, 0, 0xF, 0, 0⟩
  | .timeCntFilterDrop => ⟨0xA000040, [], 0, 0, 0, 0, 0⟩
  | .timeCntTeardownLimit => ⟨0xA000048, [], 0, 0, 0, 0, 0⟩
  | .timeCntLockLost => ⟨0xA000050, [], 0, 0, 0, 0, 0⟩
  | .timeCntIdRefused => ⟨0xA000058, [], 0, 0, 0, 0, 0⟩
  | .timeFilterSel => ⟨0xA000060, [], 0, 0x3FFF, 0, 0, 0⟩
  | .timeFilterEntry => ⟨0xA000068, [], 0, 0, 0, 0, 0⟩
  | .grnCaps => ⟨0, [], 0x400040400408, 0, 0, 0, 0⟩
  | .grnState => ⟨8, [], 0, 0, 0, 0, 0⟩
  | .grnBundle => ⟨0x10, [], 0, 0, 0, 0, 0⟩
  | .grnBundleDigest => ⟨0x18, [(4, 8)], 0, 0, 0, 0, 0⟩
  | .grnPowerLimit => ⟨0x38, [], 0xFA00FA0, 0, 0, 0, 0x1FFF⟩
  | .grnProtCount => ⟨0x40, [], 0, 0, 0, 0, 0⟩
  | .grnMapVersion => ⟨0x48, [], 0, 0, 0, 0, 0⟩
  | .grnRollback => ⟨0x50, [], 0, 0, 0, 0, 0⟩
  | .grnEvents => ⟨0x58, [], 0, 0, 0x7F, 0, 0⟩
  | .grnCntGwDenied => ⟨0x60, [], 0, 0, 0, 0, 0⟩
  | .grnCntPolicyDenied => ⟨0x68, [], 0, 0, 0, 0, 0⟩
  | .grnCntTakeover => ⟨0x70, [], 0, 0, 0, 0, 0⟩
  | .grnCntChangeApplied => ⟨0x78, [], 0, 0, 0, 0, 0⟩
  | .grnCntChangeRefused => ⟨0x80, [], 0, 0, 0, 0, 0⟩
  | .grnCntVerifyFail => ⟨0x88, [], 0, 0, 0, 0, 0⟩
  | .grnCntDebugUnlocked => ⟨0x90, [], 0, 0, 0, 0, 0⟩
  | .grnIdentity => ⟨0xA0, [(4, 8)], 0, 0, 0, 0, 0⟩
  | .grnMbxDb => ⟨0x100, [(8, 0x10)], 0, 0, 0, 0x7FFFFFFFFFFC0, 0⟩
  | .grnMbxStatus => ⟨0x108, [(8, 0x10)], 0, 0, 0, 0, 0⟩
  | .grnMap => ⟨0x1000, [(209, 8)], 0, 0, 0, 0, 0⟩
  | .grnKeyslot => ⟨0x2000, [(64, 8)], 0, 0, 0, 0, 0xFF00000000000000⟩
  | .hstCaps => ⟨0x9000000, [], 0x8000010400F, 0, 0, 0, 0⟩
  | .hstLink => ⟨0x9000008, [], 0, 0, 0, 0, 0⟩
  | .hstBoot => ⟨0x9000010, [], 0, 0, 0, 0, 0⟩
  | .hstReset => ⟨0x9000018, [], 0, 0, 0, 0, 0⟩
  | .hstEvents => ⟨0x9000020, [], 0, 0, 0x1F, 0, 0⟩
  | .hstCntLinkDown => ⟨0x9000028, [], 0, 0, 0, 0, 0⟩
  | .hstCntWidthDown => ⟨0x9000030, [], 0, 0, 0, 0, 0⟩
  | .hstCntIdeFail => ⟨0x9000038, [], 0, 0, 0, 0, 0⟩
  | .hstCntMgtDrop => ⟨0x9000040, [], 0, 0, 0, 0, 0⟩
  | .hstCntBiTimeout => ⟨0x9000048, [], 0, 0, 0, 0, 0⟩
  | .hstSf => ⟨0x9000050, [], 0, 0, 0, 0, 0⟩
  | .hstIdeKey => ⟨0x9000058, [], 0, 0x7FFFFFFFFFFC0, 0, 1, 0⟩
  | .hstIdeState => ⟨0x9000060, [], 0, 0, 0, 0, 0⟩
  | .hstMgtPeer => ⟨0x9000068, [(2, 8)], 0, 0xFFFFFFFFFFFFFFFF, 0, 0, 0⟩

/-- Registers, part 0. -/
def RegTag.all0 : List RegTag :=
  [RegTag.telOpRequest, RegTag.telOpState, RegTag.telTherm, RegTag.telEvents, RegTag.telCntThrottle, RegTag.telCntHold, RegTag.telCntFloor, RegTag.telCntCeiling, RegTag.telCntWeak, RegTag.telCntLedgerFail, RegTag.telMarginMin, RegTag.telLedger, RegTag.telRgSet, RegTag.telRgStatus, RegTag.telRgTaps, RegTag.telRgTelltale, RegTag.telRgMargin, RegTag.cqCaps, RegTag.cqEvents, RegTag.cqCntQueueError, RegTag.cqCntCringFull, RegTag.cqCntDbDiscard, RegTag.cqCntDenied, RegTag.cqCntFwRestart, RegTag.cqCntNotifyDrop, RegTag.cqErrLast]

/-- Registers, part 1. -/
def RegTag.all1 : List RegTag :=
  [RegTag.cqDb, RegTag.cqCh, RegTag.cqQRing, RegTag.cqQCring, RegTag.cqQCtrl, RegTag.cqQState, RegTag.cqQCstate, RegTag.cqQErr, RegTag.cqPmsi, RegTag.schCaps, RegTag.schPlaceInfo, RegTag.schEvents, RegTag.schCntStepTimeout, RegTag.schCntUnitFault, RegTag.schCntTallySat, RegTag.schCntReplay, RegTag.schCntSigDrop, RegTag.schFault, RegTag.schJob, RegTag.schStep, RegTag.schVaryCount, RegTag.schTable, RegTag.schTableBase, RegTag.schPlace, RegTag.schServe, RegTag.clsStatus]

/-- Registers, part 2. -/
def RegTag.all2 : List RegTag :=
  [RegTag.clsEvents, RegTag.clsCntReplay, RegTag.clsCntUnitFault, RegTag.coreStatus, RegTag.coreFault, RegTag.coreFpc, RegTag.coreFaddr, RegTag.coreEvents, RegTag.coreCntProgFault, RegTag.coreCntRestart, RegTag.coreCntHwCheck, RegTag.taTflag, RegTag.taCntOverflow, RegTag.taCntInvalid, RegTag.taCntInfInf, RegTag.taCntNanIn, RegTag.taCntInfIn, RegTag.taVersion, RegTag.taRefs, RegTag.taAcc, RegTag.taTerr, RegTag.qntCaps, RegTag.qntFree, RegTag.qntEvents, RegTag.qntCntClamp, RegTag.qntCntNonfinite]

/-- Registers, part 3. -/
def RegTag.all3 : List RegTag :=
  [RegTag.qntTtCfg, RegTag.qntTtDiv, RegTag.qntTtState, RegTag.qntTtSqerr, RegTag.qntTtCount, RegTag.slvCaps, RegTag.slvEvents, RegTag.slvCntOverflow, RegTag.slvCntPivotReg, RegTag.slvCntDeadline, RegTag.slvCntAbort, RegTag.slvActive, RegTag.slvLast, RegTag.sluStatus, RegTag.sluDone, RegTag.memCaps, RegTag.memReserveBase, RegTag.memAllocTop, RegTag.memState, RegTag.memEvents, RegTag.memCntHbmCorrected, RegTag.memCntHbmUncorr, RegTag.memCntShaleCorrected, RegTag.memCntShaleUncorr, RegTag.memCntPpr, RegTag.memCntRetire]

/-- Registers, part 4. -/
def RegTag.all4 : List RegTag :=
  [RegTag.memCntMapOut, RegTag.memCntRetrain, RegTag.memCntRepairLimit, RegTag.memErrLast, RegTag.memRetrainLast, RegTag.memMigrate, RegTag.memPcState, RegTag.memRetire, RegTag.axlCaps, RegTag.axlCtrl, RegTag.axlState, RegTag.axlPartner, RegTag.axlEvents, RegTag.axlCntLinkDown, RegTag.axlCntLaneDrop, RegTag.axlCntReplay, RegTag.axlCntRetrain, RegTag.axlCntEyeLow, RegTag.axlCntTagFail, RegTag.axlCntQuarantine, RegTag.axlCntIsolate, RegTag.axlAnom, RegTag.axlAnomLimit, RegTag.axlFec, RegTag.axlEye, RegTag.axlReplayCfg]

/-- Registers, part 5. -/
def RegTag.all5 : List RegTag :=
  [RegTag.axlVc, RegTag.ctxCaps, RegTag.ctxState, RegTag.ctxEvents, RegTag.ctxCntRetry, RegTag.ctxCntUnresolved, RegTag.ctxLateCount, RegTag.ctxCntNoContext, RegTag.ctxCntGaddSat, RegTag.ctxCntCopyFail, RegTag.ctxCntReduceMismatch, RegTag.ctxCntRnr, RegTag.ctxSelect, RegTag.ctxEntry, RegTag.ctxResolveLast, RegTag.snpCaps, RegTag.snpShare, RegTag.snpStage, RegTag.snpEvents, RegTag.snpCntSnapDone, RegTag.snpCntDivergence, RegTag.snpCntStageFull, RegTag.snpCntFail, RegTag.snpTrigger, RegTag.snpJobState, RegTag.snpLast]

/-- Registers, part 6. -/
def RegTag.all6 : List RegTag :=
  [RegTag.snpStanding, RegTag.timeNow, RegTag.timeSpanNow, RegTag.timeOffset, RegTag.timeCtrl, RegTag.timeStatus, RegTag.timeNodeId, RegTag.timeTeardownLimit, RegTag.timeEvents, RegTag.timeCntFilterDrop, RegTag.timeCntTeardownLimit, RegTag.timeCntLockLost, RegTag.timeCntIdRefused, RegTag.timeFilterSel, RegTag.timeFilterEntry, RegTag.grnCaps, RegTag.grnState, RegTag.grnBundle, RegTag.grnBundleDigest, RegTag.grnPowerLimit, RegTag.grnProtCount, RegTag.grnMapVersion, RegTag.grnRollback, RegTag.grnEvents, RegTag.grnCntGwDenied, RegTag.grnCntPolicyDenied]

/-- Registers, part 7. -/
def RegTag.all7 : List RegTag :=
  [RegTag.grnCntTakeover, RegTag.grnCntChangeApplied, RegTag.grnCntChangeRefused, RegTag.grnCntVerifyFail, RegTag.grnCntDebugUnlocked, RegTag.grnIdentity, RegTag.grnMbxDb, RegTag.grnMbxStatus, RegTag.grnMap, RegTag.grnKeyslot, RegTag.hstCaps, RegTag.hstLink, RegTag.hstBoot, RegTag.hstReset, RegTag.hstEvents, RegTag.hstCntLinkDown, RegTag.hstCntWidthDown, RegTag.hstCntIdeFail, RegTag.hstCntMgtDrop, RegTag.hstCntBiTimeout, RegTag.hstSf, RegTag.hstIdeKey, RegTag.hstIdeState, RegTag.hstMgtPeer]

/-- Every register. -/
def RegTag.all : List RegTag :=
  List.flatten [RegTag.all0, RegTag.all1, RegTag.all2, RegTag.all3, RegTag.all4, RegTag.all5, RegTag.all6, RegTag.all7]

/-- Reset value of the register with these indices: one value for most, by VC for AXL.VC (R347) and by slot for
GRN.KEYSLOT (R447). -/
def RegTag.resetAt (t : RegTag) (idx : List Nat) : Word :=
  if t = .axlVc then nth 0#64 [0x0001_0000_0190_1000, 0x0002_0000_0190_1000, 0x0001_C000_0190_1000, 0x0001_0000_0190_1000, 0x0000_4000_0010_1000, 0x0000_2000_0004_0400, 0x0001_E000_0190_1000, 0x0000_0000_0000_0000] (nth 0 idx 1)
  else if t = .grnKeyslot then
    (if idx = [0] then 0x0100000000000000#64 else if idx = [1] then 0x0200000000000000#64 else 0#64)
  else BitVec.ofNat 64 t.info.reset

/-- Offset added by indices into the arrays of a register. -/
def idxOff : List (Nat × Nat) → List Nat → Nat
  | (_, st) :: ds, i :: is => i * st + idxOff ds is
  | _, _ => 0

/-- Control-space offset of a register with these indices (R28). -/
def RegTag.off (t : RegTag) (idx : List Nat) : Nat := t.info.base + idxOff t.info.dims idx

/-- The indices a remaining offset spells, none where it falls between registers. -/
def findIdx : List (Nat × Nat) → Nat → Option (List Nat)
  | [], r => if r = 0 then some [] else none
  | (n, st) :: ds, r => if r / st < n then (findIdx ds (r % st)).map (r / st :: ·) else none

/-- The register at a control-space offset with its indices; none at a reserved address (R28, R30). -/
def regAt (o : Nat) : Option (RegTag × List Nat) :=
  go RegTag.all
where
  go : List RegTag → Option (RegTag × List Nat)
    | [] => none
    | t :: ts =>
      match (if o < t.info.base then none else findIdx t.info.dims (o - t.info.base)) with
      | some is => some (t, is)
      | none => go ts

/-- The event flags (R11), by block and name. -/
inductive Ev where
  | telLedgerFail
  | telWeak
  | telCeiling
  | telFloor
  | telHold
  | telThrottle
  | cqNotifyDrop
  | cqFwRestart
  | cqDenied
  | cqDbDiscard
  | cqCringFull
  | cqQueueError
  | schSigDrop
  | schReplay
  | schTallySat
  | schUnitFault
  | schStepTimeout
  | clsUnitFault
  | clsReplay
  | coreHwCheck
  | coreRestart
  | coreProgFault
  | taInfIn
  | taNanIn
  | taInfInf
  | taInvalid
  | taOverflow
  | qntNonfinite
  | qntClamp
  | slvAbort
  | slvDeadline
  | slvPivotReg
  | slvOverflow
  | memRepairLimit
  | memRetrain
  | memMapOut
  | memRetire
  | memPpr
  | memShaleUncorr
  | memShaleCorrected
  | memHbmUncorr
  | memHbmCorrected
  | axlIsolate
  | axlQuarantine
  | axlTagFail
  | axlEyeLow
  | axlRetrain
  | axlReplay
  | axlLaneDrop
  | axlLinkDown
  | ctxRnr
  | ctxReduceMismatch
  | ctxCopyFail
  | ctxGaddSat
  | ctxNoContext
  | ctxLate
  | ctxUnresolved
  | ctxRetry
  | snpFail
  | snpStageFull
  | snpDivergence
  | snpSnapDone
  | timeIdRefused
  | timeLockLost
  | timeTeardownLimit
  | timeFilterDrop
  | grnDebugUnlocked
  | grnVerifyFail
  | grnChangeRefused
  | grnChangeApplied
  | grnTakeover
  | grnPolicyDenied
  | grnGwDenied
  | hstBiTimeout
  | hstMgtDrop
  | hstIdeFail
  | hstWidthDown
  | hstLinkDown
  deriving DecidableEq, Repr

/-- The register that holds an event flag, its bit, and the flag's counter (R11 and the EVENTS tables). -/
def Ev.info : Ev → RegTag × Nat × RegTag
  | .telLedgerFail => (.telEvents, 5, .telCntLedgerFail)
  | .telWeak => (.telEvents, 4, .telCntWeak)
  | .telCeiling => (.telEvents, 3, .telCntCeiling)
  | .telFloor => (.telEvents, 2, .telCntFloor)
  | .telHold => (.telEvents, 1, .telCntHold)
  | .telThrottle => (.telEvents, 0, .telCntThrottle)
  | .cqNotifyDrop => (.cqEvents, 5, .cqCntNotifyDrop)
  | .cqFwRestart => (.cqEvents, 4, .cqCntFwRestart)
  | .cqDenied => (.cqEvents, 3, .cqCntDenied)
  | .cqDbDiscard => (.cqEvents, 2, .cqCntDbDiscard)
  | .cqCringFull => (.cqEvents, 1, .cqCntCringFull)
  | .cqQueueError => (.cqEvents, 0, .cqCntQueueError)
  | .schSigDrop => (.schEvents, 4, .schCntSigDrop)
  | .schReplay => (.schEvents, 3, .schCntReplay)
  | .schTallySat => (.schEvents, 2, .schCntTallySat)
  | .schUnitFault => (.schEvents, 1, .schCntUnitFault)
  | .schStepTimeout => (.schEvents, 0, .schCntStepTimeout)
  | .clsUnitFault => (.clsEvents, 1, .clsCntUnitFault)
  | .clsReplay => (.clsEvents, 0, .clsCntReplay)
  | .coreHwCheck => (.coreEvents, 2, .coreCntHwCheck)
  | .coreRestart => (.coreEvents, 1, .coreCntRestart)
  | .coreProgFault => (.coreEvents, 0, .coreCntProgFault)
  | .taInfIn => (.taTflag, 4, .taCntInfIn)
  | .taNanIn => (.taTflag, 3, .taCntNanIn)
  | .taInfInf => (.taTflag, 2, .taCntInfInf)
  | .taInvalid => (.taTflag, 1, .taCntInvalid)
  | .taOverflow => (.taTflag, 0, .taCntOverflow)
  | .qntNonfinite => (.qntEvents, 1, .qntCntNonfinite)
  | .qntClamp => (.qntEvents, 0, .qntCntClamp)
  | .slvAbort => (.slvEvents, 3, .slvCntAbort)
  | .slvDeadline => (.slvEvents, 2, .slvCntDeadline)
  | .slvPivotReg => (.slvEvents, 1, .slvCntPivotReg)
  | .slvOverflow => (.slvEvents, 0, .slvCntOverflow)
  | .memRepairLimit => (.memEvents, 8, .memCntRepairLimit)
  | .memRetrain => (.memEvents, 7, .memCntRetrain)
  | .memMapOut => (.memEvents, 6, .memCntMapOut)
  | .memRetire => (.memEvents, 5, .memCntRetire)
  | .memPpr => (.memEvents, 4, .memCntPpr)
  | .memShaleUncorr => (.memEvents, 3, .memCntShaleUncorr)
  | .memShaleCorrected => (.memEvents, 2, .memCntShaleCorrected)
  | .memHbmUncorr => (.memEvents, 1, .memCntHbmUncorr)
  | .memHbmCorrected => (.memEvents, 0, .memCntHbmCorrected)
  | .axlIsolate => (.axlEvents, 7, .axlCntIsolate)
  | .axlQuarantine => (.axlEvents, 6, .axlCntQuarantine)
  | .axlTagFail => (.axlEvents, 5, .axlCntTagFail)
  | .axlEyeLow => (.axlEvents, 4, .axlCntEyeLow)
  | .axlRetrain => (.axlEvents, 3, .axlCntRetrain)
  | .axlReplay => (.axlEvents, 2, .axlCntReplay)
  | .axlLaneDrop => (.axlEvents, 1, .axlCntLaneDrop)
  | .axlLinkDown => (.axlEvents, 0, .axlCntLinkDown)
  | .ctxRnr => (.ctxEvents, 7, .ctxCntRnr)
  | .ctxReduceMismatch => (.ctxEvents, 6, .ctxCntReduceMismatch)
  | .ctxCopyFail => (.ctxEvents, 5, .ctxCntCopyFail)
  | .ctxGaddSat => (.ctxEvents, 4, .ctxCntGaddSat)
  | .ctxNoContext => (.ctxEvents, 3, .ctxCntNoContext)
  | .ctxLate => (.ctxEvents, 2, .ctxLateCount)
  | .ctxUnresolved => (.ctxEvents, 1, .ctxCntUnresolved)
  | .ctxRetry => (.ctxEvents, 0, .ctxCntRetry)
  | .snpFail => (.snpEvents, 3, .snpCntFail)
  | .snpStageFull => (.snpEvents, 2, .snpCntStageFull)
  | .snpDivergence => (.snpEvents, 1, .snpCntDivergence)
  | .snpSnapDone => (.snpEvents, 0, .snpCntSnapDone)
  | .timeIdRefused => (.timeEvents, 3, .timeCntIdRefused)
  | .timeLockLost => (.timeEvents, 2, .timeCntLockLost)
  | .timeTeardownLimit => (.timeEvents, 1, .timeCntTeardownLimit)
  | .timeFilterDrop => (.timeEvents, 0, .timeCntFilterDrop)
  | .grnDebugUnlocked => (.grnEvents, 6, .grnCntDebugUnlocked)
  | .grnVerifyFail => (.grnEvents, 5, .grnCntVerifyFail)
  | .grnChangeRefused => (.grnEvents, 4, .grnCntChangeRefused)
  | .grnChangeApplied => (.grnEvents, 3, .grnCntChangeApplied)
  | .grnTakeover => (.grnEvents, 2, .grnCntTakeover)
  | .grnPolicyDenied => (.grnEvents, 1, .grnCntPolicyDenied)
  | .grnGwDenied => (.grnEvents, 0, .grnCntGwDenied)
  | .hstBiTimeout => (.hstEvents, 4, .hstCntBiTimeout)
  | .hstMgtDrop => (.hstEvents, 3, .hstCntMgtDrop)
  | .hstIdeFail => (.hstEvents, 2, .hstCntIdeFail)
  | .hstWidthDown => (.hstEvents, 1, .hstCntWidthDown)
  | .hstLinkDown => (.hstEvents, 0, .hstCntLinkDown)

/-- Event flags, part 0. -/
def Ev.all0 : List Ev :=
  [Ev.telLedgerFail, Ev.telWeak, Ev.telCeiling, Ev.telFloor, Ev.telHold, Ev.telThrottle, Ev.cqNotifyDrop, Ev.cqFwRestart, Ev.cqDenied, Ev.cqDbDiscard, Ev.cqCringFull, Ev.cqQueueError, Ev.schSigDrop, Ev.schReplay, Ev.schTallySat, Ev.schUnitFault, Ev.schStepTimeout, Ev.clsUnitFault, Ev.clsReplay, Ev.coreHwCheck, Ev.coreRestart, Ev.coreProgFault, Ev.taInfIn, Ev.taNanIn, Ev.taInfInf, Ev.taInvalid]

/-- Event flags, part 1. -/
def Ev.all1 : List Ev :=
  [Ev.taOverflow, Ev.qntNonfinite, Ev.qntClamp, Ev.slvAbort, Ev.slvDeadline, Ev.slvPivotReg, Ev.slvOverflow, Ev.memRepairLimit, Ev.memRetrain, Ev.memMapOut, Ev.memRetire, Ev.memPpr, Ev.memShaleUncorr, Ev.memShaleCorrected, Ev.memHbmUncorr, Ev.memHbmCorrected, Ev.axlIsolate, Ev.axlQuarantine, Ev.axlTagFail, Ev.axlEyeLow, Ev.axlRetrain, Ev.axlReplay, Ev.axlLaneDrop, Ev.axlLinkDown, Ev.ctxRnr, Ev.ctxReduceMismatch]

/-- Event flags, part 2. -/
def Ev.all2 : List Ev :=
  [Ev.ctxCopyFail, Ev.ctxGaddSat, Ev.ctxNoContext, Ev.ctxLate, Ev.ctxUnresolved, Ev.ctxRetry, Ev.snpFail, Ev.snpStageFull, Ev.snpDivergence, Ev.snpSnapDone, Ev.timeIdRefused, Ev.timeLockLost, Ev.timeTeardownLimit, Ev.timeFilterDrop, Ev.grnDebugUnlocked, Ev.grnVerifyFail, Ev.grnChangeRefused, Ev.grnChangeApplied, Ev.grnTakeover, Ev.grnPolicyDenied, Ev.grnGwDenied, Ev.hstBiTimeout, Ev.hstMgtDrop, Ev.hstIdeFail, Ev.hstWidthDown, Ev.hstLinkDown]

/-- Every event flag. -/
def Ev.all : List Ev :=
  List.flatten [Ev.all0, Ev.all1, Ev.all2]

end Sys2Proof.Machine
end

