-- ==== Sys2Proof/Machine/State.lean ====
section
/-! DEFINITION. The state of one KMN12 node (R1): every register, FIFO, buffer, counter, mode and pin the manual gives
it, as plain data. Every sparse collection is a list of (key, value) pairs with rising keys and no entry equal to the
collection's default, so that equal collections are equal lists. Control-space registers that only store a value are
kept once, in `regs`; registers that show other state (SCH.JOB, TA.VERSION, CQ.Q_STATE, …) are computed from it
(`Machine/Registers.lean`). -/

namespace Sys2Proof.Machine

/-- A sparse collection: keys strictly rising, no entry equal to the default of the collection. -/
abbrev SMap (α : Type) := List (Nat × α)

/-! ## Command queues (R73 to R93) -/

/-- The state of a queue (R78), with the code of CQ.Q_CSTATE. -/
inductive QState where
  | disabled | active | paused | error
  deriving DecidableEq, Repr

/-- A reply as R87 lays it out, less the queue and PHASE, which its writing adds. -/
structure Reply where
  status : W16
  opcode : W16
  seq : W32
  tag : W16
  epoch : Byte
  path : Bool
  detail : W16
  result0 : Word
  result1 : Word
  /-- The master that its command acts as (R432), with which the reply is written. -/
  master : Master
  /-- NOTIFY of the command (R84). -/
  notify : Bool
  /-- STOP_ON_FAIL of the command (R84). -/
  stopOnFail : Bool
  deriving DecidableEq, Repr

/-- One command queue. -/
structure Queue where
  /-- State of R78; reset DISABLED. -/
  st : QState
  /-- PRODUCER (R74); reset 0. -/
  producer : W32
  /-- CONSUMER (R74); reset 0. -/
  consumer : W32
  /-- CPRODUCER (R74); reset 0. -/
  cproducer : W32
  /-- CQ.CH, replies consumed (R81); reset 0. -/
  consumed : W32
  /-- CQ.Q_RING (R108); reset 0. -/
  ring : Word
  /-- CQ.Q_CRING (R108); reset 0. -/
  cring : Word
  /-- CLASSES, NOTIFY_VEC, NOTIFY_TGT and PRIORITY of CQ.Q_CTRL (R108); reset 0. -/
  ctrl : Word
  /-- CQ.Q_ERR (R108); reset 0. -/
  err : Word
  /-- A Q_RESET or Q_DESTROY has stopped starts (R78); reset false. -/
  stopping : Bool
  /-- Replies held for a full completion ring, oldest first (R81); reset empty. -/
  held : List Reply
  /-- The master of each accepted doorbell write with the PRODUCER it gave, oldest first (R432); reset empty. -/
  marks : List (W32 × Master)
  /-- A Q_RESET (true) or Q_DESTROY (false) by a write of CQ.Q_CTRL that waits for started commands (R78, R108); reset
  none. -/
  due : Option Bool
  deriving DecidableEq, Repr

/-- What a started command that has not yet answered waits for. -/
inductive CmdWait where
  /-- not executed yet -/
  | ready
  /-- Q_RESET (`reset` true) or Q_DESTROY of a queue, waiting for its other started commands (R78) -/
  | drain (target : Nat) (reset : Bool)
  /-- a command whose own queue is its target: the effect follows its own reply (R78, R92) -/
  | selfDrain (reset : Bool)
  /-- JOB_TEARDOWN in step 3 of R400, begun at this counter value -/
  | teardown (job : Nat) (start : Nat)
  /-- SCHED_RUN of a job (R101) -/
  | sched (job : Nat)
  /-- SCHED_HALT of a job (R92) -/
  | halt (job : Nat)
  /-- STEP_WAIT for a step of a job (R92) -/
  | step (job : Nat) (target : Word)
  /-- MEM_COPY or MSG_SEND carried by a copy (R362, R367) -/
  | copy (id : Nat)
  /-- MEM_COPY that names the host window while the host link is down, started at this counter value (R453) -/
  | hostDown (start : Nat)
  /-- CTX_OPEN in its exchange (R350) -/
  | bind (ctx : Nat)
  /-- CTX_CLOSE waiting for outstanding requests (R351) -/
  | close (ctx : Nat)
  /-- MSG_SEND waiting for its request's answer (R366) -/
  | msg (ctx : Nat)
  /-- MSG_RECV_POST waiting for a message (R366) -/
  | recv (ctx : Nat)
  /-- LINK_RESET waiting for the end of the training attempt (R344) -/
  | link (link : Nat)
  /-- SLV_BATCH in progress (R258) -/
  | batch
  /-- SNAP_TAKE in progress (R386) -/
  | snap (job : Nat)
  /-- SNAP_RESTORE in progress (R388) -/
  | restore (job : Nat)
  /-- NODE_RESET in step 2 or 3 of R462, begun at this counter value -/
  | nodeReset (links : Bool) (start : Nat)
  deriving DecidableEq, Repr

/-- A started command that is not yet answered (R78): the fields of its slot (R83) and the master it acts as (R432). -/
structure Started where
  q : Nat
  seq : W32
  opcode : W16
  flags : W16
  tag : W16
  epoch : Byte
  /-- The packed parameters (R85), read from the slot or the parameter block. -/
  params : List Byte
  /-- The parameter block's node offset; 0 when the parameters are inline. -/
  block : Nat
  master : Master
  wait : CmdWait
  deriving DecidableEq, Repr

/-! ## Memory (R26, R291 to R316) -/

/-- How a stored word or codeword reads (R294, R298); a word without an entry reads clean. -/
inductive ErrKind where
  /-- one bit or symbol in error: the read is corrected -/
  | correctable
  /-- corrected once already: the next correction is a hard fault of the slice (R294) -/
  | recorrect
  /-- two bits or symbols in error, or a fold or address that does not match -/
  | uncorrectable
  /-- POISON 1 (R297) -/
  | poison
  deriving DecidableEq, Repr

/-- A reservation of job space (R301). -/
structure Reservation where
  base : Nat
  size : Nat
  tag : W16
  deriving DecidableEq, Repr

/-- Where a retirement entry stands (R307): its page being copied, or served from the slot. -/
inductive RetireSt where
  | copying | served
  deriving DecidableEq, Repr

/-- A retirement table entry in use (R307). -/
structure RetireEntry where
  pc : Nat
  page : Nat
  st : RetireSt
  deriving DecidableEq, Repr

/-- What a pseudo-channel is doing (MEM.PC_STATE STATE, R316). -/
inductive PcMode where
  | inService | migrating | mappedOut | retraining
  deriving DecidableEq, Repr

/-- A pseudo-channel of HBM3E (R295, R305 to R313). -/
structure Pc where
  /-- MEM.PC_STATE STATE; reset in service. -/
  mode : PcMode
  /-- MEM.PC_STATE CORRECTED, saturating; reset 0. -/
  corrected : Nat
  /-- The 16 recent corrections: codeword numbers, newest first (R305); reset empty. -/
  recent : List Nat
  /-- Rows that are failing and not yet repaired or retired (R305); reset empty. -/
  failing : List Nat
  /-- A full retrain is due or runs since this counter value (R313); reset none. -/
  retrainStart : Option Nat
  /-- What the pseudo-channel returns to when a full retrain ends. -/
  retrainBack : PcMode
  deriving DecidableEq, Repr

/-! ## Dies, map and placement (R13 to R30) -/

/-- State of a physical cluster in the map, 2 bits (R17). -/
inductive ClusterSt where
  | good | weak | disabled | reserved
  deriving DecidableEq, Repr

/-- The disabled-unit map (R17). A list holds the numbers of the units whose bit is set, rising. -/
structure UnitMap where
  /-- 32-bit count of changes (R17, R19); kept in flash. -/
  version : W32
  /-- Clusters whose state is not good (R17). -/
  clusters : SMap ClusterSt
  /-- Physical cores disabled, index 17p + core. -/
  cores : List Nat
  /-- Pseudo-channels whose bit is set. -/
  pcs : List Nat
  /-- Link lanes, 2 × link + lane. -/
  lanes : List Nat
  /-- Dispatch cores. -/
  dispatch : List Nat
  /-- P-die application cores. -/
  pdie : List Nat
  /-- Granite pairs: 0 lockstep, 1 standby. -/
  granite : List Nat
  deriving DecidableEq, Repr

/-- One record of SCH.PLACE or SCH.SERVE (R109): the physical cluster, the 16 physical cores that carry the logical
cores, and the spare core. -/
structure PlaceRec where
  phys : Nat
  cores : List Nat
  spare : Option Nat
  deriving DecidableEq, Repr

/-- The placement in force (R20): its map version, the records as made and the units now serving. -/
structure Placement where
  mapVersion : W32
  place : SMap PlaceRec
  serve : SMap PlaceRec
  deriving DecidableEq, Repr

/-! ## Jobs and schedules (R92 to R110) -/

/-- One signal of a unit or TSIG, as R98 encodes it (48 bits). -/
abbrev Signal := BitVec 48

/-- Where a unit of the step under way stands (R101, R102). -/
inductive UnitSt where
  | waiting
  | issued (core : Nat)
  | committed
  | ended
  deriving DecidableEq, Repr

/-- An entry of the attempt journal (R416). -/
structure JournalEntry where
  /-- func of the atomic, or 0xFF for an ACOPY. -/
  op : Nat
  addr : Word
  operand : BitVec 128
  result : BitVec 128
  /-- the request that brings the result, while it has not come: context and sequence number -/
  pend : Option (Nat × W32)
  deriving DecidableEq, Repr

/-- A unit of the step under way (R96) with its journal (R416). -/
structure UnitRec where
  lcluster : Nat
  lcore : Nat
  unit : W16
  entry : Nat
  param : Nat
  varies : Bool
  waits : List W32
  sigs : List Signal
  st : UnitSt
  journal : List JournalEntry
  /-- a 257th journaled operation has been issued (R416) -/
  unreplayable : Bool
  /-- check faults taken by its attempts (R417) -/
  checks : Nat
  /-- reducing ACOPYs accepted, which contribute when the unit commits: descriptor and source (R276) -/
  contribs : List (List Byte × List Byte)
  deriving DecidableEq, Repr

/-- A SCHED_RUN in progress (R101 to R105). -/
structure SchedRun where
  q : Nat
  seq : W32
  slot : Nat
  first : Nat
  count : Nat
  rep : Nat
  timeout : Nat
  /-- table step under way -/
  cur : Nat
  /-- repeats completed -/
  done : Nat
  /-- fences completed (RESULT0) -/
  fences : Nat
  /-- counter value at the step's start -/
  stepStart : Nat
  units : List UnitRec
  /-- the SCHED_HALT commands that wait (R92) -/
  halts : List (Nat × W32)
  /-- the end that has occurred, while units in progress complete -/
  ending : Option W16
  /-- a halt has been requested -/
  haltReq : Bool
  /-- this node has sent its FENCE_UP for the step (R376) -/
  upSent : Bool
  deriving DecidableEq, Repr

/-- A Span reduction tree (R341, R343). -/
structure Tree where
  parent : Nat
  children : List Nat
  /-- the 64 header bytes, for TREE_DIGEST (R385) -/
  header : List Byte
  deriving DecidableEq, Repr

/-- The route table of a job (R341): ways of each destination node (four 16-bit ways in one word); default no way. -/
structure RouteTable where
  ways : SMap Word
  deriving DecidableEq, Repr

/-- A loaded schedule table (R94, R95, R109). -/
structure TableSlot where
  job : Nat
  ordered : Bool
  span : Bool
  stepTallies : Nat
  firstCluster : Nat
  clusters : Nat
  steps : Nat
  unitCount : Nat
  base : Nat
  length : Nat
  stepIndex : Nat
  units : Nat
  ctxMap : Nat
  deriving DecidableEq, Repr

/-- A job slot (R92, R109) while its job is open. -/
structure JobSlot where
  tag : W16
  epoch : Byte
  first : Nat
  count : Nat
  ordered : Bool
  /-- SCH.JOB TEARDOWN (R400 step 1). -/
  teardown : Bool
  /-- SCH.STEP (R103). -/
  step : Word
  /-- SCH.VARY_COUNT CURRENT (R104). -/
  varyCur : W32
  /-- SCH.VARY_COUNT LAST (R104). -/
  varyLast : W32
  /-- the job has run a SCHED_RUN (R343, R388). -/
  ran : Bool
  run : Option SchedRun
  routes : Option RouteTable
  tree : Option Tree
  /-- logical cluster ↦ physical cluster of the Confluence tree, as at JOB_BEGIN (R277, R278) -/
  confluence : List (Nat × Nat)
  deriving DecidableEq, Repr

/-! ## Cores (R111 to R139, R188 to R216) -/

/-- The CSRs that software writes or the core records (R137, R164). -/
structure Csrs where
  fflags : BitVec 5
  frm : BitVec 3
  /-- CSR.VL GROUP and BYTES (R141). -/
  vlGroup : BitVec 2
  vlBytes : Nat
  vstart : BitVec 8
  vcvt : BitVec 4
  tallyBase : Word
  twaitLimit : Word
  seed : Word
  /-- active loop levels (R123), outermost first: count, first and last body PC; at most two -/
  loops : List (Word × Nat × Nat)
  fcause : Word
  fpc : Word
  faddr : Word
  deriving DecidableEq, Repr

/-- The special state of a grid element (R201), with its 2-bit code. -/
abbrev Special := BitVec 2

/-- One element of an accumulator tile (R190, R200, R201). -/
structure Elem where
  /-- the 153-bit grid sum -/
  sum : Int
  special : Special
  sat : Bool
  /-- placements since the tile was cleared (R200) -/
  placements : Nat
  /-- the FP32 value of an FP32 tile -/
  fp : W32
  deriving DecidableEq, Repr

/-- An accumulator tile (R190) with its flag state (R205). -/
structure Tile where
  /-- 0 grid, 1 FP32. -/
  fp32 : Bool
  anchor : Int
  elems : SMap Elem
  /-- the five causes -/
  causes : Nat
  /-- FIRST_ELEM, 0xFFFF for none -/
  firstElem : Nat
  /-- FIRST_KBLK, 0xFFFF_FFFF for none -/
  firstKblk : Nat
  deriving DecidableEq, Repr

/-- One live weight version (R208). -/
structure Version where
  number : W16
  refs : W16
  /-- the 64-byte TWLOAD descriptor (R193), from which the fields and source pointers are read -/
  desc : List Byte
  /-- element codes, row by row (R188) -/
  codes : List (List Nat)
  /-- scale codes, one list per scale row (R194) -/
  scales : List (List Nat)
  /-- zero points, one per column (R193) -/
  zeros : List Int
  /-- unreadable: the fault code and address a weight-mode TSTREAM raises (R210) -/
  bad : Option (Nat × Word)
  /-- to be read again from its sources before it is next used (R210, R211, R390) -/
  reread : Bool
  deriving DecidableEq, Repr

/-- Which work unit a core runs: the job slot and the unit's place in the step's unit list. -/
structure UnitRef where
  job : Nat
  idx : Nat
  deriving DecidableEq, Repr

/-- A remote operation a core waits for (R127, R135). -/
structure CoreWait where
  ctx : Nat
  seq : W32
  /-- the instruction word -/
  word : W32
  /-- 0 load, 1 store, 2 atomic, 3 GADD, 4 vector element load, 5 vector element store -/
  kind : Nat
  addr : Word
  /-- element index of an element-ordered instruction -/
  elem : Nat
  deriving DecidableEq, Repr

/-- What a core is doing (CORE.STATUS, R139). -/
inductive CorePhase where
  | idle
  | running
  /-- TWAIT on a tally of the own logical core (R125), since a counter value -/
  | waitTally (tally : Nat) (threshold : Nat) (start : Nat)
  /-- TWLOAD waits for the older version (R209), since a counter value, with its word -/
  | waitVersion (start : Nat) (word : W32)
  /-- a remote access blocks the core (R127) -/
  | blocked (w : CoreWait)
  /-- held in REMOTE_UNRESOLVED (R135) -/
  | held (w : CoreWait)
  /-- the program has ended at END and waits to commit (R102) -/
  | ended
  deriving DecidableEq, Repr

/-- Updates a unit holds until its commit: a conversion record's seven counts at an address (R186). -/
structure RecordUpdate where
  addr : Nat
  counts : List Nat
  deriving DecidableEq, Repr

/-- Updates to a tracked tensor held until commit (R221, R225, R234). -/
structure TrackUpdate where
  track : Nat
  /-- channel ↦ |x|′ (FP32 code) -/
  amax : List (Nat × W32)
  errSum : Nat
  errCount : Nat
  errInf : Bool
  nonfinite : Nat
  deriving DecidableEq, Repr

/-- A physical core (R111): program-visible state, the tensor array and the unit in progress. -/
structure Core where
  phase : CorePhase
  unit : Option UnitRef
  /-- PC, 51 bits (R111); reset 0. -/
  pc : Nat
  /-- G1–G31 (R111), default 0. -/
  g : SMap Word
  /-- F0–F31, 512 bits (R111), default 0. -/
  f : SMap (BitVec 512)
  /-- P1–P7, 256 bits (R111), default 0. -/
  p : SMap (BitVec 256)
  csrs : Csrs
  /-- CSR.UNIT, STEP, WHERE, NODE and JOB (R137): G2–G6 at issue. -/
  ident : List Word
  /-- held signals in program order, at most 16 (R126) -/
  sigq : List Signal
  /-- ACC0–ACC3 (R190), default cleared. -/
  tiles : SMap Tile
  /-- STREAM of the last TCFG (R192). -/
  stream : W32
  /-- RECORD of the last TCFG (R192). -/
  record : Word
  /-- live weight versions, newer first (R208). -/
  versions : List Version
  /-- number the next TWLOAD gives (R208): 1 after JOB_BEGIN or CLUSTER_RESET -/
  nextVersion : W16
  /-- versions at the unit's issue (R210) -/
  versionsAtIssue : List Version
  nextVersionAtIssue : W16
  /-- journaled operations performed by this attempt (R416) -/
  journalPos : Nat
  recUpdates : List RecordUpdate
  trackUpdates : List TrackUpdate
  /-- fields of the structure at CSR.VSTART that its element access has performed, with the values loaded (R157, R159) -/
  vbuf : List Nat
  /-- a check fault came with no unit in progress: it is charged to the core's next unit (R426) -/
  checkDue : Bool
  deriving DecidableEq, Repr

/-! ## Tracked tensors (R217 to R235) -/

/-- STATUS of a channel (R219). -/
inductive ChStatus where
  | new | normal | flat | clamped
  deriving DecidableEq, Repr

/-- One channel of a tracked tensor (R219). -/
structure Channel where
  /-- H[0] to H[FILLED − 1], newest first -/
  h : List W32
  amaxCur : W32
  e : Int
  status : ChStatus
  deriving DecidableEq, Repr

/-- A tracked tensor (R217, R219). -/
structure Tracked where
  job : Nat
  fmt : W16
  len : Nat
  margin : Nat
  span : Bool
  firstCh : Nat
  div : Nat
  initExp : Int
  channels : List Channel
  touched : Bool
  /-- exact error sum in units of 2^−149 (R225) -/
  errSum : Nat
  errInf : Bool
  errCount : Nat
  sqerrLast : W32
  countLast : Word
  fences : Nat
  deriving DecidableEq, Repr

/-! ## Solver units (R249 to R269) -/

/-- A batch in progress (R258 to R263). -/
structure Batch where
  q : Nat
  seq : W32
  job : Nat
  probs : Word
  results : Word
  count : Nat
  pstride : Nat
  deadline : Nat
  tally : Word
  afterStep : Word
  kind : Nat
  warm : Bool
  first : Nat
  nclusters : Nat
  /-- counter value at the batch's start (R263); none while it waits for AFTER_STEP -/
  start : Option Nat
  /-- result record of each ended problem (R261), by problem index -/
  ended : SMap (List Byte)
  /-- a problem's inputs were read with an uncorrectable error (R89) -/
  unread : Bool
  deriving DecidableEq, Repr

/-! ## Links (R317 to R347, R398 to R402) -/

/-- States of a link (R321), with the code of AXL.STATE. -/
inductive LinkSt where
  | down | training | admitting | quarantine | active | isolated | disabled
  deriving DecidableEq, Repr

/-- State of a job filter entry (R398), with the code of TIME.FILTER_ENTRY. -/
inductive FilterSt where
  | closed | waiting | open | teardown | draining
  deriving DecidableEq, Repr

/-- A job filter entry (R398). -/
structure FilterEntry where
  tag : W16
  epoch : Byte
  st : FilterSt
  /-- a DRAIN_DONE was received while OPEN or TEARDOWN (R401) -/
  remembered : Bool
  deriving DecidableEq, Repr

/-- A flit kept in the Eddy buffer (R327): its SEQ and its bytes 0–247 as first sent. -/
structure EddyFlit where
  seq : BitVec 12
  vc : Nat
  typ : Nat
  bytes : List Byte
  deriving DecidableEq, Repr

/-- Progress of the admission exchange (R334). -/
structure Admission where
  /-- counter value at its beginning (R335) -/
  start : Nat
  ownNonce : Digest
  partnerNonce : Option Digest
  partnerChain : List Byte
  sigOk : Option Bool
  /-- our verdict, none before it is formed; the cause when refused -/
  verdict : Option (Option Nat)
  /-- the partner's verdict -/
  partnerVerdict : Option Bool
  deriving DecidableEq, Repr

/-- An AXL link (R317): what its registers do not hold themselves. -/
structure Link where
  /-- AXL.STATE STATE; reset DOWN. -/
  st : LinkSt
  gen : Nat
  lanes : BitVec 2
  encrypted : Bool
  qcause : Byte
  partner : Option Capability
  partnerLeaf : Digest
  /-- counter value at signal detect (R320) or at the failed training -/
  trainStart : Nat
  /-- a failed training waits for its retry since this counter value (R320) -/
  retryFrom : Option Nat
  admission : Option Admission
  /-- SEQ of the next data flit (R325) -/
  sendSeq : BitVec 12
  /-- SEQ the receiver expects (R327) -/
  expect : BitVec 12
  /-- a NAK has been sent for the gap under way (R327) -/
  nakSent : Bool
  eddy : List EddyFlit
  /-- counter value when an ACK last advanced or the first unacknowledged flit was sent -/
  ackTime : Nat
  /-- successive resends without ACK progress (R327) -/
  resends : Nat
  /-- a fast retrain runs since this counter value (R321) -/
  fastRetrain : Option Nat
  /-- credits held for sending, per VC (AXL.VC AVAIL) -/
  avail : List Nat
  /-- flits in the receive buffer per VC -/
  rxUsed : List Nat
  /-- credits to return, per VC (R331) -/
  rxReturn : List Nat
  /-- flits accepted per VC in the window under way (R332) -/
  windowCount : List Nat
  /-- flits sent per VC in the window under way (R332: the Weir shapes the node's own sends) -/
  sentCount : List Nat
  /-- payload bytes of a packet not yet complete, per VC (R352) -/
  rxBytes : List (List Byte)
  /-- packets being put into flits, per VC: bytes still to send of each, oldest first (R352) -/
  txBytes : List (List (List Byte))
  /-- data flits sent under the current key, and the key epoch of each direction (R337) -/
  keyCount : Nat
  txEpoch : Nat
  rxEpoch : Nat
  /-- 64-bit count of data flits sent since admission (R337) -/
  ivCount : Nat
  /-- count of data flits accepted since admission (R337) -/
  ivRx : Nat
  /-- successive re-plans below the eye floor, per lane (R323) -/
  eyeBelow : List Nat
  /-- the partner's last beacon transmit time and our receive time of it (R404) -/
  beaconTx : Word
  beaconRx : Word
  deriving DecidableEq, Repr

/-! ## Transport contexts (R348 to R373) -/

/-- State of a context entry (R349). -/
inductive CtxSt where
  | closed | binding | open | resolve | closing
  deriving DecidableEq, Repr

/-- Who waits for a request's answer. -/
inductive ReqOrigin where
  | core (c : Nat)
  /-- a signal of a committed unit: job slot, logical core index 16l + k and unit number -/
  | signal (job : Nat) (lc : Nat) (unit : W16)
  | copy (id : Nat)
  | msg (id : Nat)
  deriving DecidableEq, Repr

/-- An outstanding request (R354, R356). -/
structure Req where
  seq : W32
  pkt : Packet
  origin : ReqOrigin
  /-- counter value at hand-over or at the last expiry -/
  t0 : Nat
  tries : Nat
  unresolved : Bool
  answered : Bool
  /-- an RNR reply came at this counter value (R368) -/
  rnr : Option Nat
  deriving DecidableEq, Repr

/-- A cached reply of the responder (R355): status, old value or loaded data, and whether the slot holds a copy. -/
structure ReplySlot where
  seq : W32
  status : Byte
  data : List Byte
  /-- NOT_APPLIED was answered to a QUERY (R357) -/
  notApplied : Bool
  deriving DecidableEq, Repr

/-- A copy arriving at this end (R362): its pieces so far. -/
structure RxCopy where
  seq : W32
  dst : Nat
  len : Nat
  next : Nat
  tally : Word
  /-- the posted receive it fills: queue and SEQ of MSG_RECV_POST, its length and the message's length -/
  recv : Option (Nat × W32 × Nat × Nat)
  tag : Word
  /-- this end requested the copy (a GET): the copy it belongs to -/
  getId : Option Nat
  deriving DecidableEq, Repr

/-- A posted receive (R366). -/
structure Recv where
  q : Nat
  seq : W32
  dst : Nat
  tag : Word
  mask : Word
  len : Nat
  tally : Word
  deriving DecidableEq, Repr

/-- A context entry (R349). -/
structure Ctx where
  peerNode : BitVec 13
  peerSpan : W16
  tag : W16
  epoch : Byte
  st : CtxSt
  peerCtx : BitVec 20
  timeoutUs : W32
  sendSeq : W32
  lowUnack : W32
  exec : W32
  execMap : W16
  retries : BitVec 4
  tally : Word
  key : W32
  late : W16
  resends : W16
  /-- requests sent, oldest first (OUTSTANDING is the number not yet answered) -/
  reqs : List Req
  /-- requests that wait for a credit, oldest first (R354) -/
  queue : List Req
  /-- reply slots 0–15 (R355) -/
  slots : SMap ReplySlot
  rxCopies : List RxCopy
  recvs : List Recv
  /-- counter value at CTX_OPEN and at the last BIND (R350) -/
  bindStart : Nat
  bindLast : Nat
  /-- the CTX_OPEN command (R350) -/
  cmd : Option (Nat × W32)
  /-- counter value of the last QUERY round (R356) -/
  queryLast : Nat
  deriving DecidableEq, Repr

/-- What started a copy. -/
inductive CopyOrigin where
  | command (q : Nat) (seq : W32)
  | unit (job : Nat) (lc : Nat) (unit : W16)
  | message (q : Nat) (seq : W32)
  | snapshot (job : Nat)
  /-- bytes of a candidate's image fetched for a restore: job slot and 4096 × candidate + entry (R389) -/
  | restore (job : Nat) (idx : Nat)
  | responder
  /-- the Span result of a reduction, written by the root (R365) -/
  | reduction (job : Nat) (red : W16)
  deriving DecidableEq, Repr

/-- A copy this node sends pieces of or requests (R360 to R362). -/
structure Copy where
  id : Nat
  origin : CopyOrigin
  tag : W16
  epoch : Byte
  src : Nat
  dst : Nat
  len : Nat
  ctx : Nat
  /-- sequence number of its COPY_OPEN or MSG -/
  seq : W32
  /-- bytes acknowledged -/
  acked : Nat
  /-- the responder has accepted the opening request -/
  opened : Bool
  /-- bytes the peer will accept (a truncated message) -/
  limit : Nat
  /-- counter value at the last progress and resends since it -/
  t0 : Nat
  tries : Nat
  /-- the bytes themselves where the source is a reduction's result and not memory (R365) -/
  data : List Byte
  /-- the tally target that its pieces increment at this end (a copy that this node receives, R360) -/
  tally : Word
  /-- NOT_APPLIED resolutions of its opening request (R386) -/
  redo : Nat
  deriving DecidableEq, Repr

/-! ## Reductions (R276 to R283, R364, R365) -/

/-- The fields that every contribution of a reduction must share (R364). -/
structure RedKey where
  kind : Nat
  len : Nat
  dst : Word
  tally : Word
  clFirst : Nat
  clCount : Nat
  mask : W16
  rflags : Byte
  deriving DecidableEq, Repr

/-- A partial at a place of the Confluence tree (R277): FP32 codes, or grid values with state bytes. -/
structure Partial where
  /-- 0 core, 1 cluster, 2 region, 3 die, 4 node, 5 Span -/
  level : Nat
  /-- number of the child at its level -/
  child : Nat
  vals : List Int
  states : List Byte
  deriving DecidableEq, Repr

/-- A reduction in progress on the node (R364, R365). -/
structure Reduction where
  job : Nat
  id : W16
  key : RedKey
  /-- logical core index 16l + k and unit number of each contribution -/
  contributed : List (Nat × W16)
  /-- partials delivered and not yet folded -/
  waiting : List Partial
  /-- fast mode and grid: the running sum of a Confluence, by level and number -/
  running : List Partial
  /-- children folded so far at each Confluence: (level, confluence, child) -/
  folded : List (Nat × Nat × Nat)
  /-- the context of the first contribution's descriptor, for a DST on another node -/
  ctx : Option Nat
  /-- the node result has been sent or written -/
  done : Bool
  deriving DecidableEq, Repr

/-- RED_PIECE bytes received of a child node's result (R365). -/
structure RedIn where
  job : Nat
  id : W16
  node : Nat
  bytes : List Byte
  /-- the piece with LAST has come -/
  full : Bool
  deriving DecidableEq, Repr

/-! ## Snapshots (R374 to R394) -/

/-- Page states of R382; a page without an entry is DONE. -/
inductive PageSt where
  | frozen | copying | staged
  deriving DecidableEq, Repr

/-- A frozen 64 KiB job-space page (R382): its job slot, its state, and its bytes as they stood at the cut once a write
or the engine has staged it: (offset, byte) pairs, unlisted bytes 0. -/
structure PageRec where
  job : Nat
  st : PageSt
  copy : List (Nat × Byte)
  deriving DecidableEq, Repr

/-- A page of the snapshot's stream (R383): bytes staged at the cut (state pages, Shale and Pool regions) or a job-space
page read later. -/
structure StreamPage where
  staged : Option (List Byte)
  /-- job-space page (64 KiB index) -/
  page : Option Nat
  /-- bytes of this page that belong to the shard -/
  len : Nat
  /-- index of its shard; none for a state page -/
  shard : Option Nat
  /-- this node sends it (R384) -/
  send : Bool
  digest : Option Digest
  sent : Bool
  deriving DecidableEq, Repr

/-- A shard descriptor (R379), its 128 bytes. -/
structure Shard where
  bytes : List Byte
  diverged : Bool
  digestOnly : Bool
  deriving DecidableEq, Repr

/-- PHASE of SNP.JOB_STATE (R394). -/
inductive SnapPhase where
  | idle | want | copying | verdict | sealing | restoring
  deriving DecidableEq, Repr

/-- Where a restore stands: the manifests' headers being fetched, the manifests being fetched, the vote, the chosen
candidate's pages being fetched, and the vote after the load (R389). -/
inductive RestoreSt where
  | heads | manifests | vote | loading | confirm
  deriving DecidableEq, Repr

/-- A restore in progress (R388 to R390). -/
structure Restore where
  q : Nat
  seq : W32
  /-- its parameter block -/
  block : List Byte
  st : RestoreSt
  /-- candidates that stand at this node -/
  cands : Nat
  chosen : Option Nat
  /-- images of which a fetch failed: 4096 × candidate + entry -/
  bad : List Nat
  /-- the load failed here -/
  failed : Bool
  /-- a status that this node's load ended with beside a failed digest, 0 for none -/
  status : Nat
  /-- this node has sent its RESTORE_UP of the vote under way -/
  upSent : Bool
  deriving DecidableEq, Repr

/-- A set of tokens received from the children of the Span tree and not yet combined (R376). -/
structure TokenSet where
  fence : List (Nat × Token)
  verdict : List (Nat × Token)
  restore : List (Nat × Token)
  deriving DecidableEq, Repr

/-- Snapshot state of a job slot (R377 to R390, R394). -/
structure SnapJob where
  phase : SnapPhase
  /-- the SNAP_TAKE in progress -/
  cmd : Option (Nat × W32)
  /-- the block in use and the standing block (R378) -/
  block : List Byte
  standing : Option Nat
  /-- counter value and SCH.STEP at the last cut (R377) -/
  lastCut : Nat
  fencesSince : Nat
  /-- a trigger has fired and is pending -/
  trigger : Bool
  step : Word
  shards : List Shard
  seeds : List Word
  pages : List StreamPage
  statePages : Nat
  /-- the status with which the snapshot fails at this node, 0 while it does not (R386) -/
  fail : Nat
  last : Word
  restore : Option Restore
  tokens : TokenSet
  /-- this node has sent VERDICT_UP (R384) -/
  verdictSent : Bool
  /-- the manifest is being written (R385) -/
  sealed : Bool
  /-- the exchange of FENCE tokens outside a schedule (R377): 0 none, 1 due, 2 FENCE_UP sent -/
  rest : Nat
  deriving DecidableEq, Repr

/-! ## Time (R55, R403 to R405) -/

/-- The time counter and the servo (R55, R403, R404). OFFSET, SOURCE, HOPS, ROOT and ERR_NS are the registers of the
TIME block. -/
structure Clock where
  /-- the 64-bit time counter in ns; reset 0 (R403) -/
  now : Word
  /-- which of five successive reference edges comes next (R55); reset 0 -/
  phase : Nat
  /-- link of the beacons followed (R404); reset 0 -/
  beaconLink : Nat
  /-- counter value of the last beacon followed (R404); reset none -/
  beaconLast : Option Nat
  /-- counter value of the last servo step, from which the slew limit is counted (R404); reset 0 -/
  slewFrom : Nat
  deriving DecidableEq, Repr

/-! ## Voltage regions (R57 to R72) -/

/-- A region's state beyond its TEL registers; reset: all fields 0, none, false or empty. -/
structure Region where
  /-- setpoint that the point in force, or the raise under way, gives the region (M/s, or mV for a voltage loop) -/
  point : Nat
  /-- what re-planning has added to a voltage setpoint (R65), mV -/
  bump : Nat
  /-- thermal setpoint, none while not lowered (R62) -/
  thermal : Option Nat
  /-- power-limit setpoint, none while not lowered (R61) -/
  power : Option Nat
  /-- VHOLD (R70) -/
  vhold : Nat
  /-- highest temperature since the last ledger entry (R70), signed -/
  maxTemp : Int
  /-- successive re-plans at the ceiling below 810 M/s (R67) -/
  below810 : Nat
  /-- marked weak (R66) -/
  weak : Bool
  /-- tell-tale groups with a pending disable (R67) -/
  pendingDisable : List Nat
  /-- tell-tales the delay controller ignores (R67) -/
  ignored : List Nat
  deriving DecidableEq, Repr

/-- An ageing-ledger entry (R70). -/
structure LedgerEntry where
  seq : W32
  hours : W32
  mapVersion : W32
  cause : W32
  records : List Word
  deriving DecidableEq, Repr

/-! ## Granite (R429 to R447) -/

/-- An entry of the access policy table (R433). -/
structure PolicyEntry where
  base : Nat
  limit : Nat
  node : Bool
  read : Byte
  write : Byte
  tag : W16
  deriving DecidableEq, Repr

/-- An admission-list entry (R333). -/
structure AdmitEntry where
  digest : Digest
  encrypt : Bool
  deriving DecidableEq, Repr

/-- A key slot (R439). -/
structure KeySlot where
  usage : Nat
  loaded : Bool
  tag : W16
  epoch : Byte
  key : List Byte
  ident : List Byte
  deriving DecidableEq, Repr

/-- The protection record (R438). -/
structure Protection where
  /-- valid entries by index 0–63 -/
  policy : SMap PolicyEntry
  /-- master enables, bits 0–6 (R434) -/
  enables : Byte
  admitted : List AdmitEntry
  /-- usages of slots 2–63 and the authority keys in slots 0 and 1 -/
  usages : SMap Nat
  authority : SMap KeySlot
  prot : W32
  deriving DecidableEq, Repr

/-- A mailbox request in progress (R435): its 64-byte block. -/
structure MbxReq where
  block : List Byte
  deriving DecidableEq, Repr

/-- What the two flashes hold (R438, R456); no reset changes it (R461). -/
structure Flash where
  setA : List Byte
  setB : List Byte
  /-- BOOT_SEL: false set A, true set B -/
  bootSel : Bool
  /-- anti-rollback counters for TYPE 0–3 -/
  svn : List W16
  config : W32
  map : UnitMap
  protection : Protection
  protDigest : Digest
  /-- retirement table (R307) -/
  retire : SMap RetireEntry
  /-- repair log (R306): rows by pseudo-channel -/
  repairLog : List (Nat × Nat)
  /-- ledger entries, newest first (R70), and the first entry after manufacture -/
  ledger : List LedgerEntry
  ledgerFirst : Option LedgerEntry
  identityKey : List Byte
  chain : List Byte
  deriving DecidableEq, Repr

/-- Which Granite pairs live and which serves (R429). -/
structure Pairs where
  lockstep : Bool
  standby : Bool
  standbyServing : Bool
  deriving DecidableEq, Repr

/-- Granite's own state (R429, R430). -/
structure Granite where
  pairs : Pairs
  bootSet : Bool
  bundle : List W16
  bundleDigest : Digest
  keys : SMap KeySlot
  /-- live nonces, oldest first, at most four (R441) -/
  nonces : List Digest
  debug : Byte
  mbx : SMap MbxReq
  /-- the order in which requests in progress were submitted (R435) -/
  mbxOrder : List Nat
  /-- GRN.MBX_STATUS less BUSY, by master -/
  mbxLast : SMap Word
  deriving DecidableEq, Repr

/-! ## Host port and package (R448 to R481) -/

/-- An HDM-DB line tracked in the snoop filter (R451): its number, and the counter value when BISnpInv was sent for a
write that waits, if one was. -/
structure SnoopLine where
  line : Nat
  snooped : Option Nat
  deriving DecidableEq, Repr

/-- The host port (R448 to R453). The IDE stream states are in HST.IDE_STATE. -/
structure HostPort where
  /-- Mode of HST.LINK; reset down. -/
  mode : HostMode
  /-- Width of HST.LINK; reset 0. -/
  width : Nat
  /-- component and MSI-X registers of BAR2 (R449), by offset of 8-byte words; reset 0 -/
  bar2 : SMap Word
  /-- the MSI-X table is enabled (R449); reset false -/
  msixEnabled : Bool
  /-- the host has committed an HDM decoder (R451, R461); reset false -/
  hdmCommitted : Bool
  /-- IDE keys loaded: (stream, direction, set) (R452); reset none -/
  ideKeys : List (Nat × Nat × Nat)
  /-- the host has enabled the stream (R452): CXL.io and CXL.cachemem; reset false -/
  ideEnabled : List Bool
  /-- tracked lines of the snoop filter, oldest first (R451); reset none -/
  snoop : List SnoopLine
  /-- counter value when Detect was last tried while down (R453); reset 0 -/
  detectLast : Nat
  /-- vectors pending while the MSI-X table is disabled (R449); reset none -/
  pba : List Nat
  deriving DecidableEq, Repr

/-- Power and boot of the package (R457 to R481). The boot stage and the reset counts are HST.BOOT and HST.RESET. -/
structure Package where
  /-- The 12 V input is within limits and the tiles are up (R473); reset false. -/
  power : Bool
  /-- REFCLK_156 is present (R478); reset false. -/
  refclk : Bool
  /-- PERST_N is asserted (R457 step 4); reset true. -/
  perst : Bool
  /-- Counter value at PERST_N deassertion (R458); reset 0. -/
  perstAt : Nat
  /-- Failed phases of each tile (R421, R471); reset 0. -/
  phases : SMap Nat
  /-- Node loss (R412); reset false. -/
  lost : Bool
  /-- Dispatch cores that have failed since boot (R90). -/
  dispatchFailed : List Nat
  /-- P-die application cores that have failed since boot (R423). -/
  pdieFailed : List Nat
  deriving DecidableEq, Repr

/-- Continuity counts of the health record (R428). -/
structure Health where
  transient : W32
  coreRemaps : W32
  clusterRemaps : W32
  noSpareEnds : W32
  lastEvent : Word
  deriving DecidableEq, Repr

/-- Image broadcast state of one image (R396, R397). -/
structure Broadcast where
  tag : W16
  epoch : Byte
  /-- CHUNKS of the manifest -/
  chunks : Nat
  /-- the lowest chunk not yet verified -/
  lowest : Nat
  /-- counter value when the manifest or the chunk before `lowest` was verified, or at the last request -/
  since : Nat
  deriving DecidableEq, Repr

/-- What a health summary holds (R406). -/
structure HealthSummary where
  node : Nat
  span : Nat
  /-- open job slots with their tags and epochs -/
  jobs : List (Nat × W16 × Byte)
  mapVersion : W32
  marginMin : Word
  therm : Word
  source : Nat
  hops : Nat
  /-- blocks with an event flag set, by number (bits 29:24 of the block's base) -/
  events : List Nat
  /-- STATE of R428 (R412) -/
  state : Nat
  deriving DecidableEq, Repr

/-- What an SPDM response says, as far as R444 gives it; the message formats are those of SPDM 1.3. -/
inductive SpdmResponse where
  /-- VERSION: 1.3 -/
  | version (major minor : Nat)
  /-- CAPABILITIES: CERT, CHAL, MEAS with signature -/
  | capabilities (cert chal meas : Bool)
  /-- ALGORITHMS: signing and hashing -/
  | algorithms (sm2 sm3 : Bool)
  /-- DIGESTS: of the chain in slot 0 -/
  | digests (slot0 : Digest)
  /-- CERTIFICATE: the chain of slot 0 -/
  | certificate (chain : List Byte)
  /-- CHALLENGE_AUTH: the chain's digest, the digest of the measurements, and the signature -/
  | challengeAuth (slot0 measurements : Digest) (sig : List Byte)
  /-- MEASUREMENTS: measurements 1 to 7 and the signature -/
  | measurements (ms : List Digest) (sig : List Byte)
  deriving DecidableEq, Repr

/-- What the node has put on its outward interfaces. -/
inductive Out where
  /-- MSI-X message to the host (R93) -/
  | msix (vector : Nat)
  /-- message-signalled interrupt to the P-die: core, level, identity (R93) -/
  | pmsi (core level id : Nat)
  /-- a flit on a link (R324): header word and bytes 8–247 -/
  | flit (link : Nat) (bytes : List Byte)
  /-- an admission message (R334) -/
  | admission (link : Nat) (step : Nat)
  /-- a DRAIN_DONE flit (R401) -/
  | drainDone (link : Nat) (tag : W16) (epoch : Byte)
  /-- a time beacon (R404) -/
  | beacon (link : Nat) (b : BeaconMsg)
  /-- a health summary to the tray controller (R406) -/
  | health (h : HealthSummary)
  /-- an answer of a management read (R455) -/
  | mgtRead (off : Nat) (v : Word)
  /-- an SPDM response (R444) -/
  | spdm (t : SpdmPath) (r : SpdmResponse)
  /-- THERM_TRIP_N driven low for at least 1 ms before the tiles shut down (R62, R477) -/
  | thermTrip
  /-- BISnpInv for a line (R451) -/
  | biSnp (line : Nat)
  /-- the answer to a host snoop or CXL.mem read (R450, R451): none is a miss or a poisoned read -/
  | cxl (data : Option (List Byte))
  /-- a chunk asked for from the grandparent (R397) -/
  | chunkRequest (chunk : Nat)
  deriving DecidableEq, Repr

/-- The whole node. -/
structure State where
  /-- Commands that wait, first in, first out (the block's queue; the model's own field); reset empty. -/
  pending : List Instr
  /-- Counter that the step applies the free values of Config to (the model's own field); reset 0. -/
  free : Nat
  /-- Control-space registers that store a value, by control-space offset; a register without an entry holds its
  reset value (R28 to R30 and the register sections); reset empty. -/
  regs : SMap Word
  /-- Memory: HBM3E, Shale, Pool and host memory, by physical address (`Machine/Memory.lean`); an unlisted byte
  reads 0 (R457 step 10, R461). -/
  mem : List Host.Cell
  /-- Check state of stored words and codewords (R291, R297); reset empty. -/
  errs : SMap ErrKind
  /-- Tallies, by 256 × (16l + k) + t (R100); reset 0. -/
  tallies : SMap Nat
  queues : SMap Queue
  /-- Started commands not yet answered, oldest first (R78). -/
  started : List Started
  /-- Wait counts of the four priority levels (R79) and the queue each level served last. -/
  waits : List Nat
  lastServed : List Nat
  jobs : SMap JobSlot
  tables : SMap TableSlot
  placement : Option Placement
  cores : SMap Core
  tracked : SMap Tracked
  batches : List Batch
  reservations : List Reservation
  pcs : SMap Pc
  /-- pseudo-channels due a map-out or migrating, oldest first (R308, R309); reset empty. -/
  mapOutQueue : List Nat
  /-- MEM.STATE PENDING (R310). -/
  mapPending : Nat
  links : SMap Link
  /-- Job filter entries, by 256 × link + entry (R398); reset CLOSED. -/
  filters : SMap FilterEntry
  ctxs : SMap Ctx
  copies : List Copy
  nextCopy : Nat
  reductions : List Reduction
  redIn : List RedIn
  /-- Packets handed to the link layer, oldest first (R342, R352). -/
  tx : List Packet
  /-- Packets the links have delivered, oldest first: link and packet (R352). -/
  rx : List (Nat × Packet)
  snaps : SMap SnapJob
  /-- Frozen 64 KiB job-space pages by page number (R382); a page without an entry is DONE. -/
  pages : SMap PageRec
  /-- Writes held by a full staging area (R382) or for a host-tracked line (R451): address and bytes, oldest first. The
  node's own reads see them (R4, R115). -/
  heldWrites : List (Nat × List Byte)
  /-- Staging pages in use and most in use (SNP.STAGE). -/
  stageUsed : Nat
  stagePeak : Nat
  clock : Clock
  regions : SMap Region
  /-- Operating point in force (R60), encoded as in TEL.OP_STATE; reset 1. -/
  point : Nat
  /-- The point being applied (R60); reset none. -/
  change : Option Nat
  /-- The request that awaits application (R60); reset none. -/
  request : Option Nat
  /-- Thermal holds in force (R62): the region that began each, and the counter value; reset none. -/
  hold : List (Nat × Nat)
  /-- Counter value of the last ledger entry (R70), from which powered hours are counted; reset 0. -/
  ledgerAt : Nat
  granite : Granite
  flash : Flash
  hostPort : HostPort
  package : Package
  health : Health
  broadcasts : List Broadcast
  /-- Everything sent outward, newest first (the model's own field); reset empty. -/
  out : List Out
  deriving DecidableEq, Repr

/-! ## Values at reset -/

/-- A queue at reset: DISABLED, every count and register 0 (R78, R108). -/
def Queue.zero : Queue :=
  ⟨.disabled, 0, 0, 0, 0, 0, 0, 0, 0, false, [], [], none⟩

/-- A pseudo-channel at reset: in service, nothing counted (R316). -/
def Pc.zero : Pc := ⟨.inService, 0, [], [], none, .inService⟩

/-- A grid element of a cleared tile (R190). -/
def Elem.zero : Elem := ⟨0, 0, false, 0, 0⟩

/-- A cleared tile: a grid tile of anchor 0 with every element 0 (R190). -/
def Tile.zero : Tile := ⟨false, 0, [], 0, 0xFFFF, 0xFFFFFFFF⟩

/-- CSRs of an idle core (R112, R137, R164). -/
def Csrs.zero : Csrs := ⟨0, 0, 0, 64, 0, 0, 0, 0, 0, [], 0, 0, 0⟩

/-- An idle core with nothing held (R111, R208). -/
def Core.zero : Core :=
  { phase := .idle, unit := none, pc := 0, g := [], f := [], p := [], csrs := Csrs.zero, ident := [0, 0, 0, 0, 0],
    sigq := [], tiles := [], stream := 0, record := 0, versions := [], nextVersion := 1, versionsAtIssue := [],
    nextVersionAtIssue := 1, journalPos := 0, recUpdates := [], trackUpdates := [], vbuf := [],
    checkDue := false }

/-- A link at reset: DOWN, nothing held (R321, R347). -/
def Link.zero : Link :=
  { st := .down, gen := 0, lanes := 0, encrypted := false, qcause := 0, partner := none, partnerLeaf := 0,
    trainStart := 0, retryFrom := none, admission := none, sendSeq := 0, expect := 0, nakSent := false,
    eddy := [], ackTime := 0, resends := 0, fastRetrain := none, avail := [0, 0, 0, 0, 0, 0, 0, 0],
    rxUsed := [0, 0, 0, 0, 0, 0, 0, 0], rxReturn := [0, 0, 0, 0, 0, 0, 0, 0], windowCount := [0, 0, 0, 0, 0, 0, 0, 0],
    sentCount := [0, 0, 0, 0, 0, 0, 0, 0], rxBytes := [[], [], [], [], [], [], [], []],
    txBytes := [[], [], [], [], [], [], [], []], keyCount := 0, txEpoch := 0, rxEpoch := 0, ivCount := 0, ivRx := 0,
    eyeBelow := [0, 0], beaconTx := 0, beaconRx := 0 }

/-- A job filter entry at reset: CLOSED (R398). -/
def FilterEntry.zero : FilterEntry := ⟨0, 0, .closed, false⟩

/-- A context entry at reset: CLOSED, every field 0 (R349). -/
def Ctx.zero : Ctx :=
  { peerNode := 0, peerSpan := 0, tag := 0, epoch := 0, st := .closed, peerCtx := 0, timeoutUs := 0, sendSeq := 0,
    lowUnack := 0, exec := 0, execMap := 0, retries := 0, tally := 0, key := 0, late := 0, resends := 0, reqs := [], queue := [],
    slots := [], rxCopies := [], recvs := [], bindStart := 0, bindLast := 0, cmd := none, queryLast := 0 }

/-- Snapshot state of a job slot at reset (R394). -/
def SnapJob.zero : SnapJob :=
  { phase := .idle, cmd := none, block := [], standing := none, lastCut := 0, fencesSince := 0, trigger := false,
    step := 0, shards := [], seeds := [], pages := [], statePages := 0, fail := 0, last := 0, restore := none,
    tokens := ⟨[], [], []⟩, verdictSent := false, sealed := false, rest := 0 }

/-- A region before Granite has set it (R57). -/
def Region.zero : Region := ⟨0, 0, none, none, 0, 0, 0, false, [], []⟩

/-- A disabled-unit map that marks nothing (R15, R17). -/
def UnitMap.empty : UnitMap := ⟨0, [], [], [], [], [], [], []⟩

/-- Entry 62 or 63 of the factory policy table: one whole space, every master, read and write (R433). -/
def PolicyEntry.whole (node : Bool) : PolicyEntry := ⟨0, 0xFFFFFFFFFFFFFFFF, node, 0xFF, 0xFF, 0⟩

/-- The factory protection record: the two whole-space entries and every master enabled (R433, R434, R442). -/
def Protection.factory : Protection :=
  { policy := [(62, PolicyEntry.whole false), (63, PolicyEntry.whole true)], enables := 0x7F, admitted := [], usages := [],
    authority := [], prot := 0 }

/-- The flashes of a node fresh from the factory (R438, R442); what manufacture puts there is no value of this model (log
entry 2). -/
def Flash.factory : Flash :=
  { setA := Config.factorySet false, setB := Config.factorySet true, bootSel := false, svn := [0, 0, 0, 0], config := 0, map := UnitMap.empty,
    protection := Protection.factory, protDigest := 0, retire := [], repairLog := [], ledger := [], ledgerFirst := none,
    identityKey := Config.identityKey, chain := Config.deviceChain }

/-- Granite before its ROM runs (R429, R447). -/
def Granite.zero : Granite :=
  { pairs := ⟨true, true, false⟩, bootSet := false, bundle := [0, 0, 0], bundleDigest := 0, keys := [], nonces := [],
    debug := 0, mbx := [], mbxOrder := [], mbxLast := [] }

/-- The host port before training (R448, R466). -/
def HostPort.zero : HostPort :=
  { mode := .down, width := 0, bar2 := [], msixEnabled := false, hdmCommitted := false, ideKeys := [],
    ideEnabled := [false, false], snoop := [], detectLast := 0, pba := [] }

/-- The package before the input is within limits (R457, R473, R480). -/
def Package.zero : Package :=
  { power := false, refclk := false, perst := true, perstAt := 0, phases := [], lost := false, dispatchFailed := [], pdieFailed := [] }

/-- The node right after a cold reset, before step 1 of R457: every register at its reset value, every queue DISABLED,
no job, no placement, memory with nothing listed. -/
def State.reset : State :=
  { pending := [], free := 0, regs := [], mem := [], errs := [], tallies := [], queues := [], started := [],
    waits := [0, 0, 0, 0], lastServed := [4095, 4095, 4095, 4095], jobs := [], tables := [], placement := none,
    cores := [], tracked := [], batches := [], reservations := [], pcs := [], mapOutQueue := [], mapPending := 0,
    links := [], filters := [], ctxs := [], copies := [], nextCopy := 0, reductions := [], redIn := [], tx := [], rx := [],
    snaps := [], pages := [], heldWrites := [], stageUsed := 0, stagePeak := 0,
    clock := { now := 0, phase := 0, beaconLink := 0, beaconLast := none, slewFrom := 0 },
    regions := [], point := 1, change := none, request := none, hold := [], ledgerAt := 0, granite := Granite.zero,
    flash := Flash.factory, hostPort := HostPort.zero, package := Package.zero,
    health := { transient := 0, coreRemaps := 0, clusterRemaps := 0, noSpareEnds := 0, lastEvent := 0 },
    broadcasts := [], out := [] }

/-- Why the machine stops with a fault. -/
inductive Fault where
  /-- Raised by `step` for a command whose operands no hardware could bring (`Instr.wellFormed` is false): safe, the
  machine stops where the hardware has no such event. -/
  | illFormed
  deriving DecidableEq, Repr

/-- Why a command has no meaning. -/
inductive Refusal where
  /-- Raised by `exec` for a row that has no meaning yet, with its mnemonic: safe, nothing is claimed of it. -/
  | notModelled (mnemonic : String)
  deriving DecidableEq, Repr

end Sys2Proof.Machine
end

