-- ==== Sys2Proof/Machine/Regs.lean ====
section
/-! DEFINITION. The named operations over the parts of the state: registers and their fields (R9), event flags (R11,
R12), and the units kept in sparse collections. -/

namespace Sys2Proof.Machine

/-- The stored value of a register (R9). -/
def State.reg (s : State) (t : RegTag) (is : List Nat := []) : Word := mget (t.resetAt is) s.regs (t.off is)

/-- A register's stored value replaced. -/
def State.setReg (s : State) (t : RegTag) (is : List Nat) (v : Word) : State :=
  { s with regs := mset (t.resetAt is) s.regs (t.off is) v }

/-- A field hi:lo of a register. -/
def State.getF (s : State) (t : RegTag) (is : List Nat) (hi lo : Nat) : Nat := fld (s.reg t is) hi lo

/-- A field hi:lo of a register replaced. -/
def State.setF (s : State) (t : RegTag) (is : List Nat) (hi lo v : Nat) : State :=
  s.setReg t is (BitVec.ofNat 64 (putBits (s.reg t is).toNat hi lo v))

/-- An event: its flag is set and its counter goes up by one, saturating (R11, R12). -/
def State.raise (s : State) (e : Ev) (is : List Nat := []) : State :=
  let (r, b, c) := e.info
  let ci := is.take c.info.dims.length
  let s := s.setReg r is (s.reg r is ||| BitVec.ofNat 64 (2 ^ b))
  s.setReg c ci (BitVec.ofNat 64 (satInc 64 (s.reg c ci).toNat))

/-- The time counter (R55). -/
def State.now (s : State) : Nat := s.clock.now.toNat

/-- The AXL transmitters are electrically idle: at node loss (R412), and before Granite releases the dies (R457, R464). -/
def State.axlIdle (s : State) : Bool := s.package.lost || s.getF .hstBoot [] 63 61 < 3

/-- Something a link's transmitter sends. -/
def Out.onLink : Out → Bool
  | .flit _ _ | .admission _ _ | .drainDone _ _ _ | .beacon _ _ => true
  | _ => false

/-- Something sent outward; an idle AXL transmitter sends nothing (R412, R464). -/
def State.emit (s : State) (o : Out) : State := if o.onLink && s.axlIdle then s else { s with out := o :: s.out }

/-- A fresh free value: the counter that Config's free values are applied to moves on (log entry 3). -/
def State.bump (s : State) : State := { s with free := s.free + 1 }

/-- A queue (R73). -/
def State.queue (s : State) (q : Nat) : Queue := mget Queue.zero s.queues q
/-- LOG2 of a ring register (R108). -/
def ringLog2 (w : Word) : Nat := fld w 4 0
/-- CPRODUCER − CQ.CH has reached the completion ring's size (R81). -/
def Queue.cringFull (q : Queue) : Bool := (q.cproducer - q.consumed).toNat == 2 ^ ringLog2 q.cring
/-- Priority of a queue (R73, R108). -/
def Queue.priority (q : Queue) : Nat := fld q.ctrl 5 4
/-- A queue has a command that takes part in the choice of R79: ACTIVE, not being reset or destroyed, with a slot ready
and room in its completion ring (R78, R81). -/
def Queue.ready (q : Queue) : Bool :=
  q.st == .active && !q.stopping && q.producer != q.consumer && q.held.isEmpty && !q.cringFull

/-- A queue replaced; the wait count of a level without a command that takes part in the choice is 0 (R79). -/
def State.setQueue (s : State) (q : Nat) (v : Queue) : State :=
  let qs := mset Queue.zero s.queues q v
  { s with
    queues := qs
    waits := s.waits.mapIdx (fun l n => if qs.any (fun e => e.2.ready && e.2.priority == l) then n else 0) }

/-- A physical core, index 17p + core (R17). -/
def State.core (s : State) (c : Nat) : Core := mget Core.zero s.cores c
/-- A physical core replaced. -/
def State.setCore (s : State) (c : Nat) (k : Core) : State := { s with cores := mset Core.zero s.cores c k }

/-- A pseudo-channel (R295). -/
def State.pc (s : State) (p : Nat) : Pc := mget Pc.zero s.pcs p
/-- A pseudo-channel replaced. -/
def State.setPc (s : State) (p : Nat) (v : Pc) : State := { s with pcs := mset Pc.zero s.pcs p v }

/-- A link (R317). -/
def State.link (s : State) (n : Nat) : Link := mget Link.zero s.links n
/-- A link replaced. -/
def State.setLink (s : State) (n : Nat) (v : Link) : State := { s with links := mset Link.zero s.links n v }

/-- A job filter entry of a link (R398). -/
def State.filter (s : State) (n e : Nat) : FilterEntry := mget FilterEntry.zero s.filters (256 * n + e)
/-- A job filter entry replaced. -/
def State.setFilter (s : State) (n e : Nat) (v : FilterEntry) : State :=
  { s with filters := mset FilterEntry.zero s.filters (256 * n + e) v }

/-- A context entry (R349). -/
def State.ctx (s : State) (x : Nat) : Ctx := mget Ctx.zero s.ctxs x
/-- A context entry replaced. -/
def State.setCtx (s : State) (x : Nat) (v : Ctx) : State := { s with ctxs := mset Ctx.zero s.ctxs x v }

/-- Snapshot state of a job slot (R394). -/
def State.snap (s : State) (j : Nat) : SnapJob := mget SnapJob.zero s.snaps j
/-- Snapshot state of a job slot replaced. -/
def State.setSnap (s : State) (j : Nat) (v : SnapJob) : State := { s with snaps := mset SnapJob.zero s.snaps j v }

/-- A voltage region (R57). -/
def State.region (s : State) (r : Nat) : Region := mget Region.zero s.regions r
/-- A voltage region replaced. -/
def State.setRegion (s : State) (r : Nat) (v : Region) : State := { s with regions := mset Region.zero s.regions r v }

/-- An open job's slot, none where the slot is free (R109). -/
def State.job (s : State) (j : Nat) : Option JobSlot := mfind s.jobs j
/-- An open job's slot replaced. -/
def State.setJob (s : State) (j : Nat) (v : JobSlot) : State := { s with jobs := minsert s.jobs j v }

/-- The slot of the open job with a tag and epoch (R86). -/
def State.findJob (s : State) (tag : W16) (epoch : Byte) : Option (Nat × JobSlot) :=
  s.jobs.find? (fun e => e.2.tag == tag && e.2.epoch == epoch)

/-- A tally of a logical core (R100): 256 × (16l + k) + t. -/
def State.tally (s : State) (l k t : Nat) : Nat := mget 0 s.tallies (256 * (16 * l + k) + t)
/-- A tally replaced. -/
def State.setTally (s : State) (l k t v : Nat) : State :=
  { s with tallies := mset 0 s.tallies (256 * (16 * l + k) + t) v }

/-- The node's own number; 0x1FFF while it has none (R25, R395). -/
def State.nodeNo (s : State) : Nat := s.getF .timeNodeId [] 12 0
/-- The node's Span number (R395). -/
def State.spanNo (s : State) : Nat := s.getF .timeNodeId [] 47 32

/-- The node field names this node (R25). -/
def State.isSelf (s : State) (node : Nat) : Bool := node == 0x1FFF || node == s.nodeNo

/-- The node field is a reserved value (R24): 4,096 to 8,190. -/
def reservedNode (node : Nat) : Bool := 4096 ≤ node && node ≤ 8190

/-- The state of a physical cluster in the disabled-unit map (R17). -/
def UnitMap.cluster (m : UnitMap) (p : Nat) : ClusterSt := mget ClusterSt.good m.clusters p

/-- A cluster's state is disabled, or reserved, which is treated as disabled (R17). -/
def UnitMap.clusterOff (m : UnitMap) (p : Nat) : Bool := m.cluster p = .disabled || m.cluster p = .reserved

/-- The enabled cores of a physical cluster, rising (R17, R18). -/
def UnitMap.coresOf (m : UnitMap) (p : Nat) : List Nat := (List.range 17).filter (fun c => !m.cores.contains (17 * p + c))

/-- A physical cluster is placeable (R18). -/
def UnitMap.placeable (m : UnitMap) (p : Nat) : Bool :=
  (m.cluster p = .good || m.cluster p = .weak) && 16 ≤ (m.coresOf p).length

/-- A change of the disabled-unit map: the version goes up by one, saturating, and a new service section is written
(R19, R438). -/
def State.changeMap (s : State) (f : UnitMap → UnitMap) : State :=
  let m := f s.flash.map
  { s with flash := { s.flash with
      map := { m with version := BitVec.ofNat 32 (satInc 32 s.flash.map.version.toNat) },
      config := BitVec.ofNat 32 (satInc 32 s.flash.config.toNat) } }

/-- Another write of the service section that leaves the map as it is (R438). -/
def State.bumpConfig (s : State) : State :=
  { s with flash := { s.flash with config := BitVec.ofNat 32 (satInc 32 s.flash.config.toNat) } }

/-- A core's disable bit set (R17, R19). -/
def UnitMap.disableCore (m : UnitMap) (c : Nat) : UnitMap := { m with cores := sinsert m.cores c }

/-- A cluster's state set to disabled (R18, R19). -/
def UnitMap.disableCluster (m : UnitMap) (p : Nat) : UnitMap := { m with clusters := minsert m.clusters p .disabled }

/-- A good cluster's state set to weak; a weak or disabled one stays (R19, R66). -/
def UnitMap.weaken (m : UnitMap) (p : Nat) : UnitMap :=
  if m.cluster p = .good then { m with clusters := minsert m.clusters p .weak } else m

/-! ## Access policy (R432 to R434) -/

/-- The master enable of a master; master 7 has none and is never checked (R433, R434). -/
def State.masterOn (s : State) (m : Nat) : Bool := m == 7 || tbit s.flash.protection.enables.toNat m

/-- The access policy table admits an access: decided by the lowest-numbered valid entry that covers its first byte, its
space and, for masters 5 and 6, its job (R433). `node` is true for the node address space. -/
def State.policy (s : State) (m : Nat) (node : Bool) (a : Nat) (rd wr : Bool) (tag : W16) : Bool :=
  m == 7 ||
  match s.flash.protection.policy.find? (fun e =>
      e.2.node == node && decide (e.2.base ≤ a) && decide (a ≤ e.2.limit) &&
      (!(m == 5 || m == 6) || e.2.tag == 0 || e.2.tag == tag)) with
  | none => false
  | some (_, e) => (!rd || tbit e.read.toNat m) && (!wr || tbit e.write.toNat m)

/-- An access is let through: a master whose enable is 0 is refused and counted (R434, R431), and the table decides the
rest (R433). -/
def State.allowed (s : State) (m : Nat) (node : Bool) (a : Nat) (rd wr : Bool) (tag : W16) : State × Bool :=
  if s.masterOn m then (s, s.policy m node a rd wr tag) else (s.raise .grnPolicyDenied, false)

/-- A refusal of a master whose enable is 0 is counted (R431, R434). -/
def State.refusedBy (s : State) (m : Nat) : State := if s.masterOn m then s else s.raise .grnPolicyDenied

/-! ## Placement (R20, R26, R109) -/

/-- The physical core that carries a logical core in a record (R109). -/
def PlaceRec.coreOf (r : PlaceRec) (k : Nat) : Nat := 17 * r.phys + nth 0 r.cores k

/-- The physical core on whose slice the Shale window of a logical core lies (R292). -/
def State.placedCore (s : State) (l k : Nat) : Option Nat :=
  match s.placement with
  | none => none
  | some p => (mfind p.place l).map (·.coreOf k)

/-- The physical core that serves a logical core now (R109). -/
def State.servingCore (s : State) (l k : Nat) : Option Nat :=
  match s.placement with
  | none => none
  | some p => (mfind p.serve l).map (·.coreOf k)

/-- The logical core a physical core serves (R139), as 16l + k. -/
def State.logicalOf (s : State) (c : Nat) : Option Nat :=
  match s.placement with
  | none => none
  | some p =>
    match p.serve.find? (fun e => e.2.phys == c / 17 && e.2.cores.contains (c % 17)) with
    | none => none
    | some (l, r) => some (16 * l + r.cores.idxOf (c % 17))

end Sys2Proof.Machine
end

