-- ==== Sys2Proof/Machine/Memory.lean ====
section
/-! DEFINITION. Memory (R26, R27, R291 to R300): the windows of the node address space, where each byte lies, and what
reads and writes do with words that carry an error.

Physical addresses of `State.mem`: HBM3E at its window offset; the Shale slice of physical core c (17p + core) at
2^41 + c × 2^19; its Pool at 2^42 + c × 2^16; host memory at 2^50 + host physical address; the node's own buffers from
2^51. A byte that is not listed
reads 0 (R457 step 10, R461; host memory: log entry 5). -/

namespace Sys2Proof.Machine

/-- The windows of R26. -/
inductive Window where
  | hbm | shale | pool | control | host
  /-- the node's own buffers, which no pointer of 51 bits names (the model's own; log entry 16) -/
  | buffer
  | bad
  deriving DecidableEq, Repr

/-- Window offsets of R26. -/
def hbmTop : Nat := 0x9000000000
def shaleBase : Nat := 0x10000000000
def shaleTop : Nat := 0x10140000000
def poolBase : Nat := 0x10200000000
def poolTop : Nat := 0x10228000000
def controlBase : Nat := 0x10300000000
def controlTop : Nat := 0x10340000000
def hostBase : Nat := 0x4000000000000
def hostTop : Nat := 0x8000000000000
/-- First offset of the node's own buffers, above every node offset (log entry 16). -/
def bufferBase : Nat := 2 ^ 51

/-- The populated window a node offset lies in (R26, R27). -/
def windowOf (o : Nat) : Window :=
  if o < hbmTop then .hbm
  else if shaleBase ≤ o && o < shaleTop then .shale
  else if poolBase ≤ o && o < poolTop then .pool
  else if controlBase ≤ o && o < controlTop then .control
  else if hostBase ≤ o && o < hostTop then .host
  else if bufferBase ≤ o then .buffer
  else .bad

/-- A range of node offsets lies in one populated window (R26). -/
def inWindow (w : Window) (o n : Nat) : Bool := windowOf o == w && windowOf (o + n - 1) == w

/-- Physical address of a byte of the Shale slice of a physical core. -/
def shaleAddr (c b : Nat) : Nat := 2 ^ 41 + c * 2 ^ 19 + b
/-- Physical address of a byte of the Pool of a physical core. -/
def poolAddr (c b : Nat) : Nat := 2 ^ 42 + c * 2 ^ 16 + b
/-- Physical address of a byte of host memory. -/
def hostAddr (h : Nat) : Nat := 2 ^ 50 + h

/-- The physical address of a node offset; none for an address error of R27 that does not depend on who asks, and for
the control space. -/
def State.phys (s : State) (o : Nat) : Option Nat :=
  match windowOf o with
  | .hbm => some o
  | .shale =>
    let r := o - shaleBase
    (s.placedCore (r / 2 ^ 23) (r / 2 ^ 19 % 16)).map (fun c => shaleAddr c (r % 2 ^ 19))
  | .pool =>
    let r := o - poolBase
    (s.servingCore (r / 2 ^ 20) (r / 2 ^ 16 % 16)).map (fun c => poolAddr c (r % 2 ^ 16))
  | .host => some (hostAddr (o - hostBase))
  | .buffer => some o
  | .control | .bad => none

/-- Cut a range of node offsets at multiples of a block. -/
def cutRange (blk : Nat) : Nat → Nat → Nat → List (Nat × Nat)
  | 0, _, _ => []
  | fuel + 1, o, n =>
    if n = 0 then []
    else
      let k := min n (blk - o % blk)
      (o, k) :: cutRange blk fuel (o + k) (n - k)

/-- The physical segments (address, length) of a range of node offsets inside one window; none for an address error. -/
def State.segments (s : State) (o n : Nat) : Option (List (Nat × Nat)) :=
  if n = 0 then some []
  else if !(windowOf o == windowOf (o + n - 1)) then none
  else
    let cuts := match windowOf o with
      | .shale => cutRange (2 ^ 19) (n / 2 ^ 19 + 2) o n
      | .pool => cutRange (2 ^ 16) (n / 2 ^ 16 + 2) o n
      | _ => [(o, n)]
    cuts.mapM (fun c => (s.phys c.1).map (fun a => (a, c.2)))

/-! ## Job space and the reserves (R299, R300) -/

/-- J of R299, the first byte of the repair reserve. -/
def State.jTop (s : State) : Nat := (s.reg .memReserveBase []).toNat

/-- A range of node offsets that a unit or a job command may reach (R27, R300): job space, Shale or Pool. -/
def State.jobReach (s : State) (o n : Nat) : Bool :=
  match windowOf o with
  | .hbm => o + n ≤ s.jTop
  | .shale | .pool => windowOf (o + n - 1) == windowOf o && s.placement.isSome
  | _ => false

/-! ## HBM3E interleave (R296) -/

/-- Pseudo-channel and local granule of an HBM3E window offset (R296). -/
def hbmMap (o : Nat) : Nat × Nat :=
  let g := o / 256
  let gr := g / 384
  let w := g % 384
  let a := w / 128
  let b := w % 128
  let h := (bits gr 6 0 ^^^ bits gr 13 7) ^^^ (bits gr 20 14 ^^^ bits gr 22 21)
  (128 * ((a + gr % 3) % 3) + (b ^^^ h), gr)

/-- Codeword number within its pseudo-channel: 4 × local granule + index. -/
def codeword (o : Nat) : Nat := 4 * (hbmMap o).2 + o / 64 % 4

/-- The bytes one check code covers at an address: 64 in HBM3E (R297), 8 in Shale and Pool (R291). -/
def eccUnit (a : Nat) : Nat := if a < 2 ^ 40 then 64 else 8

/-! ## Bytes -/

/-- n bytes of a memory from an address; an unlisted byte reads 0. -/
def memRead (m : List Host.Cell) (a n : Nat) : List Byte := (upFrom a n).map (mget 0#8 m)

/-- Bytes written to a memory from an address, in canonical form. -/
def memWrite : List Host.Cell → Nat → List Byte → List Host.Cell
  | m, _, [] => m
  | m, a, b :: bs => memWrite (mset 0#8 m a b) (a + 1) bs

/-- A range of a memory set to 0. -/
def memClear (m : List Host.Cell) (a n : Nat) : List Host.Cell := m.filter (fun c => c.1 < a || a + n ≤ c.1)

/-- The non-zero bytes of a range, by offset in it. -/
def memTake (m : List Host.Cell) (a n : Nat) : List (Nat × Byte) :=
  (m.filter (fun c => a ≤ c.1 && c.1 < a + n)).map (fun c => (c.1 - a, c.2))

/-- Bytes at offsets from an address written to a memory. -/
def memPut (m : List Host.Cell) (a : Nat) (cs : List (Nat × Byte)) : List Host.Cell :=
  cs.foldl (fun m c => mset 0#8 m (a + c.1) c.2) m

/-- The canonical form of a memory. -/
def Memory.wf (m : List Host.Cell) : Bool := mwf 0#8 m

/-- Memory as the node itself sees it: held writes (R382, R451) count as done (R4, R115). -/
def State.view (s : State) : List Host.Cell := s.heldWrites.foldl (fun m w => memWrite m w.1 w.2) s.mem

/-! ## Words with errors (R294, R298, R305) -/

/-- MEM.ERR_LAST for an uncorrectable location (R316). -/
def State.errLast (s : State) (a : Nat) : State :=
  let v :=
    if a < 2 ^ 40 then
      (hbmMap a).1 * 2 ^ 32 + codeword a
    else if a < 2 ^ 42 then
      2 ^ 63 + ((a - 2 ^ 41) / 2 ^ 19) * 2 ^ 32 + (a - 2 ^ 41) % 2 ^ 19 / 8
    else
      2 ^ 63 + 2 ^ 62 + ((a - 2 ^ 42) / 2 ^ 16) * 2 ^ 32 + (a - 2 ^ 42) % 2 ^ 16 / 8
  s.setReg .memErrLast [] (BitVec.ofNat 64 v)

/-- The row of an HBM3E codeword becomes failing (R305). -/
def State.failRow (s : State) (a : Nat) : State :=
  let (p, g) := hbmMap a
  let c := s.pc p
  s.setPc p { c with failing := sinsert c.failing (g / 4) }

/-- A correction of an HBM3E codeword: counted, written back and entered in the list of recent corrections (R298,
R305). -/
def State.correctHbm (s : State) (a : Nat) : State :=
  let s := { s with errs := merase s.errs a }
  let s := s.raise .memHbmCorrected
  let p := (hbmMap a).1
  let cw := codeword a
  let s := if (s.pc p).recent.contains cw then s.failRow a else s
  let c := s.pc p
  s.setPc p { c with corrected := satInc 32 c.corrected, recent := (cw :: c.recent).take 16 }

/-- A correction of a Shale or Pool word; one needed again after its write-back is a hard fault of the slice, which
disables the core above it from the next placement (R18, R294). -/
def State.correctSram (s : State) (a : Nat) (again : Bool) : State :=
  let s := ({ s with errs := merase s.errs a }).raise .memShaleCorrected
  if again then
    let c := if a < 2 ^ 42 then (a - 2 ^ 41) / 2 ^ 19 else (a - 2 ^ 42) / 2 ^ 16
    if s.flash.map.cores.contains c then s else s.changeMap (·.disableCore c)
  else s

/-- A read of a word or codeword that carries an error: what it does, and whether the data is delivered (R294, R298). -/
def State.readErr (s : State) (a : Nat) (e : ErrKind) : State × Bool :=
  if a < 2 ^ 40 then
    match e with
    | .correctable | .recorrect => (s.correctHbm a, true)
    | .uncorrectable => (((s.raise .memHbmUncorr).errLast a).failRow a, false)
    | .poison => (s, false)
  else
    match e with
    | .correctable => (s.correctSram a false, true)
    | .recorrect => (s.correctSram a true, true)
    | .uncorrectable | .poison => ((s.raise .memShaleUncorr).errLast a, false)

/-- A write of part of a word or codeword that carries an error (R294, R298). -/
def State.mergeErr (s : State) (a : Nat) (e : ErrKind) : State :=
  match e with
  | .correctable | .recorrect => (s.readErr a e).1
  | .poison => if a < 2 ^ 40 then s else (s.raise .memShaleUncorr).errLast a
  | .uncorrectable =>
    if a < 2 ^ 40 then
      let s := ((s.raise .memHbmUncorr).errLast a).failRow a
      { s with errs := minsert s.errs a .poison }
    else (s.raise .memShaleUncorr).errLast a

/-- The words with errors that a range touches. -/
def State.errsIn (s : State) (a n : Nat) : List (Nat × ErrKind) :=
  s.errs.filter (fun e => e.1 < a + n && a < e.1 + eccUnit e.1)

/-- A read of a physical range: corrections are made, and the answer is whether all of it is delivered. -/
def State.scan (s : State) (a n : Nat) : State × Bool :=
  (s.errsIn a n).foldl (fun r e => let t := r.1.readErr e.1 e.2; (t.1, r.2 && t.2)) (s, true)

/-- What a write of a physical range does to the check state of its words. -/
def State.rewriteErrs (s : State) (a n : Nat) : State :=
  (s.errsIn a n).foldl (fun s e =>
    if a ≤ e.1 && e.1 + eccUnit e.1 ≤ a + n then { s with errs := merase s.errs e.1 } else s.mergeErr e.1 e.2) s

/-! ## Reads and writes of physical ranges -/

/-- A read of n bytes: none where a word of it is not delivered (R294, R298). -/
def State.load (s : State) (a n : Nat) : State × Option (List Byte) :=
  let r := s.scan a n
  (r.1, if r.2 then some (memRead r.1.view a n) else none)

/-- Bytes written at once. -/
def State.put (s : State) (a : Nat) (bs : List Byte) : State :=
  let s := s.rewriteErrs a bs.length
  { s with mem := memWrite s.mem a bs }

/-- The staging pages (R394). -/
def stagePages : Nat := 131072

/-- A frozen page copied into staging (R382). -/
def State.stagePage (s : State) (p : Nat) (r : PageRec) : State :=
  { s with
    pages := minsert s.pages p { r with st := .staged, copy := memTake s.mem (p * 2 ^ 16) (2 ^ 16) }
    stageUsed := s.stageUsed + 1
    stagePeak := max s.stagePeak (s.stageUsed + 1) }

/-- A write that lies in one 64-byte line: held while its page is frozen and staging is full (R382), or while a host
cache holds its line (R451). -/
def State.storePart (s : State) (a : Nat) (bs : List Byte) : State :=
  let hold (s : State) : State := { s with heldWrites := s.heldWrites ++ [(a, bs)] }
  let frozen := a < 2 ^ 40 && (match mfind s.pages (a / 2 ^ 16) with
    | some r => r.st == PageSt.frozen
    | none => false)
  if frozen && stagePages ≤ s.stageUsed then (hold s).raise .snpStageFull
  else if frozen && s.heldWrites.any (fun w => w.1 / 2 ^ 16 == a / 2 ^ 16) then hold s
  else
    let s := match (if a < 2 ^ 40 then mfind s.pages (a / 2 ^ 16) else none) with
      | some r => if r.st == PageSt.frozen then s.stagePage (a / 2 ^ 16) r else s
      | none => s
    if a < 2 ^ 36 && s.hostPort.snoop.any (fun l => l.line == a / 64) then
      let sent := s.hostPort.snoop.any (fun l => l.line == a / 64 && l.snooped.isSome)
      let now := s.now
      let s := hold { s with hostPort := { s.hostPort with
        snoop := updFirst (fun l => l.line == a / 64 && l.snooped.isNone) (fun l => { l with snooped := some now })
          s.hostPort.snoop } }
      if sent then s else s.emit (.biSnp (a / 64))
    else s.put a bs

/-- Bytes cut at 64-byte lines. -/
def lineParts : Nat → Nat → List Byte → List (Nat × List Byte)
  | 0, _, _ => []
  | fuel + 1, a, bs =>
    if bs.isEmpty then []
    else
      let k := 64 - a % 64
      (a, bs.take k) :: lineParts fuel (a + k) (bs.drop k)

/-- A write of bytes by the node, by any path (R293, R298, R382, R451). -/
def State.store (s : State) (a : Nat) (bs : List Byte) : State :=
  if s.hostPort.snoop.isEmpty && s.pages.isEmpty then s.put a bs
  else (lineParts (bs.length / 64 + 2) a bs).foldl (fun s p => s.storePart p.1 p.2) s

/-- No frozen page and no host-tracked line in a range, so that a write of it is not held. -/
def State.quiet (s : State) (a n : Nat) : Bool :=
  !(s.pages.any (fun p => p.2.st == PageSt.frozen && p.1 * 2 ^ 16 < a + n && a < (p.1 + 1) * 2 ^ 16)) &&
  !(s.hostPort.snoop.any (fun l => l.line * 64 < a + n && a < (l.line + 1) * 64))

/-- A long write: n bytes from an address, given by the non-zero ones. -/
def State.storeSparse (s : State) (a n : Nat) (cs : List (Nat × Byte)) : State :=
  if s.quiet a n then
    let s := s.rewriteErrs a n
    { s with mem := memPut (memClear s.mem a n) a cs }
  else s.store a ((List.range n).map (mget 0#8 cs))

/-- What holds a write: a frozen page with staging full (R382), or a host-tracked line (R451). -/
def State.holds (s : State) (a : Nat) : Bool :=
  (a < 2 ^ 40 && (match mfind s.pages (a / 2 ^ 16) with
    | some r => r.st == PageSt.frozen && decide (stagePages ≤ s.stageUsed)
    | none => false)) ||
  (a < 2 ^ 36 && s.hostPort.snoop.any (fun l => l.line == a / 64))

/-- Held writes that a predicate on their address picks and that nothing holds any more are done, in order (R382,
R451). -/
def State.releaseIf (s : State) (p : Nat → Bool) : State :=
  s.heldWrites.foldl (fun s w =>
    if !p w.1 || s.holds w.1 then { s with heldWrites := s.heldWrites ++ [w] } else s.storePart w.1 w.2)
    { s with heldWrites := [] }

/-- Held writes that nothing holds any more are done, in order. -/
def State.releaseHeld (s : State) : State := s.releaseIf (fun _ => true)

/-! ## Node offsets -/

/-- A write of bytes at a node offset whose range lies in one window; the offset must be no address error. -/
def State.storeOff (s : State) (o : Nat) (bs : List Byte) : State :=
  match s.segments o bs.length with
  | none => s
  | some segs =>
    (segs.foldl (fun r g => (r.1.store g.1 (r.2.take g.2), r.2.drop g.2)) (s, bs)).1

/-- A read of n bytes at a node offset: none at the first level for an address error, at the second where the data is
not delivered. -/
def State.loadOff (s : State) (o n : Nat) : State × Option (Option (List Byte)) :=
  match s.segments o n with
  | none => (s, none)
  | some segs =>
    let r := segs.foldl (fun r g =>
      let t := r.1.load g.1 g.2
      (t.1, match r.2, t.2 with
        | some bs, some cs => some (bs ++ cs)
        | _, _ => none)) (s, some [])
    (r.1, some r.2)

/-- A range of node offsets set to zero; no effect on an address error. -/
def State.zeroOff (s : State) (o n : Nat) : State :=
  match s.segments o n with
  | none => s
  | some segs => segs.foldl (fun s g => s.storeSparse g.1 g.2 []) s

/-- The bytes of a range of node offsets as the node sees them, without looking at check state. -/
def State.peek (s : State) (o n : Nat) : List Byte :=
  match s.segments o n with
  | none => List.replicate n 0#8
  | some segs => segs.foldl (fun bs g => bs ++ memRead s.view g.1 g.2) []

end Sys2Proof.Machine
end

