-- ==== Sys2Proof/Machine/Queues.lean ====
section
/-! DEFINITION. Queues and replies (R73 to R93): the shared operations by which a started command is answered. -/

namespace Sys2Proof.Machine

/-! ## Status codes (R89 and the chapters that own the classes) -/

namespace Status
def success : Nat := 0x0000
def itemStatus : Nat := 0x0001
def badOpcode : Nat := 0x0101
def badFlags : Nat := 0x0102
def badParam : Nat := 0x0103
def badParamAddr : Nat := 0x0104
def seqMismatch : Nat := 0x0105
def denied : Nat := 0x0106
def jobUnknown : Nat := 0x0107
def jobClosed : Nat := 0x0108
def aborted : Nat := 0x0109
def queueState : Nat := 0x010A
def doorbellInvalid : Nat := 0x010B
def addrError : Nat := 0x0201
def noCapacity : Nat := 0x0202
def uncorrectable : Nat := 0x0203
def memNoReservation : Nat := 0x0240
def memTooMany : Nat := 0x0241
def memRange : Nat := 0x0242
def tableInvalid : Nat := 0x0301
def noSlot : Nat := 0x0302
def placementFailed : Nat := 0x0303
def clustersBusy : Nat := 0x0304
def schedBusy : Nat := 0x0305
def unitFault : Nat := 0x0306
def stepTimeout : Nat := 0x0307
def halted : Nat := 0x0308
def jobTagInUse : Nat := 0x0309
def slotEmpty : Nat := 0x030A
def jobFilterFull : Nat := 0x0340
def deadlineInOrdered : Nat := 0x0501
def replicaDivergence : Nat := 0x0702
def restoreFallback : Nat := 0x0703
def restoreNone : Nat := 0x0704
def snapBusy : Nat := 0x0740
def snapTooLarge : Nat := 0x0741
def snapUnsavedSource : Nat := 0x0742
def snapDestFail : Nat := 0x0743
def snapAborted : Nat := 0x0744
def snapNone : Nat := 0x0745
def restoreUncovered : Nat := 0x0746
def restoreShape : Nat := 0x0747
def nonceInvalid : Nat := 0x0801
def signatureInvalid : Nat := 0x0802
def sameAuthority : Nat := 0x0803
def verifyFail : Nat := 0x0840
def keySlotUsage : Nat := 0x0841
def tpBadRecord : Nat := 0x0842
def tpDeviceMismatch : Nat := 0x0843
def tpStale : Nat := 0x0844
def tpNotEnrolled : Nat := 0x0845
def rollback : Nat := 0x0846
def tpRequired : Nat := 0x0847
def mbxBadRequest : Nat := 0x0848
def unitAbsent : Nat := 0x0901
def resetRefused : Nat := 0x0A01
def resetBusy : Nat := 0x0A40
end Status

/-- A completion status of R89. -/
def isCompletion (st : Nat) : Bool :=
  [Status.success, Status.itemStatus, Status.halted, Status.replicaDivergence, Status.restoreFallback].contains st

/-- The answer of a command: STATUS, DETAIL, RESULT0 and RESULT1 of R87. -/
structure Answer where
  status : Nat
  detail : Nat := 0
  r0 : Nat := 0
  r1 : Nat := 0
  deriving DecidableEq, Repr

/-- An answer that is a status alone. -/
def Answer.st (n : Nat) : Answer := { status := n }
/-- SUCCESS with RESULT0 and RESULT1. -/
def Answer.ok (r0 : Nat := 0) (r1 : Nat := 0) : Answer := { status := 0, r0 := r0, r1 := r1 }

/-- The opcodes executed by hardware; all others are executed by dispatch firmware (R90, R91). -/
def hwOpcodes : List Nat :=
  [0x0106, 0x0201, 0x0202, 0x0305, 0x0306, 0x0307, 0x0308, 0x0309, 0x0402, 0x0501, 0x0601, 0x0602, 0x0605, 0x0606,
   0x0703, 0x0901]

/-! ## Rings -/

/-- Base of the command ring (R108). -/
def ringBase (w : Word) : Nat := fld w 50 6 * 64
/-- Base of the completion ring (R108). -/
def cringBase (w : Word) : Nat := fld w 50 5 * 32

/-- A ring of `size`-byte entries lies wholly within the populated HBM3E window or wholly within the host window
(R73). -/
def ringPlaced (base size log2 : Nat) : Bool :=
  inWindow .hbm base (size * 2 ^ log2) || inWindow .host base (size * 2 ^ log2)

/-- The host link is down (R453). -/
def State.hostDown (s : State) : Bool := s.hostPort.mode == .down

/-- A range of node offsets cannot be reached: an address error (R27), or host memory while the host link is down
(R453). -/
def State.unreachable (s : State) (o n : Nat) : Bool :=
  (s.segments o n).isNone || (windowOf o == .host && s.hostDown)

/-- A queue enters ERROR (R78, R108); a queue already in ERROR keeps its cause. -/
def State.queueError (s : State) (q status opcode seq : Nat) : State :=
  let k := s.queue q
  if k.st = .error then s
  else
    let s := s.setQueue q { k with st := .error, err := BitVec.ofNat 64 (status * 2 ^ 48 + opcode * 2 ^ 32 + seq) }
    let s := s.setReg .cqErrLast [] (BitVec.ofNat 64 (q * 2 ^ 48 + status * 2 ^ 16))
    s.raise .cqQueueError

/-! ## Notification (R93) -/

/-- The application core that notifications for a core reach: another one when it is no longer enabled, which P-die
firmware chooses (R93, R423; a free value, log entry 3). -/
def State.pdieTarget (s : State) (k : Nat) : State × Nat :=
  if s.package.pdieFailed.contains k || s.flash.map.pdie.contains k then (s.bump, Config.free s.free % 64) else (s, k)

/-- The notify target of a queue is signalled (R93). -/
def State.notify (s : State) (q : Nat) : State :=
  let c := (s.queue q).ctrl
  let v := fld c 20 10
  if fld c 9 9 = 0 then
    if s.hostPort.msixEnabled then s.emit (.msix v)
    else { s with hostPort := { s.hostPort with pba := sinsert s.hostPort.pba v } }
  else
    let e := s.reg .cqPmsi [v]
    if fld e 63 63 = 0 || fld e 10 0 = 0 then s.raise .cqNotifyDrop
    else
      let (s, k) := s.pdieTarget (fld e 23 18)
      s.emit (.pmsi k (fld e 17 12) (fld e 10 0))

/-! ## Replies (R81, R87) -/

/-- The 32 bytes of a reply (R87), for queue q with PHASE from CPRODUCER (R81). -/
def replyBytes (q : Nat) (k : Queue) (r : Reply) : List Byte :=
  let phase := if k.cproducer.toNat / 2 ^ ringLog2 k.cring % 2 = 0 then 1 else 0
  leBytes 2 r.status.toNat ++ leBytes 2 r.opcode.toNat ++ leBytes 4 r.seq.toNat ++
  leBytes 2 (phase * 2 ^ 15 + q) ++ leBytes 2 r.tag.toNat ++ leBytes 1 r.epoch.toNat ++
  leBytes 1 (b2n r.path) ++ leBytes 2 r.detail.toNat ++ leBytes 8 r.result0.toNat ++ leBytes 8 r.result1.toNat

/-- A reply is written into the completion ring, or lost when the ring cannot be written (R81) or the access policy refuses
the submitting master (R432, R433; log entry 14); then NOTIFY and
STOP_ON_FAIL act (R84, R93). -/
def State.writeReply (s : State) (q : Nat) (r : Reply) : State :=
  let k := s.queue q
  let a := cringBase k.cring + k.cproducer.toNat % 2 ^ ringLog2 k.cring * 32
  let (s, ok) := if s.unreachable a 32 then (s, false) else s.allowed r.master.val true a false true 0
  if !ok then s.queueError q Status.uncorrectable r.opcode.toNat r.seq.toNat
  else
    let s := s.storeOff a (replyBytes q k r)
    let s := s.setQueue q { k with cproducer := k.cproducer + 1 }
    let s := if r.notify then s.notify q else s
    let k := s.queue q
    if r.stopOnFail && !isCompletion r.status.toNat && k.st = .active then s.setQueue q { k with st := .paused } else s

/-- A reply is written, or held while the completion ring is full or earlier replies are held (R81). -/
def State.putReply (s : State) (q : Nat) (r : Reply) : State :=
  let k := s.queue q
  if k.cringFull || !k.held.isEmpty then (s.setQueue q { k with held := k.held ++ [r] }).raise .cqCringFull
  else s.writeReply q r

/-- Held replies written while the ring has room (R81); one for each held reply at most. -/
def State.flushHeld (s : State) (q : Nat) : Nat → State
  | 0 => s
  | n + 1 =>
    let k := s.queue q
    match k.held with
    | [] => s
    | r :: rs => if k.cringFull then s else ((s.setQueue q { k with held := rs }).writeReply q r).flushHeld q n

/-- The started command of a queue with a SEQ. -/
def State.findStarted (s : State) (q : Nat) (seq : W32) : Option Started :=
  s.started.find? (fun c => c.q == q && c.seq == seq)

/-- A started command replaced. -/
def State.setStarted (s : State) (c : Started) : State :=
  { s with started := updFirst (fun d => d.q == c.q && d.seq == c.seq) (fun _ => c) s.started }

/-- The reply of a started command (R87). -/
def Started.reply (c : Started) (a : Answer) : Reply :=
  { status := BitVec.ofNat 16 a.status, opcode := c.opcode, seq := c.seq, tag := c.tag, epoch := c.epoch,
    path := !hwOpcodes.contains c.opcode.toNat, detail := BitVec.ofNat 16 a.detail,
    result0 := BitVec.ofNat 64 a.r0, result1 := BitVec.ofNat 64 a.r1,
    master := c.master, notify := tbit c.flags.toNat 3, stopOnFail := tbit c.flags.toNat 4 }

/-- A started command completes with an answer: no longer started, and its reply written unless QUIET suppresses it
(R81, R84). An address error of a job's command counts as a refusal while the enable of master 5 is 0 (R434). -/
def State.answer (s : State) (c : Started) (a : Answer) : State :=
  let s := { s with started := s.started.filter (fun d => !(d.q == c.q && d.seq == c.seq)) }
  let s := if a.status = Status.denied then s.raise .cqDenied else s
  let job := 2 ≤ c.opcode.toNat / 256 && c.opcode.toNat / 256 ≤ 7
  let s := if a.status = Status.addrError && job then s.refusedBy 5 else s
  if tbit c.flags.toNat 2 && a.status = 0 then s else s.putReply c.q (c.reply a)

/-! ## Q_RESET and Q_DESTROY that wait (R78) -/

/-- Q_RESET applied: the counts are zeroed and the queue becomes ACTIVE (R78). -/
def State.applyQReset (s : State) (q : Nat) : State :=
  let k := s.queue q
  s.setQueue q { k with st := .active, producer := 0, consumer := 0, cproducer := 0, consumed := 0, stopping := false,
                        held := [], marks := [], due := none }

/-- Q_DESTROY applied: the queue is disabled; ENABLE of queue 0 reads 0 from its state (R78, R108). -/
def State.applyQDestroy (s : State) (q : Nat) : State :=
  let k := s.queue q
  s.setQueue q { k with st := .disabled, stopping := false, held := [], marks := [], due := none }

/-- The effect of Q_RESET (`reset`) or Q_DESTROY. -/
def State.applyQ (s : State) (q : Nat) (reset : Bool) : State := if reset then s.applyQReset q else s.applyQDestroy q

/-- After a Q_DESTROY, the other commands that wait for its target reply ABORTED (R89). -/
def State.abortDrains (s : State) (t : Nat) (reset : Bool) : State :=
  if reset then s
  else
    (s.started.filter (fun d => match d.wait with
      | .drain u _ => u == t
      | _ => false)).foldl (fun s d => s.answer d (.st Status.aborted)) s

/-- A started command whose wait has ended because its target queue has no other started command and no reply still
held (R78, R81). -/
def State.drained (s : State) : Option Started :=
  s.started.find? (fun c => match c.wait with
    | .drain t _ => (s.queue t).held.isEmpty && !(s.started.any (fun d => d.q == t && !(d.q == c.q && d.seq == c.seq)))
    | .selfDrain _ => (s.queue c.q).held.isEmpty && !(s.started.any (fun d => d.q == c.q && !(d.seq == c.seq)))
    | _ => false)

/-- A reset or disabling of queue 0 by CQ.Q_CTRL whose wait has ended is applied, without a reply (R78, R108). -/
def State.settleQueue0 (s : State) : State :=
  match (s.queue 0).due with
  | none => s
  | some r => 
    if s.started.any (fun d => d.q == 0) || !(s.queue 0).held.isEmpty then s else (s.applyQ 0 r).abortDrains 0 r

/-- Q_RESET and Q_DESTROY commands whose wait has ended are applied and answered, and so on while one is (R78). -/
def State.settleQueues (s : State) : Nat → State
  | 0 => s
  | n + 1 =>
    match s.drained with
    | none => s
    | some c =>
      match c.wait with
      | .drain t r => (((s.applyQ t r).answer c (.ok)).abortDrains t r).settleQueues n
      | .selfDrain r => (((s.answer c (.ok)).applyQ c.q r).abortDrains c.q r).settleQueues n
      | _ => s

/-- Whatever waited for commands or replies of a queue goes on (R78). -/
def State.settle (s : State) : State := (s.settleQueues (s.started.length + 1)).settleQueue0

/-- A started command completes, and commands that waited for it go on (R78). -/
def State.finishCmd (s : State) (c : Started) (a : Answer) : State := (s.answer c a).settle

/-- The started command of a queue with a SEQ completes; no effect when there is none. -/
def State.finish (s : State) (q : Nat) (seq : W32) (a : Answer) : State :=
  match s.findStarted q seq with
  | none => s
  | some c => s.finishCmd c a

end Sys2Proof.Machine
end

