-- ==== Sys2Proof/Machine/CoreBase.lean ====
section
/-! DEFINITION. What every instruction of a core shares: register access (R111), control flow with hardware loops
(R122, R123), faults (R133, R134) and their effect on the schedule (R105), tallies and the waits they end (R100, R125). -/

namespace Sys2Proof.Machine

/-! ## Registers of a core (R111) -/

/-- G[n]; G0 reads 0. -/
def Core.rg (k : Core) (n : Nat) : Word := if n = 0 then 0 else mget 0 k.g n
/-- G[n] written; writes to G0 are discarded. -/
def Core.wg (k : Core) (n : Nat) (v : Word) : Core := if n = 0 then k else { k with g := mset 0 k.g n v }
/-- F[n]. -/
def Core.rf (k : Core) (n : Nat) : BitVec 512 := mget 0 k.f n
/-- F[n] written. -/
def Core.wf (k : Core) (n : Nat) (v : BitVec 512) : Core := { k with f := mset 0 k.f n v }
/-- P[n]; P0 reads all ones. -/
def Core.rp (k : Core) (n : Nat) : BitVec 256 := if n = 0 then BitVec.allOnes 256 else mget 0 k.p n
/-- P[n] written; writes to P0 are discarded. -/
def Core.wp (k : Core) (n : Nat) (v : BitVec 256) : Core := if n = 0 then k else { k with p := mset 0 k.p n v }
/-- The scalar FP32 value in F[n] (R111). -/
def Core.rs (k : Core) (n : Nat) : Nat := (k.rf n).toNat % 2 ^ 32
/-- A scalar FP32 result: F[n] bits 31:0, bits 511:32 set to 0 (R121). -/
def Core.ws (k : Core) (n : Nat) (v : Nat) : Core := k.wf n (BitVec.ofNat 512 (v % 2 ^ 32))
/-- Exceptions accrue in CSR.FFLAGS (R121). -/
def Core.accrue (k : Core) (f : FFlags) : Core :=
  { k with csrs := { k.csrs with fflags := k.csrs.fflags ||| BitVec.ofNat 5 f.bits } }
/-- CSR.FRM. -/
def Core.frm (k : Core) : Nat := k.csrs.frm.toNat
/-- G[n] as an integer address. -/
def Core.ga (k : Core) (n : Nat) : Nat := (k.rg n).toNat

/-- The logical core a unit was issued for, CSR.WHERE (R112, R137): 16 × logical cluster + logical core. -/
def Core.whereId (k : Core) : Nat := (nth 0 k.ident 2).toNat
/-- The unit's job tag (R112). -/
def Core.jobTag (k : Core) : W16 := BitVec.ofNat 16 ((nth 0 k.ident 4).toNat / 256)
/-- The unit's epoch (R112). -/
def Core.jobEpoch (k : Core) : Byte := BitVec.ofNat 8 (nth 0 k.ident 4).toNat

/-! ## Loops and transfers (R122, R123) -/

/-- end_of_body of R123 on the active levels, innermost first: the levels left, and LS where the body runs again. -/
def endOfBody : List (Word × Nat × Nat) → Nat → List (Word × Nat × Nat) × Option Nat
  | [], _ => ([], none)
  | (lc, ls, le) :: up, a =>
    if a = le then (if 1 < lc.toNat then ((lc - 1, ls, le) :: up, some ls) else endOfBody up a)
    else ((lc, ls, le) :: up, none)

/-- The instruction that ends at address `a` completes without a taken transfer; PC goes to `next` or back to LS
(R123). -/
def Core.endAt (k : Core) (a next : Nat) : Core :=
  let r := endOfBody k.csrs.loops.reverse a
  { k with pc := (r.2.getD next) % 2 ^ 51, csrs := { k.csrs with loops := r.1.reverse } }

/-- The instruction at PC completes without a taken transfer. -/
def Core.advance (k : Core) : Core := k.endAt k.pc (k.pc + 4)

/-- A taken branch or jump pops every level, from the innermost, whose body does not hold the target (R123). -/
def Core.jump (k : Core) (target : Nat) : Core :=
  let t := target % 2 ^ 51
  { k with
    pc := t
    csrs := { k.csrs with loops := (k.csrs.loops.reverse.dropWhile (fun l => !(l.2.1 ≤ t && t ≤ l.2.2))).reverse } }

/-- The instruction at PC is the last of an active body (R123). -/
def Core.atBodyEnd (k : Core) : Bool := k.csrs.loops.any (fun l => l.2.2 == k.pc)

/-! ## Units and schedules (R101, R105) -/

/-- The unit a reference names. -/
def State.unitRec (s : State) (u : UnitRef) : Option UnitRec :=
  match s.job u.job with
  | some j => (match j.run with
    | some r => r.units[u.idx]?
    | none => none)
  | none => none

/-- A running schedule changed. -/
def State.updRun (s : State) (j : Nat) (f : SchedRun → SchedRun) : State :=
  match s.job j with
  | some b => (match b.run with
    | some r => s.setJob j { b with run := some (f r) }
    | none => s)
  | none => s

/-- A unit of a running schedule changed. -/
def State.updUnit (s : State) (u : UnitRef) (f : UnitRec → UnitRec) : State :=
  s.updRun u.job (fun r => match r.units[u.idx]? with
    | some x => { r with units := setNth r.units u.idx (f x) }
    | none => r)

/-- The physical cluster that serves a logical cluster now. -/
def State.servingCluster (s : State) (l : Nat) : Option Nat :=
  match s.placement with
  | none => none
  | some p => (mfind p.serve l).map (·.phys)

/-- A unit is issued and not ended. -/
def UnitRec.inProgress (u : UnitRec) : Bool :=
  match u.st with
  | .issued _ => true
  | _ => false

/-- SCHED_RUN replies with a status, and the SCHED_HALT commands that wait for the schedule to stop complete (R92,
R105). -/
def State.endRun (s : State) (j : Nat) (status : Nat) : State :=
  match s.job j with
  | none => s
  | some b =>
    match b.run with
    | none => s
    | some r =>
      let s := s.setJob j { b with run := none }
      let s := s.finish r.q r.seq { status := status, r0 := r.fences, r1 := b.step.toNat }
      r.halts.foldl (fun s h => s.finish h.1 h.2 (.ok b.step.toNat)) s

/-- A schedule whose end has occurred replies once its units in progress have ended (R105). -/
def State.schedSettle (s : State) (j : Nat) : State :=
  match s.job j with
  | none => s
  | some b =>
    match b.run with
    | none => s
    | some r =>
      match r.ending with
      | none => s
      | some st => if r.units.any UnitRec.inProgress then s else s.endRun j st.toNat

/-- An end of a schedule occurs: the first fixes the status; a unit fault or a table read error sets the flags and
SCH.FAULT (R105). -/
def State.schedEnd (s : State) (j status l k unit : Nat) (fault : Bool) : State :=
  match s.job j with
  | none => s
  | some b =>
    match b.run with
    | none => s
    | some r =>
      match r.ending with
      | some _ => s
      | none =>
        let s := s.setJob j { b with run := some { r with ending := some (BitVec.ofNat 16 status) } }
        if fault then
          let s := s.raise .schUnitFault
          let s := match s.servingCluster l with
            | some p => s.raise .clsUnitFault [p]
            | none => s
          s.setReg .schFault [] (BitVec.ofNat 64
            (l * 2 ^ 54 + k * 2 ^ 50 + unit * 2 ^ 32 + b.step.toNat % 2 ^ 32))
        else s

/-! ## Faults (R133, R134) -/

namespace FaultCode
def illegal : Nat := 0x01
def misaligned : Nat := 0x02
def addr : Nat := 0x03
def sigOverflow : Nat := 0x04
def tallyTimeout : Nat := 0x05
def noContext : Nat := 0x06
def remoteRefused : Nat := 0x07
def trap : Nat := 0x08
def tensor : Nat := 0x09
def dataError : Nat := 0x0A
def remoteUnresolved : Nat := 0x10
def check : Nat := 0x20
end FaultCode

/-- A core records a fault in its CSRs and copies it to CORE.FAULT, CORE.FPC and CORE.FADDR (R133, R137). -/
def State.recordFault (s : State) (c cls code aux : Nat) (fa : Word) : State :=
  let k := s.core c
  let cause : Word := BitVec.ofNat 64 (aux * 2 ^ 16 + cls * 2 ^ 8 + code)
  let pc : Word := BitVec.ofNat 64 k.pc
  let s := s.setCore c { k with csrs := { k.csrs with fcause := cause, fpc := pc, faddr := fa } }
  let i := [c / 17, c % 17]
  ((s.setReg .coreFault i cause).setReg .coreFpc i pc).setReg .coreFaddr i fa

/-- A unit ends on its core without commit: held signals and held updates are discarded, weight versions are as at its
issue (R126, R134, R210). -/
def Core.endAttempt (k : Core) : Core :=
  { k with phase := .idle, unit := none, sigq := [], recUpdates := [], trackUpdates := [], vbuf := [],
           versions := k.versionsAtIssue.map (fun v =>
             if k.versions.any (fun x => x.number == v.number) then v else { v with reread := true }),
           nextVersion := k.nextVersionAtIssue }

/-- A program fault: recorded, PROG_FAULT set, the unit ended without commit, and SCHED_RUN ends with UNIT_FAULT (R105,
R134). -/
def State.progFault (s : State) (c code aux : Nat) (fa : Word) : State :=
  let s := s.recordFault c 0 code aux fa
  let s := s.raise .coreProgFault [c / 17, c % 17]
  let k := s.core c
  let s := s.setCore c k.endAttempt
  match k.unit with
  | none => s
  | some u =>
    match s.unitRec u with
    | none => s
    | some r =>
      let s := s.updUnit u (fun x => { x with st := .ended })
      let s := s.schedEnd u.job Status.unitFault r.lcluster r.lcore r.unit.toNat true
      s.schedSettle u.job

/-! ## What an instruction comes to -/

/-- What an instruction comes to, with the core's new registers. -/
inductive Step1 where
  /-- it completes without a taken transfer -/
  | done (k : Core)
  /-- it transfers control to a target -/
  | taken (k : Core) (target : Nat)
  /-- LOOP with count 0 skips its body, whose last instruction is at the address before `next` (R123) -/
  | skip (k : Core) (next : Nat)
  /-- it faults: code, FCAUSE bits 31:16 and FADDR; `k` holds what an element-ordered instruction has done (R133) -/
  | fault (k : Core) (code aux : Nat) (fa : Word)
  /-- it stays at its PC, the core's phase saying what it waits for -/
  | wait (k : Core)

/-- The core takes what its instruction came to. -/
def State.applyStep (s : State) (c : Nat) : Step1 → State
  | .done k => s.setCore c k.advance
  | .taken k t => s.setCore c (k.jump t)
  | .skip k n => s.setCore c (k.endAt (n - 4) n)
  | .fault k code aux fa => (s.setCore c k).progFault c code aux fa
  | .wait k => s.setCore c k

/-- The word at PC can be fetched: PC lies in the part of the HBM3E window that a unit may reach (R115, R122, R300), and
the access policy lets the unit's job read it (R433). -/
def State.fetchable (s : State) (k : Core) : Bool :=
  s.jobReach k.pc 4 && windowOf k.pc == .hbm && s.masterOn 5 && s.policy 5 true k.pc true false k.jobTag

/-- ILLEGAL with FADDR the instruction word (R133). -/
def illegalW (k : Core) (w : W32) : Step1 := .fault k FaultCode.illegal 0 (w.zeroExtend 64)

/-- The control instructions that may not end a loop body (R123). -/
def CoreOp.isControl : CoreOp → Bool
  | .branch | .jal | .jalr | .loopStart | .endUnit | .trapUnit => true
  | _ => false

/-- The vector instructions that need CSR.VSTART 0 (R159). -/
def CoreOp.needsVstart0 : CoreOp → Bool
  | .vectorInteger | .vectorFp32 | .vectorCompare | .vsplat | .vext | .vredsum | .vredmax | .vredfsum | .vredfmax
  | .vectorWidening | .vectorDot | .fp32Pair | .vsetvl | .vmov => true
  | _ => false

/-- A core executes one instruction word at its PC: the fetch (R115, R122), the checks every instruction has (R117,
R123, R159), and then the instruction's own meaning. A core that is not running executes nothing (log entry 6). -/
def coreExec (op : CoreOp) (c : Nat) (w : W32) (s : State) (f : State → Core → State × Step1) : State :=
  let k := s.core c
  if k.phase ≠ .running then s
  else if !s.fetchable k then (s.refusedBy 5).progFault c FaultCode.addr 0 (BitVec.ofNat 64 k.pc)
  else
    let (s, ok) := s.scan k.pc 4
    if !ok then s.progFault c FaultCode.dataError 0 (BitVec.ofNat 64 k.pc)
    else if selectOp w ≠ some op then s.applyStep c (illegalW k w)
    else if op.isControl && k.atBodyEnd then s.applyStep c (illegalW k w)
    else if op.needsVstart0 && k.csrs.vstart ≠ 0 then s.applyStep c (illegalW k w)
    else
      let r := f s k
      r.1.applyStep c r.2

/-- An instruction that reads and writes nothing but its core. -/
def coreLocal (op : CoreOp) (c : Nat) (w : W32) (s : State) (f : Core → Step1) : State :=
  coreExec op c w s (fun s k => (s, f k))

/-! ## Tallies (R100, R125) -/

/-- A TWAIT whose tally has reached its threshold completes (R125). -/
def State.wakeTally (s : State) (l k t : Nat) : State :=
  match s.servingCore l k with
  | none => s
  | some c =>
    let e := s.core c
    match e.phase with
    | .waitTally t' thr _ =>
      if t' = t && thr ≤ s.tally l k t && e.whereId = 16 * l + k then s.setCore c { e with phase := .running }.advance
      else s
    | _ => s

/-- An amount added to a tally, saturating (R100); a TWAIT that waits on it may complete. -/
def State.addTally (s : State) (l k t n : Nat) : State :=
  let v := s.tally l k t + n
  let s := if 2 ^ 32 ≤ v then s.raise .schTallySat else s
  let s := s.setTally l k t (min v (2 ^ 32 - 1))
  s.wakeTally l k t

end Sys2Proof.Machine
end

