-- ==== Sys2Proof/Machine/Ops.lean ====
section
/-! DEFINITION. Operations that several families share: the table a unit runs under (R95), signals (R98, R126), the job
that owns an access, and registers whose value is computed. -/

namespace Sys2Proof.Machine

/-- A number of the node in a Span names another node (R25, R98). -/
def State.isOther (s : State) (node : Nat) : Bool := !s.isSelf node

/-- The unit a core runs, with its job slot and the table it runs under (R95, R101). -/
def State.unitTable (s : State) (k : Core) : Option (UnitRef × JobSlot × SchedRun × TableSlot) :=
  match k.unit with
  | none => none
  | some u =>
    match s.job u.job with
    | none => none
    | some b =>
      match b.run with
      | none => none
      | some r => (mfind s.tables r.slot).map (fun t => (u, b, r, t))

/-- The context number a CTX_MAP gives for a node (R95): none when CTX_MAP is 0 or the entry has bit 31 set. `base` is
the node offset of the table's image. -/
def State.mapEntry (s : State) (base ctxMap node : Nat) : Option Nat :=
  if ctxMap = 0 then none
  else
    let e := leNat (s.peek (base + ctxMap + 4 * node) 4)
    if tbit e 31 then none else some e

/-- The context number the running table gives a core for a node (R95, R128). -/
def State.tableCtx (s : State) (k : Core) (node : Nat) : Option Nat :=
  match s.unitTable k with
  | none => none
  | some (_, _, _, t) => if 4096 ≤ node then none else s.mapEntry t.base t.ctxMap node

/-! ## Fields of a signal or tally target (R98) -/

/-- NODE. -/
def sigNode (x : Nat) : Nat := bits x 47 35
/-- LCLUSTER. -/
def sigCluster (x : Nat) : Nat := bits x 34 25
/-- LCORE. -/
def sigCore (x : Nat) : Nat := bits x 24 21
/-- TALLY. -/
def sigTally (x : Nat) : Nat := bits x 20 13
/-- ADD. -/
def sigAdd (x : Nat) : Nat := bits x 12 0

/-- A logical cluster lies in the range of a job. -/
def JobSlot.holds (b : JobSlot) (l : Nat) : Bool := b.first ≤ l && l < b.first + b.count

/-- A signal that R94 cause 8 and R126 refuse, for a job's range. -/
def State.sigBad (s : State) (first count x : Nat) : Bool :=
  sigAdd x = 0 || reservedNode (sigNode x) ||
  (if s.isSelf (sigNode x) then !(first ≤ sigCluster x && sigCluster x < first + count) else 639 < sigCluster x)

end Sys2Proof.Machine
end

