-- ==== Sys2Proof/Machine/Links.lean ====
section
/-! DEFINITION. What the link layer does (R317 to R345, R398 to R402): states, flits, replay, admission, anomalies, routes
and job filters. -/

namespace Sys2Proof.Machine

/-! ## Packets (R352) -/

namespace Op
def load : Nat := 0x01
def store : Nat := 0x02
def atomic : Nat := 0x03
def signal : Nat := 0x04
def copyOpen : Nat := 0x05
def piece : Nat := 0x06
def msg : Nat := 0x07
def redPiece : Nat := 0x08
def reply : Nat := 0x10
def pieceAck : Nat := 0x11
def query : Nat := 0x12
def queryReply : Nat := 0x13
def bind : Nat := 0x14
end Op

/-- The VC that a packet's OP gives (R352); none for an OP that is not assigned. -/
def vcOf (op : Nat) : Option Nat :=
  match op with
  | 0x01 | 0x02 | 0x03 | 0x04 | 0x05 | 0x12 => some 0
  | 0x06 | 0x08 => some 2
  | 0x07 => some 3
  | 0x10 | 0x11 | 0x13 => some 1
  | 0x14 => some 4
  | _ => none

/-- The greatest payload of an OP (R352). -/
def opMax (op : Nat) : Nat :=
  match op with
  | 0x02 => 8
  | 0x03 => 24
  | 0x05 => 16
  | 0x06 | 0x08 => 256
  | 0x07 => 8
  | 0x10 | 0x13 => 16
  | 0x14 => 4
  | _ => 0

/-- The bytes of a packet (R352). -/
def packetBytes (p : Packet) : List Byte :=
  [p.op, p.flags] ++ leBytes 2 p.dstNode.toNat ++ leBytes 2 p.srcNode.toNat ++ leBytes 2 p.dstSpan.toNat ++
  leBytes 2 p.srcSpan.toNat ++ leBytes 2 p.tag.toNat ++ [p.epoch, 0] ++ leBytes 2 p.payload.length ++
  leBytes 4 p.dstCtx.toNat ++ leBytes 4 p.seq.toNat ++ leBytes 8 p.arg.toNat ++ p.payload

/-- A header read from 32 bytes, with LENGTH and byte 13 (R352). -/
def readHeader (b : List Byte) : Packet × Nat × Nat :=
  ({ op := nth 0 b 0, flags := nth 0 b 1, dstNode := BitVec.ofNat 16 (leAt b 2 2), srcNode := BitVec.ofNat 16 (leAt b 4 2),
     dstSpan := BitVec.ofNat 16 (leAt b 6 2), srcSpan := BitVec.ofNat 16 (leAt b 8 2), tag := BitVec.ofNat 16 (leAt b 10 2),
     epoch := nth 0 b 12, dstCtx := BitVec.ofNat 32 (leAt b 16 4), seq := BitVec.ofNat 32 (leAt b 20 4),
     arg := BitVec.ofNat 64 (leAt b 24 8), payload := [] }, leAt b 14 2, (nth 0 b 13).toNat)

/-- Reserved bits of ARG are zero for the OP (R352). -/
def argOk (op : Nat) (a : Word) : Bool :=
  match op with
  | 0x01 | 0x02 | 0x03 | 0x05 | 0x06 => fld a 63 51 = 0
  | 0x04 => fld a 63 48 = 0
  | 0x08 => fld a 47 32 = 0
  | 0x10 => fld a 63 8 = 0
  | 0x12 => fld a 63 32 = 0
  | 0x13 => fld a 63 33 = 0
  | _ => true

/-- A packet is well-formed at this node: an assigned OP, reserved fields zero, LENGTH within its OP's payload, and the
destination naming this node (R352, R338). -/
def State.packetOk (s : State) (p : Packet) : Bool :=
  (vcOf p.op.toNat).isSome && p.payload.length ≤ opMax p.op.toNat && argOk p.op.toNat p.arg &&
  bits p.flags.toNat 6 6 = 0 && bits p.flags.toNat 3 3 = 0 &&
  bits p.dstNode.toNat 15 13 = 0 && bits p.srcNode.toNat 15 13 = 0 && bits p.dstCtx.toNat 31 20 = 0 &&
  p.dstNode.toNat = s.nodeNo && p.dstSpan.toNat = s.spanNo

/-! ## Job filters (R398 to R402) -/

/-- The entry of a link for a tag and epoch that is not CLOSED, with its number. -/
def State.filterOf (s : State) (n : Nat) (tag : W16) (epoch : Byte) : Option (Nat × FilterEntry) :=
  match leastFrom (fun e => let f := s.filter n e; f.st != .closed && f.tag == tag && f.epoch == epoch) 0 256 with
  | some e => some (e, s.filter n e)
  | none => none

/-- Packets that an entry accepts (R398). -/
def filterAccepts (st : FilterSt) (op : Nat) : Bool :=
  match st with
  | .open => true
  | .teardown => op = Op.reply || op = Op.pieceAck || op = Op.queryReply
  | _ => false

/-- Packets of a job that the node sends on a link with this entry (R398): while it is TEARDOWN, replies, resends and
QUERYs. -/
def filterSends (st : FilterSt) (p : Packet) : Bool :=
  match st with
  | .open => true
  | .teardown =>
    let op := p.op.toNat
    op = Op.reply || op = Op.pieceAck || op = Op.queryReply || op = Op.query || tbit p.flags.toNat 7
  | _ => false

/-- WAITING entries of a link open once no entry of their tag on it is DRAINING (R399). -/
def State.openWaiting (s : State) (n : Nat) : State :=
  (List.range 256).foldl (fun s e =>
    let f := s.filter n e
    if f.st == .waiting && !((List.range 256).any (fun d => (s.filter n d).st == .draining && (s.filter n d).tag == f.tag))
    then s.setFilter n e { f with st := .open } else s) s

/-- A filter entry closes, and entries that waited for it open (R399, R401). -/
def State.closeFilter (s : State) (n e : Nat) : State := (s.setFilter n e FilterEntry.zero).openWaiting n

/-- Every DRAINING entry of a link closes when the link leaves ACTIVE (R401). -/
def State.closeDraining (s : State) (n : Nat) : State :=
  ((List.range 256).foldl (fun s e =>
    if (s.filter n e).st == .draining then s.setFilter n e FilterEntry.zero else s) s).openWaiting n

/-- A DRAIN_DONE that arrives on a link (R401). -/
def State.drainDoneIn (s : State) (n : Nat) (tag : W16) (epoch : Byte) : State :=
  match s.filterOf n tag epoch with
  | some (e, f) =>
    (match f.st with
    | .draining => s.closeFilter n e
    | .open | .teardown => s.setFilter n e { f with remembered := true }
    | _ => s.emit (.drainDone n tag epoch))
  | none => s.emit (.drainDone n tag epoch)

/-! ## States (R321) -/

/-- The lanes of a link that the map leaves enabled, as a bit mask (R317, R319). -/
def State.enabledLanes (s : State) (n : Nat) : Nat :=
  ofSetBits ((List.range 2).filter (fun l => !s.flash.map.lanes.contains (2 * n + l)))

/-- AXL.STATE as it reads (R347). -/
def Link.stateWord (l : Link) : Word :=
  let st : Nat := match l.st with
    | .down => 0 | .training => 1 | .admitting => 2 | .quarantine => 3 | .active => 4 | .isolated => 5 | .disabled => 6
  BitVec.ofNat 64 (l.qcause.toNat * 2 ^ 32 + st * 2 ^ 16 + l.gen * 2 ^ 8 + l.lanes.toNat * 2 ^ 4 + b2n l.encrypted)

/-- LINK_RESET commands that wait for a link's training attempt reply with AXL.STATE (R344). -/
def State.linkSettled (s : State) (n : Nat) : State :=
  let waiting := s.started.filter (fun c => c.wait == .link n)
  waiting.foldl (fun s c => s.finishCmd c (.ok (s.link n).stateWord.toNat)) s

/-- What leaving ACTIVE does (R329, R401): the data VCs' flits that are not acknowledged or not wholly sent or received
are discarded, and DRAINING entries close. -/
def State.leaveActive (s : State) (n : Nat) : State :=
  let l := s.link n
  if l.st ≠ .active then s
  else
    let keep (xs : List (List Byte)) : List (List Byte) := [[], [], [], [], nth [] xs 4, [], [], []]
    let s := s.setLink n { l with
      eddy := l.eddy.filter (fun f => f.vc == 4), rxBytes := keep l.rxBytes,
      txBytes := [[], [], [], [], nth [] l.txBytes 4, [], [], []] }
    s.closeDraining n

/-- A link goes to DOWN: LINK_DOWN is set from any state after TRAINING, and nothing but its causes is kept (R321, R329,
R340). -/
def State.linkToDown (s : State) (n : Nat) : State :=
  let l := s.link n
  let s := s.leaveActive n
  let s := match l.st with
    | .admitting | .quarantine | .active | .isolated => s.raise .axlLinkDown [n]
    | _ => s
  (s.setLink n { Link.zero with qcause := l.qcause, eyeBelow := l.eyeBelow }).linkSettled n

/-- A link goes to DISABLED (R321). -/
def State.linkToDisabled (s : State) (n : Nat) : State :=
  let l := s.link n
  let s := s.leaveActive n
  (s.setLink n { Link.zero with st := .disabled, qcause := l.qcause, eyeBelow := l.eyeBelow }).linkSettled n

/-- A link goes to QUARANTINE with a cause (R335). -/
def State.linkToQuarantine (s : State) (n cause : Nat) : State :=
  let s := s.leaveActive n
  let l := s.link n
  let s := s.setLink n { l with st := .quarantine, qcause := BitVec.ofNat 8 cause, admission := none }
  (s.raise .axlQuarantine [n]).linkSettled n

/-- A link goes to ISOLATED with a cause (R339). -/
def State.linkToIsolated (s : State) (n cause : Nat) : State :=
  let s := s.leaveActive n
  let l := s.link n
  let s := s.setLink n { l with st := .isolated, qcause := BitVec.ofNat 8 cause, admission := none }
  s.raise .axlIsolate [n]

/-- A link carries flits. -/
def Link.up (l : Link) : Bool :=
  match l.st with
  | .admitting | .quarantine | .active => true
  | _ => false

/-- A link that the map leaves no lane of goes to DISABLED (R321, R323). -/
def State.mapLinks (s : State) (n : Nat) : State :=
  if s.enabledLanes n = 0 && (s.link n).st ≠ .disabled then s.linkToDisabled n else s

/-! ## Anomalies (R338, R339) -/

/-- The anomalies, with the low bit of their field in AXL.ANOM and AXL.ANOM_LIMIT and their cause. -/
inductive Anomaly where
  | credit | malformed | rate | tag
  deriving DecidableEq, Repr

/-- Low bit of an anomaly's field (R347). -/
def Anomaly.lo : Anomaly → Nat
  | .credit => 48 | .malformed => 32 | .rate => 16 | .tag => 0
/-- QCAUSE of an anomaly (R339). -/
def Anomaly.cause : Anomaly → Nat
  | .credit => 16 | .malformed => 17 | .rate => 18 | .tag => 19

/-- An anomaly is counted, and the link isolated when the count reaches a limit that is not 0 (R338, R339). -/
def State.anomaly (s : State) (n : Nat) (a : Anomaly) : State :=
  let c := satInc 16 (s.getF .axlAnom [n] (a.lo + 15) a.lo)
  let s := s.setF .axlAnom [n] (a.lo + 15) a.lo c
  let lim := s.getF .axlAnomLimit [n] (a.lo + 15) a.lo
  if lim ≠ 0 && lim ≤ c && (s.link n).up then s.linkToIsolated n a.cause else s

/-! ## Training and admission (R319, R320, R333 to R336) -/

/-- The ALLOC fields of a link's VCs sum to at most 2,048 flits (R320, R330). -/
def State.allocOk (s : State) (n : Nat) : Bool :=
  sumNat ((List.range 8).map (fun m => s.getF .axlVc [n, m] 51 40)) ≤ 2048

/-- ENABLE of AXL.CTRL. -/
def State.linkEnabled (s : State) (n : Nat) : Bool := s.getF .axlCtrl [n] 0 0 = 1

/-- Training begins when a signal is detected on an enabled lane, once the dies are released (R319 step 1, R320, R457 step
11). -/
def State.beginTraining (s : State) (n lanes : Nat) : State :=
  if !s.axlIdle && s.linkEnabled n && lanes &&& s.enabledLanes n ≠ 0 && s.allocOk n then
    s.setLink n { (s.link n) with st := .training, trainStart := s.now, retryFrom := none }
  else s

/-- Training fails: the link returns to DOWN and waits 1 s for its next attempt (R320). -/
def State.trainingFails (s : State) (n : Nat) : State :=
  let t := s.now
  let s := s.linkToDown n
  s.setLink n { (s.link n) with retryFrom := some t }

/-- Admission begins or begins again (R334 step 1, R336). -/
def State.beginAdmission (s : State) (n : Nat) : State :=
  let nonce := Config.random s.free
  let s := s.bump
  let a : Admission := { start := s.now, ownNonce := nonce, partnerNonce := none, partnerChain := [], sigOk := none,
                         verdict := none, partnerVerdict := none }
  let s := s.setLink n { (s.link n) with admission := some a }
  s.emit (.admission n 1)

/-- The generations tried in R319 step 5, from the target down: those both ends support and both MAX_GEN allow. -/
def State.commonGens (s : State) (n : Nat) (cap : Capability) : List Nat :=
  [3, 2, 1].filter (fun g => g ≤ s.getF .axlCtrl [n] 5 4 && g ≤ cap.maxGen && tbit cap.gens.toNat (g - 1))

/-- R319 step 5: the first common generation at which a lane is kept; `kept` lists the lanes kept at each generation
tried, in order. -/
def firstKept (mask : Nat) : List Nat → List (BitVec 2) → Option (Nat × Nat)
  | g :: gs, k :: ks => if k.toNat &&& mask ≠ 0 then some (g, k.toNat &&& mask) else firstKept mask gs ks
  | _, _ => none

/-- Training ends: R319 steps 2 to 6. -/
def State.trainingEnds (s : State) (n : Nat) (cap : Capability) (kept : List (BitVec 2)) : State :=
  match firstKept (s.enabledLanes n) (s.commonGens n cap) kept with
  | none => s.trainingFails n
  | some (g, lanes) =>
    let l := s.link n
    let s := s.setLink n { Link.zero with
      st := .admitting, gen := g, lanes := BitVec.ofNat 2 lanes, qcause := l.qcause, partner := some cap,
      avail := cap.alloc, ackTime := s.now, eyeBelow := l.eyeBelow }
    (s.setReg .axlAnom [n] 0).beginAdmission n

/-- The bytes that the step-2 signature of the partner covers (R334): its partner's nonce, its own nonce, both node and
link numbers and its ephemeral key. -/
def State.admissionText (s : State) (n : Nat) (a : Admission) (cap : Capability) (eph : List Byte) : List Byte :=
  leBytes 32 a.ownNonce.toNat ++ leBytes 32 (a.partnerNonce.getD 0).toNat ++ leBytes 2 cap.node.toNat ++
  leBytes 2 s.nodeNo ++ leBytes 1 cap.link.toNat ++ leBytes 1 n ++ eph

/-- The admission entry of a leaf digest (R333). -/
def State.admitEntry (s : State) (d : Digest) : Option AdmitEntry :=
  s.flash.protection.admitted.find? (fun e => e.digest == d)

/-- Encryption is required on a link (R337): by the partner's entry or by ENCRYPT_REQ. No message of R319 or R334 carries
the partner's own requirement (log entry 11). -/
def State.encryptReq (s : State) (n : Nat) (e : AdmitEntry) : Bool := e.encrypt || s.getF .axlCtrl [n] 2 2 = 1

/-- The verdict of this end (R335): none admits, some cause refuses. -/
def State.verdictOf (s : State) (n : Nat) (a : Admission) (cap : Capability) : Option Nat :=
  match s.admitEntry (Config.leafDigest a.partnerChain) with
  | none => some 1
  | some e =>
    if !Config.chainVerifies a.partnerChain then some 2
    else if a.sigOk ≠ some true then some 3
    else if s.encryptReq n e && !cap.encrypt then some 4
    else none

/-- Admission ends once both verdicts are known, or as soon as this end refuses (R334 step 5, R335). -/
def State.admissionSettles (s : State) (n : Nat) : State :=
  let l := s.link n
  match l.admission with
  | none => s
  | some a =>
    match a.verdict, a.partnerVerdict with
    | some (some cause), _ => s.linkToQuarantine n cause
    | some none, some false => s.linkToQuarantine n 6
    | some none, some true =>
      let enc := match s.admitEntry (Config.leafDigest a.partnerChain) with
        | some e => s.encryptReq n e
        | none => false
      (s.setLink n { l with st := .active, encrypted := enc, admission := none, keyCount := 0, txEpoch := 0, rxEpoch := 0,
                            ivCount := 0, ivRx := 0 }).linkSettled n
    | _, _ => s

/-- This end's verdict is formed and sent once the partner's chain and signature are here (R334 steps 3 to 5). -/
def State.formVerdict (s : State) (n : Nat) : State :=
  let l := s.link n
  match l.admission, l.partner with
  | some a, some cap =>
    if a.verdict.isSome || a.partnerNonce.isNone || a.sigOk.isNone then s
    else
      let v := s.verdictOf n a cap
      let s := s.setLink n { l with admission := some { a with verdict := some v },
                                    partnerLeaf := Config.leafDigest a.partnerChain }
      (s.emit (.admission n 5)).admissionSettles n
  | _, _ => s

/-- An admission message on VC4 (R334). -/
def State.admissionIn (s : State) (n : Nat) (m : AdmissionMsg) : State :=
  let l := s.link n
  match l.admission, l.partner with
  | some a, some cap =>
    (match m with
    | .hello chain nonce =>
      ((s.setLink n { l with admission := some { a with partnerNonce := some nonce, partnerChain := chain } }).emit
        (.admission n 2)).formVerdict n
    | .signature eph sig =>
      if a.partnerNonce.isNone then s
      else
        let ok := Config.sm2Verify a.partnerChain [] (Config.sm3 (s.admissionText n a cap eph)) (leBytes 64 sig.toNat)
        (s.setLink n { l with admission := some { a with sigOk := some ok } }).formVerdict n)
  | _, _ => s

/-- What a change of the admission list does to the links (R336, R345): ACTIVE links whose partner has left it go to
QUARANTINE with cause 7, QUARANTINE links whose partner is now listed and admissions in progress begin again. -/
def State.admitListChanged (s : State) : State :=
  (List.range 48).foldl (fun s n =>
    let l := s.link n
    let listed := (s.admitEntry l.partnerLeaf).isSome
    match l.st with
    | .active => if listed then s else s.linkToQuarantine n 7
    | .quarantine => if listed then s.beginAdmission n else s
    | .admitting => s.beginAdmission n
    | _ => s) s

/-! ## Flits (R324 to R327) -/

/-- One bit of the CRC of R324, most significant bit first. -/
def crcBit (c : Nat) (b : Bool) : Nat :=
  let top := tbit c 63 != b
  let c := c * 2 % 2 ^ 64
  if top then c ^^^ 0x42F0E1EBA9EA3693 else c

/-- CRC-64 of R324 over bytes: initial value all ones and final inversion (log entry 11). -/
def crc64 (bs : List Byte) : Nat :=
  (2 ^ 64 - 1) ^^^ bs.foldl (fun c b =>
    [7, 6, 5, 4, 3, 2, 1, 0].foldl (fun c i => crcBit c (tbit b.toNat i)) c) (2 ^ 64 - 1)

/-- A flit header (R325). -/
def flitHeader (vc typ seq ack : Nat) (nak : Bool) (crvc credits : Nat) : Nat :=
  vc * 2 ^ 61 + typ * 2 ^ 58 + seq * 2 ^ 46 + ack * 2 ^ 34 + b2n nak * 2 ^ 33 + crvc * 2 ^ 30 + credits * 2 ^ 20

/-- A list with the value at a position changed. -/
def updNth {α : Type} (xs : List α) (i : Nat) (f : α → α) : List α := xs.mapIdx (fun j x => if j = i then f x else x)

/-- The credits that the next flit returns (R331): the lowest VC that has some, at most 1,023. -/
def Link.creditsDue (l : Link) : Nat × Nat :=
  match leastFrom (fun m => nth 0 l.rxReturn m ≠ 0) 0 8 with
  | some m => (m, min (nth 0 l.rxReturn m) 1023)
  | none => (0, 0)

/-- ACK of the next flit: the last sequence number received in order. -/
def Link.ackNo (l : Link) : Nat := (l.expect - 1).toNat

/-- A control flit sent with ACK, a NAK if asked, and credits (R325, R327). -/
def State.sendControl (s : State) (n : Nat) (nak : Bool) : State :=
  let l := s.link n
  let (m, k) := l.creditsDue
  let body := leBytes 8 (flitHeader 0 3 0 l.ackNo nak m k) ++ List.replicate 240 0
  let s := s.setLink n { l with rxReturn := updNth l.rxReturn m (· - k) }
  s.emit (.flit n (body ++ leBytes 8 (crc64 body)))

/-- Every flit of the Eddy buffer is sent again, and REPLAY set (R327). -/
def State.replay (s : State) (n : Nat) : State :=
  let l := s.link n
  if l.eddy.isEmpty then s
  else
    let s := s.raise .axlReplay [n]
    l.eddy.foldl (fun s f => s.emit (.flit n (f.bytes ++ leBytes 8 (crc64 f.bytes)))) s

/-- A fast retrain begins (R321). -/
def State.beginFastRetrain (s : State) (n : Nat) : State :=
  (s.setLink n { (s.link n) with fastRetrain := some s.now, resends := 0 }).raise .axlRetrain [n]

/-- The Eddy buffer is sent again after a NAK or a timeout; when LIMIT successive resends have passed without ACK progress, the
link makes a fast retrain. None starts during one (R327, R328, R345). -/
def State.resend (s : State) (n : Nat) : State :=
  let l := s.link n
  if l.eddy.isEmpty || l.fastRetrain.isSome then s
  else
    let s := s.replay n
    let s := s.setLink n { l with ackTime := s.now, resends := l.resends + 1 }
    if s.getF .axlReplayCfg [n] 39 32 ≤ l.resends + 1 then s.beginFastRetrain n else s

/-- One lane of a link fails (R328): a fast retrain on the other, or DOWN when it was the last. -/
def State.dropLane (s : State) (n lane : Nat) : State :=
  let l := s.link n
  if !l.up || !tbit l.lanes.toNat lane then s
  else
    let left := l.lanes.toNat - 2 ^ lane
    if left = 0 then s.linkToDown n
    else ((s.setLink n { l with lanes := BitVec.ofNat 2 left }).raise .axlLaneDrop [n]).beginFastRetrain n

/-- The IV of R337: direction and key epoch in bits 31:0, then the count of data flits. -/
def gcmIv (dir : Bool) (epoch count : Nat) : List Byte := leBytes 4 (b2n dir * 2 ^ 31 + epoch) ++ leBytes 8 count

/-- This end is the one with the lower node number, then link number: direction 0 (R337). -/
def State.lowerEnd (s : State) (n : Nat) (cap : Capability) : Bool :=
  s.nodeNo < cap.node.toNat || (s.nodeNo = cap.node.toNat && n < cap.link.toNat)

/-- The key of a link's direction and epoch (R337). -/
def State.keyOf (s : State) (l : Link) (epoch : Nat) (dir : Bool) : List Byte :=
  Config.linkKey l.partnerLeaf (Config.leafDigest s.flash.chain) epoch dir

/-! ## Routes (R341, R342) -/

/-- The ways of a job's route table to a node, lowest first: link and SWITCH. -/
def RouteTable.waysTo (r : RouteTable) (d : Nat) : List (Nat × Bool) :=
  let w := (mget 0 r.ways d).toNat
  (List.range 4).filterMap (fun i =>
    let v := bits w (16 * i + 15) (16 * i)
    if tbit v 15 then some (v % 64, tbit v 14) else none)

/-- The link a packet leaves on: the lowest-numbered usable way of its destination (R342) whose filter entry lets it be
sent (R398). A message to a node of another Span takes the same table (log entry 11). -/
def State.wayOf (s : State) (p : Packet) : Option Nat :=
  match s.findJob p.tag p.epoch with
  | none => none
  | some (_, b) =>
    match b.routes with
    | none => none
    | some r =>
      ((r.waysTo p.dstNode.toNat).find? (fun w =>
        let l := s.link w.1
        l.st == .active && (w.2 || (match l.partner with
          | some c => c.node.toNat == p.dstNode.toNat
          | none => false)) &&
        (match s.filterOf w.1 p.tag p.epoch with
        | some (_, f) => filterSends f.st p
        | none => false))).map (·.1)

/-- The oldest packet that waits for a VC and leaves on a link, with the queue without it. -/
def State.nextPacket (s : State) (n vc : Nat) : Option (Packet × List Packet) :=
  match s.tx.find? (fun p => vcOf p.op.toNat == some vc && s.wayOf p == some n) with
  | some p => some (p, s.tx.erase p)
  | none => none

/-- Packets of a VC put into the bytes to send, oldest first, until there are enough for a flit (R352). -/
def State.fillTx (s : State) (n vc need : Nat) : Nat → State
  | 0 => s
  | fuel + 1 =>
    let l := s.link n
    let have_ := sumNat ((nth [] l.txBytes vc).map List.length)
    if need ≤ have_ then s
    else match s.nextPacket n vc with
      | none => s
      | some (p, rest) =>
        ({ s with tx := rest }.setLink n { l with txBytes := updNth l.txBytes vc (· ++ [packetBytes p]) }).fillTx n vc need fuel

/-- Bytes taken from the front of packets being sent: the bytes, what is left, and whether a packet ended. -/
def takeTx : Nat → List (List Byte) → List Byte × List (List Byte) × Bool
  | _, [] => ([], [], false)
  | need, p :: ps =>
    if need = 0 then ([], p :: ps, false)
    else if p.length ≤ need then
      let r := takeTx (need - p.length) ps
      (p ++ r.1, r.2.1, true)
    else (p.take need, p.drop need :: ps, false)

/-- A flit put on the link: kept in the Eddy buffer with its sequence number (R327). -/
def State.putFlit (s : State) (n vc typ : Nat) (payload : List Byte) : State :=
  let l := s.link n
  let (m, k) := l.creditsDue
  let head := leBytes 8 (flitHeader vc typ l.sendSeq.toNat l.ackNo false m k)
  let body := match l.encrypted, l.partner with
    | true, some cap =>
      let dir := !s.lowerEnd n cap
      let r := Config.sm4Gcm (s.keyOf l l.txEpoch dir) (gcmIv dir l.txEpoch l.ivCount) head payload
      head ++ slice r.1 0 224 ++ slice r.2 0 16
    | _, _ => head ++ slice payload 0 240
  let s := s.setLink n { l with
    sendSeq := l.sendSeq + 1, rxReturn := updNth l.rxReturn m (· - k)
    eddy := l.eddy ++ [{ seq := l.sendSeq, vc := vc, typ := typ, bytes := body }]
    ackTime := if l.eddy.isEmpty then s.now else l.ackTime }
  s.emit (.flit n (body ++ leBytes 8 (crc64 body)))

/-- One flit is sent on a VC (R327, R330 to R332, R337): a key update when the key has served 2^32 flits, else a data flit
while the VC has credit, the Eddy buffer has room and the partner's contract allows. -/
def State.sendFlit (s : State) (n vc : Nat) : State :=
  let l := s.link n
  if l.st ≠ .active || vc = 7 || l.fastRetrain.isSome || 1024 ≤ l.eddy.length then s
  else if l.encrypted && 2 ^ 32 ≤ l.keyCount then
    let s := s.putFlit n 4 4 []
    s.setLink n { (s.link n) with keyCount := 0, txEpoch := l.txEpoch + 1 }
  else
    let limit := match l.partner with
      | some c => nth 0 c.contract vc
      | none => 0
    if nth 0 l.avail vc = 0 || limit ≤ nth 0 l.sentCount vc then s
    else
      let size := if l.encrypted then 224 else 240
      let s := s.fillTx n vc size (s.tx.length + 1)
      let l := s.link n
      let (bs, left, ended) := takeTx size (nth [] l.txBytes vc)
      if bs.isEmpty then s
      else
        let s := s.setLink n { l with txBytes := updNth l.txBytes vc (fun _ => left) }
        let s := s.putFlit n vc (if ended then 2 else 1) (slice bs 0 size)
        let l := s.link n
        s.setLink n { l with
          avail := updNth l.avail vc (· - 1), sentCount := updNth l.sentCount vc (· + 1),
          keyCount := l.keyCount + 1, ivCount := l.ivCount + 1 }

/-- What an ACK does (R327): flits up to it leave the Eddy buffer, and progress is noted. -/
def State.ackIn (s : State) (n ack : Nat) : State :=
  let l := s.link n
  match l.eddy.findIdx? (fun f => f.seq.toNat == ack) with
  | none => s
  | some i => s.setLink n { l with eddy := l.eddy.drop (i + 1), ackTime := s.now, resends := 0 }

/-- The first discard in a gap sends one NAK (R327). -/
def State.gap (s : State) (n : Nat) : State :=
  let l := s.link n
  if l.nakSent then s else (s.setLink n { l with nakSent := true }).sendControl n true

/-- Whole packets read from the bytes of a VC (R352): zeros after a packet's end in a flit are fill (log entry 11).
Answers the packets, the bytes of a packet not yet complete, and whether a header is malformed. -/
def parsePackets : Nat → List Byte → List Packet × List Byte × Bool
  | 0, bs => ([], bs, false)
  | fuel + 1, bs =>
    if allZero bs then ([], [], false)
    else if bs.length < 32 then ([], bs, false)
    else
      let (p, len, b13) := readHeader bs
      if (vcOf p.op.toNat).isNone || opMax p.op.toNat < len || b13 ≠ 0 then ([], [], true)
      else if bs.length < 32 + len then ([], bs, false)
      else
        let r := parsePackets fuel (bs.drop (32 + len))
        ({ p with payload := slice bs 32 len } :: r.1, r.2.1, r.2.2)

/-- The beacon record of a VC5 flit (R404). -/
def readBeacon (b : List Byte) : BeaconMsg :=
  { spanTime := BitVec.ofNat 64 (leAt b 0 8), echoTx := BitVec.ofNat 64 (leAt b 8 8), echoRx := BitVec.ofNat 64 (leAt b 16 8),
    hops := nth 0 b 24, root := BitVec.ofNat 16 (leAt b 25 2) }

/-- The payload of an accepted data flit (R352, R401). VC5 flits carry no packet: the beacon is BEACON's. -/
def State.payloadIn (s : State) (n vc : Nat) (payload : List Byte) : State :=
  if vc = 5 then s
  else if vc = 4 && (payload.take 3).map BitVec.toNat = [0x44, 0x52, 0x4E] then
    s.drainDoneIn n (BitVec.ofNat 16 (leAt payload 3 2)) (nth 0 payload 5)
  else
    let l := s.link n
    let (ps, left, bad) := parsePackets 16 (nth [] l.rxBytes vc ++ payload)
    let s := s.setLink n { l with rxBytes := updNth l.rxBytes vc (fun _ => left) }
    let s := { s with rx := s.rx ++ ps.map (fun p => (n, p)) }
    if bad then s.anomaly n .malformed else s

/-- Credits of a VC's share return as its packets leave the receive buffer (R331). -/
def State.returnCredits (s : State) (n vc : Nat) : State :=
  let l := s.link n
  if s.rx.any (fun e => e.1 == n && vcOf e.2.op.toNat == some vc) then s
  else
    let stay := if (nth [] l.rxBytes vc).isEmpty then 0 else 1
    let used := nth 0 l.rxUsed vc
    let back := used - stay
    s.setLink n { l with rxUsed := updNth l.rxUsed vc (· - back), rxReturn := updNth l.rxReturn vc (· + back) }

/-- A flit that passed FEC and CRC (R325, R327, R335, R337, R338). -/
def State.goodFlit (s : State) (n : Nat) (bytes : List Byte) : State :=
  let h := leAt bytes 0 8
  let vc := bits h 63 61
  let typ := bits h 60 58
  let seq := bits h 57 46
  let seqd := typ = 1 || typ = 2 || typ = 4
  if 5 ≤ typ || vc = 7 || bits h 19 0 ≠ 0 || (!seqd && seq ≠ 0) then s.anomaly n .malformed
  else
    let s := s.ackIn n (bits h 45 34)
    let s := if bits h 33 33 = 1 then s.resend n else s
    let credit (s : State) : State :=
      let l := s.link n
      s.setLink n { l with avail := updNth l.avail (bits h 32 30) (· + bits h 29 20) }
    if !seqd then credit s
    else
      let l := s.link n
      if seq ≠ l.expect.toNat then
        if (seq + 4096 - l.expect.toNat) % 4096 < 2048 then s.gap n else s
      else
        let opened : Option (List Byte) := match l.encrypted, l.partner with
          | true, some cap =>
            let dir := s.lowerEnd n cap
            Config.sm4Open (s.keyOf l l.rxEpoch dir) (gcmIv dir l.rxEpoch l.ivRx) (slice bytes 0 8) (slice bytes 8 224)
              (slice bytes 232 16)
          | _, _ => some (slice bytes 8 240)
        match opened with
        | none => ((s.raise .axlTagFail [n]).anomaly n .tag).gap n
        | some payload =>
          if typ ≠ 4 && s.getF .axlVc [n, vc] 51 40 ≤ nth 0 l.rxUsed vc then s.anomaly n .credit
          else
            let s := s.setLink n { l with
              expect := l.expect + 1, nakSent := false,
              rxEpoch := if typ = 4 then l.rxEpoch + 1 else l.rxEpoch, ivRx := if typ = 4 then l.ivRx else l.ivRx + 1,
              windowCount := if typ = 4 then l.windowCount else updNth l.windowCount vc (· + 1),
              rxUsed := if typ = 4 then l.rxUsed else updNth l.rxUsed vc (· + 1) }
            let s := credit s
            let s := if typ = 4 || (l.st ≠ .active && vc ≠ 4) then s else s.payloadIn n vc payload
            let s := if typ = 4 then s else s.returnCredits n vc
            if (s.link n).up then s.sendControl n false else s

/-- A flit arrives with what FEC found (R326, R327): corrected codewords are counted, and a flit with an uncorrectable one
counts as a CRC failure. -/
def State.flitIn (s : State) (n : Nat) (bytes : List Byte) (corrected bad : Nat) : State :=
  let l := s.link n
  if !l.up then s
  else
    let s := s.setF .axlFec [n] 63 32 (satAdd 32 (s.getF .axlFec [n] 63 32) corrected)
    let s := s.setF .axlFec [n] 31 0 (satAdd 32 (s.getF .axlFec [n] 31 0) bad)
    if bad ≠ 0 || crc64 (bytes.take 248) ≠ leAt bytes 248 8 then s.gap n
    else s.goodFlit n bytes

end Sys2Proof.Machine
end

