-- ==== Sys2Proof/Machine/Placement.lean ====
section
/-! DEFINITION. The placement loop (R18, R20 to R22), the start of a unit (R112), and what a permanent fault moves (R411,
R412, R416 to R420). -/

namespace Sys2Proof.Machine

/-! ## The placement loop (R21) -/

/-- The rank of a physical cluster in the placement loop; none where it is not placeable (R18, R21). -/
def UnitMap.rank (m : UnitMap) (p : Nat) : Option Nat :=
  if !m.placeable p then none
  else if m.cluster p = .weak then some 2
  else if 17 ≤ (m.coresOf p).length then some 0
  else some 1

/-- The placeable clusters of a C-die, in the order of (rank, physical number) (R21). -/
def UnitMap.candidates (m : UnitMap) (d : Nat) : List Nat :=
  let of (r : Nat) : List Nat := (upFrom (168 * d) 168).filter (fun p => m.rank p == some r)
  of 0 ++ of 1 ++ of 2

/-- The record of a physical cluster: its logical cores lie on the first 16 enabled cores, and the 17th is the spare (R21,
R109). -/
def UnitMap.record (m : UnitMap) (p : Nat) : PlaceRec :=
  let cs := m.coresOf p
  { phys := p, cores := cs.take 16, spare := cs[16]? }

/-- The clusters chosen on a C-die, by physical number; none where it has fewer than 160 placeable ones (R21). -/
def UnitMap.chosen (m : UnitMap) (d : Nat) : Option (List Nat) :=
  let cs := m.candidates d
  if cs.length < 160 then none
  else
    let pick := cs.take 160
    some ((upFrom (168 * d) 168).filter (fun p => pick.contains p))

/-- The C-dies on which placement fails (R22). -/
def UnitMap.failedDies (m : UnitMap) : List Nat := (List.range 4).filter (fun d => (m.chosen d).isNone)

/-- The placement made from a map: logical cluster 160d + i is the i-th chosen cluster of C-die d (R21). -/
def UnitMap.placement (m : UnitMap) : Placement :=
  let recs := ((List.range 4).flatMap (fun d => (m.chosen d).getD [])).map m.record
  let numbered := recs.zipIdx.map (fun r => (r.2, r.1))
  { mapVersion := m.version, place := numbered, serve := numbered }

/-! ## The start of a unit (R112) -/

/-- G1 to G6 at a unit's issue (R112). -/
def State.startRegs (s : State) (b : JobSlot) (r : UnitRec) : List Nat :=
  [0x1FFF * 2 ^ 51 + r.param, r.unit.toNat, b.step.toNat, r.lcluster * 16 + r.lcore, s.nodeNo,
   b.tag.toNat * 256 + b.epoch.toNat]

/-- A unit starts on a core: the start state of R112, every tile cleared (R190), the weight versions as they stand. -/
def State.startUnit (s : State) (u : UnitRef) (b : JobSlot) (r : UnitRec) (c : Nat) : State :=
  let k := s.core c
  let regs := (s.startRegs b r).map (BitVec.ofNat 64)
  let k0 : Core := { Core.zero with
    phase := .running, unit := some u, pc := r.entry, ident := regs.drop 1, versions := k.versions,
    nextVersion := k.nextVersion, versionsAtIssue := k.versions, nextVersionAtIssue := k.nextVersion,
    checkDue := k.checkDue }
  let k1 := (regs.zipIdx 1).foldl (fun k v => k.wg v.2 v.1) k0
  (s.setCore c k1).updUnit u (fun x => { x with st := .issued c })

/-- A unit is issued again after a check fault or a remap, on the core that serves its logical core (R104, R417). -/
def State.reissue (s : State) (u : UnitRef) : State :=
  match s.unitRec u, s.job u.job with
  | some r, some b =>
    (match s.servingCore r.lcluster r.lcore with
    | some c =>
      ((s.raise .schReplay).raise .clsReplay [c / 17]).startUnit u b r c
    | none => s)
  | _, _ => s

/-! ## Node loss (R412) -/

/-- Node loss: the cluster schedulers stop and the transmitters go idle, so every link loses its partner (R412). -/
def State.nodeLoss (s : State) : State := { s with package := { s.package with lost := true } }

/-- A cold or warm restart of every die (R461): what the flashes, the tiles, the reference clock and host memory hold stays. -/
def State.restart (s : State) : State :=
  { State.reset with
    pending := s.pending, free := s.free, out := s.out, flash := s.flash
    mem := s.mem.filter (fun c => decide (hostAddr 0 ≤ c.1))
    package := { Package.zero with power := s.package.power, refclk := s.package.refclk, phases := s.package.phases } }

/-- The tiles shut down: no part holds power, and nothing persists (R438, R474). -/
def State.powerOff (s : State) : State :=
  let s := s.restart
  { s with package := { s.package with power := false } }

/-! ## Remaps (R418, R419) -/

/-- A continuity event: TIME.NOW is noted (R428). -/
def State.continuity (s : State) (f : Health → Health) : State :=
  { s with health := { f s.health with lastEvent := s.clock.now } }

/-- Words with errors of a range moved to another: what the code corrects moves clean, the rest stays uncorrectable
(R420). -/
def State.moveErrs (s : State) (a b n : Nat) : State :=
  let moved := s.errs.filter (fun e => decide (a ≤ e.1) && decide (e.1 < a + n) &&
    (e.2 == ErrKind.uncorrectable || e.2 == ErrKind.poison))
  let kept := s.errs.filter (fun e => !(decide (b ≤ e.1) && decide (e.1 < b + n)))
  { s with errs := moved.foldl (fun m e => minsert m (e.1 - a + b) .uncorrectable) kept }

/-- The Pool of a physical core copied to another (R418). -/
def State.movePool (s : State) (c d : Nat) : State :=
  let s := s.moveErrs (poolAddr c 0) (poolAddr d 0) (2 ^ 16)
  { s with mem := memPut (memClear s.mem (poolAddr d 0) (2 ^ 16)) (poolAddr d 0) (memTake s.mem (poolAddr c 0) (2 ^ 16)) }

/-- A logical core moves from a physical core to another: its Pool, and its live versions, which are read again from
their sources with their numbers and counts (R211, R418). -/
def State.moveCore (s : State) (c d : Nat) : State :=
  let k := s.core c
  let s := s.movePool c d
  let s := s.setCore d { Core.zero with
    versions := k.versions.map (fun v => { v with reread := true }), nextVersion := k.nextVersion,
    checkDue := (s.core d).checkDue }
  s.setCore c { Core.zero with checkDue := k.checkDue }

/-- The unit in progress on a core ends without commit, to be issued again (R417, R418). -/
def State.stopUnit (s : State) (c : Nat) : State × List UnitRef :=
  let k := s.core c
  match k.unit with
  | none => (s, [])
  | some u => (s.setCore c k.endAttempt, [u])

/-- Units in progress on cores end without commit. -/
def State.stopUnits (s : State) (cs : List Nat) : State × List UnitRef :=
  cs.foldl (fun r c => let t := r.1.stopUnit c; (t.1, r.2 ++ t.2)) (s, [])

/-- The record of what serves a logical cluster replaced (R109). -/
def State.setServe (s : State) (l : Nat) (r : PlaceRec) : State :=
  match s.placement with
  | none => s
  | some p => { s with placement := some { p with serve := minsert p.serve l r } }

/-- Logical cores of a cluster move from the cores of one record to those of another, highest first (R418). -/
def State.moveAll (s : State) (old new : PlaceRec) : State :=
  (List.range 16).reverse.foldl (fun s j =>
    if old.coreOf j = new.coreOf j then s else s.moveCore (old.coreOf j) (new.coreOf j)) s

/-- Units issued again on the cores that now serve their logical cores; a new core has had no check fault (R417). -/
def State.reissueAll (s : State) (us : List UnitRef) : State :=
  us.foldl (fun s u => (s.updUnit u (fun x => { x with checks := 0 })).reissue u) s

/-- The spare cluster a remap takes: of the same C-die, placeable, serving no logical cluster, of lowest rank and number
(R419 step 2). -/
def State.spareCluster (s : State) (d : Nat) : Option Nat :=
  match s.placement with
  | none => none
  | some p => (s.flash.map.candidates d).find? (fun q => !(p.serve.any (fun r => r.2.phys == q)))

/-- Every schedule whose table uses a logical cluster ends for want of a spare (R419). -/
def State.noSpare (s : State) (l : Nat) (us : List UnitRef) : State :=
  let s := us.foldl (fun s u => s.updUnit u (fun x => { x with st := .ended })) s
  (mkeys s.jobs).foldl (fun s j =>
    match s.job j with
    | some b =>
      (match b.run with
      | some r =>
        (match mfind s.tables r.slot with
        | some t =>
          if t.firstCluster ≤ l && l < t.firstCluster + t.clusters then
            let who := us.find? (fun u => u.job == j)
            let x := match who with
              | some u => (s.unitRec u).map (fun (x : UnitRec) => (x.lcore, x.unit.toNat))
              | none => none
            let s := s.continuity (fun h => { h with noSpareEnds := BitVec.ofNat 32 (satInc 32 h.noSpareEnds.toNat) })
            (s.schedEnd j Status.unitFault l (x.getD (0, 0xFFFF)).1 (x.getD (0, 0xFFFF)).2 true).schedSettle j
          else s
        | none => s)
      | none => s)
    | none => s) s

/-- A cluster remap (R419); `more` are units already ended that are to be issued again. -/
def State.clusterRemap (s : State) (l : Nat) (more : List UnitRef) : State :=
  match s.placement with
  | none => s
  | some p =>
    match mfind p.serve l with
    | none => s
    | some old =>
      let (s, us) := s.stopUnits ((List.range 16).map old.coreOf)
      let us := more ++ us
      match s.spareCluster (l / 160) with
      | none => s.noSpare l us
      | some q =>
        let new := s.flash.map.record q
        let s := s.moveAll old new
        let s := s.setServe l new
        let s := s.continuity (fun h => { h with clusterRemaps := BitVec.ofNat 32 (satInc 32 h.clusterRemaps.toNat) })
        s.reissueAll us

/-- A core remap after a permanent fault of a physical core (R417 step 4, R418); `more` are units already ended that are
to be issued again. -/
def State.coreRemap (s : State) (c : Nat) (more : List UnitRef) : State :=
  let lc := s.logicalOf c
  let s := if s.flash.map.cores.contains c then s else s.changeMap (·.disableCore c)
  let s := s.continuity (fun h => { h with coreRemaps := BitVec.ofNat 32 (satInc 32 h.coreRemaps.toNat) })
  match lc with
  | none => s
  | some x =>
    let l := x / 16
    match s.placement with
    | none => s
    | some p =>
      match mfind p.serve l with
      | none => s
      | some old =>
        let new := s.flash.map.record (c / 17)
        if new.cores.length < 16 then s.clusterRemap l more
        else
          let changed := ((List.range 16).filter (fun j => old.coreOf j ≠ new.coreOf j)).map old.coreOf
          let (s, us) := s.stopUnits changed
          let s := s.moveAll old new
          let s := s.setServe l new
          s.reissueAll (more ++ us)

/-! ## Check faults (R417) -/

/-- A check fault on a core during a unit (R134, R416, R417): the attempt ends without commit and the unit is issued again,
after a core remap when it was the second; an unreplayable unit ends its schedule. With no unit in progress it is charged to
the core's next one (R426). -/
def State.checkFault (s : State) (c : Nat) : State :=
  let k := s.core c
  match k.unit with
  | none => s.setCore c { k with checkDue := true }
  | some u =>
    match s.unitRec u with
    | none => s
    | some r =>
      let s := (s.recordFault c 2 FaultCode.check 0 0).raise .coreHwCheck [c / 17, c % 17]
      let s := s.setCore c (s.core c).endAttempt
      if r.unreplayable then
        let s := s.updUnit u (fun x => { x with st := .ended })
        (s.schedEnd u.job Status.unitFault r.lcluster r.lcore r.unit.toNat true).schedSettle u.job
      else
        let s := s.updUnit u (fun x => { x with checks := x.checks + 1 })
        if r.checks = 0 then s.reissue u else s.coreRemap c [u]

/-- A unit issues on a core (R112); a check fault that the core still owes is charged to it (R426). -/
def State.issueUnit (s : State) (u : UnitRef) (b : JobSlot) (r : UnitRec) (c : Nat) : State :=
  let t := s.startUnit u b r c
  if (s.core c).checkDue then (t.setCore c { t.core c with checkDue := false }).checkFault c else t

end Sys2Proof.Machine
end

