-- ==== Sys2Proof/Machine/Contexts.lean ====
section
/-! DEFINITION. Transport contexts (R348 to R358): the entry, requests and their credits, the sequence window of the
responder, and the end of a job's teardown (R400, R401). -/

namespace Sys2Proof.Machine

namespace Status
def ctxNotOpen : Nat := 0x0640
def ctxNoneFree : Nat := 0x0641
def ctxBindTimeout : Nat := 0x0642
def ctxKeyInUse : Nat := 0x0643
def ctxBusy : Nat := 0x0644
def copyParam : Nat := 0x0645
def msgTruncated : Nat := 0x0646
def recvLimit : Nat := 0x0647
def ctxNoMap : Nat := 0x0648
def routeBadImage : Nat := 0x0680
def routeTreeMismatch : Nat := 0x0681
def routeTreeLate : Nat := 0x0682
end Status

/-! Reply statuses (R353). -/

namespace Rs
def ok : Nat := 0
def addr : Nat := 1
def refused : Nat := 2
def dataError : Nat := 3
def rnr : Nat := 4
end Rs

/-! ## The entry (R349) -/

/-- OUTSTANDING: requests sent and not yet answered. -/
def Ctx.outstanding (c : Ctx) : Nat := (c.reqs.filter (fun r => !r.answered)).length

/-- LOW_UNACK: the lowest sequence number sent and not yet answered, the next one where none is. -/
def Ctx.lowest (c : Ctx) : W32 :=
  match c.reqs.find? (fun r => !r.answered) with
  | some r => r.seq
  | none => c.sendSeq

/-- The lowest sequence number in resolve, 0 when none is (R349). -/
def Ctx.unresolved (c : Ctx) : Nat :=
  match c.reqs.find? (fun r => r.unresolved) with
  | some r => r.seq.toNat
  | none => 0

/-- The code of an entry's state (R349). -/
def CtxSt.code : CtxSt → Nat
  | .closed => 0 | .binding => 1 | .open => 2 | .resolve => 3 | .closing => 4

/-- The 64 bytes of an entry (R349). -/
def Ctx.bytes (c : Ctx) : List Byte :=
  leBytes 2 c.peerNode.toNat ++ leBytes 2 c.peerSpan.toNat ++ leBytes 2 c.tag.toNat ++ [c.epoch] ++
  leBytes 1 c.st.code ++ leBytes 4 c.peerCtx.toNat ++ leBytes 4 c.timeoutUs.toNat ++ leBytes 4 c.sendSeq.toNat ++
  leBytes 4 c.lowUnack.toNat ++ leBytes 4 c.exec.toNat ++ leBytes 2 c.execMap.toNat ++ leBytes 1 c.retries.toNat ++
  leBytes 1 c.outstanding ++ leBytes 8 c.tally.toNat ++ leBytes 4 c.key.toNat ++ leBytes 2 c.late.toNat ++
  leBytes 2 c.resends.toNat ++ leBytes 4 c.unresolved ++ leBytes 12 0

/-- An entry belongs to a job's tag and epoch. -/
def Ctx.ofJob (c : Ctx) (tag : W16) (epoch : Byte) : Bool := c.st != .closed && c.tag == tag && c.epoch == epoch

/-- The timeout of an entry in ns (R349). -/
def Ctx.timeoutNs (c : Ctx) : Nat := c.timeoutUs.toNat * 1000

/-! ## Requests (R354, R356) -/

/-- A packet to a context's peer (R352). -/
def State.ctxPacket (s : State) (c : Ctx) (op flags : Nat) (seq : W32) (arg : Nat) (payload : List Byte) : Packet :=
  { op := BitVec.ofNat 8 op, flags := BitVec.ofNat 8 flags, dstNode := c.peerNode.zeroExtend 16,
    srcNode := BitVec.ofNat 16 s.nodeNo, dstSpan := c.peerSpan, srcSpan := BitVec.ofNat 16 s.spanNo, tag := c.tag,
    epoch := c.epoch, dstCtx := c.peerCtx.zeroExtend 32, seq := seq, arg := BitVec.ofNat 64 arg, payload := payload }

/-- A packet handed to the link layer (R342, R352). -/
def State.transmit (s : State) (p : Packet) : State := { s with tx := s.tx ++ [p] }

/-- A packet of a context sent to its peer. -/
def State.sendOn (s : State) (x op flags : Nat) (seq : W32) (arg : Nat) (payload : List Byte) : State :=
  s.transmit (s.ctxPacket (s.ctx x) op flags seq arg payload)

/-- A new request may leave: the entry is OPEN, OUTSTANDING is below 16, and the responder's window of 16 sequence
numbers has room, so that a slot is reused only after its request was answered (R354, R355). -/
def Ctx.canSend (c : Ctx) : Bool :=
  c.st == .open && c.outstanding < 16 && (c.sendSeq - c.lowest).toNat < 16

/-- The sequence number of a copy's opening request is noted in the copy (R362). -/
def State.noteSeq (s : State) (o : ReqOrigin) (seq : W32) : State :=
  match o with
  | .copy i | .msg i =>
    { s with copies := updFirst (fun y => y.id == i) (fun y => { y with seq := seq, t0 := s.now }) s.copies }
  | _ => s

/-- A request takes the next sequence number and is handed to the link layer; its timer starts (R354, R356). -/
def State.sendReq (s : State) (x : Nat) (r : Req) : State :=
  let c := s.ctx x
  let p := { r.pkt with seq := c.sendSeq }
  let r := { r with seq := c.sendSeq, pkt := p, t0 := s.now, tries := 0, unresolved := false, answered := false, rnr := none }
  let c1 : Ctx := { c with sendSeq := c.sendSeq + 1, reqs := c.reqs ++ [r] }
  ((s.setCtx x { c1 with lowUnack := c1.lowest }).transmit p).noteSeq r.origin c.sendSeq

/-- Requests that wait for a credit are sent while the entry has one (R354). -/
def State.pump (s : State) (x : Nat) : Nat → State
  | 0 => s
  | n + 1 =>
    let c := s.ctx x
    match c.queue with
    | [] => s
    | r :: rest => if c.canSend then ((s.setCtx x { c with queue := rest }).sendReq x r).pump x n else s

/-- A request accepted from its source: it is sent, or waits for a credit (R354). -/
def State.ctxRequest (s : State) (x op flags arg : Nat) (payload : List Byte) (o : ReqOrigin) : State :=
  let c := s.ctx x
  let r : Req := { seq := 0, pkt := s.ctxPacket c op flags 0 arg payload, origin := o, t0 := 0, tries := 0,
                   unresolved := false, answered := false, rnr := none }
  (s.setCtx x { c with queue := c.queue ++ [r] }).pump x (c.queue.length + 1)

/-- An entry is usable for a job's operation on a node of the Span: OPEN or RESOLVE, of the job's tag and epoch, with that
peer (R128, R371). -/
def State.ctxUsable (s : State) (x : Nat) (tag : W16) (epoch : Byte) (node span : Nat) : Bool :=
  let c := s.ctx x
  (c.st == .open || c.st == .resolve) && c.tag == tag && c.epoch == epoch && c.peerNode.toNat == node &&
  c.peerSpan.toNat == span

/-! ## Dropped signals (R126) -/

/-- A signal of a committed unit is dropped: SIG_DROP, and the job's schedule ends as a unit fault naming the unit (R105,
R126). -/
def State.dropSignal (s : State) (j lc : Nat) (unit : W16) : State :=
  ((s.raise .schSigDrop).schedEnd j Status.unitFault (lc / 16) (lc % 16) unit.toNat true).schedSettle j

/-! ## The responder's window (R355) -/

/-- Where a sequence number stands at the responder (R355). -/
inductive SeqSt where
  | stale | done | fresh | outside
  deriving DecidableEq, Repr

/-- The standing of sequence number q, all comparisons mod 2^32 (R355). -/
def Ctx.seqSt (c : Ctx) (q : W32) : SeqSt :=
  let d := (q - c.exec).toNat
  if d = 0 || 2 ^ 31 ≤ d then (if 16 ≤ (c.exec - q).toNat then .stale else .done)
  else if 16 < d then .outside
  else if 2 ≤ d && tbit c.execMap.toNat (d - 2) then .done
  else .fresh

/-- EXEC and EXEC_MAP advance over the contiguous executed run (R355). -/
def runOn : Nat → W32 → Nat → W32 × Nat
  | 0, e, m => (e, m)
  | n + 1, e, m => if m % 2 = 1 then runOn n (e + 1) (m / 2) else (e + 1, m / 2)

/-- A sequence number is marked executed (R355). -/
def Ctx.markDone (c : Ctx) (q : W32) : Ctx :=
  let d := (q - c.exec).toNat
  if d = 1 then
    let r := runOn 16 c.exec c.execMap.toNat
    { c with exec := r.1, execMap := BitVec.ofNat 16 r.2 }
  else { c with execMap := c.execMap ||| BitVec.ofNat 16 (2 ^ (d - 2)) }

/-- Address of slot q mod 16 of entry x in the atomic reply store (R355). -/
def slotAddr (x : Nat) (q : W32) : Nat := 0x8F80000000 + x * 256 + q.toNat % 16 * 16

/-- A late or stale arrival is discarded and counted (R355, R358). -/
def State.lateOn (s : State) (x : Nat) : State :=
  let c := s.ctx x
  (s.setCtx x { c with late := BitVec.ofNat 16 (satInc 16 c.late.toNat) }).raise .ctxLate

/-! ## Closing entries (R351, R400) -/

/-- An entry goes to CLOSED, with everything it held (R349, R351). -/
def State.closeCtx (s : State) (x : Nat) : State := s.setCtx x Ctx.zero

/-! ## The end of a teardown (R400 steps 3 to 6) -/

/-- The context numbers of a job. -/
def State.ctxsOf (s : State) (tag : W16) (epoch : Byte) : List Nat :=
  mkeys (s.ctxs.filter (fun e => e.2.ofJob tag epoch))

/-- A command waits as the JOB_TEARDOWN of a job. -/
def CmdWait.teardownFor : CmdWait → Nat → Bool
  | .teardown k _, j => k == j
  | _, _ => false

/-- A command tears a job down: its JOB_TEARDOWN, or a NODE_RESET (R462 step 2). -/
def CmdWait.tearsDown : CmdWait → Nat → Bool
  | .teardown k _, j => k == j
  | .nodeReset _ _, _ => true
  | _, _ => false

/-- Every outstanding request of a job is answered or unresolved (R400 step 3). -/
def State.drainedReqs (s : State) (tag : W16) (epoch : Byte) : Bool :=
  (s.ctxsOf tag epoch).all (fun x => (s.ctx x).reqs.all (fun r => r.answered || r.unresolved))

/-- Started commands that a predicate picks reply with a status, oldest first. -/
def State.finishAll (s : State) (status : Nat) (p : Started → Bool) : State :=
  (s.started.filter p).foldl (fun s c => s.finishCmd c (.st status)) s

/-- A command acts for a job (R86): classes 0x02 to 0x07. -/
def Started.ofJob (c : Started) (tag : W16) (epoch : Byte) : Bool :=
  2 ≤ c.opcode.toNat / 256 && c.opcode.toNat / 256 ≤ 7 && c.opcode ≠ 0x0203 && c.opcode ≠ 0x0301 && c.tag == tag &&
  c.epoch == epoch

/-- Step 5 of R400 on one link: the job's entry goes to DRAINING and DRAIN_DONE is sent on an ACTIVE link; an exchange
that the partner began, or a link that is not ACTIVE, closes it at once (R401). -/
def State.drainLink (s : State) (n : Nat) (tag : W16) (epoch : Byte) : State :=
  match s.filterOf n tag epoch with
  | none => s
  | some (e, f) =>
    if (s.link n).st == .active then
      let s := s.emit (.drainDone n tag epoch)
      if f.remembered then s.closeFilter n e else s.setFilter n e { f with st := .draining }
    else s.closeFilter n e

/-- Steps 4 to 6 of R400: contexts closed, filters draining, and everything the job held freed, its key slots cleared (R439);
the placement ends with the last job (R20). -/
def State.teardownEnd (s : State) (j : Nat) : State :=
  match s.job j with
  | none => s
  | some b =>
    let s := s.finishAll Status.aborted (fun c => c.ofJob b.tag b.epoch && c.wait != .ready && !c.wait.teardownFor j)
    let s := (s.ctxsOf b.tag b.epoch).foldl State.closeCtx s
    let s := { s with
      copies := s.copies.filter (fun y => !(y.tag == b.tag && y.epoch == b.epoch))
      reductions := s.reductions.filter (fun r => r.job != j)
      redIn := s.redIn.filter (fun r => r.job != j)
      tx := s.tx.filter (fun p => !(p.tag == b.tag && p.epoch == b.epoch)) }
    let s := (List.range 48).foldl (fun s n => s.drainLink n b.tag b.epoch) s
    let held := s.pages.filter (fun p => p.2.job == j)
    let s := { s with
      heldWrites := s.heldWrites.filter (fun w => !(held.any (fun p => w.1 / 2 ^ 16 == p.1)))
      pages := s.pages.filter (fun p => p.2.job != j)
      stageUsed := s.stageUsed - (held.filter (fun (p : Nat × PageRec) => p.2.st == PageSt.staged)).length
      tracked := s.tracked.filter (fun t => t.2.job != j)
      reservations := s.reservations.filter (fun r => r.tag != b.tag)
      granite := { s.granite with keys := s.granite.keys.filter (fun k => !(2 ≤ k.1 && k.2.tag == b.tag && k.2.epoch == b.epoch)) }
      tables := s.tables.filter (fun t => t.2.job != j)
      snaps := merase s.snaps j
      jobs := merase s.jobs j }
    let s := if s.jobs.isEmpty then { s with placement := none } else s
    match s.started.find? (fun c => c.wait.teardownFor j) with
    | some c => s.finishCmd c (.ok)
    | none => s

/-- The teardown of a job goes on once its outstanding requests are answered or unresolved (R400 step 3). -/
def State.teardownCheck (s : State) (j : Nat) : State :=
  match s.job j with
  | some b =>
    let waits := s.started.any (fun c => c.wait.tearsDown j)
    if b.teardown && waits && s.drainedReqs b.tag b.epoch then s.teardownEnd j else s
  | none => s

/-- The same for the job of a context. -/
def State.teardownOf (s : State) (tag : W16) (epoch : Byte) : State :=
  match s.findJob tag epoch with
  | some (j, _) => s.teardownCheck j
  | none => s

end Sys2Proof.Machine
end

