-- ==== Sys2Proof/Machine/Formats.lean ====
section
/-! DEFINITION. Element formats, MX blocks and conversion (R166 to R187): decoding is exact; encoding rounds once on the
extended grid of the output format. -/

namespace Sys2Proof.Machine

/-! ## Format words (R166 to R168) -/

/-- FMT of a format word. -/
def fwFmt (w : Nat) : Nat := bits w 3 0
/-- BLOCK of a format word. -/
def fwBlock (w : Nat) : Nat := bits w 6 4
/-- SHARE of a format word. -/
def fwShare (w : Nat) : Nat := bits w 8 7
/-- STRICT of a format word. -/
def fwStrict (w : Nat) : Bool := tbit w 9
/-- ROUND of a format word is stochastic. -/
def fwStoch (w : Nat) : Bool := bits w 11 10 = 1
/-- Elements per MX block (R175); 1 where BLOCK is 0. -/
def fwBlockLen (w : Nat) : Nat := if fwBlock w = 0 then 1 else 4 * 2 ^ fwBlock w

/-- The formats that may carry an MX scale (R166). -/
def fmtMx (f : Nat) : Bool := f = 0 || (3 ≤ f && f ≤ 7)
/-- The integer formats (R172). -/
def fmtInt (f : Nat) : Bool := f ≤ 2
/-- The FP4, FP6 and FP8 formats. -/
def fmtNarrow (f : Nat) : Bool := 3 ≤ f && f ≤ 7

/-- Bits that no word may set, and values that no word may hold (R167, R168). -/
def fwBad (w : Nat) : Bool :=
  bits w 15 12 ≠ 0 || 2 ≤ bits w 11 10 || 2 ≤ fwShare w || 6 ≤ fwBlock w || 0xB ≤ fwFmt w ||
  (fwBlock w ≠ 0 && !fmtMx (fwFmt w))

/-- A valid input word (R168). -/
def fwInOk (w : Nat) : Bool := !fwBad w && fwFmt w ≠ 0xA && !fwStrict w && bits w 11 10 = 0
/-- A valid output word (R168). -/
def fwOutOk (w : Nat) : Bool :=
  !fwBad w && fwShare w = 0 && (fwFmt w ≠ 0xA || (!fwStrict w && bits w 11 10 = 0 && fwBlock w = 0))
/-- A valid pair of input words (R168). -/
def fwPairOk (a b : Nat) : Bool :=
  let f := fwFmt a
  let g := fwFmt b
  fwInOk a && fwInOk b && ((fmtInt f && fmtInt g) || (fmtNarrow f && fmtNarrow g) || (f = 8 && g = 8) || (f = 9 && g = 9))

/-- Element bits of a format (R166). -/
def fmtBits (f : Nat) : Nat :=
  match f with
  | 2 | 3 => 4
  | 4 | 5 => 6
  | 8 | 9 => 16
  | 10 => 32
  | _ => 8

/-! ## Encodings (R169 to R172) -/

/-- Exponent bits, mantissa bits and bias of a float format (R169). -/
def fmtShape (f : Nat) : Nat × Nat × Int :=
  match f with
  | 3 => (2, 1, 1)
  | 4 => (2, 3, 1)
  | 5 => (3, 2, 3)
  | 6 => (4, 3, 7)
  | 7 => (5, 2, 15)
  | 8 => (8, 7, 127)
  | 9 => (5, 10, 15)
  | _ => (8, 23, 127)

/-- The code of the largest finite magnitude (R169). -/
def fmtMax (f : Nat) : Nat :=
  match f with
  | 3 => 0x7
  | 4 | 5 => 0x1F
  | 6 => 0x7E
  | 7 => 0x7B
  | 8 => 0x7F7F
  | 9 => 0x7BFF
  | _ => 0x7F7FFFFF

/-- The positive canonical NaN code (R170); E4M3 has no quiet bit, so its only NaN code. -/
def fmtNan (f : Nat) : Nat :=
  match f with
  | 6 => 0x7F
  | 7 => 0x7E
  | 8 => 0x7FC0
  | 9 => 0x7E00
  | _ => 0x7FC00000

/-- The code of positive infinity, in the formats that have one (R169). -/
def fmtInf (f : Nat) : Nat :=
  match f with
  | 7 => 0x7C
  | 8 => 0x7F80
  | 9 => 0x7C00
  | _ => 0x7F800000

/-- The least and the greatest integer of an integer format (R172). -/
def intRange (f : Nat) : Int × Int :=
  match f with
  | 1 => (0, 255)
  | 2 => (-8, 7)
  | _ => (-128, 127)

/-- The value of an element code (R169, R172, R174); `mx` says that the format word has a block. No NaN is signalling
(R170). -/
def decodeElem (f : Nat) (mx : Bool) (c : Nat) : FVal :=
  if fmtInt f then
    let z : Int := if f = 1 then ((c % 256 : Nat) : Int) else sext (fmtBits f) c
    .fin (z < 0) z.natAbs (if mx then -6 else 0)
  else
    let (eb, mb, bias) := fmtShape f
    let m := c % 2 ^ mb
    let e := (c >>> mb) % 2 ^ eb
    let neg := tbit c (eb + mb)
    let top := e = 2 ^ eb - 1
    if f = 6 && top && m = 7 then .nan false
    else if 7 ≤ f && top then (if m = 0 then .inf neg else .nan false)
    else if e = 0 then .fin neg m (1 - bias - mb)
    else .fin neg (2 ^ mb + m) ((e : Int) - bias - mb)

/-- A value times a power of two, formed exactly (R174, R180). -/
def FVal.scale (v : FVal) (x : Int) : FVal :=
  match v with
  | .fin n m e => .fin n m (e + x)
  | _ => v

/-- The value of an element of an MX block with scale code `c` (R171, R174, R175). -/
def decodeMx (f : Nat) (scale c : Nat) : FVal :=
  if scale = 0xFF then .nan false else (decodeElem f true c).scale ((scale : Int) - 127)

/-! ## Packing (R173) -/

/-- Packed row length of n elements of b bits. -/
def packedLen (n b : Nat) : Nat := cdiv (n * b) 8

/-- Element codes of a packed row. -/
def unpackRow (b n : Nat) (bs : List Byte) : List Nat :=
  let v := leNat bs
  (List.range n).map (fun i => (v >>> (i * b)) % 2 ^ b)

/-- A packed row of element codes; bits past the last element are 0. -/
def packRow (b : Nat) (cs : List Nat) : List Byte :=
  leBytes (packedLen cs.length b) (cs.reverse.foldl (fun v c => v * 2 ^ b + c % 2 ^ b) 0)

/-! ## Rounding (R178, R183) -/

/-- A magnitude m × 2^e rounded to a multiple of 2^q: to nearest even, or stochastically with the random word `u`. -/
def gridRound (u : Option Nat) (m : Nat) (e q : Int) : Nat :=
  match u with
  | none => (roundAt 0 false m e q false).1
  | some u =>
    if q ≤ e then m * 2 ^ (e - q).toNat
    else
      let d := 2 ^ (q - e).toNat
      let f := m % d * 2 ^ 32 / d
      if 2 ^ 32 ≤ f + u then m / d + 1 else m / d

/-- Conversion events (R185): the seven fields in order. -/
structure ConvCounts where
  converted : Nat := 0
  sat : Nat := 0
  ovf : Nat := 0
  nan : Nat := 0
  inf : Nat := 0
  under : Nat := 0
  nanBlocks : Nat := 0
  deriving DecidableEq, Repr

/-- Counts added. -/
def ConvCounts.add (a b : ConvCounts) : ConvCounts :=
  ⟨a.converted + b.converted, a.sat + b.sat, a.ovf + b.ovf, a.nan + b.nan, a.inf + b.inf, a.under + b.under,
   a.nanBlocks + b.nanBlocks⟩

/-- The counts in the order of the record (R185). -/
def ConvCounts.toList (a : ConvCounts) : List Nat := [a.converted, a.sat, a.ovf, a.nan, a.inf, a.under, a.nanBlocks]

/-- The sum of many counts. -/
def ConvCounts.sum (xs : List ConvCounts) : ConvCounts := xs.foldl ConvCounts.add {}

/-- The sign bit of a float format. -/
def fmtSign (f : Nat) (neg : Bool) : Nat := b2n neg * 2 ^ (fmtBits f - 1)

/-- The magnitude code of m × 2^q in a float format, on the extended grid: q is at least the grid's least step (R178). -/
def fmtCode (f m : Nat) (q : Int) : Nat :=
  let (_, mb, bias) := fmtShape f
  let (m, q) := if 2 ^ (mb + 1) ≤ m then (m / 2, q + 1) else (m, q)
  if m < 2 ^ mb then m else (m - 2 ^ mb) + (q + mb + bias).toNat * 2 ^ mb

/-- An element encoded (R178, R179, R183): format, STRICT, block format, random word, source value; the code and the
events. -/
def encodeElem (f : Nat) (strict mx : Bool) (u : Option Nat) (x : FVal) : Nat × ConvCounts :=
  let special := 7 ≤ f
  if fmtInt f then
    let (lo, hi) := intRange f
    let code (z : Int) : Nat := toBits (fmtBits f) z
    match x with
    | .nan _ => (0, { converted := 1, nan := 1 })
    | .inf n => (code (if n then lo else hi), { converted := 1, inf := 1, sat := 1 })
    | .fin n m e =>
      let r := gridRound u m e (if mx then -6 else 0)
      let z : Int := if n then -(r : Int) else r
      if z < lo then (code lo, { converted := 1, sat := 1 })
      else if hi < z then (code hi, { converted := 1, sat := 1 })
      else (code z, { converted := 1, under := b2n (m ≠ 0 && z = 0 && !(f = 1 && n)) })
  else
    match x with
    | .nan _ => (if f ≤ 5 then 0 else fmtNan f, { converted := 1, nan := 1 })
    | .inf n =>
      if special then (fmtSign f n + fmtInf f, { converted := 1, inf := 1 })
      else if f = 6 && strict then (0x7F, { converted := 1, inf := 1 })
      else (fmtSign f n + fmtMax f, { converted := 1, inf := 1, sat := 1 })
    | .fin n m e =>
      if m = 0 then (fmtSign f n, { converted := 1 })
      else
        let (_, mb, bias) := fmtShape f
        let q := max ((log2 m : Int) + e - mb) (1 - bias - mb)
        let r := gridRound u m e q
        let c := fmtCode f r q
        if r = 0 then (fmtSign f n, { converted := 1, under := 1 })
        else if c ≤ fmtMax f then (fmtSign f n + c, { converted := 1 })
        else if f = 10 || (special && strict) then (fmtSign f n + fmtInf f, { converted := 1, ovf := 1 })
        else if f = 6 && strict then (0x7F, { converted := 1, ovf := 1 })
        else (fmtSign f n + fmtMax f, { converted := 1, sat := 1 })

/-! ## MX blocks (R180 to R182) -/

/-- emax of R181. -/
def fmtEmax (f : Nat) : Int :=
  match f with
  | 3 | 4 => 2
  | 5 => 4
  | 6 => 8
  | 7 => 15
  | _ => 0

/-- floor(log2 |x|) of a finite non-zero value. -/
def FVal.log2? : FVal → Option Int
  | .fin _ m e => if m = 0 then none else some ((log2 m : Int) + e)
  | _ => none

/-- The block-local scale exponent (R181). -/
def blockLocal (f : Nat) (xs : List FVal) : Int :=
  match xs.filterMap FVal.log2? with
  | [] => 0
  | l :: ls => clampInt (-127) 127 (ls.foldl max l - fmtEmax f)

/-- A block converted (R180 to R182): output word, tracked scale exponent if one is supplied, random words and source
values. Answers the scale code, the element codes and the events. -/
def encodeBlock (w : Nat) (tracked : Option Int) (us : List (Option Nat)) (xs : List FVal) :
    Nat × List Nat × ConvCounts :=
  let f := fwFmt w
  let nans := (xs.filter FVal.isNan).length
  let infs := (xs.filter FVal.isInf).length
  if nans ≠ 0 || (infs ≠ 0 && f ≠ 7 && fwStrict w) then
    (0xFF, xs.map (fun _ => 0), { converted := xs.length, nan := nans, inf := infs, nanBlocks := 1 })
  else
    let x := tracked.getD (blockLocal f xs)
    let r := (us.zip xs).map (fun p => encodeElem f (fwStrict w) true p.1 (p.2.scale (-x)))
    ((x + 127).toNat, r.map (·.1), ConvCounts.sum (r.map (·.2)))

/-! ## Exact sums rounded once to FP32 -/

/-- The exact sum of finite values: an integer and the exponent it counts in. -/
def exactSum (ts : List FVal) : Int × Int :=
  match ts with
  | [] => (0, 0)
  | t :: rest =>
    let q := rest.foldl (fun q v => min q v.ex) t.ex
    (ts.foldl (fun z v => z + v.at q) 0, q)

/-- A sum rounded once to FP32 to nearest even, with the special values of IEEE 754-2019 (R151). An exact zero is −0 only
when every term is −0. -/
def sumToF32 (ts : List FVal) : Nat × FFlags :=
  if ts.any FVal.isNan then (f32Fmt.nanCode, {})
  else
    let infs := ts.filter FVal.isInf
    match infs with
    | [] =>
      let (z, q) := exactSum ts
      f32Fmt.roundInt 0 (ts.all (fun t => t.isZero && t.neg)) z q
    | t :: rest => if rest.all (fun v => v.neg == t.neg) then (f32Fmt.infCode t.neg, {}) else (f32Fmt.nanCode, FFlags.invalid)

/-- A floating dot product (R151): the accumulator's code and the pairs of operands. A product 0 × ∞ sets NV, as does a
signalling accumulator (log entry 9). -/
def floatDot (acc : Nat) (ps : List (FVal × FVal)) : Nat × FFlags :=
  let a := f32Fmt.decode acc
  let bad := ps.any (fun p => !p.1.isNan && !p.2.isNan && (p.1.mul? p.2).isNone)
  let ts := ps.map (fun p => (p.1.mul? p.2).getD (.nan false))
  let r := sumToF32 (ts ++ [a])
  (r.1, FFlags.or r.2 { nv := bad || a.isSnan })

end Sys2Proof.Machine
end

