-- ==== Sys2Proof/Machine/Flags.lean ====
section
/-! DEFINITION. The results and flags of the floating-point instructions (R120, R121, R137, R155), each a function of
operand codes and the rounding mode. -/

namespace Sys2Proof.Machine

/-- What a scalar FP32 function gives: an FP32 code for F[rd], or an integer for G[rd]. -/
inductive FpOut where
  | fres (v : Nat) (fl : FFlags)
  | gres (v : Nat) (fl : FFlags)
  | undef
  deriving DecidableEq, Repr

/-- An FP32 result with its flags. -/
def fpo (r : Nat × FFlags) : FpOut := .fres r.1 r.2

/-- The magnitude bits of an FP32 code. -/
def f32Mag (a : Nat) : Nat := a % 2 ^ 31

/-- Scalar FP32 (R121): func, CSR.FRM, the codes in F[ra], F[rb] and F[rd], and G[ra]. FSGNJ takes its magnitude from ra
and its sign from rb (log entry 7). -/
def f32Op (fn frm a b d : Nat) (g : Word) : FpOut :=
  match fn with
  | 0x000 => fpo (f32Fmt.add frm a b)
  | 0x001 => fpo (f32Fmt.sub frm a b)
  | 0x002 => fpo (f32Fmt.mul frm a b)
  | 0x003 => fpo (f32Fmt.div frm a b)
  | 0x004 => fpo (f32Fmt.sqrt frm a)
  | 0x005 => fpo (f32Fmt.minMax false a b)
  | 0x006 => fpo (f32Fmt.minMax true a b)
  | 0x008 => fpo (f32Fmt.fma frm a b d)
  | 0x009 => fpo (f32Fmt.fnma frm a b d)
  | 0x00A => .fres (f32Mag a) {}
  | 0x00B => .fres (f32Fmt.negCode a) {}
  | 0x00C => .fres (f32Mag a + b2n (tbit b 31) * 2 ^ 31) {}
  | 0x010 => fpo (f32Fmt.roundInt frm false g.toInt 0)
  | 0x011 => fpo (f32Fmt.roundInt frm false (g.toNat : Int) 0)
  | 0x012 =>
    let r := (f32Fmt.decode a).toInt frm (-(2 ^ 63)) (2 ^ 63 - 1)
    .gres (toBits 64 r.1) r.2
  | 0x013 =>
    let r := (f32Fmt.decode a).toInt frm 0 (2 ^ 64 - 1)
    .gres (toBits 64 r.1) r.2
  | 0x014 => .gres a {}
  | 0x015 => .fres (g.toNat % 2 ^ 32) {}
  | 0x016 => .gres (f32Class a) {}
  | _ => .undef

/-- The bits of CSR.VCVT (R164). -/
structure CvtFlags where
  nan : Bool := false
  lowRange : Bool := false
  overflow : Bool := false
  inexact : Bool := false
  deriving DecidableEq, Repr

/-- The flags as bits of CSR.VCVT (R164). -/
def CvtFlags.bits (f : CvtFlags) : Nat := 8 * b2n f.nan + 4 * b2n f.lowRange + 2 * b2n f.overflow + b2n f.inexact

/-- Whether ±m × 2^e, not zero, lies below 2^p in magnitude. -/
def belowPow (m : Nat) (e p : Int) : Bool := (log2 m : Int) + e < p

/-- VLD.D2P of one binary64 code (R154, R155): hi, lo, the CSR.VCVT bits and the CSR.FFLAGS bits. -/
def d2p (x : Nat) : Nat × Nat × CvtFlags × FFlags :=
  match f64Fmt.decode x with
  | .nan s => (f32Fmt.nanCode, 0, { nan := true }, { nv := s })
  | .inf n => (f32Fmt.infCode n, 0, {}, {})
  | .fin n m e =>
    if m = 0 then (b2n n * 2 ^ 31, 0, {}, {})
    else
      let hi := (f32Fmt.round 0 n m e false).1
      match f32Fmt.decode hi with
      | .fin hn hm he =>
        let q := min e he
        let rest := FVal.at (.fin n m e) q - FVal.at (.fin hn hm he) q
        let lo := (f32Fmt.roundInt 0 false rest q).1
        let ql := min q (f32Fmt.decode lo).ex
        let exact := rest * ((2 ^ (q - ql).toNat : Nat) : Int) == (f32Fmt.decode lo).at ql
        (hi, lo, { lowRange := belowPow m e (-102), inexact := !exact }, {})
      | _ => (hi, 0, { overflow := true }, { of := true })

/-- VST.P2D of one pair (R154): hi + lo formed exactly and rounded once to binary64, to nearest even. -/
def p2d (hi lo : Nat) : Nat := (f64Fmt.addVals 0 (f32Fmt.decode hi) (f32Fmt.decode lo)).1

end Sys2Proof.Machine
end

