-- ==== Sys2Proof/Machine/Scalar.lean ====
section
/-! DEFINITION. Scalar, predicate, FP32, control-flow, CSR and tally instructions of a core (R118 to R126, R137). -/

namespace Sys2Proof.Machine

/-- What a meaning answers. -/
abbrev Out1 := Host.Outcome State Fault Refusal

/-! ## Integer ALU (R118, R119) -/

/-- The low 32 bits of a value, sign-extended to 64. -/
def wRes (x : Nat) : Word := BitVec.ofInt 64 (sext 32 x)

/-- Signed division of R119: quotient toward zero, all ones on division by zero. -/
def sdivW (a b : Word) : Word := if b = 0 then BitVec.allOnes 64 else BitVec.ofInt 64 (a.toInt.tdiv b.toInt)
/-- Signed remainder of R119: the sign of the dividend; the dividend on division by zero. -/
def sremW (a b : Word) : Word := if b = 0 then a else BitVec.ofInt 64 (a.toInt.tmod b.toInt)
/-- Unsigned division of R119. -/
def udivW (a b : Word) : Word := if b = 0 then BitVec.allOnes 64 else BitVec.ofNat 64 (a.toNat / b.toNat)
/-- Unsigned remainder of R119. -/
def uremW (a b : Word) : Word := if b = 0 then a else BitVec.ofNat 64 (a.toNat % b.toNat)

/-- Leading zeros of a 64-bit value. -/
def clzW (a : Word) : Nat := if a = 0 then 64 else 63 - log2 a.toNat
/-- Trailing zeros of a 64-bit value. -/
def ctzW (a : Word) : Nat := (leastFrom (tbit a.toNat) 0 64).getD 64
/-- Bits set in a 64-bit value. -/
def popW (a : Word) : Nat := (setBits a.toNat 64).length
/-- The bytes of a 64-bit value in reverse order. -/
def bswapW (a : Word) : Word := BitVec.ofNat 64 (leNat (leBytes 8 a.toNat).reverse)

/-- Shift right, arithmetic, of the low 32 bits, sign-extended. -/
def srawW (a : Word) (n : Nat) : Word := BitVec.ofInt 64 (sext 32 a.toNat >>> n)

/-- The result of an integer ALU func that R118 lists, less SEL. -/
def aluOp (fn : Nat) (a b : Word) : Option Word :=
  let sh := b.toNat % 64
  let shw := b.toNat % 32
  match fn with
  | 0x000 => some (a + b)
  | 0x001 => some (a - b)
  | 0x002 => some (a &&& b)
  | 0x003 => some (a ||| b)
  | 0x004 => some (a ^^^ b)
  | 0x005 => some (a <<< sh)
  | 0x006 => some (a >>> sh)
  | 0x007 => some (a.sshiftRight sh)
  | 0x008 => some (if a.slt b then 1 else 0)
  | 0x009 => some (if a.ult b then 1 else 0)
  | 0x00A => some (if a.slt b then a else b)
  | 0x00B => some (if a.slt b then b else a)
  | 0x00C => some (if a.ult b then a else b)
  | 0x00D => some (if a.ult b then b else a)
  | 0x010 => some (a * b)
  | 0x011 => some (BitVec.ofInt 64 ((a.toInt * b.toInt) / 2 ^ 64))
  | 0x012 => some (BitVec.ofNat 64 ((a.toNat * b.toNat) / 2 ^ 64))
  | 0x013 => some (BitVec.ofInt 64 ((a.toInt * (b.toNat : Int)) / 2 ^ 64))
  | 0x014 => some (sdivW a b)
  | 0x015 => some (udivW a b)
  | 0x016 => some (sremW a b)
  | 0x017 => some (uremW a b)
  | 0x020 => some (BitVec.ofNat 64 (clzW a))
  | 0x021 => some (BitVec.ofNat 64 (ctzW a))
  | 0x022 => some (BitVec.ofNat 64 (popW a))
  | 0x023 => some (bswapW a)
  | 0x030 => some (wRes (a + b).toNat)
  | 0x031 => some (wRes (a - b).toNat)
  | 0x032 => some (wRes (a.toNat * 2 ^ shw))
  | 0x033 => some (wRes (a.toNat % 2 ^ 32 / 2 ^ shw))
  | 0x034 => some (srawW a shw)
  | _ => none

/-- The funcs whose rb field must be 0 (R118). -/
def aluUnary (fn : Nat) : Bool := 0x020 ≤ fn && fn ≤ 0x023

/-- INTEGER_ALU on the core's registers (R118). -/
def integerAluStep (w : W32) (k : Core) : Step1 :=
  let fn := func w
  let a := k.rg (fa w)
  let b := k.rg (fb w)
  if 0x040 ≤ fn && fn ≤ 0x047 then
    .done (k.wg (fd w) (if tbit (k.rp (fn - 0x040)).toNat 0 then a else b))
  else if aluUnary fn && fb w ≠ 0 then illegalW k w
  else match aluOp fn a b with
    | some v => .done (k.wg (fd w) v)
    | none => illegalW k w

/-- INTEGER_ALU (R118). -/
def execIntegerAlu (c : CoreId) (w : W32) (s : State) : Out1 :=
  .next (coreLocal .integerAlu c w s (integerAluStep w))

/-! ## Immediate forms (R119) -/

/-- ADDI (R119). -/
def addiStep (w : W32) (k : Core) : Step1 := .done (k.wg (fd w) (k.rg (fa w) + BitVec.ofInt 64 (simm16 w)))
/-- ANDI (R119). -/
def andiStep (w : W32) (k : Core) : Step1 := .done (k.wg (fd w) (k.rg (fa w) &&& BitVec.ofInt 64 (simm16 w)))
/-- ORI, zero-extended (R119). -/
def oriStep (w : W32) (k : Core) : Step1 := .done (k.wg (fd w) (k.rg (fa w) ||| BitVec.ofNat 64 (uimm16 w)))
/-- XORI, zero-extended (R119). -/
def xoriStep (w : W32) (k : Core) : Step1 := .done (k.wg (fd w) (k.rg (fa w) ^^^ BitVec.ofNat 64 (uimm16 w)))
/-- SLTI (R119). -/
def sltiStep (w : W32) (k : Core) : Step1 :=
  .done (k.wg (fd w) (if (k.rg (fa w)).slt (BitVec.ofInt 64 (simm16 w)) then 1 else 0))
/-- LUI: sext(imm21) << 16 (R119). -/
def luiStep (w : W32) (k : Core) : Step1 := .done (k.wg (fd w) (BitVec.ofInt 64 (simm21 w) <<< 16))

/-- SHLI, SHRI, SRAI (R119): operation in imm16 bits 15:8, amount in bits 5:0, bits 7:6 zero. -/
def shiftByImmediateStep (w : W32) (k : Core) : Step1 :=
  let op := wf w 15 8
  let n := wf w 5 0
  let a := k.rg (fa w)
  if wf w 7 6 ≠ 0 then illegalW k w
  else if op = 0 then .done (k.wg (fd w) (a <<< n))
  else if op = 1 then .done (k.wg (fd w) (a >>> n))
  else if op = 2 then .done (k.wg (fd w) (a.sshiftRight n))
  else illegalW k w

/-- ADDI (R119). -/
def execAddi (c : CoreId) (w : W32) (s : State) : Out1 := .next (coreLocal .addi c w s (addiStep w))
/-- ANDI (R119). -/
def execAndi (c : CoreId) (w : W32) (s : State) : Out1 := .next (coreLocal .andi c w s (andiStep w))
/-- ORI (R119). -/
def execOri (c : CoreId) (w : W32) (s : State) : Out1 := .next (coreLocal .ori c w s (oriStep w))
/-- XORI (R119). -/
def execXori (c : CoreId) (w : W32) (s : State) : Out1 := .next (coreLocal .xori c w s (xoriStep w))
/-- SLTI (R119). -/
def execSlti (c : CoreId) (w : W32) (s : State) : Out1 := .next (coreLocal .slti c w s (sltiStep w))
/-- LUI (R119). -/
def execLui (c : CoreId) (w : W32) (s : State) : Out1 := .next (coreLocal .lui c w s (luiStep w))
/-- SHIFT_BY_IMMEDIATE (R119). -/
def execShiftByImmediate (c : CoreId) (w : W32) (s : State) : Out1 :=
  .next (coreLocal .shiftByImmediate c w s (shiftByImmediateStep w))

/-! ## Predicates (R120) -/

/-- pd of format P. -/
def pd (w : W32) : Nat := wf w 23 21

/-- An integer comparison by its number: 0 EQ, 1 NE, 2 LT, 3 GE, 4 LTU, 5 GEU (R120, R122). -/
def cmpInt (op : Nat) (a b : Word) : Bool :=
  match op with
  | 0 => a == b
  | 1 => a != b
  | 2 => a.slt b
  | 3 => !a.slt b
  | 4 => a.ult b
  | _ => !a.ult b

/-- Every bit of P[pd] set to a result (R120). -/
def Core.wpAll (k : Core) (n : Nat) (r : Bool) : Core := k.wp n (if r then BitVec.allOnes 256 else 0)

/-- COMPARE_TO_PREDICATE (R120). -/
def compareToPredicateStep (w : W32) (k : Core) : Step1 :=
  let fn := func w
  if wf w 25 24 ≠ 0 then illegalW k w
  else if fn ≤ 5 then .done (k.wpAll (pd w) (cmpInt fn (k.rg (fa w)) (k.rg (fb w))))
  else if 0x010 ≤ fn && fn ≤ 0x013 then
    let r := f32Fmt.compare (fn - 0x010) (k.rs (fa w)) (k.rs (fb w))
    .done ((k.wpAll (pd w) r.1).accrue r.2)
  else illegalW k w

/-- PREDICATE_LOGIC (R120). -/
def predicateLogicStep (w : W32) (k : Core) : Step1 :=
  let a := k.rp (fa w % 8)
  let b := k.rp (fb w % 8)
  if wf w 25 24 ≠ 0 || 8 ≤ fa w || 8 ≤ fb w then illegalW k w
  else match func w with
    | 0 => .done (k.wp (pd w) (a &&& b))
    | 1 => .done (k.wp (pd w) (a ||| b))
    | 2 => .done (k.wp (pd w) (a ^^^ b))
    | 3 => .done (k.wp (pd w) (a &&& ~~~b))
    | 4 => .done (k.wp (pd w) (~~~a))
    | _ => illegalW k w

/-- COMPARE_TO_PREDICATE (R120). -/
def execCompareToPredicate (c : CoreId) (w : W32) (s : State) : Out1 :=
  .next (coreLocal .compareToPredicate c w s (compareToPredicateStep w))
/-- PREDICATE_LOGIC (R120). -/
def execPredicateLogic (c : CoreId) (w : W32) (s : State) : Out1 :=
  .next (coreLocal .predicateLogic c w s (predicateLogicStep w))

/-! ## Scalar FP32 (R121) -/

/-- SCALAR_FP32 (R121). -/
def scalarFp32Step (w : W32) (k : Core) : Step1 :=
  if func w = 0x004 && fb w ≠ 0 then illegalW k w
  else match f32Op (func w) k.frm (k.rs (fa w)) (k.rs (fb w)) (k.rs (fd w)) (k.rg (fa w)) with
    | .fres v fl => .done ((k.ws (fd w) v).accrue fl)
    | .gres v fl => .done ((k.wg (fd w) (BitVec.ofNat 64 v)).accrue fl)
    | .undef => illegalW k w

/-- SCALAR_FP32 (R121). -/
def execScalarFp32 (c : CoreId) (w : W32) (s : State) : Out1 := .next (coreLocal .scalarFp32 c w s (scalarFp32Step w))

/-! ## Control flow and loops (R122, R123) -/

/-- A branch or jump target: PC + 4 × offset (R116). -/
def Core.rel (k : Core) (off : Int) : Nat := (((k.pc : Int) + 4 * off) % (2 ^ 51 : Nat)).toNat

/-- Operand fields of format B: ra and rb. -/
def bra (w : W32) : Nat := wf w 25 21
/-- rb of format B. -/
def brb (w : W32) : Nat := wf w 20 16

/-- BRANCH (R122). -/
def branchStep (w : W32) (k : Core) : Step1 :=
  let cond := wf w 15 13
  let target := k.rel (sext 13 (wf w 12 0))
  let go (b : Bool) : Step1 := if b then .taken k target else .done k
  if cond ≤ 5 then go (cmpInt cond (k.rg (bra w)) (k.rg (brb w)))
  else if bra w ≠ 0 || 8 ≤ brb w then illegalW k w
  else go (tbit (k.rp (brb w)).toNat 0 == (cond == 6))

/-- JAL (R122). -/
def jalStep (w : W32) (k : Core) : Step1 :=
  .taken (k.wg (fd w) (BitVec.ofNat 64 (k.pc + 4))) (k.rel (simm21 w))

/-- JALR (R122): the target is formed before rd is written. -/
def jalrStep (w : W32) (k : Core) : Step1 :=
  let t := (k.rg (fa w) + BitVec.ofInt 64 (simm16 w)).toNat
  .taken (k.wg (fd w) (BitVec.ofNat 64 (k.pc + 4))) (t / 4 * 4)

/-- LOOP (R123). -/
def loopStartStep (w : W32) (k : Core) : Step1 :=
  let n := k.rg (fd w)
  let body := uimm16 w
  let last := k.pc + 4 * body
  if fa w ≠ 0 || body = 0 then illegalW k w
  else if (match k.csrs.loops.getLast? with
    | some (_, _, le) => decide (le < last)
    | none => false) then illegalW k w
  else if n = 0 then .skip k (last + 4)
  else if 2 ≤ k.csrs.loops.length then illegalW k w
  else .wait { k with pc := (k.pc + 4) % 2 ^ 51, csrs := { k.csrs with loops := k.csrs.loops ++ [(n, k.pc + 4, last)] } }

/-- BRANCH (R122). -/
def execBranch (c : CoreId) (w : W32) (s : State) : Out1 := .next (coreLocal .branch c w s (branchStep w))
/-- JAL (R122). -/
def execJal (c : CoreId) (w : W32) (s : State) : Out1 := .next (coreLocal .jal c w s (jalStep w))
/-- JALR (R122). -/
def execJalr (c : CoreId) (w : W32) (s : State) : Out1 := .next (coreLocal .jalr c w s (jalrStep w))
/-- LOOP (R123). -/
def execLoopStart (c : CoreId) (w : W32) (s : State) : Out1 := .next (coreLocal .loopStart c w s (loopStartStep w))

/-! ## CSRs (R124, R137, R164) -/

/-- Registers of a long operand: R of R140. -/
def Core.vregs (k : Core) : Nat := 2 ^ k.csrs.vlGroup.toNat

/-- CSR.VL as it reads (R141). -/
def Core.vlRead (k : Core) : Word := BitVec.ofNat 64 (k.csrs.vlGroup.toNat * 2 ^ 10 + k.csrs.vlBytes)

/-- CSR.VL written (R141): GROUP 0b11 leaves GROUP; BYTES rounded down to a multiple of 4 and limited to 64 × R. -/
def Core.vlWrite (k : Core) (v : Word) : Core :=
  let g := if fld v 11 10 = 3 then k.csrs.vlGroup.toNat else fld v 11 10
  { k with csrs := { k.csrs with
      vlGroup := BitVec.ofNat 2 g, vlBytes := min (fld v 8 0 / 4 * 4) (64 * 2 ^ g) } }

/-- A loop level's remaining count, first and last body PC; 0 while it is not active (R137; log entry 8). -/
def Core.level (k : Core) (i : Nat) : Word × Nat × Nat := nth (0, 0, 0) k.csrs.loops i

/-- A CSR's value; none for an unassigned number (R137, R164). `now` is the time counter. -/
def Core.csr (k : Core) (now : Word) (n : Nat) : Option Word :=
  match n with
  | 0x000 => some (k.csrs.fflags.zeroExtend 64)
  | 0x001 => some (k.csrs.frm.zeroExtend 64)
  | 0x008 => some k.vlRead
  | 0x009 => some (k.csrs.vstart.zeroExtend 64)
  | 0x00A => some (BitVec.ofNat 64 (64 * k.vregs))
  | 0x00B => some (k.csrs.vcvt.zeroExtend 64)
  | 0x010 => some k.csrs.tallyBase
  | 0x011 => some k.csrs.twaitLimit
  | 0x012 => some (BitVec.ofNat 64 k.sigq.length)
  | 0x013 => some k.csrs.seed
  | 0x018 => some (k.level 0).1
  | 0x019 => some (BitVec.ofNat 64 (k.level 0).2.1)
  | 0x01A => some (BitVec.ofNat 64 (k.level 0).2.2)
  | 0x01B => some (k.level 1).1
  | 0x01C => some (BitVec.ofNat 64 (k.level 1).2.1)
  | 0x01D => some (BitVec.ofNat 64 (k.level 1).2.2)
  | 0x020 => some k.csrs.fcause
  | 0x021 => some k.csrs.fpc
  | 0x022 => some k.csrs.faddr
  | 0x030 => some (nth 0 k.ident 0)
  | 0x031 => some (nth 0 k.ident 1)
  | 0x032 => some (nth 0 k.ident 2)
  | 0x033 => some (nth 0 k.ident 3)
  | 0x034 => some (nth 0 k.ident 4)
  | 0x040 => some now
  | _ => none

/-- A CSR written; none for one that is RO or unassigned (R124, R137, R164). -/
def Core.csrWrite (k : Core) (n : Nat) (v : Word) : Option Core :=
  match n with
  | 0x000 => some { k with csrs := { k.csrs with fflags := v.setWidth 5 } }
  | 0x001 => some (if fld v 2 0 ≤ 4 then { k with csrs := { k.csrs with frm := v.setWidth 3 } } else k)
  | 0x008 => some (k.vlWrite v)
  | 0x009 => some { k with csrs := { k.csrs with vstart := v.setWidth 8 } }
  | 0x00B => some { k with csrs := { k.csrs with vcvt := v.setWidth 4 } }
  | 0x010 => some { k with csrs := { k.csrs with tallyBase := v } }
  | 0x011 => some { k with csrs := { k.csrs with twaitLimit := v } }
  | 0x013 => some { k with csrs := { k.csrs with seed := v } }
  | _ => none

/-- The CSR field of format S. -/
def csrNo (w : W32) : Nat := wf w 11 0

/-- CSRR (R124). -/
def csrrStep (w : W32) (now : Word) (k : Core) : Step1 :=
  match k.csr now (csrNo w) with
  | some v => .done (k.wg (fd w) v)
  | none => illegalW k w

/-- CSRW (R124). -/
def csrwStep (w : W32) (k : Core) : Step1 :=
  match k.csrWrite (csrNo w) (k.rg (fa w)) with
  | some k' => .done k'
  | none => illegalW k w

/-- CSRS and CSRC (R124): the CSR set to a function of its old value and G[ra], and G[rd] to the old value. -/
def csrModify (w : W32) (now : Word) (k : Core) (f : Word → Word → Word) : Step1 :=
  match k.csr now (csrNo w) with
  | none => illegalW k w
  | some v =>
    match k.csrWrite (csrNo w) (f v (k.rg (fa w))) with
    | some k' => .done (k'.wg (fd w) v)
    | none => illegalW k w

/-- CSRR (R124). -/
def execCsrr (c : CoreId) (w : W32) (s : State) : Out1 := .next (coreLocal .csrr c w s (csrrStep w s.clock.now))
/-- CSRW (R124). -/
def execCsrw (c : CoreId) (w : W32) (s : State) : Out1 := .next (coreLocal .csrw c w s (csrwStep w))
/-- CSRS (R124). -/
def execCsrs (c : CoreId) (w : W32) (s : State) : Out1 :=
  .next (coreLocal .csrs c w s (fun k => csrModify w s.clock.now k (fun v a => v ||| a)))
/-- CSRC (R124). -/
def execCsrc (c : CoreId) (w : W32) (s : State) : Out1 :=
  .next (coreLocal .csrc c w s (fun k => csrModify w s.clock.now k (fun v a => v &&& ~~~a)))

/-! ## FENCE, END, TRAP (R124) -/

/-- FENCE (R124): every earlier access of the core has completed when it is reached, since the core's instructions
complete in order and a remote access blocks the core; what is left is the check of its fields. -/
def fenceStep (w : W32) (k : Core) : Step1 :=
  if csrNo w ≠ 0 || fd w ≠ 0 || fa w ≠ 0 then illegalW k w else .done k

/-- END (R124): the program ends; the unit waits to commit (R102). -/
def endUnitStep (k : Core) : Step1 := .wait { k with phase := .ended }

/-- TRAP (R124, R133, R137). -/
def trapUnitStep (w : W32) (k : Core) : Step1 := .fault k FaultCode.trap (csrNo w) 0

/-- FENCE (R124). -/
def execFence (c : CoreId) (w : W32) (s : State) : Out1 := .next (coreLocal .fence c w s (fenceStep w))
/-- END (R124). -/
def execEnd (c : CoreId) (w : W32) (s : State) : Out1 := .next (coreLocal .endUnit c w s endUnitStep)
/-- TRAP (R124). -/
def execTrapUnit (c : CoreId) (w : W32) (s : State) : Out1 := .next (coreLocal .trapUnit c w s (trapUnitStep w))

/-! ## Tallies (R125, R126) -/

/-- Tally index of a tally instruction: (CSR.TALLY_BASE + TIDX) mod 256 (R125). -/
def tallyIx (k : Core) (w : W32) : Nat := (k.csrs.tallyBase.toNat + wf w 20 13) % 256

/-- The tally of the core's own logical core (R125). -/
def State.ownTally (s : State) (k : Core) (t : Nat) : Nat := s.tally (k.whereId / 16) (k.whereId % 16) t

/-- TWAIT (R125): completes at once when the tally has reached G[rt] bits 31:0, else waits. -/
def twaitStep (w : W32) (s : State) (k : Core) : Step1 :=
  let t := tallyIx k w
  let thr := (k.rg (fd w)).toNat % 2 ^ 32
  if wf w 9 0 ≠ 0 then illegalW k w
  else if thr ≤ s.ownTally k t then .done k
  else .wait { k with phase := .waitTally t thr s.now }

/-- TREAD (R125). -/
def treadStep (w : W32) (s : State) (k : Core) : Step1 :=
  if wf w 9 0 ≠ 0 then illegalW k w else .done (k.wg (fd w) (BitVec.ofNat 64 (s.ownTally k (tallyIx k w))))

/-- TSIG (R125, R126): the signal is checked and held. -/
def tsigStep (w : W32) (s : State) (k : Core) : Step1 :=
  let x := (k.rg (fd w)).toNat % 2 ^ 48
  let range := match s.unitTable k with
    | some (_, b, _, _) => (b.first, b.count)
    | none => (0, 0)
  if wf w 20 13 ≠ 0 || wf w 9 0 ≠ 0 || s.sigBad range.1 range.2 x then illegalW k w
  else if s.isOther (sigNode x) && (s.tableCtx k (sigNode x)).isNone then
    .fault k FaultCode.noContext 0 (BitVec.ofNat 64 x)
  else if 16 ≤ k.sigq.length then .fault k FaultCode.sigOverflow 0 0
  else .done { k with sigq := k.sigq ++ [BitVec.ofNat 48 x] }

/-- TWAIT (R125). -/
def execTwait (c : CoreId) (w : W32) (s : State) : Out1 :=
  .next (coreExec .twait c w s (fun s k => (s, twaitStep w s k)))
/-- TREAD (R125). -/
def execTread (c : CoreId) (w : W32) (s : State) : Out1 :=
  .next (coreExec .tread c w s (fun s k => (s, treadStep w s k)))
/-- TSIG (R125, R126). -/
def execTsig (c : CoreId) (w : W32) (s : State) : Out1 :=
  .next (coreExec .tsig c w s (fun s k => (s, tsigStep w s k)))

/-- TWAIT_TIMEOUT (R125): the wait has lasted CSR.TWAIT_LIMIT, which is not 0. -/
def execTwaitTimeout (c : CoreId) (s : State) : Out1 :=
  .next (
    let k := s.core c
    match k.phase with
    | .waitTally t _ start =>
      if k.csrs.twaitLimit ≠ 0 ∧ start + k.csrs.twaitLimit.toNat ≤ s.now then
        s.progFault c FaultCode.tallyTimeout 0 (BitVec.ofNat 64 t)
      else s
    | _ => s)

end Sys2Proof.Machine
end

