-- ==== Sys2Proof/Machine/Vector.lean ====
section
/-! DEFINITION. Vector instructions on registers (R140 to R153, R163): lanes, predicates, integer, FP32, widening, dot,
pair, reduction and move instructions. -/

namespace Sys2Proof.Machine

/-! ## Operands (R140 to R144) -/

/-- Registers of one operand: R of R140. -/
def vR (w : W32) (k : Core) : Nat := if vsh w then 1 else k.vregs
/-- Bytes operated on (R140). -/
def vBytes (w : W32) (k : Core) : Nat := if vsh w then 16 else k.csrs.vlBytes
/-- Lanes within VL at a width (R143). -/
def vN (w : W32) (k : Core) (width : Nat) : Nat := vBytes w k / width

/-- A field may name an operand of r registers (R142). -/
def vfield (r f : Nat) : Bool := f % r = 0 && f + r ≤ 32

/-- The bytes of r registers from Fv as one number, byte b of the vector in bits 8b + 7 to 8b (R140). -/
def Core.vget (k : Core) (v : Nat) : Nat → Nat
  | 0 => 0
  | r + 1 => (k.rf v).toNat + Core.vget k (v + 1) r * 2 ^ 512

/-- r registers from Fv written with a number (R140). -/
def Core.vput (k : Core) (v : Nat) : Nat → Nat → Core
  | 0, _ => k
  | r + 1, x => (k.wf v (BitVec.ofNat 512 x)).vput (v + 1) r (x / 2 ^ 512)

/-- Lane i of width w bytes of a vector (R143). -/
def laneOf (x w i : Nat) : Nat := (x >>> (8 * w * i)) % 2 ^ (8 * w)

/-- Lanes 0 to n − 1 of an operand. -/
def Core.lanes (k : Core) (v r w n : Nat) : List Nat :=
  let x := k.vget v r
  (List.range n).map (laneOf x w)

/-- Lanes joined into a vector's low bytes. -/
def joinLanes (w : Nat) (xs : List Nat) : Nat := xs.foldr (fun x a => x % 2 ^ (8 * w) + a * 2 ^ (8 * w)) 0

/-- Lane i of width w bytes is active when it is within VL (R143). -/
def laneOn (p : BitVec 256) (w i : Nat) : Bool := tbit p.toNat (i * w)

/-- Predicate bits of the lanes within VL. -/
def Core.active (k : Core) (pg w n : Nat) : List Bool := (List.range n).map (laneOn (k.rp pg) w)

/-- A destination written under R143: active lanes take the results, inactive ones keep their contents or become 0, what
is not within VL keeps its contents, and a short destination's bits 511:128 become 0 (R140). -/
def Core.wlanes (k : Core) (w : W32) (v width : Nat) (on : List Bool) (res : List Nat) : Core :=
  let r := vR w k
  let x := k.vget v r
  let n := on.length
  let lanes := (List.range n).map (fun i =>
    if nth false on i then nth 0 res i else if vz w then 0 else laneOf x width i)
  let rest := if vsh w then 0 else x / 2 ^ (8 * width * n) * 2 ^ (8 * width * n)
  k.vput v r (joinLanes width lanes + rest)

/-- A predicate from lane results (R144): bits of inactive lanes and beyond VL are 0. -/
def predOf (width : Nat) (on : List Bool) (res : List Bool) : BitVec 256 :=
  BitVec.ofNat 256 (joinLanes' (on.zip res))
where
  joinLanes' (xs : List (Bool × Bool)) : Nat :=
    xs.foldr (fun x a => (if x.1 && x.2 then 2 ^ width - 1 else 0) + a * 2 ^ width) 0

/-- Flags of the active lanes joined. -/
def laneFlags (on : List Bool) (fl : List FFlags) : FFlags :=
  (on.zip fl).foldl (fun a x => if x.1 then a.or x.2 else a) {}

/-- Lane-by-lane results. -/
def zip3 {α : Type} (f : Nat → Nat → Nat → α) (xs ys zs : List Nat) : List α :=
  ((xs.zip ys).zip zs).map (fun p => f p.1.1 p.1.2 p.2)

/-! ## Integer lanes (R146) -/

/-- An integer lane operation on lanes of b bits (R146). -/
def vintOp (fn b x y : Nat) : Nat :=
  let m := 2 ^ b
  let sx := sext b x
  let sy := sext b y
  let sh := y % b
  match fn with
  | 0 => (x + y) % m
  | 1 => (x + m - y) % m
  | 2 => x * y % m
  | 3 => toBits b (sx * sy / (m : Int))
  | 4 => x * y / m
  | 5 => if sx < sy then x else y
  | 6 => if sx < sy then y else x
  | 7 => min x y
  | 8 => max x y
  | 9 => x &&& y
  | 10 => x ||| y
  | 11 => x ^^^ y
  | 12 => x * 2 ^ sh % m
  | 13 => x / 2 ^ sh
  | 14 => toBits b (sx >>> sh)
  | _ => if x < y then y - x else x - y

/-- VECTOR_INTEGER (R146). -/
def vectorIntegerStep (w : W32) (k : Core) : Step1 :=
  let r := vR w k
  let wd := vwidth w
  let n := vN w k wd
  if !(vfield r (fd w) && vfield r (fa w) && vfield r (fb w)) then illegalW k w
  else
    let res := (List.zipWith (vintOp (vfunc w) (8 * wd)) (k.lanes (fa w) r wd n) (k.lanes (fb w) r wd n))
    .done (k.wlanes w (fd w) wd (k.active (vpg w) wd n) res)

/-! ## FP32 lanes (R147) -/

/-- An FP32 lane operation (R147): func, CSR.FRM and the lanes of va, vb and vd. -/
def vfpOp (fn frm a b d : Nat) : Nat × FFlags :=
  match fn with
  | 0 => f32Fmt.add frm a b
  | 1 => f32Fmt.sub frm a b
  | 2 => f32Fmt.mul frm a b
  | 3 => f32Fmt.div frm a b
  | 4 => f32Fmt.sqrt frm a
  | 5 => f32Fmt.minMax false a b
  | 6 => f32Fmt.minMax true a b
  | 7 => f32Fmt.fma frm a b d
  | 8 => f32Fmt.fnma frm a b d
  | 9 => (f32Mag a, {})
  | 10 => (f32Fmt.negCode a, {})
  | 11 => f32Fmt.roundInt frm false (sext 32 a) 0
  | 12 => let r := (f32Fmt.decode a).toInt frm (-(2 ^ 31)) (2 ^ 31 - 1); (toBits 32 r.1, r.2)
  | 13 => f32Fmt.roundInt frm false (a : Int) 0
  | _ => let r := (f32Fmt.decode a).toInt frm 0 (2 ^ 32 - 1); (toBits 32 r.1, r.2)

/-- The funcs of R147 that do not use vb. -/
def vfpUnary (fn : Nat) : Bool := fn = 4 || 9 ≤ fn

/-- VECTOR_FP32 (R147). -/
def vectorFp32Step (w : W32) (k : Core) : Step1 :=
  let r := vR w k
  let n := vN w k 4
  let fn := vfunc w
  if vew w ≠ 2 || (vfpUnary fn && fb w ≠ 0) || !(vfield r (fd w) && vfield r (fa w) && vfield r (fb w)) then illegalW k w
  else
    let res := zip3 (vfpOp fn k.frm) (k.lanes (fa w) r 4 n) (k.lanes (fb w) r 4 n) (k.lanes (fd w) r 4 n)
    let on := k.active (vpg w) 4 n
    .done ((k.wlanes w (fd w) 4 on (res.map (·.1))).accrue (laneFlags on (res.map (·.2))))

/-! ## Compares and moves (R148) -/

/-- VECTOR_COMPARE (R148). -/
def vectorCompareStep (w : W32) (k : Core) : Step1 :=
  let r := vR w k
  let wd := vwidth w
  let n := vN w k wd
  let fn := vfunc w
  let on := k.active (vpg w) wd n
  let xs := k.lanes (fa w) r wd n
  let ys := k.lanes (fb w) r wd n
  if 8 ≤ fd w || vz w || !(vfield r (fa w) && vfield r (fb w)) then illegalW k w
  else if fn ≤ 5 then
    let sx (x : Nat) : Word := BitVec.ofInt 64 (sext (8 * wd) x)
    let zx (x : Nat) : Word := BitVec.ofNat 64 x
    let res := List.zipWith (fun x y => if 4 ≤ fn then cmpInt fn (zx x) (zx y) else cmpInt fn (sx x) (sx y)) xs ys
    .done (k.wp (fd w) (predOf wd on res))
  else if vew w ≠ 2 then illegalW k w
  else
    let res := List.zipWith (f32Fmt.compare (fn - 6)) xs ys
    .done ((k.wp (fd w) (predOf wd on (res.map (·.1)))).accrue (laneFlags on (res.map (·.2))))

/-- VSPLAT (R148). -/
def vsplatStep (w : W32) (k : Core) : Step1 :=
  let wd := vwidth w
  let n := vN w k wd
  if fb w ≠ 0 || !vfield (vR w k) (fd w) then illegalW k w
  else .done (k.wlanes w (fd w) wd (k.active (vpg w) wd n) (List.replicate n ((k.rg (fa w)).toNat % 2 ^ (8 * wd))))

/-- VEXT (R148). -/
def vextStep (w : W32) (k : Core) : Step1 :=
  let r := vR w k
  let wd := vwidth w
  let i := (k.rg (fb w)).toNat % 256
  if vpg w ≠ 0 || vz w || !vfield r (fa w) then illegalW k w
  else .done (k.wg (fd w) (if i < vN w k wd then BitVec.ofNat 64 (laneOf (k.vget (fa w) r) wd i) else 0))

/-- The active lanes of va. -/
def Core.activeLanes (k : Core) (w : W32) (wd : Nat) : List Nat :=
  let n := vN w k wd
  ((k.active (vpg w) wd n).zip (k.lanes (fa w) (vR w k) wd n)).filterMap (fun p => if p.1 then some p.2 else none)

/-- Fields that a reduction does not use are 0 (R145), and va names an operand (R142). -/
def redOk (w : W32) (k : Core) : Bool := fb w = 0 && !vz w && vfield (vR w k) (fa w)

/-- VREDSUM (R148). -/
def vredsumStep (w : W32) (k : Core) : Step1 :=
  let wd := vwidth w
  if !redOk w k then illegalW k w
  else .done (k.wg (fd w) (BitVec.ofInt 64 ((k.activeLanes w wd).foldl (fun a x => a + sext (8 * wd) x) 0)))

/-- VREDMAX (R148): the most negative value of the lane width when no lane is active (log entry 10). -/
def vredmaxStep (w : W32) (k : Core) : Step1 :=
  let wd := vwidth w
  if !redOk w k then illegalW k w
  else .done (k.wg (fd w) (BitVec.ofInt 64
    ((k.activeLanes w wd).foldl (fun a x => max a (sext (8 * wd) x)) (-(2 ^ (8 * wd - 1) : Nat)))))

/-- One level of the tree of R149: neighbours added. -/
def treeLevel (frm : Nat) : List (Nat × FFlags) → List (Nat × FFlags)
  | x :: y :: rest =>
    let r := f32Fmt.add frm x.1 y.1
    (r.1, r.2.or (x.2.or y.2)) :: treeLevel frm rest
  | xs => xs

/-- The tree sum of R149 over a power of two of values. -/
def treeSum (frm : Nat) : Nat → List (Nat × FFlags) → Nat × FFlags
  | 0, xs => nth (0, {}) xs 0
  | l + 1, xs => treeSum frm l (treeLevel frm xs)

/-- The least power of two at or above n, as its logarithm. -/
def ceilLog2 (n : Nat) : Nat := if n ≤ 1 then 0 else log2 (n - 1) + 1

/-- VREDFSUM (R149). -/
def vredfsumStep (w : W32) (k : Core) : Step1 :=
  let n := vN w k 4
  if vew w ≠ 2 || !redOk w k then illegalW k w
  else
    let xs := ((k.active (vpg w) 4 n).zip (k.lanes (fa w) (vR w k) 4 n)).map (fun p => if p.1 then p.2 else 0)
    let l := ceilLog2 n
    let r := treeSum k.frm l ((xs ++ List.replicate (2 ^ l - n) 0).map (fun x => (x, {})))
    .done ((k.ws (fd w) r.1).accrue r.2)

/-- VREDFMAX (R148). -/
def vredfmaxStep (w : W32) (k : Core) : Step1 :=
  if vew w ≠ 2 || !redOk w k then illegalW k w
  else
    let r : Nat × FFlags := match k.activeLanes w 4 with
      | [] => (f32Fmt.infCode true, {})
      | x :: xs => xs.foldl (fun a y =>
          let m := f32Fmt.minMax true a.1 y
          (m.1, a.2.or m.2)) (f32Fmt.minMax true x x)
    .done ((k.ws (fd w) r.1).accrue r.2)

/-! ## Widening and dot products (R150, R151) -/

/-- VECTOR_WIDENING (R150). -/
def vectorWideningStep (w : W32) (k : Core) : Step1 :=
  let r := vR w k
  let ws := vwidth w
  let b := 8 * ws
  let n := vN w k (2 * ws)
  let fn := vfunc w
  if 2 ≤ vew w || !(vfield r (fd w) && vfield r (fa w) && vfield r (fb w)) then illegalW k w
  else
    let pick (v : Nat) : List Nat := ((k.lanes v r ws (2 * n)).drop (if fn % 2 = 1 then n else 0)).take n
    let f (x y d : Nat) : Nat :=
      if fn ≤ 1 then toBits (2 * b) (sext b x * sext b y)
      else if fn ≤ 3 then x * y
      else toBits (2 * b) ((d : Int) + sext b x * sext b y)
    .done (k.wlanes w (fd w) (2 * ws) (k.active (vpg w) (2 * ws) n)
      (zip3 f (pick (fa w)) (pick (fb w)) (k.lanes (fd w) r (2 * ws) n)))

/-- An integer dot product of four byte pairs added to a 32-bit accumulator (R150); `sa` and `sb` say which operand is
signed. -/
def intDot (sa sb : Bool) (a b d : Nat) : Nat :=
  let v (s : Bool) (x j : Nat) : Int := if s then sext 8 (laneOf x 1 j) else (laneOf x 1 j : Nat)
  toBits 32 ((List.range 4).foldl (fun z j => z + v sa a j * v sb b j) (d : Int))

/-- A dot product lane (R150, R151): func 6 to 12. -/
def dotOp (fn a b d : Nat) : Nat × FFlags :=
  let fp8 (f g : Nat) : Nat × FFlags := floatDot d ((List.range 4).map (fun j =>
    (decodeElem f false (laneOf a 1 j), decodeElem g false (laneOf b 1 j))))
  match fn with
  | 6 => (intDot true true a b d, {})
  | 7 => (intDot false false a b d, {})
  | 8 => (intDot true false a b d, {})
  | 9 => fp8 6 6
  | 10 => fp8 7 7
  | 11 => fp8 6 7
  | _ => floatDot d ((List.range 2).map (fun j => (decodeElem 8 false (laneOf a 2 j), decodeElem 8 false (laneOf b 2 j))))

/-- VECTOR_DOT (R150, R151). -/
def vectorDotStep (w : W32) (k : Core) : Step1 :=
  let r := vR w k
  let n := vN w k 4
  if vew w ≠ 2 || !(vfield r (fd w) && vfield r (fa w) && vfield r (fb w)) then illegalW k w
  else
    let res := zip3 (dotOp (vfunc w)) (k.lanes (fa w) r 4 n) (k.lanes (fb w) r 4 n) (k.lanes (fd w) r 4 n)
    let on := k.active (vpg w) 4 n
    .done ((k.wlanes w (fd w) 4 on (res.map (·.1))).accrue (laneFlags on (res.map (·.2))))

/-! ## FP32 pairs (R152, R153) -/

/-- An FP32 value on its way through the steps of R153, with the flags raised so far. -/
abbrev PVal := Nat × FFlags
/-- A pair on its way through the steps of R153. -/
abbrev PPair := PVal × PVal

/-- a + b. -/
def pAdd (a b : PVal) : PVal := let r := f32Fmt.add 0 a.1 b.1; (r.1, r.2.or (a.2.or b.2))
/-- a − b. -/
def pSub (a b : PVal) : PVal := let r := f32Fmt.sub 0 a.1 b.1; (r.1, r.2.or (a.2.or b.2))
/-- a × b. -/
def pMul (a b : PVal) : PVal := let r := f32Fmt.mul 0 a.1 b.1; (r.1, r.2.or (a.2.or b.2))
/-- fma(a, b, c). -/
def pFma (a b c : PVal) : PVal := let r := f32Fmt.fma 0 a.1 b.1 c.1; (r.1, r.2.or (a.2.or (b.2.or c.2)))
/-- −a. -/
def pNeg (a : PVal) : PVal := (f32Fmt.negCode a.1, a.2)

/-- twosum of R153. -/
def twosum (a b : PVal) : PPair :=
  let s := pAdd a b
  let a1 := pSub s b
  let b1 := pSub s a1
  (s, pAdd (pSub a a1) (pSub b b1))

/-- fast2sum of R153. -/
def fast2sum (a b : PVal) : PPair :=
  let s := pAdd a b
  (s, pSub b (pSub s a))

/-- twoprod of R153. -/
def twoprod (a b : PVal) : PPair :=
  let p := pMul a b
  (p, pFma a b (pNeg p))

/-- padd of R153. -/
def padd (a b : PPair) : PPair :=
  let s := twosum a.1 b.1
  let t := twosum a.2 b.2
  let c := pAdd s.2 t.1
  let v := fast2sum s.1 c
  let w := pAdd t.2 v.2
  fast2sum v.1 w

/-- pmul of R153. -/
def pmul (a b : PPair) : PPair :=
  let c := twoprod a.1 b.1
  let t0 := pMul a.2 b.2
  let t1 := pFma a.1 b.2 t0
  let c2 := pFma a.2 b.1 t1
  fast2sum c.1 (pAdd c.2 c2)

/-- A final hi that is not finite becomes ±∞ or the canonical NaN, with lo +0; only NV and OF accrue (R152). -/
def pairOut (p : PPair) : Nat × Nat × FFlags :=
  let fl := p.1.2.or p.2.2
  let fl : FFlags := { nv := fl.nv, of := fl.of }
  match f32Fmt.decode p.1.1 with
  | .nan _ => (f32Fmt.nanCode, 0, fl)
  | .inf n => (f32Fmt.infCode n, 0, fl)
  | .fin .. => (p.1.1, p.2.1, fl)

/-- A pair instruction on one lane (R152): the parts of va, vb and vd. -/
def pairOp (fn : Nat) (a b d : Nat × Nat) : Nat × Nat × FFlags :=
  let v (x : Nat) : PVal := (x, {})
  let pr (x : Nat × Nat) : PPair := (v x.1, v x.2)
  match fn with
  | 0 => pairOut (twosum (v a.1) (v b.1))
  | 1 => pairOut (twoprod (v a.1) (v b.1))
  | 2 => pairOut (padd (pr a) (pr b))
  | 3 => pairOut (padd (pr a) (pNeg (v b.1), pNeg (v b.2)))
  | 4 => pairOut (pmul (pr a) (pr b))
  | 5 => pairOut (padd (pmul (pr a) (pr b)) (pr d))
  | 6 => pairOut (twosum (v a.1) (v a.2))
  | 7 => pairOut (v a.1, v 0)
  | _ =>
    let s := pAdd (v a.1) (v a.2)
    (s.1, 0, { nv := s.2.nv, of := s.2.of })

/-- The operand va of a pair instruction is a pair (R152). -/
def pairA (fn : Nat) : Bool := (2 ≤ fn && fn ≤ 6) || fn = 8
/-- The operand vb of a pair instruction is a pair (R152). -/
def pairB (fn : Nat) : Bool := 2 ≤ fn && fn ≤ 5

/-- FP32_PAIR (R152). -/
def fp32PairStep (w : W32) (k : Core) : Step1 :=
  let r := vR w k
  let n := vN w k 4
  let fn := vfunc w
  let ok (pair : Bool) (f : Nat) : Bool := if pair then vfield (2 * r) f else vfield r f
  if vew w ≠ 2 || (6 ≤ fn && fb w ≠ 0) || !(ok (fn ≠ 8) (fd w) && ok (pairA fn) (fa w) && ok (pairB fn) (fb w)) then
    illegalW k w
  else
    let parts (pair : Bool) (f : Nat) : List (Nat × Nat) :=
      (k.lanes f r 4 n).zip (if pair then k.lanes (f + r) r 4 n else List.replicate n 0)
    let res := (((parts (pairA fn) (fa w)).zip (parts (pairB fn) (fb w))).zip (parts (fn = 5) (fd w))).map
      (fun p => pairOp fn p.1.1 p.1.2 p.2)
    let on := k.active (vpg w) 4 n
    let k1 := k.wlanes w (fd w) 4 on (res.map (·.1))
    let k2 := if fn = 8 then k1 else k1.wlanes w (fd w + r) 4 on (res.map (·.2.1))
    .done (k2.accrue (laneFlags on (res.map (·.2.2))))

/-! ## Miscellaneous (R163) -/

/-- VSETVL (R163). -/
def vsetvlStep (w : W32) (k : Core) : Step1 :=
  let g := fb w % 4
  let wd := vwidth w
  if 4 ≤ fb w || g = 3 || vsh w || vz w || vpg w ≠ 0 then illegalW k w
  else
    let n := min (k.rg (fa w)).toNat (64 * 2 ^ g / wd)
    let k1 := { k with csrs := { k.csrs with vlGroup := BitVec.ofNat 2 g, vlBytes := n * wd } }
    .done (k1.wg (fd w) (BitVec.ofNat 64 n))

/-- VMOV (R163). -/
def vmovStep (w : W32) (k : Core) : Step1 :=
  let r := vR w k
  let wd := vwidth w
  let n := vN w k wd
  if fb w ≠ 0 || !(vfield r (fd w) && vfield r (fa w)) then illegalW k w
  else .done (k.wlanes w (fd w) wd (k.active (vpg w) wd n) (k.lanes (fa w) r wd n))

/-! ## Meanings -/

/-- VECTOR_INTEGER (R146). -/
def execVectorInteger (c : CoreId) (w : W32) (s : State) : Out1 := .next (coreLocal .vectorInteger c w s (vectorIntegerStep w))
/-- VECTOR_FP32 (R147). -/
def execVectorFp32 (c : CoreId) (w : W32) (s : State) : Out1 := .next (coreLocal .vectorFp32 c w s (vectorFp32Step w))
/-- VECTOR_COMPARE (R148). -/
def execVectorCompare (c : CoreId) (w : W32) (s : State) : Out1 := .next (coreLocal .vectorCompare c w s (vectorCompareStep w))
/-- VSPLAT (R148). -/
def execVsplat (c : CoreId) (w : W32) (s : State) : Out1 := .next (coreLocal .vsplat c w s (vsplatStep w))
/-- VEXT (R148). -/
def execVext (c : CoreId) (w : W32) (s : State) : Out1 := .next (coreLocal .vext c w s (vextStep w))
/-- VREDSUM (R148). -/
def execVredsum (c : CoreId) (w : W32) (s : State) : Out1 := .next (coreLocal .vredsum c w s (vredsumStep w))
/-- VREDMAX (R148). -/
def execVredmax (c : CoreId) (w : W32) (s : State) : Out1 := .next (coreLocal .vredmax c w s (vredmaxStep w))
/-- VREDFSUM (R149). -/
def execVredfsum (c : CoreId) (w : W32) (s : State) : Out1 := .next (coreLocal .vredfsum c w s (vredfsumStep w))
/-- VREDFMAX (R148). -/
def execVredfmax (c : CoreId) (w : W32) (s : State) : Out1 := .next (coreLocal .vredfmax c w s (vredfmaxStep w))
/-- VECTOR_WIDENING (R150). -/
def execVectorWidening (c : CoreId) (w : W32) (s : State) : Out1 := .next (coreLocal .vectorWidening c w s (vectorWideningStep w))
/-- VECTOR_DOT (R150, R151). -/
def execVectorDot (c : CoreId) (w : W32) (s : State) : Out1 := .next (coreLocal .vectorDot c w s (vectorDotStep w))
/-- FP32_PAIR (R152). -/
def execFp32Pair (c : CoreId) (w : W32) (s : State) : Out1 := .next (coreLocal .fp32Pair c w s (fp32PairStep w))
/-- VSETVL (R163). -/
def execVsetvl (c : CoreId) (w : W32) (s : State) : Out1 := .next (coreLocal .vsetvl c w s (vsetvlStep w))
/-- VMOV (R163). -/
def execVmov (c : CoreId) (w : W32) (s : State) : Out1 := .next (coreLocal .vmov c w s (vmovStep w))

end Sys2Proof.Machine
end

