-- ==== Sys2Proof/Machine/Access.lean ====
section
/-! DEFINITION. Memory accesses of a core (R113, R114, R127 to R129, R135, R416): where an access goes, what it comes to,
and how a core goes on when a remote one is answered. -/

namespace Sys2Proof.Machine

/-! ## Atomics (R129, R359) -/

/-- Bytes of an atomic's operand from func (R129). -/
def atomicBytes (f : Nat) : Nat := if f % 16 = 11 then 16 else if tbit f 4 then 8 else 4

/-- The new value of an atomic and whether a grid-add clamped (R359): func, old value, operand (for CAS the compare value)
and CAS's new value, all in the operand's width. -/
def atomicNew (f old x y : Nat) : Nat × Bool :=
  let b := 8 * atomicBytes f
  let m := 2 ^ b
  let so := sext b old
  let sx := sext b x
  match f % 16 with
  | 0 => ((old + x) % m, false)
  | 1 => (if so ≤ sx then old else x % m, false)
  | 2 => (if so ≤ sx then x % m else old, false)
  | 3 => (min old (x % m), false)
  | 4 => (max old (x % m), false)
  | 5 => (old &&& (x % m), false)
  | 6 => (old ||| (x % m), false)
  | 7 => (old ^^^ (x % m), false)
  | 8 => (x % m, false)
  | 9 => (if old = x % m then y % m else old, false)
  | 10 => ((f32Fmt.add 0 old (x % m)).1, false)
  | _ =>
    let t := so + sx
    let c := clampInt (-(2 ^ 127)) (2 ^ 127 - 1) t
    (toBits 128 c, t != c)

/-- An atomic applied at its memory's arbiter (R359): the old value, none where the word is not delivered (R294, R298). -/
def State.atomicAt (s : State) (a f x y : Nat) : State × Option Nat :=
  let n := atomicBytes f
  let (s, d) := s.load a n
  match d with
  | none => (s, none)
  | some bs =>
    let old := leNat bs
    let r := atomicNew f old x y
    let s := s.store a (leBytes n r.1)
    (if r.2 then s.raise .ctxGaddSat else s, some old)

/-- G[rd], and G[rd + 1] for GADD, set to the old value of an atomic (R129). -/
def Core.atomicRet (k : Core) (w : W32) (old : Nat) : Core :=
  let f := func w
  if f % 16 = 11 then (k.wg (fd w) (BitVec.ofNat 64 old)).wg (fd w + 1) (BitVec.ofNat 64 (old / 2 ^ 64))
  else if !tbit f 4 && (f % 16 = 1 || f % 16 = 2) then k.wg (fd w) (BitVec.ofInt 64 (sext 32 old))
  else k.wg (fd w) (BitVec.ofNat 64 old)

/-! ## Where an access goes (R113, R114, R128) -/

/-- Where a core's access goes. -/
inductive Target where
  /-- a physical address of the node -/
  | local_ (a : Nat)
  /-- a context and an offset at its peer -/
  | remote (x off : Nat)
  /-- it faults with a code -/
  | fault (code : Nat)
  /-- it waits for the context (R128, R354) -/
  | wait
  deriving DecidableEq, Repr

/-- A near access of n bytes at core address ea (R113): the view is decoded first, then the alignment checked. -/
def State.nearTarget (s : State) (c : Nat) (k : Core) (ea n : Nat) : Target :=
  let at_ (a : Option Nat) : Target := match a with
    | none => .fault FaultCode.addr
    | some a => if ea % n = 0 then .local_ a else .fault FaultCode.misaligned
  let shale (j b : Nat) : Option Nat := (s.placedCore (k.whereId / 16) j).map (fun p => shaleAddr p b)
  if ea < 0x10000 then at_ (some (poolAddr c ea))
  else if 0x100000 ≤ ea && ea < 0x180000 then at_ (shale (k.whereId % 16) (ea - 0x100000))
  else if 0x1000000 ≤ ea && ea < 0x1800000 then at_ (shale ((ea - 0x1000000) / 2 ^ 19) ((ea - 0x1000000) % 2 ^ 19))
  else .fault FaultCode.addr

/-- The node field of a global pointer (R24). -/
def ptrNode (p : Nat) : Nat := bits p 63 51
/-- The offset of a global pointer (R24). -/
def ptrOff (p : Nat) : Nat := bits p 50 0

/-- A global access of n bytes (R114, R127, R128, R433): an address error first, then the alignment, then the context. -/
def State.globalTarget (s : State) (k : Core) (p n : Nat) (rd wr : Bool) : State × Target :=
  let node := ptrNode p
  let off := ptrOff p
  if reservedNode node then (s, .fault FaultCode.addr)
  else if s.isSelf node then
    if !s.jobReach off 1 then (s, .fault FaultCode.addr)
    else
      let (s, ok) := s.allowed 5 true off rd wr k.jobTag
      match s.phys off with
      | none => (s, .fault FaultCode.addr)
      | some a =>
        (s, if !ok then .fault FaultCode.addr else if off % n ≠ 0 then .fault FaultCode.misaligned else .local_ a)
  else if off % n ≠ 0 then (s, .fault FaultCode.misaligned)
  else
    match s.tableCtx k node with
    | none => (s, .fault FaultCode.noContext)
    | some e =>
      let x := e % 2 ^ 20
      if !s.ctxUsable x k.jobTag k.jobEpoch node s.spanNo then (s, .fault FaultCode.noContext)
      else if (s.ctx x).canSend && (s.ctx x).queue.isEmpty then (s, .remote x off)
      else (s, .wait)

/-- A remote access is sent and the core blocks until it is answered (R127). -/
def State.sendAccess (s : State) (k : Core) (x op size off : Nat) (payload : List Byte) (c kind addr elem : Nat) (w : W32) :
    State × Step1 :=
  let seq := (s.ctx x).sendSeq
  let s := s.ctxRequest x op size off payload (.core c)
  (s, .wait { k with phase := .blocked ⟨x, seq, w, kind, BitVec.ofNat 64 addr, elem⟩ })

/-! ## Loads and stores -/

/-- The value of a global load's bytes in G[rd]: func 0 to 3 sign-extended, 4 to 6 zero-extended (R127). -/
def gload (fn v : Nat) : Word :=
  if fn < 4 then BitVec.ofInt 64 (sext (8 * 2 ^ fn) v) else BitVec.ofNat 64 (v % 2 ^ (8 * 2 ^ (fn - 4)))

/-- What a load comes to: the value handed on, or a fault with the address (R133). -/
def State.loadAt (s : State) (k : Core) (a n addr : Nat) (f : Nat → Core) : State × Step1 :=
  let r := s.load a n
  match r.2 with
  | none => (r.1, .fault k FaultCode.dataError 0 (BitVec.ofNat 64 addr))
  | some bs => (r.1, .done (f (leNat bs)))

/-! ## The attempt journal (R416) -/

/-- What the journal says of a core's next atomic or ACOPY. -/
inductive Journaled where
  /-- it is performed -/
  | perform
  /-- it is not performed: the journaled result is taken -/
  | take (result : Nat)
  /-- its first performance has been sent and not yet answered -/
  | await (x : Nat) (seq : W32)
  /-- it differs from the journal: a check fault -/
  | mismatch
  deriving DecidableEq, Repr

/-- The unit a core runs. -/
def State.runUnit (s : State) (k : Core) : Option (UnitRef × UnitRec) :=
  match k.unit with
  | none => none
  | some u => (s.unitRec u).map (fun r => (u, r))

/-- The journal's entry for a core's next atomic or ACOPY (R416). -/
def State.journalNext (s : State) (k : Core) (op addr operand : Nat) : Journaled :=
  match s.runUnit k with
  | none => .perform
  | some (_, r) =>
    match r.journal[k.journalPos]? with
    | none => .perform
    | some e =>
      if e.op = op && e.addr = BitVec.ofNat 64 addr && e.operand = BitVec.ofNat 128 operand then
        (match e.pend with
        | some (x, q) => .await x q
        | none => .take e.result.toNat)
      else .mismatch

/-- An operation added to the journal; the 257th makes the unit unreplayable (R416). -/
def State.journalAdd (s : State) (k : Core) (op addr operand result : Nat) (pend : Option (Nat × W32)) : State :=
  match s.runUnit k with
  | none => s
  | some (u, r) =>
    if 256 ≤ r.journal.length then s.updUnit u (fun y => { y with unreplayable := true })
    else s.updUnit u (fun y => { y with
      journal := y.journal ++ [⟨op, BitVec.ofNat 64 addr, BitVec.ofNat 128 operand, BitVec.ofNat 128 result, pend⟩] })

/-- The journal moves on by one operation. -/
def Core.journaled (k : Core) : Core := { k with journalPos := k.journalPos + 1 }

/-- Every journal entry of the running schedules changed. -/
def State.mapJournals (s : State) (f : List JournalEntry → List JournalEntry) : State :=
  { s with jobs := s.jobs.map (fun e => (e.1, { e.2 with run := e.2.run.map (fun r => { r with
      units := r.units.map (fun u => { u with journal := f u.journal }) }) })) }

/-- The result of an answered atomic entered in its journal entry (R416). -/
def State.journalFill (s : State) (x : Nat) (q : W32) (result : Nat) : State :=
  s.mapJournals (fun es => es.map (fun e =>
    if e.pend = some (x, q) then { e with pend := none, result := BitVec.ofNat 128 result } else e))

/-- A journal entry awaits the answer of a request. -/
def State.journalAwaits (s : State) (x : Nat) (q : W32) : Bool :=
  s.jobs.any (fun e => match e.2.run with
    | some r => r.units.any (fun u => u.journal.any (fun y => y.pend == some (x, q)))
    | none => false)

/-- An atomic that was not applied leaves the journal, to be performed again (R135). -/
def State.journalDrop (s : State) (x : Nat) (q : W32) : State :=
  s.mapJournals (fun es => es.filter (fun e => e.pend != some (x, q)))

/-! ## Answers to a core (R133, R135, R161) -/

/-- What a core in a phase waits for, where it is the answer of a request. -/
def CorePhase.awaits (p : CorePhase) (x : Nat) (q : W32) : Option CoreWait :=
  match p with
  | .blocked w | .held w => if w.ctx = x && w.seq = q then some w else none
  | _ => none

/-- The core that waits for a request's answer. -/
def State.coreAwaiting (s : State) (x : Nat) (q : W32) : Option (Nat × CoreWait) :=
  match s.cores.find? (fun e => (e.2.phase.awaits x q).isSome) with
  | some (c, k) => (k.phase.awaits x q).map (fun w => (c, w))
  | none => none

/-- Fields of one element of a vector memory instruction (R157). -/
def vmFields (w : W32) : Nat :=
  if major w = 0x2E then (if vmop w ≤ 2 then vmop w + 2 else if vmop w ≤ 5 then vmop w - 1 else 1) else 1

/-- Elements within VL of a vector memory instruction (R154, R159). -/
def vmCount (w : W32) (k : Core) : Nat :=
  if major w = 0x2E && 6 ≤ vmop w then vN w k 4 else vN w k (vwidth w)

/-- A stored field of element e is done: the next field, the next element, or the end of the instruction (R159, R161). -/
def Core.storedField (k : Core) (w : W32) (e : Nat) : Core :=
  let k1 : Core := { k with phase := .running }
  if k.vbuf.length + 1 < vmFields w then { k1 with vbuf := k.vbuf ++ [0] }
  else if e + 1 < vmCount w k then
    { k1 with vbuf := [], csrs := { k.csrs with vstart := BitVec.ofNat 8 (e + 1) } }
  else ({ k1 with vbuf := [], csrs := { k.csrs with vstart := 0 } } : Core).advance

/-- A core goes on with the data of its answered access. -/
def Core.answered (k : Core) (w : CoreWait) (data : List Byte) : Core :=
  let k1 : Core := { k with phase := .running }
  let v := leNat data
  match w.kind with
  | 0 => (k1.wg (fd w.word) (gload (func w.word) v)).advance
  | 1 => k1.advance
  | 2 | 3 => (k1.atomicRet w.word (v % 2 ^ (8 * atomicBytes (func w.word)))).advance
  | 4 => { k1 with vbuf := k1.vbuf ++ [v % 2 ^ (8 * vwidth w.word)] }
  | _ => k.storedField w.word w.elem

/-- The fault of a refused access (R353). -/
def refusalFault (status : Nat) : Nat :=
  if status = Rs.addr then FaultCode.addr
  else if status = Rs.refused then FaultCode.remoteRefused
  else FaultCode.dataError

/-- A REPLY reaches the core that waits for it (R133, R353); one that nobody waits for is discarded (R426). -/
def State.coreReply (s : State) (x : Nat) (q : W32) (status : Nat) (data : List Byte) : State :=
  let known := s.journalAwaits x q
  let s := if status = Rs.ok then s.journalFill x q (leNat data) else s.journalDrop x q
  match s.coreAwaiting x q with
  | none => if known then s else s.lateOn x
  | some (c, w) =>
    if status = Rs.ok then s.setCore c ((s.core c).answered w data)
    else s.progFault c (refusalFault status) 0 w.addr

/-- A core whose blocking request is unresolved takes REMOTE_UNRESOLVED and is held (R133, R135, R161). -/
def State.holdCore (s : State) (x : Nat) (q : W32) : State :=
  match s.coreAwaiting x q with
  | none => s
  | some (c, w) =>
    let s := s.recordFault c 1 FaultCode.remoteUnresolved 0 w.addr
    s.setCore c { (s.core c) with phase := .held w }

/-- A held core continues after the resolution of its request (R135, R161). -/
def State.restartCore (s : State) (x : Nat) (q : W32) (applied : Bool) (data : List Byte) : State :=
  let s := if applied then s.journalFill x q (leNat data) else s
  match s.coreAwaiting x q with
  | none => if applied then s else s.journalDrop x q
  | some (c, w) =>
    let s := s.recordFault c 1 FaultCode.remoteUnresolved (if applied then 2 else 1) w.addr
    let s := s.raise .coreRestart [c / 17, c % 17]
    let k := s.core c
    let again : Core := { k with phase := .running }
    if w.kind = 0 || w.kind = 4 then s.setCore c again
    else if applied then s.setCore c (k.answered w data)
    else if w.kind = 2 || w.kind = 3 then
      (s.setCore c { again with journalPos := k.journalPos - 1 }).journalDrop x q
    else s.setCore c again

end Sys2Proof.Machine
end

