-- ==== Sys2Proof/Machine/Transfers.lean ====
section
/-! DEFINITION. Copies in pieces, messages, and what an answer does to whoever sent the request (R356 to R362, R365 to
R368). A piece, and its acknowledgement, of a GET copy carries the GET flag; the reply and the slot of a copy or message
hold its next offset and the bytes its receiver takes, 8 bytes each (log entry 12). -/

namespace Sys2Proof.Machine

/-! ## Tallies and windows of a transfer -/

/-- A tally target with VALID set. -/
def tallyValid (t : Word) : Bool := tbit t.toNat 63

/-- A tally target obeys R85. -/
def tallyForm (t : Word) : Bool := if tallyValid t then fld t 62 48 = 0 && sigAdd t.toNat = 0 else t = 0

/-- An arrival for a job increments a tally target; one that is not valid or lies outside the job's range counts nowhere
(R98, R362; log entry 12). -/
def State.tallyHit (s : State) (tag : W16) (epoch : Byte) (t : Word) (n : Nat) : State :=
  match s.findJob tag epoch with
  | none => s
  | some (_, b) =>
    if tallyValid t && b.holds (sigCluster t.toNat) then
      s.addTally (sigCluster t.toNat) (sigCore t.toNat) (sigTally t.toNat) n
    else s

/-- The first offset of a range that is an address error for a job command or unit acting as master m; none where there is
none (R27, R300, R433). `host` lets the range lie in the host window (R360). -/
def State.firstBad (s : State) (m : Nat) (tag : W16) (host : Bool) (o n : Nat) (rd wr : Bool) : Option Nat :=
  let limit (top : Nat) : Option Nat := if o + n ≤ top then none else some (max o top)
  let bad := match windowOf o with
    | .hbm => limit s.jTop
    | .shale => if s.placement.isNone then some o else limit shaleTop
    | .pool => if s.placement.isNone then some o else limit poolTop
    | .host => if host then limit hostTop else some o
    | .control | .buffer | .bad => some o
  match bad with
  | some b => some b
  | none => if s.masterOn m && s.policy m true o rd wr tag then none else some o

/-! ## Pieces (R362) -/

/-- Bytes of a piece at an offset of a copy. -/
def pieceLen (len off : Nat) : Nat := min 256 (len - off)

/-- FLAGS of a piece: GET, LAST and RETRY (R352). -/
def pieceFlags (get last retry : Bool) : Nat := b2n get * 16 + b2n last * 32 + b2n retry * 128

/-- Packets of the pieces of bytes from an offset of a copy of `len` bytes; ARG is `base` plus the offset (R352, R362). -/
def State.piecesOf (s : State) (x : Nat) (q : W32) (get retry : Bool) (base len : Nat) : Nat → List Byte → Nat → List Packet
  | _, _, 0 => []
  | off, bs, fuel + 1 =>
    if bs.isEmpty then []
    else
      let n := pieceLen len off
      s.ctxPacket (s.ctx x) Op.piece (pieceFlags get (len ≤ off + n) retry) q (base + off) (bs.take n) ::
        s.piecesOf x q get retry base len (off + n) (bs.drop n) fuel

/-- Pieces of a copy sent in ascending order from an offset (R362): none where the source is not delivered. -/
def State.pushPieces (s : State) (y : Copy) (get retry : Bool) (base len off : Nat) : State × Bool :=
  let (s, d) := if y.data.isEmpty then
      (let r := s.loadOff (y.src + off) (len - off)
       (r.1, r.2.join))
    else (s, some (slice y.data off (len - off)))
  match d with
  | none => (s, false)
  | some bs => ({ s with tx := s.tx ++ s.piecesOf y.ctx y.seq get retry base len off bs (bs.length / 256 + 1) }, true)

/-- A copy changed. -/
def State.updCopy (s : State) (i : Nat) (f : Copy → Copy) : State :=
  { s with copies := updFirst (fun y => y.id == i) f s.copies }

/-- A copy with an id. -/
def State.findCopy (s : State) (i : Nat) : Option Copy := s.copies.find? (fun y => y.id == i)

/-- A copy no longer in progress. -/
def State.dropCopy (s : State) (i : Nat) : State := { s with copies := s.copies.filter (fun y => y.id != i) }

/-- A landing copy of a context. -/
def Ctx.findRx (c : Ctx) (q : W32) (get : Bool) : Option RxCopy :=
  c.rxCopies.find? (fun r => r.seq == q && r.getId.isSome == get)

/-- A landing copy of a context replaced, or removed. -/
def Ctx.setRx (c : Ctx) (q : W32) (get : Bool) (v : Option RxCopy) : Ctx :=
  let rest := c.rxCopies.filter (fun r => !(r.seq == q && r.getId.isSome == get))
  { c with rxCopies := match v with
      | some r => rest ++ [r]
      | none => rest }

/-! ## The end of a copy -/

/-- The lowest contributing logical core of this node, with its unit (R365). -/
def Reduction.lowest (r : Reduction) : Nat × W16 :=
  r.contributed.foldl (fun a c => if c.1 < a.1 then c else a) (16384, 0xFFFF)

/-- A reduction's result cannot be written (R365): COPY_FAIL, and the schedule ends as a unit fault that names the lowest
contributing core; the reduction never completes. -/
def State.failReduction (s : State) (j : Nat) (id : W16) : State :=
  match s.reductions.find? (fun r => r.job == j && r.id == id) with
  | none => s
  | some r =>
    let s := s.raise .ctxCopyFail
    let s := { s with reductions := s.reductions.map (fun (y : Reduction) => if y.job == j && y.id == id then { y with done := true } else y) }
    let (lc, u) := r.lowest
    (s.schedEnd j Status.unitFault (lc / 16) (lc % 16) u.toNat true).schedSettle j

/-- A copy has landed whole: whoever started it is told (R103, R361, R362, R366). -/
def State.copyDone (s : State) (y : Copy) : State :=
  let s := s.dropCopy y.id
  match y.origin with
  | .command q seq => s.finish q seq (.ok y.len)
  | .message q seq =>
    if y.limit < y.len then s.finish q seq { status := Status.msgTruncated, r0 := y.limit } else s.finish q seq (.ok y.len)
  | .reduction j id => { s with reductions := s.reductions.filter (fun r => !(r.job == j && r.id == id)) }
  | .unit _ _ _ | .snapshot _ | .restore _ _ | .responder => s

/-- A copy fails with a status (R361, R365, R384); RESULT0 is the offset of an address error (R89). -/
def State.copyFail (s : State) (y : Copy) (status off : Nat) : State :=
  let s := s.dropCopy y.id
  let r0 := if status = Status.addrError then off else y.acked
  match y.origin with
  | .command q seq | .message q seq => s.finish q seq { status := status, r0 := r0 }
  | .unit j lc u =>
    ((s.raise .ctxCopyFail).schedEnd j Status.unitFault (lc / 16) (lc % 16) u.toNat true).schedSettle j
  | .reduction j id => s.failReduction j id
  | .snapshot j =>
    let n := s.snap j
    s.setSnap j { n with fail := if n.fail = 0 then Status.snapDestFail else n.fail }
  | .restore j idx =>
    let n := s.snap j
    s.setSnap j { n with restore := n.restore.map (fun r => { r with bad := idx :: r.bad }) }
  | .responder => s

/-- The status of a command for a reply status (R89, R353). -/
def statusOfReply (st : Nat) : Nat := if st = Rs.dataError then Status.uncorrectable else Status.addrError

/-! ## After an answer (R351, R354, R357) -/

/-- What waited on a context that goes to CLOSED: requests without a credit, copies and receives (R351; log entry 12). -/
def State.abandon (s : State) (x : Nat) : State :=
  let c := s.ctx x
  let s := c.queue.foldl (fun s r => match r.origin with
    | .signal j lc u => s.dropSignal j lc u
    | _ => s) s
  let s := (s.copies.filter (fun y => y.ctx == x && y.tag == c.tag && y.epoch == c.epoch)).foldl
    (fun s y => s.copyFail y Status.ctxNotOpen 0) s
  c.recvs.foldl (fun s r => s.finish r.q r.seq (.st Status.ctxNotOpen)) s

/-- A CLOSING entry with nothing outstanding goes to CLOSED and its CTX_CLOSE replies SUCCESS (R351). -/
def State.settleClose (s : State) (x : Nat) : State :=
  let c := s.ctx x
  if c.st == .closing && c.outstanding == 0 then
    let s := (s.abandon x).closeCtx x
    match s.started.find? (fun d => d.wait == .close x) with
    | some d => s.finishCmd d (.ok)
    | none => s
  else s

/-- A request's record changed. -/
def State.updReq (s : State) (x : Nat) (q : W32) (f : Req → Req) : State :=
  let c := s.ctx x
  s.setCtx x { c with reqs := updFirst (fun r => r.seq == q) f c.reqs }

/-- What an answer does to its context (R351, R354, R357, R400): LOW_UNACK advances, an entry without unresolved requests
returns to OPEN, waiting requests leave, a closing entry closes and a teardown goes on. -/
def State.afterAnswer (s : State) (x : Nat) : State :=
  let c := s.ctx x
  let st := if c.st == .resolve && !(c.reqs.any (fun r => r.unresolved)) then CtxSt.open else c.st
  let s := s.setCtx x { c with lowUnack := c.lowest, st := st }
  ((s.pump x (c.queue.length + 1)).settleClose x).teardownOf c.tag c.epoch

/-- A request is answered and its record dropped (R354). -/
def State.endReq (s : State) (x : Nat) (q : W32) : State :=
  let c := s.ctx x
  (s.setCtx x { c with reqs := c.reqs.filter (fun r => r.seq != q) }).afterAnswer x

/-- A copy's opening request is answered; its record stays until the copy ends (R362). -/
def State.openedReq (s : State) (x : Nat) (q : W32) : State :=
  (s.updReq x q (fun r => { r with answered := true, unresolved := false })).afterAnswer x

/-! ## A copy goes on -/

/-- The context and the sequence number of a copy's request end with it. -/
def State.finishCopy (s : State) (y : Copy) : State := (s.copyDone y).endReq y.ctx y.seq

/-- A copy ends with a failure. -/
def State.breakCopy (s : State) (y : Copy) (status off : Nat) : State := (s.copyFail y status off).endReq y.ctx y.seq

/-- ARG of piece 0 of a copy this end sends: the destination offset of a put, 0 of a message (R352; log entry 12). -/
def Copy.base (y : Copy) : Nat :=
  match y.origin with
  | .message _ _ => 0
  | _ => y.dst

/-- This end of a put or message sends the pieces from an offset on (R362). -/
def State.pushFrom (s : State) (y : Copy) (off : Nat) (retry : Bool) : State :=
  let r := s.pushPieces y false retry y.base y.limit off
  if r.2 then r.1 else r.1.breakCopy y Status.uncorrectable 0

/-- The copy's opening request was executed at the responder, whose slot shows the next offset expected and the bytes it
takes (R362, R366). `get` is true for a copy this end receives. -/
def State.copyOpened (s : State) (y : Copy) (get : Bool) (next limit : Nat) : State :=
  if next = 0xFFFFFFFFFFFFFFFF then s.breakCopy y Status.uncorrectable 0
  else
    let lim := min limit y.len
    let y1 : Copy := { y with opened := true, limit := lim, t0 := s.now, tries := 0, acked := if get then y.acked else next }
    let s := s.updCopy y.id (fun _ => y1)
    if get then
      let c := s.ctx y.ctx
      match c.findRx y.seq true with
      | some r => (s.sendOn y.ctx Op.pieceAck 16 y.seq r.next []).openedReq y.ctx y.seq
      | none =>
        let r : RxCopy := { seq := y.seq, dst := y.dst, len := y.len, next := 0, tally := y.tally, recv := none, tag := 0,
                            getId := some y.id }
        (s.setCtx y.ctx (c.setRx y.seq true (some r))).openedReq y.ctx y.seq
    else if lim ≤ next then s.finishCopy y1
    else ((s.openedReq y.ctx y.seq).pushFrom y1 next false)

/-- A GET request of a context (R352). -/
def Req.isGet (r : Req) : Bool := tbit r.pkt.flags.toNat 4

/-! ## Answers (R353, R354, R357, R358) -/

/-- A REPLY for a request in progress (R353, R354, R368). -/
def State.replyTo (s : State) (x : Nat) (r : Req) (status : Nat) (data : List Byte) : State :=
  if status = Rs.rnr then s.updReq x r.seq (fun r => { r with rnr := some s.now })
  else
    match r.origin with
    | .core _ =>
      if r.unresolved && status = Rs.ok then (s.restartCore x r.seq true data).endReq x r.seq
      else (s.coreReply x r.seq status data).endReq x r.seq
    | .signal j lc u =>
      let s := s.endReq x r.seq
      if status = Rs.ok then s else s.dropSignal j lc u
    | .copy i | .msg i =>
      match s.findCopy i with
      | none => s.endReq x r.seq
      | some y =>
        if status = Rs.ok then s.copyOpened y r.isGet (leAt data 0 8) (leAt data 8 8)
        else s.breakCopy y (statusOfReply status) (ptrOff r.pkt.arg.toNat)

/-- A request is sent again with a new sequence number (R357). -/
def State.sendAgain (s : State) (x : Nat) (r : Req) : State :=
  let s := s.endReq x r.seq
  let c := s.ctx x
  (s.setCtx x { c with queue := c.queue ++ [r] }).pump x (c.queue.length + 1)

/-- A copy of a snapshot's page or manifest. -/
def Copy.forSnapshot (y : Copy) : Bool :=
  match y.origin with
  | .snapshot _ => true
  | _ => false

/-- A QUERY_REPLY resolves its request (R135, R357): `data` is the cached reply, one byte of status where it is no OK with
data. -/
def State.resolve (s : State) (x : Nat) (r : Req) (applied : Bool) (data : List Byte) : State :=
  let word := b2n applied * 2 ^ 63 + x * 2 ^ 32 + r.seq.toNat
  let s := s.setReg .ctxResolveLast [] (BitVec.ofNat 64 word)
  let status := if data.length = 1 then leNat data else 0
  match r.origin with
  | .core _ =>
    if applied && status ≠ 0 then (s.coreReply x r.seq status []).endReq x r.seq
    else (s.restartCore x r.seq applied data).endReq x r.seq
  | .signal j lc u =>
    if !applied then s.sendAgain x r
    else
      let s := s.endReq x r.seq
      if status = 0 then s else s.dropSignal j lc u
  | .copy i | .msg i =>
    match s.findCopy i with
    | none => s.endReq x r.seq
    | some y =>
      if !applied then
        if y.redo = 0 || !y.forSnapshot then (s.updCopy i (fun y => { y with redo := y.redo + 1 })).sendAgain x r
        else s.breakCopy y Status.snapDestFail 0
      else if status ≠ 0 then s.breakCopy y (statusOfReply status) (ptrOff r.pkt.arg.toNat)
      else s.copyOpened y r.isGet (leAt data 0 8) (leAt data 8 8)

/-! ## Timers (R356, R362, R368) -/

/-- A resend after an expiry is counted (R356, R362). -/
def State.countResend (s : State) (x : Nat) : State :=
  let c := s.ctx x
  (s.setCtx x { c with resends := BitVec.ofNat 16 (satInc 16 c.resends.toNat) }).raise .ctxRetry

/-- A request becomes unresolved: its entry enters RESOLVE, a waiting CTX_CLOSE returns CTX_BUSY, and a core that waits is
held (R351, R356). -/
def State.unresolve (s : State) (x : Nat) (q : W32) : State :=
  let s := (s.updReq x q (fun r => { r with unresolved := true })).raise .ctxUnresolved
  let c := s.ctx x
  let s := s.setCtx x { c with st := .resolve, queryLast := if c.st == .resolve then c.queryLast else s.now }
  let s := match c.st, s.started.find? (fun d => d.wait == .close x) with
    | .closing, some d => s.finishCmd d (.st Status.ctxBusy)
    | _, _ => s
  (s.holdCore x q).teardownOf c.tag c.epoch

/-- The timer of an outstanding request expires (R356). -/
def State.expireReq (s : State) (x : Nat) (r : Req) : State :=
  let c := s.ctx x
  if r.tries < c.retries.toNat then
    let s := s.updReq x r.seq (fun r => { r with tries := r.tries + 1, t0 := s.now })
    (s.countResend x).transmit { r.pkt with flags := r.pkt.flags ||| 0x80 }
  else s.unresolve x r.seq

/-- A copy has made no progress for TIMEOUT_US (R362): this end resends from the last acknowledged piece, or, of a GET,
repeats its acknowledgement (log entry 12); exhaustion leads to resolve. -/
def State.expireCopy (s : State) (x : Nat) (r : Req) (y : Copy) : State :=
  let c := s.ctx x
  if y.tries < c.retries.toNat then
    let y1 : Copy := { y with tries := y.tries + 1, t0 := s.now }
    let s := (s.updCopy y.id (fun _ => y1)).countResend x
    if r.isGet then
      match c.findRx r.seq true with
      | some rx => s.sendOn x Op.pieceAck 0x90 r.seq rx.next []
      | none => s
    else s.pushFrom y1 y1.acked true
  else s.unresolve x r.seq

end Sys2Proof.Machine
end

