-- ==== Sys2Proof/Machine/Reduce.lean ====
section
/-! DEFINITION. The copy engine's start of copies (R360, R361) and reductions: contributions, the Confluence tree and the
landing of results (R276 to R283, R364, R365). -/

namespace Sys2Proof.Machine

/-! ## Starting a copy (R360, R362) -/

/-- A pointer names another node (R24, R25). -/
def State.namesOther (s : State) (p : Nat) : Bool := !reservedNode (ptrNode p) && !s.isSelf (ptrNode p)

/-- The parameters of a copy obey R360: length, class, tally target, at most one remote pointer, the host window only
locally, and the tally target at the node that holds dst. -/
def State.copyParamsOk (s : State) (src dst len cls : Nat) (tally : Word) : Bool :=
  1 ≤ len && len ≤ 16777216 && cls ≤ 2 && tallyForm tally && !(s.namesOther src && s.namesOther dst) &&
  !(s.namesOther src && windowOf (ptrOff src) == .host) && !(s.namesOther dst && windowOf (ptrOff dst) == .host) &&
  (!tallyValid tally ||
    (if s.namesOther dst then sigNode tally.toNat == ptrNode dst else s.isSelf (sigNode tally.toNat)))

/-- The first offending offset of a copy's local pointers (R89, R360). -/
def State.copyBad (s : State) (tag : W16) (host : Bool) (src dst len : Nat) : Option Nat :=
  let one (p : Nat) (rd : Bool) : Option Nat :=
    if reservedNode (ptrNode p) then some (ptrOff p)
    else if s.namesOther p then none
    else s.firstBad 5 tag host (ptrOff p) len rd (!rd)
  match one src true with
  | some b => some b
  | none => one dst false

/-- A local copy, piece by piece (R362): how many bytes landed, and whether the source was delivered throughout. -/
def State.copyLocal (s : State) (tag : W16) (epoch : Byte) (src dst len : Nat) (tally : Word) : Nat → Nat → State × Nat × Bool
  | _, 0 => (s, len, true)
  | off, fuel + 1 =>
    if len ≤ off then (s, len, true)
    else
      let n := pieceLen len off
      let r := s.loadOff (src + off) n
      match r.2.join with
      | none => (r.1, off, false)
      | some bs => ((r.1.storeOff (dst + off) bs).tallyHit tag epoch tally 1).copyLocal tag epoch src dst len tally (off + n) fuel

/-- A copy whose parameters have passed begins: a local one lands at once, a remote one sends its COPY_OPEN (R360 to
R362). -/
def State.startCopy (s : State) (o : CopyOrigin) (tag : W16) (epoch : Byte) (src dst len x : Nat) (tally : Word) : State :=
  let get := s.namesOther src
  let y : Copy := { id := s.nextCopy, origin := o, tag := tag, epoch := epoch, src := ptrOff src, dst := ptrOff dst,
                    len := len, ctx := x, seq := 0, acked := 0, opened := false, limit := len, t0 := s.now, tries := 0,
                    data := [], tally := if tallyValid tally then tally else (s.ctx x).tally, redo := 0 }
  if get || s.namesOther dst then
    let s := { s with nextCopy := s.nextCopy + 1, copies := s.copies ++ [y] }
    let payload := leBytes 8 len ++ leBytes 8 (if get then 0 else tally.toNat)
    s.ctxRequest x Op.copyOpen (if get then 16 else 0) (if get then y.src else y.dst) payload (.copy y.id)
  else
    let r := s.copyLocal tag epoch y.src y.dst len tally 0 (len / 256 + 2)
    if r.2.2 then r.1.copyDone y else r.1.copyFail { y with acked := r.2.1 } Status.uncorrectable 0

/-! ## The ACOPY descriptor (R361) -/

/-- The fields of an ACOPY descriptor (R361). -/
structure CopyDesc where
  src : Nat
  dst : Nat
  len : Nat
  context : Nat
  cls : Nat
  kind : Nat
  redId : Nat
  clFirst : Nat
  clCount : Nat
  tally : Word
  mask : Nat
  rflags : Nat
  reserved : Bool
  deriving DecidableEq, Repr

/-- The descriptor read from its 64 bytes (R361). -/
def readCopyDesc (b : List Byte) : CopyDesc :=
  { src := leAt b 0 8, dst := leAt b 8 8, len := leAt b 16 4, context := leAt b 20 4, cls := leAt b 24 1,
    kind := leAt b 25 1, redId := leAt b 26 2, clFirst := leAt b 28 2, clCount := leAt b 30 2,
    tally := BitVec.ofNat 64 (leAt b 32 8), mask := leAt b 40 2, rflags := leAt b 42 1,
    reserved := !allZero (slice b 43 21) || bits (leAt b 20 4) 30 20 ≠ 0 }

/-- The context a descriptor gives for a node: its own, or the running table's when USE_MAP is set (R361). -/
def State.descCtx (s : State) (k : Core) (d : CopyDesc) (node : Nat) : Option Nat :=
  if tbit d.context 31 then s.tableCtx k node else some (d.context % 2 ^ 20)

/-- A plain copy of a unit (R360, R361): the status in G[rd]. -/
def State.acopyPlain (s : State) (k : Core) (u : UnitRef) (r : UnitRec) (d : CopyDesc) : State × Nat :=
  if d.reserved || d.redId ≠ 0 || d.clFirst ≠ 0 || d.clCount ≠ 0 || d.mask ≠ 0 || d.rflags ≠ 0 ||
      !s.copyParamsOk d.src d.dst d.len d.cls d.tally then (s, Status.copyParam)
  else
    let go (x : Nat) : State × Nat :=
      if (s.copyBad k.jobTag false d.src d.dst d.len).isSome then (s, Status.addrError)
      else (s.startCopy (.unit u.job (16 * r.lcluster + r.lcore) r.unit) k.jobTag k.jobEpoch d.src d.dst d.len x d.tally, 0)
    if s.namesOther d.src || s.namesOther d.dst then
      let node := ptrNode (if s.namesOther d.src then d.src else d.dst)
      match s.descCtx k d node with
      | none => (s, Status.ctxNoMap)
      | some x => if s.ctxUsable x k.jobTag k.jobEpoch node s.spanNo then go x else (s, Status.ctxNotOpen)
    else go (d.context % 2 ^ 20)

/-- Bytes of a contribution (R364). -/
def CopyDesc.size (d : CopyDesc) : Nat := d.len * (if d.kind = 1 then 4 else 17)

/-- A reducing descriptor obeys R364. -/
def State.reduceOk (s : State) (b : JobSlot) (d : CopyDesc) : Bool :=
  !d.reserved && d.cls ≤ 2 && d.redId < 0xFF00 && d.rflags ≤ 1 && 1 ≤ d.size && d.size ≤ 16777216 && 1 ≤ d.clCount &&
  d.clFirst + d.clCount ≤ 640 && d.mask ≠ 0 && tallyForm d.tally && !s.namesOther d.src &&
  (d.rflags = 0 || b.tree.isSome) &&
  (!tallyValid d.tally ||
    (if s.namesOther d.dst then sigNode d.tally.toNat == ptrNode d.dst else s.isSelf (sigNode d.tally.toNat)))

/-- A reducing ACOPY is accepted: its source is read and the unit holds it until it commits (R276, R364). -/
def State.acopyReduce (s : State) (k : Core) (u : UnitRef) (r : UnitRec) (b : JobSlot) (d : CopyDesc) (desc : List Byte) :
    State × Nat :=
  let far := s.namesOther d.dst && d.rflags = 0
  if !s.reduceOk b d then (s, Status.copyParam)
  else if far && (s.descCtx k d (ptrNode d.dst)).isNone then (s, Status.ctxNoMap)
  else if far && !s.ctxUsable ((s.descCtx k d (ptrNode d.dst)).getD 0) k.jobTag k.jobEpoch (ptrNode d.dst) s.spanNo then
    (s, Status.ctxNotOpen)
  else if reservedNode (ptrNode d.src) || reservedNode (ptrNode d.dst) ||
      (s.firstBad 5 k.jobTag false (ptrOff d.src) d.size true false).isSome then (s, Status.addrError)
  else
    let t := s.loadOff (ptrOff d.src) d.size
    match t.2.join with
    | none =>
      (((t.1.raise .ctxCopyFail).schedEnd u.job Status.unitFault r.lcluster r.lcore r.unit.toNat true).schedSettle u.job, 0)
    | some data => (t.1.updUnit u (fun x => { x with contribs := x.contribs ++ [(desc, data)] }), 0)

/-- The copy engine takes a descriptor: the status in G[rd], 0 once accepted (R130, R361). -/
def State.acopy (s : State) (k : Core) (desc : List Byte) : State × Nat :=
  match s.unitTable k with
  | none => (s, Status.copyParam)
  | some (u, b, _, _) =>
    match s.unitRec u with
    | none => (s, Status.copyParam)
    | some r =>
      let d := readCopyDesc desc
      if d.kind = 0 then s.acopyPlain k u r d
      else if d.kind ≤ 2 then s.acopyReduce k u r b d desc
      else (s, Status.copyParam)

/-! ## The Confluence tree (R277) -/

/-- The Confluence that adds a child: 0 logical core to cluster (physical number), 1 cluster to region (14 per C-die), 2
region to die, 3 die to node, 4 node to Span. -/
def JobSlot.parentOf (b : JobSlot) (level child : Nat) : Nat :=
  match level with
  | 0 => (mfind b.confluence (child / 16)).getD 0
  | 1 => 14 * (child / 168) + child % 168 / 12
  | 2 => child / 14
  | _ => 0

/-- The place of a logical core at a level of the tree. -/
def JobSlot.placeAt (b : JobSlot) (lc : Nat) : Nat → Nat
  | 0 => lc
  | n + 1 => b.parentOf n (b.placeAt lc n)

/-- The logical cores of a contributor set (R364). -/
def RedKey.members (k : RedKey) : List Nat :=
  (upFrom k.clFirst k.clCount).flatMap (fun l => (setBits k.mask.toNat 16).map (fun j => 16 * l + j))

/-- The contributing children of the Confluence that adds a child at a level, in combining order (R277); at the Span level
0 is the node's own result and n + 1 that of node n. -/
def JobSlot.siblings (b : JobSlot) (k : RedKey) (level child : Nat) : List Nat :=
  if level = 4 then
    0 :: (match b.tree with
      | some t => t.children.map (· + 1)
      | none => [])
  else
    let p := b.parentOf level child
    ((k.members.map (fun lc => b.placeAt lc level)).filter (fun c => b.parentOf level c == p)).foldl sinsert []

/-! ## Partials -/

/-- Two partials added element by element, the states ORed (R276, R279). -/
def Partial.add (kind : Nat) (p q : Partial) : Partial :=
  { p with
    vals := (p.vals.zip q.vals).map (fun v =>
      if kind = 1 then ((f32Fmt.add 0 v.1.toNat v.2.toNat).1 : Int) else v.1 + v.2)
    states := (p.states.zip q.states).map (fun v => v.1 ||| v.2) }

/-- A partial read from bytes of `w` bytes per value, with state bytes behind the values of a grid reduction. -/
def readPartial (kind n w level child : Nat) (bs : List Byte) : Partial :=
  { level := level, child := child
    vals := (List.range n).map (fun i => if kind = 1 then (leAt bs (4 * i) 4 : Int) else sext (8 * w) (leAt bs (w * i) w))
    states := if kind = 1 then [] else slice bs (w * n) n }

/-- A partial as RED_PIECE carries it: FP32 codes, or 20-byte sums and state bytes (R276, R365; log entry 12). -/
def Partial.bytes (kind : Nat) (p : Partial) : List Byte :=
  if kind = 1 then p.vals.flatMap (fun v => leBytes 4 v.toNat)
  else p.vals.flatMap (fun v => leBytes 20 (toBits 160 v)) ++ p.states

/-- The result as it is written at DST: grid totals clamped, with SAT where the clamp acts (R276). -/
def Partial.result (kind : Nat) (p : Partial) : List Byte :=
  if kind = 1 then p.vals.flatMap (fun v => leBytes 4 v.toNat)
  else
    let cs := p.vals.map (clampInt (-(2 ^ 127)) (2 ^ 127 - 1))
    cs.flatMap (fun v => leBytes 16 (toBits 128 v)) ++
      ((p.vals.zip cs).zip p.states).map (fun v => if v.1.1 = v.1.2 then v.2 else v.2 ||| 4#8)

/-! ## Contributions (R364, R365) -/

/-- The fields that every contribution must share (R364). -/
def CopyDesc.redKey (d : CopyDesc) : RedKey :=
  { kind := d.kind, len := d.len, dst := BitVec.ofNat 64 d.dst, tally := d.tally, clFirst := d.clFirst,
    clCount := d.clCount, mask := BitVec.ofNat 16 d.mask, rflags := BitVec.ofNat 8 d.rflags }

/-- A reduction of a job. -/
def State.findRed (s : State) (j : Nat) (id : W16) : Option Reduction :=
  s.reductions.find? (fun r => r.job == j && r.id == id)

/-- A reduction changed. -/
def State.updRed (s : State) (j : Nat) (id : W16) (f : Reduction → Reduction) : State :=
  { s with reductions := updFirst (fun r => r.job == j && r.id == id) f s.reductions }

/-- A committed unit contributes (R276, R365). -/
def State.contribute (s : State) (j lc : Nat) (unit : W16) (desc data : List Byte) : State :=
  let d := readCopyDesc desc
  let id := BitVec.ofNat 16 d.redId
  let key := d.redKey
  let p := readPartial d.kind d.len 16 0 lc data
  let add (r : Reduction) : Reduction :=
    { r with contributed := r.contributed ++ [(lc, unit)], waiting := r.waiting ++ [p] }
  match s.findRed j id with
  | none =>
    if key.members.contains lc then
      let r : Reduction := { job := j, id := id, key := key, contributed := [], waiting := [], running := [], folded := [],
                             ctx := if tbit d.context 31 then none else some (d.context % 2 ^ 20), done := false }
      { s with reductions := s.reductions ++ [add r] }
    else s.raise .ctxReduceMismatch
  | some r =>
    if r.key = key && key.members.contains lc && !(r.contributed.any (fun c => c.1 == lc)) then s.updRed j id add
    else (s.updRed j id (fun r => { r with done := true })).raise .ctxReduceMismatch

/-! ## Landing (R365) -/

/-- The context that the running table of a job gives for a node (R95). -/
def State.runCtx (s : State) (b : JobSlot) (node : Nat) : Option Nat :=
  match b.run with
  | none => none
  | some r =>
    match mfind s.tables r.slot with
    | none => none
    | some t => if 4096 ≤ node then none else (s.mapEntry t.base t.ctxMap node).map (· % 2 ^ 20)

/-- The result of a reduction is written at DST (R276, R365): locally at once, on another node by a put on its context. -/
def State.landReduction (s : State) (j : Nat) (b : JobSlot) (r : Reduction) (bs : List Byte) : State :=
  let dst := r.key.dst.toNat
  if s.namesOther dst then
    let x := match r.ctx, r.key.rflags.toNat with
      | some x, 0 => some x
      | _, _ => s.runCtx b (ptrNode dst)
    match x with
    | none => s.failReduction j r.id
    | some x =>
      let y : Copy := { id := s.nextCopy, origin := .reduction j r.id, tag := b.tag, epoch := b.epoch, src := 0,
                        dst := ptrOff dst, len := bs.length, ctx := x, seq := 0, acked := 0, opened := false,
                        limit := bs.length, t0 := s.now, tries := 0, data := bs, tally := 0, redo := 0 }
      let s := { s with nextCopy := s.nextCopy + 1, copies := s.copies ++ [y] }
      s.ctxRequest x Op.copyOpen 0 y.dst (leBytes 8 bs.length ++ leBytes 8 r.key.tally.toNat) (.copy y.id)
  else if reservedNode (ptrNode dst) || (s.firstBad 5 b.tag false (ptrOff dst) bs.length false true).isSome then
    s.failReduction j r.id
  else
    let s := { s with reductions := s.reductions.filter (fun y => !(y.job == j && y.id == r.id)) }
    (s.storeOff (ptrOff dst) bs).tallyHit b.tag b.epoch r.key.tally (cdiv bs.length 256)

/-- RED_PIECE packets of a node's result to its tree parent (R365). -/
def State.redPieces (s : State) (x : Nat) (id : W16) : Nat → List Byte → Nat → List Packet
  | _, _, 0 => []
  | off, bs, fuel + 1 =>
    if bs.isEmpty then []
    else
      s.ctxPacket (s.ctx x) Op.redPiece (b2n (decide (bs.length ≤ 256)) * 32) 0 (id.toNat * 2 ^ 48 + off) (bs.take 256) ::
        s.redPieces x id (off + 256) (bs.drop 256) fuel

/-- The Span Confluence of a node has its result: the root writes it, another node sends it to its parent (R365). -/
def State.spanResult (s : State) (j : Nat) (b : JobSlot) (r : Reduction) (p : Partial) : State :=
  match b.tree with
  | none => s.landReduction j b r (p.result r.key.kind)
  | some t =>
    if 4096 ≤ t.parent then s.landReduction j b r (p.result r.key.kind)
    else
      match s.runCtx b t.parent with
      | none => s.updRed j r.id (fun r => { r with done := true })
      | some x =>
        let bs := p.bytes r.key.kind
        { s with
          tx := s.tx ++ s.redPieces x r.id 0 bs (bs.length / 256 + 1)
          reductions := s.reductions.filter (fun y => !(y.job == j && y.id == r.id)) }

/-! ## Delivery to a Confluence (R279, R280) -/

/-- A partial that a Confluence passes on to its parent: to the next Confluence, or as the result of the node or Span. -/
def State.passOn (s : State) (j : Nat) (b : JobSlot) (r : Reduction) (p : Partial) : State :=
  if p.level = 5 then s.spanResult j b r p
  else if p.level = 4 && r.key.rflags.toNat = 0 then s.landReduction j b r (p.result r.key.kind)
  else s.updRed j r.id (fun r => { r with waiting := r.waiting ++ [p] })

/-- The fold of R279: children of a Confluence, left to right in combining order. -/
def foldPartials (kind : Nat) : List Partial → Option Partial
  | [] => none
  | p :: ps => some (ps.foldl (Partial.add kind) p)

/-- An ordered Confluence holds a child until every contributing child is there, then folds them in order (R279). -/
def State.deliverOrdered (s : State) (j : Nat) (b : JobSlot) (r : Reduction) (p : Partial) : State :=
  let sibs := b.siblings r.key p.level p.child
  let held := r.running ++ [p]
  let mine := sibs.filterMap (fun c => held.find? (fun (q : Partial) => q.level == p.level && q.child == c))
  if mine.length = sibs.length then
    let rest := held.filter (fun (q : Partial) => !(q.level == p.level && sibs.contains q.child))
    let s := s.updRed j r.id (fun r => { r with running := rest })
    match foldPartials r.key.kind mine with
    | some q => s.passOn j b r { q with level := p.level + 1, child := if p.level = 3 then 0 else b.parentOf p.level p.child }
    | none => s
  else s.updRed j r.id (fun r => { r with running := held })

/-- A Confluence in fast mode, or of a grid reduction, adds a child as it arrives (R280). -/
def State.deliverFast (s : State) (j : Nat) (b : JobSlot) (r : Reduction) (p : Partial) : State :=
  let up := p.level + 1
  let n := if p.level = 3 then 0 else b.parentOf p.level p.child
  let folded := r.folded ++ [(up, n, p.child)]
  let here := fun (q : Partial) => q.level == up && q.child == n
  let sum : Partial := match r.running.find? here with
    | some q => Partial.add r.key.kind q p
    | none => { p with level := up, child := n }
  let rest := r.running.filter (fun q => !here q)
  let count := (folded.filter (fun e => e.1 == up && e.2.1 == n)).length
  if count = (b.siblings r.key p.level p.child).length then
    (s.updRed j r.id (fun r => { r with running := rest, folded := folded })).passOn j b r sum
  else s.updRed j r.id (fun r => { r with running := rest ++ [sum], folded := folded })

/-- A child's partial taken from where it waits: a contribution or a Confluence's result of this node, or, at the Span level,
a child node's whole result. -/
def State.takePartial (s : State) (j : Nat) (r : Reduction) (level child : Nat) : Option (Partial × State) :=
  if level = 4 && child ≠ 0 then
    match s.redIn.find? (fun e => e.job == j && e.id == r.id && e.node + 1 == child && e.full) with
    | none => none
    | some e =>
      some (readPartial r.key.kind r.key.len 20 4 child e.bytes, { s with redIn := s.redIn.erase e })
  else
    match r.waiting.find? (fun p => p.level == level && p.child == child) with
    | none => none
    | some p => some (p, s.updRed j r.id (fun r => { r with waiting := r.waiting.erase p }))

/-- A child delivers its result to its Confluence (R279, R280): one of the 256 reductions that are combined at once (R365),
whose job is not in teardown (R283). -/
def State.deliver (s : State) (j : Nat) (id : W16) (level child : Nat) : State :=
  match s.job j with
  | none => s
  | some b =>
    let live := ((s.reductions.filter (fun (r : Reduction) => !r.done)).take 256).find? (fun r => r.job == j && r.id == id)
    match live with
    | none => s
    | some r =>
      if b.teardown then s
      else
        match s.takePartial j r level child with
        | none => s
        | some (p, s) =>
          match s.findRed j id with
          | none => s
          | some r => if b.ordered && r.key.kind = 1 then s.deliverOrdered j b r p else s.deliverFast j b r p

end Sys2Proof.Machine
end

