-- ==== Sys2Proof/Machine/Tensor.lean ====
section
/-! DEFINITION. The tensor array (R131, R132, R188 to R216): descriptors and their checks, weight versions, and streams into
the accumulator tiles. Which of several broken rules of a descriptor TA.TERR records is log entry 13. -/

namespace Sys2Proof.Machine

/-! ## Faults of tensor instructions (R191, R213) -/

/-! TENSOR causes (R213). -/

namespace TCause
def badDescriptor : Nat := 1
def badFormat : Nat := 2
def badExtent : Nat := 3
def notLocal : Nat := 4
def badBase : Nat := 5
def noVersion : Nat := 6
def badZeroPoint : Nat := 7
def badTile : Nat := 8
def refOverflow : Nat := 9
def refUnderflow : Nat := 10
def versionWait : Nat := 11
def noRecord : Nat := 12
def placementLimit : Nat := 14
end TCause

/-- Why a tensor instruction does not run. -/
inductive TErr where
  /-- TENSOR with a cause and the byte offset of a field (R213) -/
  | tensor (cause field : Nat)
  /-- ADDR or DATA_ERROR with its address (R191) -/
  | data (code addr : Nat)
  /-- ILLEGAL (R131, R132) -/
  | illegal
  deriving DecidableEq, Repr

/-- TA.TERR of a core (R213, R216). -/
def State.setTerr (s : State) (c cause kind field : Nat) : State :=
  s.setReg .taTerr [c / 17, c % 17] (BitVec.ofNat 64 (cause * 2 ^ 56 + kind * 2 ^ 48 + field))

/-- A tensor instruction faults (R133, R213): KIND of TA.TERR and the address that a TENSOR fault records. -/
def State.tensorFault (s : State) (c : Nat) (k : Core) (w : W32) (kind addr : Nat) : TErr → State × Step1
  | .tensor cause field => (s.setTerr c cause kind field, .fault k FaultCode.tensor 0 (BitVec.ofNat 64 addr))
  | .data code a => (s, .fault k code 0 (BitVec.ofNat 64 a))
  | .illegal => (s, illegalW k w)

/-- The first rule that is broken. -/
def firstErr : List (Bool × TErr) → Option TErr
  | [] => none
  | (bad, e) :: rest => if bad then some e else firstErr rest

/-- A field breaks the descriptor's rules: BAD_DESCRIPTOR. -/
def badAt (field : Nat) : TErr := .tensor TCause.badDescriptor field

/-! ## The descriptor (R131, R191) -/

/-- SUB of format T. -/
def tSub (w : W32) : Nat := wf w 10 6
/-- VSEL of format T. -/
def tVsel (w : W32) : Nat := wf w 5 4

/-- A core address lies in a Shale view (R113). -/
def inShaleView (a : Nat) : Bool := (0x100000 ≤ a && a < 0x180000) || (0x1000000 ≤ a && a < 0x1800000)

/-- A tensor instruction of a kind: the word's fields, the descriptor's place and its KIND are checked (R131, R191), and
the descriptor is handed to `f`. -/
def State.withDesc (s : State) (c : Nat) (k : Core) (w : W32) (kind : Nat)
    (f : State → List Byte → State × Step1) : State × Step1 :=
  let a := k.ga (fd w)
  let subOk := if kind = 2 then tSub w ≤ 1 else tSub w = 0 && tVsel w = 0
  if !subOk || wf w 3 0 ≠ 0 then (s, illegalW k w)
  else if 0x10000 ≤ a && !inShaleView a then (s, .fault k FaultCode.addr 0 (BitVec.ofNat 64 a))
  else if 0x10000 ≤ a || a % 64 ≠ 0 then s.tensorFault c k w 0 a (badAt 0)
  else
    match s.load (poolAddr c a) 64 with
    | (s, none) => (s, .fault k FaultCode.dataError 0 (BitVec.ofNat 64 a))
    | (s, some d) => if leAt d 0 1 ≠ kind then s.tensorFault c k w (leAt d 0 1) a (badAt 0) else f s d

/-! ## Operand data (R173, R191) -/

/-- The first element of b bits that a byte of its row belongs to, as a byte offset. -/
def elemByte (b i : Nat) : Nat := i * 8 / b * b / 8

/-- n bytes of a row of b-bit elements read through a pointer; an address error or undelivered data names the element
(R191). -/
def State.readRow (s : State) (tag : W16) (p n b : Nat) : State × Except TErr (List Byte) :=
  let o := ptrOff p
  let fail (code i : Nat) : TErr := .data code (ptrNode p * 2 ^ 51 + o + elemByte b i)
  if reservedNode (ptrNode p) then (s, .error (fail FaultCode.addr 0))
  else
    match s.firstBad 5 tag false o n true false with
    | some x => (s, .error (fail FaultCode.addr (x - o)))
    | none =>
      let r := s.loadOff o n
      match r.2.join with
      | some bs => (r.1, .ok bs)
      | none =>
        let i := (leastFrom (fun i => (s.loadOff (o + i) 1).2.join.isNone) 0 n).getD 0
        (r.1, .error (fail FaultCode.dataError i))

/-- Rows read in order, the first failure ending them: pointer of row 0, stride, bytes and element bits. -/
def State.readRows (s : State) (tag : W16) (p stride n b : Nat) : Nat → Nat → State × Except TErr (List (List Byte))
  | _, 0 => (s, .ok [])
  | i, m + 1 =>
    match s.readRow tag (p + i * stride) n b with
    | (s, .error e) => (s, .error e)
    | (s, .ok bs) =>
      match s.readRows tag p stride n b (i + 1) m with
      | (s, .error e) => (s, .error e)
      | (s, .ok rest) => (s, .ok (bs :: rest))

/-- Scale blocks that a dimension of a length with a global base meets (R194). -/
def scaleBlocks (blk base len : Nat) : Nat := (base + len - 1) / blk - base / blk + 1

/-- The scale code of element i of a scale row (R194). -/
def scaleAt (blk base : Nat) (row : List Nat) (i : Nat) : Nat := nth 0 row ((base + i) / blk - base / blk)

/-- Scale rows of an operand (R194): none where the word has no block. -/
def State.readScales (s : State) (tag : W16) (fw p stride base len rows : Nat) : State × Except TErr (List (List Nat)) :=
  if fwBlock fw = 0 then (s, .ok [])
  else
    match s.readRows tag p stride (scaleBlocks (fwBlockLen fw) base len) 8 0 rows with
    | (s, .error e) => (s, .error e)
    | (s, .ok rs) => (s, .ok (rs.map (fun r => r.map BitVec.toNat)))

/-! ## Weight versions (R193, R208 to R211) -/

/-- The fields of a TWLOAD descriptor (R193). -/
structure WDesc where
  fmt : Nat
  kt : Nat
  nt : Nat
  src : Nat
  stride : Nat
  kbase : Nat
  scales : Nat
  sstride : Nat
  nbase : Nat
  zpb : Nat
  deriving DecidableEq, Repr

/-- A TWLOAD descriptor's fields read (R193). -/
def readWDesc (d : List Byte) : WDesc :=
  { fmt := leAt d 2 2, kt := leAt d 4 2, nt := leAt d 6 2, src := leAt d 8 8, stride := leAt d 16 4, kbase := leAt d 20 4,
    scales := leAt d 24 8, sstride := leAt d 32 4, nbase := leAt d 36 4, zpb := leAt d 40 8 }

/-- The formats with two elements in a weight register (R188). -/
def fmtFour (f : Nat) : Bool := f = 2 || f = 3

/-- A base is a multiple of 32 below 0x2000_0000. -/
def baseOk (b : Nat) : Bool := b % 32 = 0 && b < 0x20000000

/-- What a TWLOAD descriptor breaks (R191, R193, R213). -/
def State.wdescErr (s : State) (d : List Byte) : Option TErr :=
  let x := readWDesc d
  let kmax := if fmtFour (fwFmt x.fmt) then 64 else 32
  firstErr [
    (leAt d 1 1 ≠ 0, badAt 1),
    (!allZero (slice d 48 16), badAt 48),
    (!fwInOk x.fmt, .tensor TCause.badFormat 2),
    (x.kt = 0 || kmax < x.kt, .tensor TCause.badExtent 4),
    (x.nt = 0 || 32 < x.nt, .tensor TCause.badExtent 6),
    (!baseOk x.kbase, .tensor TCause.badBase 20),
    (!baseOk x.nbase, .tensor TCause.badBase 36),
    (1 < x.kt && x.stride < packedLen x.nt (fmtBits (fwFmt x.fmt)), badAt 16),
    (fwBlock x.fmt = 0 && x.scales ≠ 0, badAt 24),
    (s.namesOther x.src, .tensor TCause.notLocal 8),
    (fwBlock x.fmt ≠ 0 && s.namesOther x.scales, .tensor TCause.notLocal 24),
    (x.zpb ≠ 0 && s.namesOther x.zpb, .tensor TCause.notLocal 40)]

/-- The weights, scales and zero points that a descriptor names, read from memory (R193, R194). -/
def State.readVersion (s : State) (tag : W16) (d : List Byte) : State × Except TErr Version :=
  let x := readWDesc d
  let b := fmtBits (fwFmt x.fmt)
  match s.readRows tag x.src x.stride (packedLen x.nt b) b 0 x.kt with
  | (s, .error e) => (s, .error e)
  | (s, .ok rows) =>
    let alongK := fwShare x.fmt = 0
    let sc := if alongK then s.readScales tag x.fmt x.scales x.sstride x.kbase x.kt x.nt
      else s.readScales tag x.fmt x.scales x.sstride x.nbase x.nt x.kt
    match sc with
    | (s, .error e) => (s, .error e)
    | (s, .ok scales) =>
      let zr := if x.zpb = 0 then (s, Except.ok []) else s.readRow tag x.zpb (2 * x.nt) 16
      match zr with
      | (s, .error e) => (s, .error e)
      | (s, .ok zs) =>
        let zeros := if x.zpb = 0 then [] else (List.range x.nt).map (fun n => sext 16 (leAt zs (2 * n) 2))
        (s, .ok { number := 0, refs := 0, desc := d, codes := rows.map (unpackRow b x.nt), scales := scales, zeros := zeros,
                  bad := none, reread := false })

/-- A version read again from its sources: it keeps its number and count, and is marked unreadable where a source fails
(R210). -/
def State.rereadVersion (s : State) (tag : W16) (v : Version) : State × Version :=
  match s.readVersion tag v.desc with
  | (s, .ok n) => (s, { n with number := v.number, refs := v.refs })
  | (s, .error (.data code a)) => (s, { v with reread := false, bad := some (code, BitVec.ofNat 64 a) })
  | (s, .error _) => (s, { v with reread := false })

/-- The number after a version's (R208). -/
def nextNumber (n : W16) : W16 := if n = 0xFFFF then 1 else n + 1

/-- TWLOAD takes effect: the new version is read and becomes the newer, in place of the older of two (R209). -/
def State.makeVersion (s : State) (c : Nat) (k : Core) (w : W32) (d : List Byte) : State × Step1 :=
  match s.readVersion k.jobTag d with
  | (s, .error e) => s.tensorFault c k w 1 (k.ga (fd w)) e
  | (s, .ok v) =>
    let v1 : Version := { v with number := k.nextVersion }
    (s, .done { k with phase := .running, versions := v1 :: k.versions.take 1, nextVersion := nextNumber k.nextVersion })

/-- Two versions are live and the older has references (R209). -/
def Core.mustWait (k : Core) : Bool :=
  match k.versions with
  | [_, old] => old.refs ≠ 0
  | _ => false

/-- TWLOAD (R193, R209). -/
def twloadStep (c : Nat) (w : W32) (s : State) (k : Core) : State × Step1 :=
  s.withDesc c k w 1 (fun s d =>
    match s.wdescErr d with
    | some e => s.tensorFault c k w 1 (k.ga (fd w)) e
    | none =>
      if k.mustWait then (s, .wait { k with phase := .waitVersion s.now w })
      else s.makeVersion c k w d)

/-- The version that VSEL selects (R132): its place in the list, newer first. -/
def Core.selectVersion (k : Core) (vsel num : Nat) : Except TErr Nat :=
  match k.versions with
  | [] => .error (.tensor TCause.noVersion 0)
  | vs =>
    match vsel with
    | 0 => .ok 0
    | 1 => .ok (vs.length - 1)
    | 2 =>
      (match vs.findIdx? (fun v => v.number.toNat == num % 2 ^ 16) with
      | some i => .ok i
      | none => .error .illegal)
    | _ => .error .illegal

/-- References of the version at a place changed. -/
def Core.setRefs (k : Core) (i : Nat) (r : W16) : Core :=
  { k with versions := updNth k.versions i (fun v => { v with refs := r }) }

/-- TVACQ (R132, R208). -/
def tvacqStep (c : Nat) (w : W32) (s : State) (k : Core) : State × Step1 :=
  if wf w 3 0 ≠ 0 then (s, illegalW k w)
  else
    match k.selectVersion (tVsel w) (k.rg (fb w)).toNat with
    | .error e => s.tensorFault c k w 0 w.toNat e
    | .ok i =>
      match k.versions[i]? with
      | none => (s, illegalW k w)
      | some v =>
        if v.refs = 0xFFFF then s.tensorFault c k w 0 w.toNat (.tensor TCause.refOverflow 0)
        else (s, .done ((k.setRefs i (v.refs + 1)).wg (fa w) (v.number.zeroExtend 64)))

/-- TVREL (R132, R208). -/
def tvrelStep (c : Nat) (w : W32) (s : State) (k : Core) : State × Step1 :=
  let n := (k.rg (fa w)).toNat % 2 ^ 16
  if wf w 3 0 ≠ 0 || tVsel w ≠ 0 then (s, illegalW k w)
  else
    match k.versions.findIdx? (fun v => v.number.toNat == n) with
    | none => s.tensorFault c k w 0 w.toNat (.tensor TCause.refUnderflow 0)
    | some i =>
      match k.versions[i]? with
      | none => (s, illegalW k w)
      | some v =>
        if v.refs = 0 then s.tensorFault c k w 0 w.toNat (.tensor TCause.refUnderflow 0)
        else (s, .done (k.setRefs i (v.refs - 1)))

/-- Numbers of the newer and the older version, equal where one is live, 0 where none is (R132, R216). -/
def Core.versionNumbers (k : Core) : Nat × Nat :=
  match k.versions with
  | [] => (0, 0)
  | [v] => (v.number.toNat, v.number.toNat)
  | v :: u :: _ => (v.number.toNat, u.number.toNat)

/-- TVQUERY (R132). -/
def tvqueryStep (w : W32) (k : Core) : Step1 :=
  if wf w 3 0 ≠ 0 || tVsel w ≠ 0 then illegalW k w
  else
    let (n, o) := k.versionNumbers
    .done (k.wg (fa w) (BitVec.ofNat 64 (n * 2 ^ 32 + o * 2 ^ 16 + k.versions.length)))

/-! ## Products and placement (R198 to R203) -/

/-- One product of an output element: its operands, its reduction index plus the base, and its placement unit. -/
structure Prod where
  a : FVal
  b : FVal
  g : Nat
  unit : Nat × Nat × Nat
  deriving DecidableEq, Repr

/-- The state a product joins (R201): 0 where it is finite. -/
def Prod.state (p : Prod) : Nat :=
  if p.a.isNan || p.b.isNan then 3
  else if p.a.isInf || p.b.isInf then
    (if p.a.isZero || p.b.isZero then 3 else if p.a.neg == p.b.neg then 1 else 2)
  else 0

/-- A product 0 × ∞ (R205 INVALID). -/
def Prod.invalid (p : Prod) : Bool := (p.a.isInf && p.b.isZero) || (p.b.isInf && p.a.isZero)

/-- A product whose NaN does not come from opposite infinities. -/
def Prod.nanSource (p : Prod) : Bool := p.state = 3

/-- The causes of a product (R205): INVALID, NAN_IN and INF_IN. -/
def Prod.causes (p : Prod) : Nat :=
  2 * b2n p.invalid + 8 * b2n (p.a.isNan || p.b.isNan) + 16 * b2n ((p.a.isInf || p.b.isInf) && !p.invalid)

/-- The value of a finite product. -/
def Prod.value (p : Prod) : FVal := (p.a.mul? p.b).getD (.nan false)

/-- Division by a positive number to the nearest integer, ties to the even one. -/
def divEven (z d : Int) : Int :=
  let q := z / d
  let r := z % d
  if d < 2 * r || (2 * r = d && q % 2 = 1) then q + 1 else q

/-- place of R199 for the value z × 2^e and an anchor: the placed integer and whether it was clamped. -/
def placeGrid (anchor z e : Int) : Int × Bool :=
  let s := e - anchor
  let v := if 0 ≤ s then z * ((2 ^ s.toNat : Nat) : Int) else divEven z ((2 ^ (-s).toNat : Nat) : Int)
  let c := clampInt (-(2 ^ 127)) (2 ^ 127) v
  (c, c != v)

/-- Products of an output element grouped by placement unit; the units of one element follow one another. -/
def groupUnits : List Prod → List (List Prod)
  | [] => []
  | p :: ps =>
    match groupUnits ps with
    | (q :: qs) :: rest => if p.unit = q.unit then (p :: q :: qs) :: rest else [p] :: (q :: qs) :: rest
    | rest => [p] :: rest

/-- One placement unit added to a grid element (R199 to R201): a unit with a non-finite product joins its state and adds
0. -/
def addUnit (anchor : Int) (e : Elem) (u : List Prod) : Elem :=
  let st := u.foldl (fun a p => a ||| p.state) 0
  if st ≠ 0 then { e with special := e.special ||| BitVec.ofNat 2 st, placements := e.placements + 1 }
  else
    let (z, q) := exactSum (u.map Prod.value)
    let (v, sat) := placeGrid anchor z q
    { e with sum := e.sum + v, sat := e.sat || sat, placements := e.placements + 1 }

/-- Placement units added in turn, and whether a unit without a NaN product made the state NaN: opposite infinities (R205). -/
def addUnits (anchor : Int) (e : Elem) (us : List (List Prod)) : Elem × Bool :=
  us.foldl (fun r u =>
    let e1 := addUnit anchor r.1 u
    (e1, r.2 || (r.1.special ≠ 3 && e1.special = 3 && !(u.any Prod.nanSource)))) (e, false)

/-- Products added to a grid element: the element and the causes (R199 to R201, R205). -/
def addGrid (anchor : Int) (e : Elem) (ps : List Prod) : Elem × Nat :=
  let us := groupUnits ps
  let r := addUnits anchor e us
  let clamped := (us.foldl (addUnit anchor) { e with sat := false }).sat
  (r.1, ps.foldl (fun a p => a ||| p.causes) (b2n clamped + 4 * b2n r.2))

/-- Products added to an FP32 element (R202): the exact sum and the element's value rounded once. -/
def addFp (e : Elem) (ps : List Prod) : Elem × Nat :=
  let acc := f32Fmt.decode e.fp.toNat
  let r := sumToF32 (ps.map Prod.value ++ [acc])
  let opposite := !acc.isNan && (f32Fmt.decode r.1).isNan && !(ps.any Prod.nanSource)
  ({ e with fp := BitVec.ofNat 32 r.1 }, ps.foldl (fun a p => a ||| p.causes) (b2n r.2.of + 4 * b2n opposite))

/-- An element is non-finite or marked SAT (R205). -/
def Tile.flagged (t : Tile) (e : Elem) : Bool :=
  if t.fp32 then !(match f32Fmt.decode e.fp.toNat with
    | .fin .. => true
    | _ => false)
  else e.special ≠ 0 || e.sat

/-- Products of one output element added to a tile, with its flag state (R196, R205): the tile, the event's causes and
FIRST_ELEM and FIRST_KBLK of the event. -/
def streamElem (r : Tile × Nat × Nat × Nat) (idx : Nat) (ps : List Prod) : Tile × Nat × Nat × Nat :=
  let (t, causes, fe, fk) := r
  let e := mget Elem.zero t.elems idx
  let x := if t.fp32 then addFp e ps else addGrid t.anchor e ps
  let t1 : Tile := { t with elems := mset Elem.zero t.elems idx x.1 }
  let blk := (ps.filter Prod.invalid).foldl (fun a p => min a (p.g / 32)) 0xFFFFFFFF
  (t1, causes ||| x.2, if t1.flagged x.1 then min fe idx else fe, min fk blk)

/-- The five causes in bit order. -/
def taEvents : List Ev := [.taOverflow, .taInvalid, .taInfInf, .taNanIn, .taInfIn]

/-- A setting event of TA.TFLAGt (R207). -/
def State.noteFlags (s : State) (c t causes fe fk : Nat) : State :=
  if causes = 0 then s
  else
    let i := [c / 17, c % 17, t]
    let s := (taEvents.zipIdx.filter (fun e => tbit causes e.2)).foldl (fun s e => s.raise e.1 i) s
    let s := s.setF .taTflag i 31 16 (min (s.getF .taTflag i 31 16) fe)
    let f := if fk = 0xFFFFFFFF then 0xFFFFFF else min fk 0xFFFFFE
    s.setF .taTflag i 63 40 (min (s.getF .taTflag i 63 40) f)

/-- A tile with an event in its flag state (R205). -/
def Tile.note (t : Tile) (causes fe fk : Nat) : Tile :=
  { t with causes := t.causes ||| causes, firstElem := min t.firstElem fe, firstKblk := min t.firstKblk fk }

/-- A tile of a core. -/
def Core.tile (k : Core) (t : Nat) : Tile := mget Tile.zero k.tiles t
/-- A tile of a core replaced. -/
def Core.setTile (k : Core) (t : Nat) (v : Tile) : Core := { k with tiles := mset Tile.zero k.tiles t v }

/-! ## TSTREAM (R189, R195, R196) -/

/-- The fields of a TSTREAM descriptor (R195). -/
structure SDesc where
  tile : Nat
  outer : Bool
  fa : Nat
  fb : Nat
  m : Nat
  srcA : Nat
  srcB : Nat
  strA : Nat
  strB : Nat
  scA : Nat
  scB : Nat
  scStrA : Nat
  scStrB : Nat
  rbase : Nat
  zpa : Int
  kx : Nat
  ny : Nat
  deriving DecidableEq, Repr

/-- A TSTREAM descriptor's fields read (R195). -/
def readSDesc (d : List Byte) : SDesc :=
  { tile := leAt d 1 1 % 4, outer := tbit (leAt d 1 1) 2, fa := leAt d 2 2, fb := leAt d 4 2, m := leAt d 6 2,
    srcA := leAt d 8 8, srcB := leAt d 16 8, strA := leAt d 24 4, strB := leAt d 28 4, scA := leAt d 32 8,
    scB := leAt d 40 8, scStrA := leAt d 48 4, scStrB := leAt d 52 4, rbase := leAt d 56 4,
    zpa := sext 16 (leAt d 60 2), kx := leAt d 62 1, ny := leAt d 63 1 }

/-- The shape of a stream (R189): extents of the reduction and of the output, the reduction base, columns of A or X, the
weight word, and whether W is read by columns. -/
structure Shape where
  red : Nat
  oi : Nat
  oj : Nat
  base : Nat
  cols : Nat
  fb : Nat
  colsMode : Bool
  deriving DecidableEq, Repr

/-- The shape of a stream with the version it selects. -/
def SDesc.shape (x : SDesc) (colsMode : Bool) (v : WDesc) : Shape :=
  if x.outer then ⟨x.m, x.kx, x.ny, x.rbase, x.kx, x.fb, false⟩
  else if colsMode then ⟨v.nt, x.m, v.kt, v.nbase, v.nt, v.fmt, true⟩
  else ⟨v.kt, x.m, v.nt, v.kbase, v.kt, v.fmt, false⟩

/-- What of a TSTREAM descriptor is broken before a version is selected (R191, R195). -/
def sdescErr1 (x : SDesc) (d : List Byte) : Option TErr :=
  firstErr [
    (bits (leAt d 1 1) 7 3 ≠ 0, badAt 1),
    (!x.outer && x.fb ≠ 0, badAt 4),
    (!x.outer && x.srcB ≠ 0, badAt 16),
    (!x.outer && x.rbase ≠ 0, badAt 56),
    (!x.outer && x.kx ≠ 0, badAt 62),
    (!x.outer && x.ny ≠ 0, badAt 63),
    (!fwInOk x.fa, .tensor TCause.badFormat 2),
    (x.outer && !fwInOk x.fb, .tensor TCause.badFormat 4),
    (x.m = 0 || (if x.outer then 4096 else 32) < x.m, .tensor TCause.badExtent 6),
    (x.outer && (x.kx = 0 || 32 < x.kx), .tensor TCause.badExtent 62),
    (x.outer && (x.ny = 0 || 32 < x.ny), .tensor TCause.badExtent 63),
    (x.outer && !baseOk x.rbase, .tensor TCause.badBase 56)]

/-- A columns stream of a 4-bit version with more than 32 rows, which writes two tiles (R190). -/
def Shape.split (h : Shape) : Bool := h.colsMode && fmtFour (fwFmt h.fb) && 32 < h.oj

/-- The tiles that a stream writes (R190). -/
def SDesc.used (x : SDesc) (h : Shape) : List Nat := if h.split then [x.tile, x.tile + 1] else [x.tile]

/-- Every operand that carries scales shares them along the reduction, and no format is BF16 or FP16 (R198). -/
def SDesc.blockwise (x : SDesc) (h : Shape) : Bool :=
  fwFmt x.fa ≠ 8 && fwFmt x.fa ≠ 9 && (fwBlock x.fa = 0 || fwShare x.fa = 0) &&
  (fwBlock h.fb = 0 || fwShare h.fb = (if h.colsMode then 1 else 0))

/-- The placement unit of a reduction index (R198). -/
def SDesc.unitOf (x : SDesc) (h : Shape) (r : Nat) : Nat × Nat × Nat :=
  let g := h.base + r
  if x.blockwise h then
    (g / 32, if fwBlock x.fa = 0 then 0 else g / fwBlockLen x.fa, if fwBlock h.fb = 0 then 0 else g / fwBlockLen h.fb)
  else (g, 0, 0)

/-- Placement units of one output element of a stream (R200). -/
def SDesc.units (x : SDesc) (h : Shape) : Nat := ((List.range h.red).map (x.unitOf h)).eraseDups.length

/-- Tile and element of an output element (R190). -/
def SDesc.slot (x : SDesc) (i j : Nat) : Nat × Nat := if 32 ≤ j then (x.tile + 1, 32 * i + (j - 32)) else (x.tile, 32 * i + j)

/-- Output elements of a stream, in row-major order. -/
def Shape.outputs (h : Shape) : List (Nat × Nat) := (List.range h.oi).flatMap (fun i => (List.range h.oj).map (fun j => (i, j)))

/-- What of a TSTREAM descriptor is broken once its shape is known (R168, R190, R191, R195, R200, R203). -/
def State.sdescErr2 (s : State) (k : Core) (x : SDesc) (h : Shape) (zeros : List Int) : Option TErr :=
  let wide := fwFmt x.fa = 8 || fwFmt x.fa = 9
  let fp := (x.used h).any (fun t => (k.tile t).fp32)
  let zp := x.zpa ≠ 0 || zeros.any (· ≠ 0)
  let zpOk := !x.outer && !h.colsMode && fmtInt (fwFmt x.fa) && fmtInt (fwFmt h.fb) && fwBlock x.fa = 0 && fwBlock h.fb = 0 && !fp
  firstErr [
    (!fwPairOk x.fa h.fb, .tensor TCause.badFormat 2),
    (h.split && x.tile % 2 = 1, .tensor TCause.badTile 1),
    (fp && !wide, .tensor TCause.badFormat 0),
    (zp && !zpOk, .tensor TCause.badZeroPoint (if x.zpa ≠ 0 then 60 else 0)),
    (fwBlock x.fa = 0 && x.scA ≠ 0, badAt 32),
    ((!x.outer || fwBlock x.fb = 0) && x.scB ≠ 0, badAt 40),
    (1 < x.m && x.strA < packedLen h.cols (fmtBits (fwFmt x.fa)), badAt 24),
    (x.outer && 1 < x.m && x.strB < packedLen x.ny (fmtBits (fwFmt x.fb)), badAt 28),
    (s.namesOther x.srcA, .tensor TCause.notLocal 8),
    (fwBlock x.fa ≠ 0 && s.namesOther x.scA, .tensor TCause.notLocal 32),
    (x.outer && s.namesOther x.srcB, .tensor TCause.notLocal 16),
    (x.outer && fwBlock x.fb ≠ 0 && s.namesOther x.scB, .tensor TCause.notLocal 40),
    (!fp && h.outputs.any (fun o =>
      let q := x.slot o.1 o.2
      2 ^ 24 < (mget Elem.zero (k.tile q.1).elems q.2).placements + x.units h), .tensor TCause.placementLimit 0)]

/-- The value of an element with its scale code, or with its zero point taken off (R174, R175, R203). -/
def operandVal (fw : Nat) (scale : Option Nat) (zp : Int) (code : Nat) : FVal :=
  match scale with
  | some c => decodeMx (fwFmt fw) c code
  | none =>
    if zp = 0 then decodeElem (fwFmt fw) false code
    else
      let v := (decodeElem (fwFmt fw) false code).at 0 - zp
      .fin (v < 0) v.natAbs 0

/-- A streamed operand read (R191, R194): rows × cols values. `alongRows` says that its scale blocks run along its rows,
with the given base. -/
def State.readOperand (s : State) (tag : W16) (fw p stride sc scStride rows cols base : Nat) (alongRows : Bool) (zp : Int) :
    State × Except TErr (List (List FVal)) :=
  let b := fmtBits (fwFmt fw)
  match s.readRows tag p stride (packedLen cols b) b 0 rows with
  | (s, .error e) => (s, .error e)
  | (s, .ok rs) =>
    let t := if alongRows then s.readScales tag fw sc scStride base rows cols else s.readScales tag fw sc scStride base cols rows
    match t with
    | (s, .error e) => (s, .error e)
    | (s, .ok ss) =>
      let blk := fwBlockLen fw
      let scale (i j : Nat) : Option Nat :=
        if fwBlock fw = 0 then none
        else some (if alongRows then scaleAt blk base (nth [] ss j) i else scaleAt blk base (nth [] ss i) j)
      (s, .ok (rs.zipIdx.map (fun r => (unpackRow b cols r.1).zipIdx.map (fun c => operandVal fw (scale r.2 c.2) zp c.1))))

/-- The weights of a version as values (R188, R193, R203). -/
def Version.values (v : Version) : List (List FVal) :=
  let x := readWDesc v.desc
  let blk := fwBlockLen x.fmt
  let scale (k n : Nat) : Option Nat :=
    if fwBlock x.fmt = 0 then none
    else some (if fwShare x.fmt = 0 then scaleAt blk x.kbase (nth [] v.scales n) k
      else scaleAt blk x.nbase (nth [] v.scales k) n)
  v.codes.zipIdx.map (fun r => r.1.zipIdx.map (fun c => operandVal x.fmt (scale r.2 c.2) (nth 0 v.zeros c.2) c.1))

/-- Rows and columns exchanged. -/
def transposed (rows cols : Nat) (m : List (List FVal)) : List (List FVal) :=
  (List.range cols).map (fun j => (List.range rows).map (fun i => nth (.fin false 0 0) (nth [] m i) j))

/-- The products of a stream added to the core's tiles, with their flags (R196, R205, R207): `left` by output row and
reduction index, `right` by output column and reduction index. -/
def State.streamInto (s : State) (c : Nat) (k : Core) (x : SDesc) (h : Shape) (left right : List (List FVal)) : State × Core :=
  (x.used h).foldl (fun r t =>
    let outs := h.outputs.filter (fun o => (x.slot o.1 o.2).1 == t)
    let e := outs.foldl (fun acc o =>
      let ps := ((nth [] left o.1).zip (nth [] right o.2)).zipIdx.map (fun p =>
        ({ a := p.1.1, b := p.1.2, g := h.base + p.2, unit := x.unitOf h p.2 } : Prod))
      streamElem acc (x.slot o.1 o.2).2 ps) (r.2.tile t, 0, 0xFFFF, 0xFFFFFFFF)
    (r.1.noteFlags c t e.2.1 e.2.2.1 e.2.2.2, r.2.setTile t (e.1.note e.2.1 e.2.2.1 e.2.2.2))) (s, k)

/-- TSTREAM with its shape and right operand known. -/
def State.streamRun (s : State) (c : Nat) (k : Core) (w : W32) (x : SDesc) (h : Shape) (zeros : List Int)
    (right : State → State × Except TErr (List (List FVal))) : State × Step1 :=
  let addr := k.ga (fd w)
  match s.sdescErr2 k x h zeros with
  | some e => s.tensorFault c k w 2 addr e
  | none =>
    let alongRows := if x.outer then fwShare x.fa = 0 else fwShare x.fa = 1
    let base := if fwShare x.fa = 0 then h.base else 0
    let zp := if x.outer || h.colsMode then 0 else x.zpa
    match s.readOperand k.jobTag x.fa x.srcA x.strA x.scA x.scStrA x.m h.cols base alongRows zp with
    | (s, .error e) => s.tensorFault c k w 2 addr e
    | (s, .ok a) =>
      match right s with
      | (s, .error e) => s.tensorFault c k w 2 addr e
      | (s, .ok b) =>
        let left := if x.outer then transposed x.m x.kx a else a
        let r := s.streamInto c k x h left b
        (r.1, .done r.2)

/-- TSTREAM in outer mode (R189, R195). -/
def State.streamOuter (s : State) (c : Nat) (k : Core) (w : W32) (x : SDesc) : State × Step1 :=
  let h := x.shape false ⟨0, 0, 0, 0, 0, 0, 0, 0, 0, 0⟩
  s.streamRun c k w x h [] (fun s =>
    match s.readOperand k.jobTag x.fb x.srcB x.strB x.scB x.scStrB x.m x.ny (if fwShare x.fb = 0 then x.rbase else 0)
      (fwShare x.fb = 0) 0 with
    | (s, .error e) => (s, .error e)
    | (s, .ok y) => (s, .ok (transposed x.m x.ny y)))

/-- TSTREAM in a weight mode with the version it selects (R189, R195, R210). -/
def State.streamWeights (s : State) (c : Nat) (k : Core) (w : W32) (x : SDesc) (i : Nat) (v : Version) : State × Step1 :=
  let (s, v) := if v.reread then s.rereadVersion k.jobTag v else (s, v)
  let k1 : Core := { k with versions := updNth k.versions i (fun _ => v) }
  match v.bad with
  | some (code, a) => (s, .fault k1 code 0 a)
  | none =>
    let d := readWDesc v.desc
    let colsMode := tSub w = 1
    let h := x.shape colsMode d
    s.streamRun c k1 w x h v.zeros (fun s =>
      (s, .ok (if colsMode then v.values else transposed d.kt d.nt v.values)))

/-- TSTREAM (R195, R196). -/
def tstreamStep (c : Nat) (w : W32) (s : State) (k : Core) : State × Step1 :=
  s.withDesc c k w 2 (fun s d =>
    let x := readSDesc d
    let addr := k.ga (fd w)
    if x.outer && (tSub w ≠ 0 || tVsel w ≠ 0) then (s, illegalW k w)
    else
      match sdescErr1 x d with
      | some e => s.tensorFault c k w 2 addr e
      | none =>
        if x.outer then s.streamOuter c k w x
        else
          match k.selectVersion (tVsel w) (k.rg (fb w)).toNat with
          | .error e => s.tensorFault c k w 2 addr e
          | .ok i =>
            match k.versions[i]? with
            | none => (s, illegalW k w)
            | some v => s.streamWeights c k w x i v)

/-! ## Meanings -/

/-- TWLOAD (R209). -/
def execTwload (c : CoreId) (w : W32) (s : State) : Out1 := .next (coreExec .twload c w s (twloadStep c w))

/-- TWLOAD_PROCEED (R209, R212): the older version's count has reached 0. -/
def execTwloadProceed (c : CoreId) (s : State) : Out1 :=
  .next (
    let k := s.core c
    match k.phase with
    | .waitVersion _ w =>
      if k.mustWait then s
      else
        let r := s.withDesc c k w 1 (fun s d => match s.wdescErr d with
          | some e => s.tensorFault c k w 1 (k.ga (fd w)) e
          | none => s.makeVersion c k w d)
        r.1.applyStep c r.2
    | _ => s)

/-- TWLOAD_WAIT_TIMEOUT (R209): the wait has lasted CSR.TWAIT_LIMIT, which is not 0. -/
def execTwloadWaitTimeout (c : CoreId) (s : State) : Out1 :=
  .next (
    let k := s.core c
    match k.phase with
    | .waitVersion start w =>
      if k.csrs.twaitLimit ≠ 0 ∧ start + k.csrs.twaitLimit.toNat ≤ s.now then
        let r := s.tensorFault c k w 1 (k.ga (fd w)) (.tensor TCause.versionWait 0)
        r.1.applyStep c r.2
      else s
    | _ => s)

/-- TSTREAM (R196). -/
def execTstream (c : CoreId) (w : W32) (s : State) : Out1 := .next (coreExec .tstream c w s (tstreamStep c w))
/-- TVACQ (R132). -/
def execTvacq (c : CoreId) (w : W32) (s : State) : Out1 := .next (coreExec .tvacq c w s (tvacqStep c w))
/-- TVREL (R132). -/
def execTvrel (c : CoreId) (w : W32) (s : State) : Out1 := .next (coreExec .tvrel c w s (tvrelStep c w))
/-- TVQUERY (R132). -/
def execTvquery (c : CoreId) (w : W32) (s : State) : Out1 := .next (coreLocal .tvquery c w s (tvqueryStep w))

end Sys2Proof.Machine
end

