-- ==== Sys2Proof/Machine/Readout.lean ====
section
/-! DEFINITION. TCFG and TREADACC (R184, R192, R197, R200, R205, R206, R220 to R222, R225, R286, R287), and what a unit's commit
does with the updates they hold (R185, R186, R221, R225, R234). -/

namespace Sys2Proof.Machine

/-! ## Random words (R286, R287) -/

/-- One round of Philox-4x32 (R286): the counter words and the key words. -/
def philoxRound (c : Nat × Nat × Nat × Nat) (k0 k1 : Nat) : Nat × Nat × Nat × Nat :=
  let p0 := 0xD2511F53 * c.1
  let p1 := 0xCD9E8D57 * c.2.2.1
  ((p1 / 2 ^ 32) ^^^ c.2.1 ^^^ k0, p1 % 2 ^ 32, (p0 / 2 ^ 32) ^^^ c.2.2.2 ^^^ k1, p0 % 2 ^ 32)

/-- n rounds, the key words advanced after each. -/
def philoxRounds : Nat → Nat × Nat × Nat × Nat → Nat → Nat → Nat × Nat × Nat × Nat
  | 0, c, _, _ => c
  | n + 1, c, k0, k1 =>
    philoxRounds n (philoxRound c k0 k1) ((k0 + 0x9E3779B9) % 2 ^ 32) ((k1 + 0xBB67AE85) % 2 ^ 32)

/-- The random word of an element (R286): seed, stream, step and 64-bit element index. -/
def philoxWord (seed stream step i : Nat) : Nat :=
  let b := i % 2 ^ 64 / 4
  let r := philoxRounds 10 (b % 2 ^ 32, b / 2 ^ 32, step % 2 ^ 32, stream % 2 ^ 32) (seed % 2 ^ 32) (seed / 2 ^ 32 % 2 ^ 32)
  match i % 4 with
  | 0 => r.1
  | 1 => r.2.1
  | 2 => r.2.2.1
  | _ => r.2.2.2

/-! ## TCFG (R192) -/

/-- RECORD lies in the HBM3E or Pool window of this node and is no address error (R192). -/
def State.recordOk (s : State) (tag : W16) (p : Nat) : Bool :=
  let o := ptrOff p
  !reservedNode (ptrNode p) && s.isSelf (ptrNode p) && (windowOf o == .hbm || windowOf o == .pool) &&
  (s.firstBad 5 tag false o 32 true true).isNone

/-- TCFG (R192). -/
def tcfgStep (c : Nat) (w : W32) (s : State) (k : Core) : State × Step1 :=
  s.withDesc c k w 4 (fun s d =>
    let set (t : Nat) : Nat := leAt d (4 + 2 * t) 2
    let rec_ := leAt d 16 8
    let head : List (Bool × TErr) := [
      (bits (leAt d 1 1) 7 4 != 0, badAt 1),
      (leAt d 2 2 != 0, badAt 2)]
    let sets : List (Bool × TErr) := (List.range 4).map (fun t => (bits (set t) 14 10 != 0, badAt (4 + 2 * t)))
    let tail : List (Bool × TErr) := [
      (rec_ % 32 != 0, badAt 16),
      (!allZero (slice d 24 40), badAt 24),
      (rec_ != 0 && !s.recordOk k.jobTag rec_, TErr.data FaultCode.addr rec_)]
    let err := firstErr (head ++ sets ++ tail)
    match err with
    | some e => s.tensorFault c k w 4 (k.ga (fd w)) e
    | none =>
      let k1 := (setBits (leAt d 1 1) 4).foldl (fun k t =>
        k.setTile t { Tile.zero with fp32 := tbit (set t) 15, anchor := sext 10 (set t) }) k
      (s, .done { k1 with stream := BitVec.ofNat 32 (leAt d 12 4), record := BitVec.ofNat 64 rec_ }))

/-! ## Tracked tensors (R218 to R222, R225) -/

/-- The channel of a logical index (R218). -/
def Tracked.channelOf (t : Tracked) (i : Nat) : Nat := i % 2 ^ 64 / t.div % t.channels.length

/-- A channel before its first fence (R219, R228). -/
def Channel.new (e : Int) : Channel := ⟨[], 0, e, .new⟩

/-- E of the channel of a logical index (R222). -/
def Tracked.expOf (t : Tracked) (i : Nat) : Int := (nth (Channel.new 0) t.channels (t.channelOf i)).e

/-- |x| rounded toward +∞ to FP32 (R221). -/
def amaxCode (x : FVal) : Nat :=
  match x with
  | .fin _ m e => (f32Fmt.round 3 false m e false).1
  | _ => f32Fmt.infCode false

/-- The squared error of an element, rounded once to FP32 (R225): none where it is beyond range, else in units of
2^−149. -/
def errTerm (x d : FVal) : Option Nat :=
  let q := min x.ex d.ex
  let z := x.at q - d.at q
  match f32Fmt.decode (f32Fmt.round 0 false (z * z).natAbs (2 * q) false).1 with
  | .fin _ m e => some (m * 2 ^ (e + 149).toNat)
  | _ => none

/-- A value that is finite. -/
def FVal.isFin (x : FVal) : Bool := !x.isNan && !x.isInf

/-- An element converted under a tracked tensor, entered in the unit's update (R221, R225): its index, source and dequantised
value (none where its block's scale is 0xFF). -/
def TrackUpdate.observe (u : TrackUpdate) (t : Tracked) (i : Nat) (x : FVal) (d : Option FVal) : TrackUpdate :=
  if !x.isFin then { u with nonfinite := u.nonfinite + 1 }
  else
    let ch := t.channelOf i
    let a := BitVec.ofNat 32 (amaxCode x)
    let u1 : TrackUpdate := { u with amax := if (mget 0 u.amax ch).toNat < a.toNat then minsert u.amax ch a else u.amax }
    match d with
    | some v =>
      if v.isFin then
        (match errTerm x v with
        | some n => { u1 with errSum := u1.errSum + n, errCount := u1.errCount + 1 }
        | none => { u1 with errInf := true, errCount := u1.errCount + 1 })
      else u1
    | none => u1

/-! ## TREADACC (R197) -/

/-- The fields of a TREADACC descriptor (R197). -/
structure RDesc where
  tile : Nat
  raw : Bool
  fmt : Nat
  rows : Nat
  cols : Nat
  track : Nat
  dst : Nat
  stride : Nat
  sstride : Nat
  aux : Nat
  flagrec : Nat
  ebase : Nat
  erow : Nat
  deriving DecidableEq, Repr

/-- A TREADACC descriptor's fields read (R197). -/
def readRDesc (d : List Byte) : RDesc :=
  { tile := leAt d 1 1 % 4, raw := tbit (leAt d 1 1) 2, fmt := leAt d 2 2, rows := leAt d 4 1, cols := leAt d 5 1,
    track := leAt d 6 2, dst := leAt d 8 8, stride := leAt d 16 4, sstride := leAt d 20 4, aux := leAt d 24 8,
    flagrec := leAt d 32 8, ebase := leAt d 40 8, erow := leAt d 48 4 }

/-- Bytes of one output row (R173, R197). -/
def RDesc.rowLen (x : RDesc) : Nat := if x.raw then 16 * x.cols else packedLen x.cols (fmtBits (fwFmt x.fmt))

/-- The tracked tensor of a number that belongs to a job slot (R220). -/
def State.trackedOf (s : State) (j track : Nat) : Option Tracked :=
  match mfind s.tracked track with
  | some t => if t.job = j then some t else none
  | none => none

/-- The tracked tensor that a unit's TREADACC names. -/
def State.unitTracked (s : State) (k : Core) (track : Nat) : Option Tracked :=
  match k.unit with
  | some u => s.trackedOf u.job track
  | none => none

/-- What a TREADACC descriptor breaks (R191, R197, R213, R220). -/
def State.rdescErr (s : State) (k : Core) (x : RDesc) (d : List Byte) : Option TErr :=
  let t := s.unitTracked k x.track
  let blocked := !x.raw && fwBlock x.fmt ≠ 0
  firstErr [
    (bits (leAt d 1 1) 7 3 ≠ 0, badAt 1),
    (!allZero (slice d 52 12), badAt 52),
    (x.rows = 0 || 32 < x.rows, .tensor TCause.badExtent 4),
    (x.cols = 0 || 32 < x.cols, .tensor TCause.badExtent 5),
    ((!x.raw || x.track ≠ 0) && k.record = 0, .tensor TCause.noRecord 0),
    (x.track ≠ 0 && (t.isNone || x.raw), badAt 6),
    (x.raw && x.fmt ≠ 0, badAt 2),
    (x.raw && (k.tile x.tile).fp32, .tensor TCause.badTile 1),
    (!x.raw && !fwOutOk x.fmt, .tensor TCause.badFormat 2),
    ((match t with
      | some t => x.track ≠ 0 && bits x.fmt 8 0 ≠ bits t.fmt.toNat 8 0
      | none => false), .tensor TCause.badFormat 2),
    (!x.raw && !blocked && x.aux ≠ 0, badAt 24),
    (x.raw && x.dst % 16 ≠ 0, badAt 8),
    (1 < x.rows && x.stride < x.rowLen, badAt 16),
    (x.flagrec % 16 ≠ 0, badAt 32),
    (s.namesOther x.dst, .tensor TCause.notLocal 8),
    ((x.raw || blocked) && s.namesOther x.aux, .tensor TCause.notLocal 24),
    (x.flagrec ≠ 0 && s.namesOther x.flagrec, .tensor TCause.notLocal 32)]

/-- The sum of a grid element as TREADACC uses it, and whether it is clamped (R200). -/
def Elem.readSum (e : Elem) : Int × Bool :=
  let v := clampInt (-(2 ^ 127)) (2 ^ 127 - 1) e.sum
  (v, v != e.sum)

/-- The source value of an element (R197). -/
def Tile.source (t : Tile) (e : Elem) : FVal :=
  if t.fp32 then f32Fmt.decode e.fp.toNat
  else
    match e.special.toNat with
    | 0 => let v := e.readSum.1; .fin (v < 0) v.natAbs t.anchor
    | 1 => .inf false
    | 2 => .inf true
    | _ => .nan false

/-- Element (r, c) of a tile. -/
def Tile.at_ (t : Tile) (r c : Nat) : Elem := mget Elem.zero t.elems (32 * r + c)

/-- What the conversion of one row gives: packed bytes, scale bytes, counts and the tracked update. -/
structure RowOut where
  bytes : List Byte
  scales : List Byte
  counts : ConvCounts
  track : TrackUpdate

/-- One element of a conversion: logical index, source and random word. -/
structure ConvIn where
  idx : Nat
  src : FVal
  rnd : Option Nat

/-- A block of an output row converted (R180 to R182, R222, R225): scale code, codes, counts and the update. -/
def convBlock (fmt : Nat) (t : Option Tracked) (u : TrackUpdate) (xs : List ConvIn) :
    Nat × List Nat × ConvCounts × TrackUpdate :=
  let x := t.map (fun t => -((xs.map (fun e => t.expOf e.idx)).foldl min 127))
  let r := encodeBlock fmt x (xs.map (·.rnd)) (xs.map (·.src))
  let u1 := match t with
    | none => u
    | some t => (xs.zip r.2.1).foldl (fun u e =>
        u.observe t e.1.idx e.1.src
          (if r.1 = 0xFF then none else some ((decodeElem (fwFmt fmt) true e.2).scale ((r.1 : Int) - 127)))) u
  (r.1, r.2.1, r.2.2, u1)

/-- An output row without a block converted (R178, R179, R222, R225). -/
def convPlain (fmt : Nat) (t : Option Tracked) (u : TrackUpdate) (xs : List ConvIn) : List Nat × ConvCounts × TrackUpdate :=
  xs.foldl (fun acc e =>
    let ex := (t.map (fun t => t.expOf e.idx)).getD 0
    let r := encodeElem (fwFmt fmt) (fwStrict fmt) false e.rnd (e.src.scale ex)
    let u := match t with
      | none => acc.2.2
      | some t => acc.2.2.observe t e.idx e.src (some ((decodeElem (fwFmt fmt) false r.1).scale (-ex)))
    (acc.1 ++ [r.1], acc.2.1.add r.2, u)) ([], {}, u)

/-- One output row converted. -/
def convRow (fmt : Nat) (t : Option Tracked) (u : TrackUpdate) (xs : List ConvIn) : RowOut :=
  if fwBlock fmt = 0 then
    let r := convPlain fmt t u xs
    ⟨packRow (fmtBits (fwFmt fmt)) r.1, [], r.2.1, r.2.2⟩
  else
    let r := (chunksOf xs.length (fwBlockLen fmt) xs).foldl (fun acc b =>
      let q := convBlock fmt t acc.2.2.2 b
      (acc.1 ++ [BitVec.ofNat 8 q.1], acc.2.1 ++ q.2.1, acc.2.2.1.add q.2.2.1, q.2.2.2))
      (([] : List Byte), ([] : List Nat), ({} : ConvCounts), u)
    ⟨packRow (fmtBits (fwFmt fmt)) r.2.1, r.1, r.2.2.1, r.2.2.2⟩

/-- The elements of an output row as its conversion takes them (R184, R197, R287). -/
def RDesc.rowIn (x : RDesc) (k : Core) (t : Tile) (r : Nat) : List ConvIn :=
  (List.range x.cols).map (fun c =>
    let i := x.ebase + r * x.erow + c
    { idx := i, src := t.source (t.at_ r c)
      rnd := if fwStoch x.fmt then
          some (philoxWord k.csrs.seed.toNat k.stream.toNat (nth 0 k.ident 1).toNat i) else none })

/-- A RAW output row (R197): the 16-byte values and the state bytes. -/
def RDesc.rawRow (x : RDesc) (t : Tile) (r : Nat) : List Byte × List Byte :=
  let es := (List.range x.cols).map (t.at_ r)
  (es.flatMap (fun e => leBytes 16 (toBits 128 e.readSum.1)),
   es.map (fun e => BitVec.ofNat 8 (e.special.toNat + 4 * b2n (e.sat || e.readSum.2))))

/-- The 16 bytes of a flag record (R206). -/
def RDesc.flagRecord (x : RDesc) (t : Tile) : List Byte :=
  let es := (List.range x.rows).flatMap (fun r => (List.range x.cols).map (t.at_ r))
  let bad := es.filter (fun e => !(t.source e).isFin)
  let sat := es.filter (fun e => !t.fp32 && (e.sat || (e.special = 0 && e.readSum.2)))
  leBytes 2 t.causes ++ leBytes 2 t.firstElem ++ leBytes 4 t.firstKblk ++ leBytes 4 bad.length ++ leBytes 4 sat.length

/-- The lowest element that a readout clamps; 0xFFFF for none (R200, R205). -/
def RDesc.firstClamp (x : RDesc) (t : Tile) : Nat :=
  if t.fp32 then 0xFFFF
  else ((List.range x.rows).flatMap (fun r => (List.range x.cols).map (fun c => (r, c)))).foldl (fun a p =>
    let e := t.at_ p.1 p.2
    if e.special = 0 && e.readSum.2 then min a (32 * p.1 + p.2) else a) 0xFFFF

/-- The first write that is an address error, with the address of its element (R191). -/
def State.writesBad (s : State) (tag : W16) (b : Nat) (ws : List (Nat × List Byte)) : Option TErr :=
  ws.findSome? (fun p =>
    let o := ptrOff p.1
    let at_ (i : Nat) : TErr := .data FaultCode.addr (ptrNode p.1 * 2 ^ 51 + o + elemByte b i)
    if reservedNode (ptrNode p.1) then some (at_ 0)
    else (s.firstBad 5 tag false o p.2.length false true).map (fun x => at_ (x - o)))

/-- TREADACC's rows, updates and state effects, once its descriptor has passed (R197). -/
def State.readAcc (s : State) (c : Nat) (k : Core) (w : W32) (x : RDesc) : State × Step1 :=
  let t := k.tile x.tile
  let tr := if x.track = 0 then none else s.unitTracked k x.track
  let u0 : TrackUpdate := { track := x.track, amax := [], errSum := 0, errCount := 0, errInf := false, nonfinite := 0 }
  let rows := (List.range x.rows).foldl (fun (acc : List (Nat × List Byte) × List (Nat × List Byte) × ConvCounts × TrackUpdate) r =>
    let d := x.dst + r * x.stride
    if x.raw then
      let q := x.rawRow t r
      (acc.1 ++ [(d, q.1)], acc.2.1 ++ [(x.aux + 32 * r, q.2)], acc.2.2)
    else
      let q := convRow x.fmt tr acc.2.2.2 (x.rowIn k t r)
      (acc.1 ++ [(d, q.bytes)], if q.scales.isEmpty then acc.2.1 else acc.2.1 ++ [(x.aux + r * x.sstride, q.scales)],
       acc.2.2.1.add q.counts, q.track)) ([], [], {}, u0)
  let fc := x.firstClamp t
  let t1 := if fc = 0xFFFF then t else t.note 1 fc 0xFFFFFFFF
  let flag := if x.flagrec = 0 then [] else [(x.flagrec, x.flagRecord t1)]
  let eb := if x.raw then 128 else fmtBits (fwFmt x.fmt)
  let bad := match s.writesBad k.jobTag eb rows.1 with
    | some e => some e
    | none => s.writesBad k.jobTag 8 (rows.2.1 ++ flag)
  match bad with
  | some e => s.tensorFault c k w 3 (k.ga (fd w)) e
  | none =>
    let s := if fc = 0xFFFF then s else s.noteFlags c x.tile 1 fc 0xFFFFFFFF
    let s := (rows.1 ++ rows.2.1 ++ flag).foldl (fun s p => s.storeOff (ptrOff p.1) p.2) s
    let k1 := k.setTile x.tile t1
    let k2 : Core := { k1 with
      recUpdates := if x.raw then k1.recUpdates
        else k1.recUpdates ++ [{ addr := ptrOff k.record.toNat, counts := rows.2.2.1.toList }]
      trackUpdates := if tr.isSome then k1.trackUpdates ++ [rows.2.2.2] else k1.trackUpdates }
    (s, .done k2)

/-- TREADACC (R197). -/
def treadaccStep (c : Nat) (w : W32) (s : State) (k : Core) : State × Step1 :=
  s.withDesc c k w 3 (fun s d =>
    let x := readRDesc d
    match s.rdescErr k x d with
    | some e => s.tensorFault c k w 3 (k.ga (fd w)) e
    | none => s.readAcc c k w x)

/-! ## At commit (R185, R186, R221, R225) -/

/-- One field of a conversion record: a saturating sum, lost where the field is uncorrectable (R186). -/
def State.addRecordField (s : State) (o n : Nat) : State :=
  if n = 0 then s
  else
    match s.loadOff o 4 with
    | (s, some (some bs)) => s.storeOff o (leBytes 4 (satAdd 32 (leNat bs) n))
    | (s, _) => s

/-- A conversion's events added to a record (R185, R186); bytes 28–31 are written 0. -/
def State.addRecord (s : State) (u : RecordUpdate) : State :=
  let s := (u.counts.zipIdx).foldl (fun s c => s.addRecordField (u.addr + 4 * c.2) c.1) s
  match s.loadOff (u.addr + 28) 4 with
  | (s, some (some bs)) => if allZero bs then s else s.storeOff (u.addr + 28) (leBytes 4 0)
  | (s, _) => s

/-- A unit's tracked update applied (R221, R225): TOUCHED, maxima, error sum and count, and NONFINITE for each non-finite
source. -/
def State.applyTrack (s : State) (u : TrackUpdate) : State :=
  match mfind s.tracked u.track with
  | none => s
  | some t =>
    let chans := u.amax.foldl (fun cs e => updNth cs e.1 (fun (ch : Channel) =>
      { ch with amaxCur := if ch.amaxCur.toNat < e.2.toNat then e.2 else ch.amaxCur })) t.channels
    let t1 : Tracked := { t with
      channels := chans, touched := true, errSum := t.errSum + u.errSum, errInf := t.errInf || u.errInf,
      errCount := t.errCount + u.errCount }
    let s := { s with tracked := minsert s.tracked u.track t1 }
    (List.range u.nonfinite).foldl (fun s _ => s.raise .qntNonfinite) s

/-! ## Meanings -/

/-- TREADACC (R197). -/
def execTreadacc (c : CoreId) (w : W32) (s : State) : Out1 := .next (coreExec .treadacc c w s (treadaccStep c w))
/-- TCFG (R192). -/
def execTcfg (c : CoreId) (w : W32) (s : State) : Out1 := .next (coreExec .tcfg c w s (tcfgStep c w))

end Sys2Proof.Machine
end

