-- ==== Sys2Proof/Machine/Commands.lean ====
section
/-! DEFINITION. Commands as the queue front end hands them on (R83 to R92): their parameters, the job they act for, how a
started command runs, and the commands that act on queues. -/

namespace Sys2Proof.Machine

/-! ## Opcodes and parameters (R85, R91) -/

/-- What the opcode table gives an opcode: the sizes of its parameters in order (none for a block of its own layout), and
whether PBLK is required (R85, R91). -/
structure CmdSpec where
  sizes : Option (List Nat)
  block : Bool
  deriving DecidableEq, Repr

/-- The opcode table (R91); none for a command byte that names no command. -/
def cmdSpec (op : Nat) : Option CmdSpec :=
  let inl (ns : List Nat) : Option CmdSpec := some ⟨some ns, false⟩
  let blk (ns : List Nat) : Option CmdSpec := some ⟨some ns, true⟩
  match op with
  | 0x0101 => inl [2, 1, 1, 2, 2, 8, 8]
  | 0x0102 | 0x0103 | 0x0104 | 0x0105 => inl [2]
  | 0x0106 => inl []
  | 0x0201 => inl [8, 8, 8, 4, 1, 8]
  | 0x0202 => inl [8, 8, 8, 1]
  | 0x0203 => inl []
  | 0x0204 | 0x0205 => inl [8]
  | 0x0301 => inl [2, 2, 2]
  | 0x0302 => inl []
  | 0x0303 => inl [8, 8]
  | 0x0304 => inl [1]
  | 0x0305 => inl [1, 4, 4, 4, 8]
  | 0x0306 => inl []
  | 0x0307 => inl [8]
  | 0x0308 => inl [8, 4]
  | 0x0309 => inl [8]
  | 0x0401 => inl [2, 2, 2, 2, 4, 1]
  | 0x0402 | 0x0403 => inl [2, 2, 2, 8]
  | 0x0404 => inl [2, 2]
  | 0x0501 => blk [8, 8, 4, 4, 8, 8, 8, 1, 1, 2, 2, 2]
  | 0x0502 => inl [2, 2, 4]
  | 0x0601 => inl [2, 2, 2, 1, 4, 4, 8]
  | 0x0602 => inl [4]
  | 0x0603 => inl [4, 8]
  | 0x0604 => inl [8, 4]
  | 0x0605 => inl [8, 8, 4, 4]
  | 0x0606 => inl [8, 8, 8, 4, 4, 8]
  | 0x0701 => blk [8, 2, 1, 1, 4, 8, 8, 8, 2, 1, 1, 4, 8, 8]
  | 0x0702 | 0x0703 => inl []
  | 0x0704 => blk [8, 1, 1, 1, 8, 4, 8, 8]
  | 0x0801 => inl [8]
  | 0x0802 => some ⟨none, true⟩
  | 0x0803 => inl []
  | 0x0901 => inl [8]
  | 0x0902 => inl [8, 2]
  | 0x0A01 | 0x0A02 => inl [2]
  | 0x0A03 | 0x0A04 => inl [1]
  | _ => none

/-- Offsets and sizes of packed fields, and the end of the last (R85). -/
def packFields : Nat → List Nat → List (Nat × Nat) × Nat
  | o, [] => ([], o)
  | o, n :: ns =>
    let a := cdiv o n * n
    let r := packFields (a + n) ns
    ((a, n) :: r.1, r.2)

/-- The fields of packed parameters: none where a padding byte or a byte beyond the last field is not 0, or the fields do
not fit (R85). -/
def unpack (sizes : List Nat) (bs : List Byte) : Option (List Nat) :=
  let f := packFields 0 sizes
  let rest := f.1.foldl (fun r x => splice r x.1 (List.replicate x.2 0#8)) bs
  if bs.length < f.2 || !allZero rest then none else some (f.1.map (fun x => leAt bs x.1 x.2))

/-- The parameter fields of a started command, in the opcode table's order. -/
def Started.fields (c : Started) : List Nat :=
  match cmdSpec c.opcode.toNat with
  | some ⟨some ns, _⟩ => (packFields 0 ns).1.map (fun x => leAt c.params x.1 x.2)
  | _ => []

/-- Parameter i of a started command. -/
def Started.arg (c : Started) (i : Nat) : Nat := nth 0 c.fields i

/-! ## The job of a command (R86) -/

/-- An opcode acts for a job (R86). -/
def opActsForJob (op : Nat) : Bool := 2 ≤ op / 256 && op / 256 ≤ 7 && op ≠ 0x0203 && op ≠ 0x0301

/-- The check of R86: 0 where the tag and epoch name an open job that is not in teardown. -/
def State.jobStatus (s : State) (tag : W16) (epoch : Byte) : Nat :=
  if !(s.jobs.any (fun e => e.2.tag == tag)) then Status.jobUnknown
  else
    match s.findJob tag epoch with
    | none => Status.jobClosed
    | some (_, b) => if b.teardown then Status.jobClosed else 0

/-! ## Running a started command -/

/-- A started command runs, once (log entry 6). -/
def State.runCmd (s : State) (op q : Nat) (seq : W32) (f : State → Started → State) : State :=
  match s.findStarted q seq with
  | some c => if c.opcode.toNat = op && c.wait == .ready then f s c else s
  | none => s

/-- A started command of a job runs; one whose job has closed or gone into teardown since its start is answered as R86
says (R106; log entry 14). -/
def State.runJobCmd (s : State) (op q : Nat) (seq : W32) (f : State → Started → Nat → JobSlot → State) : State :=
  s.runCmd op q seq (fun s c =>
    match s.jobStatus c.tag c.epoch, s.findJob c.tag c.epoch with
    | 0, some (j, b) => f s c j b
    | st, _ => s.finishCmd c (.st st))

/-- A started command waits. -/
def State.waitCmd (s : State) (c : Started) (w : CmdWait) : State := s.setStarted { c with wait := w }

/-- The first offset of a range in the HBM3E or host window that a command without a job cannot reach as its submitting
master (R27, R432, R433); none where there is none. -/
def State.cmdBad (s : State) (c : Started) (p n : Nat) (rd wr : Bool) : Bool :=
  let o := ptrOff p
  !(!reservedNode (ptrNode p) && s.isSelf (ptrNode p) && (inWindow .hbm o n || inWindow .host o n)) ||
  s.unreachable o n || !(s.masterOn c.master.val && s.policy c.master.val true o rd wr 0)

/-- The first offending offset of a pointer of a job command whose range must lie on this node (R27, R86, R300, R432); none
where there is none, and a range of no bytes has none (log entry 14). -/
def State.jobBad (s : State) (c : Started) (p n : Nat) (rd wr : Bool) : Option Nat :=
  if n = 0 then none
  else if reservedNode (ptrNode p) || s.namesOther p then some (ptrOff p)
  else s.firstBad 5 c.tag false (ptrOff p) n rd wr

/-- ADDR_ERROR with the offending offset (R89). -/
def addrAnswer (o : Nat) : Answer := { status := Status.addrError, r0 := o }

/-! ## Commands of the administrative class (R78, R91, R92) -/

/-- A ring word in the encoding of CQ.Q_RING (`low` 6) or CQ.Q_CRING (`low` 5): reserved bits 0 and LOG2 6 to 16 (R92). -/
def ringForm (low w : Nat) : Bool :=
  bits w 63 51 = 0 && bits w (low - 1) 5 * (low - 5) = 0 && 6 ≤ bits w 4 0 && bits w 4 0 ≤ 16

/-- A ring word's ring lies wholly within one of the permitted windows (R73). -/
def ringLies (low w : Nat) : Bool := ringPlaced (bits w 50 low * 2 ^ low) (2 ^ low) (bits w 4 0)

/-- Q_CREATE's field checks (R92). -/
def qCreateParam (p : List Nat) : Nat :=
  let a (i : Nat) : Nat := nth 0 p i
  if a 0 = 0 || 4095 < a 0 || 3 < a 1 || 1 < a 2 || 2047 < a 3 || bits (a 4) 15 10 ≠ 0 ||
      !ringForm 6 (a 5) || !ringForm 5 (a 6) then Status.badParam
  else if !ringLies 6 (a 5) || !ringLies 5 (a 6) then Status.badParamAddr
  else 0

/-- Q_CREATE (R92). -/
def execQCreate (q : QueueId) (seq : BitVec 32) (s : State) : Out1 :=
  .next (s.runCmd 0x0101 q.val seq (fun s c =>
    let t := c.arg 0
    if (s.queue t).st ≠ .disabled then s.finishCmd c (.st Status.queueState)
    else
      let ctrl := c.arg 4 * 2 ^ 32 + c.arg 3 * 2 ^ 10 + c.arg 2 * 2 ^ 9 + c.arg 1 * 2 ^ 4
      let s := s.setQueue t { Queue.zero with
        st := .active, ring := BitVec.ofNat 64 (c.arg 5), cring := BitVec.ofNat 64 (c.arg 6),
        ctrl := BitVec.ofNat 64 ctrl, err := (s.queue t).err }
      s.finishCmd c (.ok)))

/-- Q_RESET (`reset`) or Q_DESTROY of a queue (R78): it starts no further command, and the effect waits for the commands
already started on it. -/
def State.beginDrain (s : State) (c : Started) (reset : Bool) : State :=
  let t := c.arg 0
  if 4095 < t then s.finishCmd c (.st Status.badParam)
  else if (s.queue t).st = .disabled then s.finishCmd c (.st Status.queueState)
  else
    let s := s.setQueue t { s.queue t with stopping := true }
    (s.waitCmd c (if t = c.q then .selfDrain reset else .drain t reset)).settle

/-- Q_DESTROY (R78, R92). -/
def execQDestroy (q : QueueId) (seq : BitVec 32) (s : State) : Out1 :=
  .next (s.runCmd 0x0102 q.val seq (fun s c => s.beginDrain c false))

/-- Q_RESET (R78, R92). -/
def execQReset (q : QueueId) (seq : BitVec 32) (s : State) : Out1 :=
  .next (s.runCmd 0x0105 q.val seq (fun s c => s.beginDrain c true))

/-- Q_PAUSE or Q_RESUME: a queue in state `a` goes to state `b`; the effect on the command's own queue follows its reply
(R92). -/
def State.moveQueue (s : State) (c : Started) (a b : QState) : State :=
  let t := c.arg 0
  if 4095 < t then s.finishCmd c (.st Status.badParam)
  else if (s.queue t).st ≠ a then s.finishCmd c (.st Status.queueState)
  else
    let go (s : State) : State := if (s.queue t).st = a then s.setQueue t { s.queue t with st := b } else s
    if t = c.q then go (s.finishCmd c (.ok)) else (go s).finishCmd c (.ok)

/-- Q_PAUSE (R92). -/
def execQPause (q : QueueId) (seq : BitVec 32) (s : State) : Out1 :=
  .next (s.runCmd 0x0103 q.val seq (fun s c => s.moveQueue c .active .paused))

/-- Q_RESUME (R92). -/
def execQResume (q : QueueId) (seq : BitVec 32) (s : State) : Out1 :=
  .next (s.runCmd 0x0104 q.val seq (fun s c => s.moveQueue c .paused .active))

/-- Q_NOP (R91). -/
def execQNop (q : QueueId) (seq : BitVec 32) (s : State) : Out1 :=
  .next (s.runCmd 0x0106 q.val seq (fun s c => s.finishCmd c (.ok)))

/-! ## Dispatch cores (R90, R421) -/

/-- Dispatch cores in service (R108, R428). -/
def State.dispatchOn (s : State) : Nat :=
  ((List.range 8).filter (fun d => !s.flash.map.dispatch.contains d && !s.package.dispatchFailed.contains d)).length

/-- DISPATCH_CORE_FAIL (R90, R421): Granite sets the core's map bit, and the firmware command it ran starts again on another
core; with none left the node is lost. A core that is out of service fails no more, and a command that has not begun to wait
has had no effect yet, so its new start is the run still to come (log entry 6). -/
def execDispatchCoreFail (d : Fin 8) (q : QueueId) (seq : BitVec 32) (s : State) : Out1 :=
  .next (
    if s.flash.map.dispatch.contains d.val || s.package.dispatchFailed.contains d.val then s
    else
      let s := s.changeMap (fun m => { m with dispatch := sinsert m.dispatch d.val })
      let s := { s with package := { s.package with dispatchFailed := sinsert s.package.dispatchFailed d.val } }
      let s := s.continuity id
      if s.dispatchOn = 0 then s.nodeLoss
      else
        match s.findStarted q.val seq with
        | some c => if hwOpcodes.contains c.opcode.toNat then s else s.raise .cqFwRestart
        | none => s)

end Sys2Proof.Machine
end

