-- ==== Sys2Proof/Machine/Responder.lean ====
section
/-! DEFINITION. Packets that arrive (R350, R352 to R368), the timers of the contexts (R350, R356, R368), and the delivery of a
reduction's partial (R279). A command that brings a packet takes it from those the link has delivered, or stands for its
arrival on a link that is ACTIVE (log entry 12). -/

namespace Sys2Proof.Machine

/-! ## What every packet has (R338, R352, R398) -/

/-- A payload is as long as its OP needs (R352; log entry 12). -/
def payloadOk (p : Packet) : Bool :=
  let n := p.payload.length
  match p.op.toNat with
  | 0x02 => 1 ≤ n
  | 0x03 => n == 24 && allZero (slice p.payload 1 7) && leAt p.payload 0 1 % 16 < 12 && leAt p.payload 0 1 < 32
  | 0x05 => n == 16
  | 0x06 | 0x08 => 1 ≤ n
  | 0x07 => n == 8
  | 0x14 => n == 4
  | 0x01 => bits p.flags.toNat 2 0 ≤ 3
  | 0x10 => fld p.arg 7 0 ≤ 4
  | _ => true

/-- A packet is taken from the link, whose receive buffer it leaves (R331); none where it cannot have arrived. -/
def State.takePacket (s : State) (n : Nat) (p : Packet) : Option State :=
  if s.rx.contains (n, p) then
    let s1 : State := { s with rx := s.rx.erase (n, p) }
    some (match vcOf p.op.toNat with
      | some vc => s1.returnCredits n vc
      | none => s1)
  else if (s.link n).st = .active then some s
  else none

/-- A packet that arrives on a link: malformed ones are counted (R338), ones that the job filter does not accept are
discarded (R398), and the others handed on. -/
def State.onPacket (s : State) (n : Nat) (p : Packet) (f : State → State) : State :=
  match s.takePacket n p with
  | none => s
  | some s =>
    if !s.packetOk p || !payloadOk p then s.anomaly n .malformed
    else
      let st := match s.filterOf n p.tag p.epoch with
        | some (_, e) => e.st
        | none => .closed
      if filterAccepts st p.op.toNat then f s else s.raise .timeFilterDrop

/-- R352's context check: the entry is OPEN or RESOLVE, or CLOSING for an answer, and agrees with the packet in job tag,
epoch and peer. -/
def Ctx.admits (c : Ctx) (p : Packet) (answer : Bool) : Bool :=
  (c.st == .open || c.st == .resolve || (answer && c.st == .closing)) && c.tag == p.tag && c.epoch == p.epoch &&
  c.peerNode.toNat == p.srcNode.toNat && c.peerSpan == p.srcSpan

/-- A packet for a context: handed on with the entry's number, or discarded with NO_CONTEXT (R352). -/
def State.onCtx (s : State) (n : Nat) (p : Packet) (answer : Bool) (f : Nat → State → State) : State :=
  s.onPacket n p (fun s =>
    let x := p.dstCtx.toNat
    if (s.ctx x).admits p answer then f x s else s.raise .ctxNoContext)

/-! ## The responder (R355) -/

/-- A REPLY (R352, R353). -/
def State.sendReply (s : State) (x : Nat) (q : W32) (status : Nat) (data : List Byte) : State :=
  s.sendOn x Op.reply 0 q status (if status = Rs.ok then data else [])

/-- The reply slot of a sequence number (R355). -/
def Ctx.slot (c : Ctx) (q : W32) : ReplySlot :=
  mget { seq := q, status := 0, data := [], notApplied := false } c.slots (q.toNat % 16)

/-- A reply slot stored. -/
def State.setSlot (s : State) (x : Nat) (r : ReplySlot) : State :=
  let c := s.ctx x
  s.setCtx x { c with slots := minsert c.slots (r.seq.toNat % 16) r }

/-- The cached reply of an executed request is sent again (R355): for one that was marked NOT_APPLIED, that answer (R357;
log entry 12). -/
def State.replyCached (s : State) (x : Nat) (q : W32) : State :=
  let r := (s.ctx x).slot q
  if r.notApplied then s.sendOn x Op.queryReply 0 q q.toNat [] else s.sendReply x q r.status.toNat r.data

/-- The 16 bytes of a slot in the atomic reply store (R355): an atomic's old value, 0 for a store or signal that is OK, and a
free value for what the manual does not lay out (log entries 3 and 12). -/
def State.storeSlot (s : State) (x : Nat) (q : W32) (op status : Nat) (data : List Byte) : State :=
  if op = Op.load then s
  else if status = Rs.ok && op = Op.atomic then s.put (slotAddr x q) (leBytes 16 (leNat data))
  else if status = Rs.ok && (op = Op.store || op = Op.signal) then s.put (slotAddr x q) (leBytes 16 0)
  else s.bump.put (slotAddr x q) (leBytes 16 (Config.free s.free))

/-- A request at its responder (R355): `run` executes it and answers the reply's status and data, or answers none where it
is not executed (R368). -/
def State.respond (s : State) (n x : Nat) (p : Packet) (run : State → State × Option (Nat × List Byte)) : State :=
  match (s.ctx x).seqSt p.seq with
  | .stale => s.lateOn x
  | .outside => s.anomaly n .malformed
  | .done =>
    if p.op.toNat = Op.load && !((s.ctx x).slot p.seq).notApplied then
      (match run s with
      | (s, some (st, data)) => s.sendReply x p.seq st data
      | (s, none) => s)
    else s.replyCached x p.seq
  | .fresh =>
    match run s with
    | (s, none) => (s.sendReply x p.seq Rs.rnr []).raise .ctxRnr
    | (s, some (st, data)) =>
      let kept := if p.op.toNat = Op.load then [] else data
      let s := s.setCtx x ((s.ctx x).markDone p.seq)
      let s := s.setSlot x { seq := p.seq, status := BitVec.ofNat 8 st, data := kept, notApplied := false }
      (s.storeSlot x p.seq p.op.toNat st data).sendReply x p.seq st data

/-- A remote access of n bytes at the node: OK, or the reply status that refuses it (R27, R300, R353, R433). -/
def State.remoteCheck (s : State) (tag : W16) (o n : Nat) (rd wr : Bool) : State × Nat :=
  match windowOf o with
  | .control | .host => (s, Rs.refused)
  | .bad => (s, Rs.addr)
  | _ =>
    if s.jobReach o n && (s.segments o n).isSome then
      let r := s.allowed 6 true o rd wr tag
      (r.1, if r.2 then Rs.ok else Rs.refused)
    else (s, Rs.addr)

/-- LOAD executed (R352, R355). -/
def State.runLoad (s : State) (p : Packet) : State × Option (Nat × List Byte) :=
  let o := ptrOff p.arg.toNat
  let n := 2 ^ bits p.flags.toNat 2 0
  let r := s.remoteCheck p.tag o n true false
  if r.2 ≠ Rs.ok then (r.1, some (r.2, []))
  else
    let t := r.1.loadOff o n
    match t.2.join with
    | some bs => (t.1, some (Rs.ok, bs))
    | none => (t.1, some (Rs.dataError, []))

/-- STORE executed (R352). -/
def State.runStore (s : State) (p : Packet) : State × Option (Nat × List Byte) :=
  let o := ptrOff p.arg.toNat
  let r := s.remoteCheck p.tag o p.payload.length false true
  if r.2 ≠ Rs.ok then (r.1, some (r.2, [])) else (r.1.storeOff o p.payload, some (Rs.ok, []))

/-- ATOMIC executed (R352, R359): CAS compares with bytes 8–15 and stores bytes 16–23. -/
def State.runAtomic (s : State) (p : Packet) : State × Option (Nat × List Byte) :=
  let o := ptrOff p.arg.toNat
  let f := leAt p.payload 0 1
  let n := atomicBytes f
  let r := s.remoteCheck p.tag o n true true
  if r.2 ≠ Rs.ok then (r.1, some (r.2, []))
  else if o % n ≠ 0 then (r.1, some (Rs.addr, []))
  else
    match r.1.phys o with
    | none => (r.1, some (Rs.addr, []))
    | some a =>
      let x := if f % 16 = 9 then leAt p.payload 8 8 else leAt p.payload 8 16
      let t := r.1.atomicAt a f x (leAt p.payload 16 8)
      match t.2 with
      | some old => (t.1, some (Rs.ok, leBytes n old))
      | none => (t.1, some (Rs.dataError, []))

/-- SIGNAL executed (R98): one that does not name this node, or a logical cluster of the packet's job, is not applied. -/
def State.runSignal (s : State) (p : Packet) : State × Option (Nat × List Byte) :=
  let x := p.arg.toNat
  match s.findJob p.tag p.epoch with
  | none => (s, some (Rs.addr, []))
  | some (_, b) =>
    if s.isSelf (sigNode x) && b.holds (sigCluster x) then
      (s.addTally (sigCluster x) (sigCore x) (sigTally x) (sigAdd x), some (Rs.ok, []))
    else (s, some (Rs.addr, []))

/-- Copy state as replies and slots carry it: the next offset and the bytes taken (R362; log entry 12). -/
def copyState (next limit : Nat) : List Byte := leBytes 8 next ++ leBytes 8 limit

/-- COPY_OPEN of a put executed (R362): the landing copy begins. -/
def State.runPut (s : State) (x : Nat) (p : Packet) : State × Option (Nat × List Byte) :=
  let o := ptrOff p.arg.toNat
  let len := leAt p.payload 0 8
  let tally : Word := BitVec.ofNat 64 (leAt p.payload 8 8)
  let r := s.remoteCheck p.tag o len false true
  if len = 0 || 16777216 < len then (s, some (Rs.addr, []))
  else if r.2 ≠ Rs.ok then (r.1, some (r.2, []))
  else
    let c := r.1.ctx x
    let rx : RxCopy := { seq := p.seq, dst := o, len := len, next := 0, tally := if tallyValid tally then tally else c.tally,
                         recv := none, tag := 0, getId := none }
    (r.1.setCtx x (c.setRx p.seq false (some rx)), some (Rs.ok, copyState 0 len))

/-- COPY_OPEN of a GET executed (R362): the roles are reversed, and this end sends the pieces (`State.getPieces`). -/
def State.runGet (s : State) (x : Nat) (p : Packet) : State × Option (Nat × List Byte) :=
  let o := ptrOff p.arg.toNat
  let len := leAt p.payload 0 8
  let r := s.remoteCheck p.tag o len true false
  if len = 0 || 16777216 < len then (s, some (Rs.addr, []))
  else if r.2 ≠ Rs.ok then (r.1, some (r.2, []))
  else
    let t := r.1.loadOff o len
    match t.2.join with
    | none => (t.1, some (Rs.dataError, []))
    | some _ =>
      let s := t.1
      let y : Copy := { id := s.nextCopy, origin := .responder, tag := p.tag, epoch := p.epoch, src := o, dst := 0, len := len,
                        ctx := x, seq := p.seq, acked := 0, opened := true, limit := len, t0 := s.now, tries := 0, data := [],
                        tally := 0, redo := 0 }
      ({ s with nextCopy := s.nextCopy + 1, copies := s.copies ++ [y] }, some (Rs.ok, copyState 0 len))

/-- The copy that this end serves for a GET of its peer. -/
def State.served (s : State) (x : Nat) (q : W32) : Option Copy :=
  s.copies.find? (fun y => y.ctx == x && y.seq == q && y.origin == .responder)

/-- This end of a GET sends the pieces from an offset on; a source that is no longer delivered ends the copy, and its slot
says so (R362; log entry 12). -/
def State.getPieces (s : State) (x : Nat) (q : W32) (off : Nat) (retry : Bool) : State :=
  match s.served x q with
  | none => s
  | some y =>
    let r := s.pushPieces y true retry 0 y.len off
    if r.2 then r.1
    else (r.1.dropCopy y.id).setSlot x { seq := q, status := 0, data := copyState 0xFFFFFFFFFFFFFFFF 0, notApplied := false }

/-! ## Messages (R366 to R368) -/

/-- A receive is complete: its command replies (R367). -/
def State.recvDone (s : State) (rx : RxCopy) : State :=
  match rx.recv with
  | none => s
  | some (q, seq, _, mlen) =>
    if rx.len < mlen then s.finish q seq { status := Status.msgTruncated, r0 := rx.len }
    else s.finish q seq (.ok rx.len rx.tag.toNat)

/-- MSG executed (R367, R368): the oldest posted receive that matches takes it. A message is taken only when every lower
sequence number has been executed, so that messages match in order (R368; log entry 12). -/
def State.runMsg (s : State) (x : Nat) (p : Packet) : State × Option (Nat × List Byte) :=
  let c := s.ctx x
  let mlen := leAt p.payload 0 8
  if (p.seq - c.exec).toNat ≠ 1 then (s, none)
  else
    match c.recvs.find? (fun r => (p.arg ^^^ r.tag) &&& r.mask == 0) with
    | none => (s, none)
    | some r =>
      let lim := min mlen r.len
      let rx : RxCopy := { seq := p.seq, dst := r.dst, len := lim, next := 0,
                           tally := if tallyValid r.tally then r.tally else c.tally,
                           recv := some (r.q, r.seq, r.len, mlen), tag := p.arg, getId := none }
      let c1 : Ctx := { c with recvs := c.recvs.erase r }
      if lim = 0 then ((s.setCtx x c1).recvDone rx, some (Rs.ok, copyState 0 0))
      else (s.setCtx x (c1.setRx p.seq false (some rx)), some (Rs.ok, copyState 0 lim))

/-! ## Pieces (R362) -/

/-- The offset that ARG of the next piece of a landing copy must hold (R352; log entry 12). -/
def RxCopy.expects (r : RxCopy) : Nat := if r.recv.isSome || r.getId.isSome then r.next else r.dst + r.next

/-- A piece at the receiving end (R362): accepted only in turn, written, counted, and acknowledged. -/
def State.pieceIn (s : State) (x : Nat) (p : Packet) : State :=
  let get := tbit p.flags.toNat 4
  let c := s.ctx x
  match c.findRx p.seq get with
  | none => s
  | some r =>
    let n := pieceLen r.len r.next
    if ptrOff p.arg.toNat ≠ r.expects || p.payload.length ≠ n then s
    else
      let s := (s.storeOff (r.dst + r.next) p.payload).tallyHit c.tag c.epoch r.tally 1
      let r1 : RxCopy := { r with next := r.next + n }
      let full := r.len ≤ r1.next
      let s := s.setCtx x ((s.ctx x).setRx p.seq get (if full then none else some r1))
      let s := if get then s else s.setSlot x { seq := p.seq, status := 0, data := copyState r1.next r.len, notApplied := false }
      let s := s.sendOn x Op.pieceAck (if get then 16 else 0) p.seq r1.next []
      let s := match r.getId with
        | some i => s.updCopy i (fun y => { y with acked := r1.next, t0 := s.now, tries := 0 })
        | none => s
      if !full then s
      else
        match r.getId with
        | some i =>
          (match s.findCopy i with
          | some y => s.finishCopy y
          | none => s)
        | none => s.recvDone r1

/-- A PIECE_ACK (R362): at the sender of a put or message it is progress, and the last one ends the copy; at the sender of a
GET's pieces one that shows no progress asks for the pieces again (log entry 12). -/
def State.pieceAckIn (s : State) (x : Nat) (p : Packet) : State :=
  let a := p.arg.toNat
  if tbit p.flags.toNat 4 then
    match s.served x p.seq with
    | none => s
    | some y =>
      if y.len ≤ a then s.dropCopy y.id
      else if y.acked < a then s.updCopy y.id (fun y => { y with acked := a })
      else s.getPieces x p.seq y.acked true
  else
    match s.copies.find? (fun y => y.ctx == x && y.seq == p.seq && y.opened && y.origin != .responder) with
    | none => s
    | some y =>
      if y.acked < a && a ≤ y.limit then
        let y1 : Copy := { y with acked := a, t0 := s.now, tries := 0 }
        let s := s.updCopy y.id (fun _ => y1)
        if a = y.limit then s.finishCopy y1 else s
      else s

/-! ## QUERY and its answer (R357, R358) -/

/-- A QUERY at the responder (R357). -/
def State.queryIn (s : State) (n x : Nat) (p : Packet) : State :=
  let q : W32 := BitVec.ofNat 32 p.arg.toNat
  let answer (s : State) : State :=
    let r := (s.ctx x).slot q
    let data := if r.status = 0 then r.data else [r.status]
    if r.notApplied then s.sendOn x Op.queryReply 0 q q.toNat []
    else s.sendOn x Op.queryReply 0 q (2 ^ 32 + q.toNat) data
  match (s.ctx x).seqSt q with
  | .stale => s.lateOn x
  | .outside => s.anomaly n .malformed
  | .done => answer s
  | .fresh =>
    let s := s.setCtx x ((s.ctx x).markDone q)
    answer ((s.setSlot x { seq := q, status := 0, data := [], notApplied := true }).bump.put (slotAddr x q)
      (leBytes 16 (Config.free s.free)))

/-- A REPLY at the requester (R354, R358): one for a request already answered is late. -/
def State.replyIn (s : State) (x : Nat) (p : Packet) : State :=
  match (s.ctx x).reqs.find? (fun r => r.seq == p.seq && !r.answered) with
  | some r => s.replyTo x r (fld p.arg 7 0) p.payload
  | none => s.lateOn x

/-- A QUERY_REPLY at the requester (R357, R358). -/
def State.queryReplyIn (s : State) (x : Nat) (p : Packet) : State :=
  let q : W32 := BitVec.ofNat 32 p.arg.toNat
  match (s.ctx x).reqs.find? (fun r => r.seq == q && r.unresolved) with
  | some r => s.resolve x r (tbit p.arg.toNat 32) p.payload
  | none =>
    match (s.ctx x).reqs.find? (fun r => r.seq == q && !r.answered) with
    | some r => s.resolve x r (tbit p.arg.toNat 32) p.payload
    | none => s.lateOn x

/-! ## Binding (R350) -/

/-- BIND sent for an entry (R350, R352). -/
def State.sendBind (s : State) (x : Nat) : State :=
  let c := s.ctx x
  (s.setCtx x { c with bindLast := s.now }).sendOn x Op.bind 0 0 c.key.toNat (leBytes 4 x)

/-- A BIND that arrives (R350): the BINDING entry of the same job, key and peer becomes OPEN; an entry already OPEN with the
sender answers it, since its own BIND may have been lost (log entry 12). -/
def State.bindIn (s : State) (p : Packet) : State :=
  let peer := leAt p.payload 0 4 % 2 ^ 20
  let same (c : Ctx) : Bool :=
    c.tag == p.tag && c.epoch == p.epoch && c.key.toNat == p.arg.toNat && c.peerNode.toNat == p.srcNode.toNat &&
    c.peerSpan == p.srcSpan
  match s.ctxs.find? (fun e => e.2.st == .binding && same e.2) with
  | some (x, c) =>
    let s := s.setCtx x { c with st := .open, peerCtx := BitVec.ofNat 20 peer, cmd := none }
    (match c.cmd with
    | some (q, seq) => s.finish q seq (.ok x peer)
    | none => s)
  | none =>
    match s.ctxs.find? (fun e => (e.2.st == .open || e.2.st == .resolve) && same e.2 && e.2.peerCtx.toNat == peer) with
    | some (x, c) =>
      if s.now < c.bindStart + 1000000000 && c.bindLast + 10000000 ≤ s.now then s.sendBind x else s
    | none => s

/-! ## RED_PIECE (R365) -/

/-- A piece of a child node's result (R365): pieces come in ascending order, and LAST ends the result. Tokens, which are
RED_PIECE packets of an id from 0xFF00 on, are their own commands (R375; log entry 12). -/
def State.redPieceIn (s : State) (p : Packet) : State :=
  let id : W16 := BitVec.ofNat 16 (fld p.arg 63 48)
  match s.findJob p.tag p.epoch with
  | none => s
  | some (j, b) =>
    let child := p.srcNode.toNat
    let ours := match b.tree with
      | some t => t.children.contains child
      | none => false
    if 0xFF00 ≤ id.toNat || !ours then s
    else
      let mine (e : RedIn) : Bool := e.job == j && e.id == id && e.node == child
      let e : RedIn := (s.redIn.find? mine).getD { job := j, id := id, node := child, bytes := [], full := false }
      if e.full || fld p.arg 31 0 ≠ e.bytes.length then s
      else
        let e1 : RedIn := { e with bytes := e.bytes ++ p.payload, full := tbit p.flags.toNat 5 }
        { s with redIn := s.redIn.filter (fun e => !mine e) ++ [e1] }

/-! ## Meanings: packets -/

/-- BIND (R350). -/
def execBindPacket (n : LinkId) (p : Packet) (s : State) : Out1 := .next (s.onPacket n p (fun s => s.bindIn p))

/-- LOAD (R355). -/
def execLoadPacket (n : LinkId) (p : Packet) (s : State) : Out1 :=
  .next (s.onCtx n p false (fun x s => s.respond n x p (fun s => s.runLoad p)))

/-- STORE (R355). -/
def execStorePacket (n : LinkId) (p : Packet) (s : State) : Out1 :=
  .next (s.onCtx n p false (fun x s => s.respond n x p (fun s => s.runStore p)))

/-- ATOMIC (R359). -/
def execAtomicPacket (n : LinkId) (p : Packet) (s : State) : Out1 :=
  .next (s.onCtx n p false (fun x s => s.respond n x p (fun s => s.runAtomic p)))

/-- SIGNAL (R98). -/
def execSignalPacket (n : LinkId) (p : Packet) (s : State) : Out1 :=
  .next (s.onCtx n p false (fun x s => s.respond n x p (fun s => s.runSignal p)))

/-- COPY_OPEN (R362). -/
def execCopyOpen (n : LinkId) (p : Packet) (s : State) : Out1 :=
  .next (s.onCtx n p false (fun x s =>
    if tbit p.flags.toNat 4 then
      let fresh := (s.ctx x).seqSt p.seq == .fresh
      let s := s.respond n x p (fun s => s.runGet x p)
      if fresh then s.getPieces x p.seq 0 false else s
    else s.respond n x p (fun s => s.runPut x p)))

/-- MSG (R367). -/
def execMsgPacket (n : LinkId) (p : Packet) (s : State) : Out1 :=
  .next (s.onCtx n p false (fun x s => s.respond n x p (fun s => s.runMsg x p)))

/-- RED_PIECE (R365). -/
def execRedPiece (n : LinkId) (p : Packet) (s : State) : Out1 := .next (s.onCtx n p false (fun _ s => s.redPieceIn p))

/-- QUERY (R357). -/
def execQueryPacket (n : LinkId) (p : Packet) (s : State) : Out1 := .next (s.onCtx n p false (fun x s => s.queryIn n x p))

/-! ## Meanings: timers (R56) -/

/-- BIND_REPEAT (R350): every 10 ms. -/
def execBindRepeat (x : CtxId) (s : State) : Out1 :=
  .next (
    let c := s.ctx x
    if c.st = .binding ∧ c.bindLast + 10000000 ≤ s.now then s.sendBind x else s)

/-- BIND_TIMEOUT (R350): no peer entry has matched within 1 s. -/
def execBindTimeout (x : CtxId) (s : State) : Out1 :=
  .next (
    let c := s.ctx x
    if c.st = .binding ∧ c.bindStart + 1000000000 ≤ s.now then
      let s := s.closeCtx x
      match c.cmd with
      | some (q, seq) => s.finish q seq (.st Status.ctxBindTimeout)
      | none => s
    else s)

/-- REQUEST_TIMEOUT (R356, R362). -/
def execRequestTimeout (x : CtxId) (seq : W32) (s : State) : Out1 :=
  .next (
    let c := s.ctx x
    match c.reqs.find? (fun r => r.seq == seq && !r.unresolved) with
    | none => s
    | some r =>
      if !r.answered then
        if r.rnr.isNone && r.t0 + c.timeoutNs ≤ s.now then s.expireReq x r else s
      else
        match s.copies.find? (fun y => y.ctx == x.val && y.seq == seq && y.opened && y.origin != .responder) with
        | some y => if y.t0 + c.timeoutNs ≤ s.now then s.expireCopy x r y else s
        | none => s)

/-- QUERY_TIMER (R356): one QUERY for each unresolved request every TIMEOUT_US. -/
def execQueryTimer (x : CtxId) (s : State) : Out1 :=
  .next (
    let c := s.ctx x
    if c.st = .resolve ∧ c.queryLast + c.timeoutNs ≤ s.now then
      let s := s.setCtx x { c with queryLast := s.now }
      (c.reqs.filter (fun r => r.unresolved)).foldl (fun s r => s.sendOn x Op.query 0 r.seq r.seq.toNat []) s
    else s)

/-- RNR_RESEND (R368): after TIMEOUT_US / 16 the request is sent again, uncounted. -/
def execRnrResend (x : CtxId) (seq : W32) (s : State) : Out1 :=
  .next (
    let c := s.ctx x
    match c.reqs.find? (fun r => r.seq == seq && !r.unresolved && !r.answered) with
    | none => s
    | some r =>
      match r.rnr with
      | none => s
      | some t =>
        if t + c.timeoutNs / 16 ≤ s.now then
          (s.updReq x seq (fun r => { r with rnr := none, t0 := s.now })).transmit r.pkt
        else s)

/-- CONFLUENCE_DELIVERY (R279). -/
def execConfluenceDelivery (j : JobSlotId) (red : W16) (level child : Nat) (s : State) : Out1 :=
  .next (s.deliver j red level child)

end Sys2Proof.Machine
end

