-- ==== Sys2Proof/Machine/Power.lean ====
section
/-! DEFINITION. Clockless timing, operating points and ageing (R57 to R72): the loops of the voltage regions, the operating
points, power and thermal limits, tell-tales, re-planning, weak marking and the ageing ledger. -/

namespace Sys2Proof.Machine

/-! ## Regions (R57 to R59) -/

/-- A region of a C-die (R57). -/
def isCdie (r : Nat) : Bool := r < 64
/-- A cluster region (R57). -/
def isClusterRegion (r : Nat) : Bool := r < 64 && r % 16 < 14
/-- The physical clusters of a tell-tale group of a cluster region (R57). -/
def groupClusters (r t : Nat) : List Nat := upFrom (168 * (r / 16) + 12 * (r % 16) + 3 * t) 3
/-- The physical clusters of a cluster region (R57). -/
def regionClusters (r : Nat) : List Nat := upFrom (168 * (r / 16) + 12 * (r % 16)) 12

/-- The setpoint a point gives a region (R59): points 0 economy, 1 nominal, 2 peak. -/
def pointSet (r p : Nat) : Nat :=
  if r < 64 then (if p = 0 then 850 else if p = 1 then 1200 else 1450)
  else if r < 76 then 720
  else if p = 0 then 700 else if p = 1 then 750 else 800

/-- The minimum rate of a region's class (R59). -/
def minRate (r : Nat) : Nat := if r < 64 then 1140 else if r = 69 || r = 75 then 500 else 1000

/-- CEILING_MV of a region. -/
def State.ceiling (s : State) (r : Nat) : Nat := s.getF .telRgSet [r] 47 36
/-- The region runs the rate loop. -/
def State.rateLoop (s : State) (r : Nat) : Bool := s.getF .telRgSet [r] 0 0 = 0
/-- The setpoint of a region in force: SET_RATE or SET_MV. -/
def State.setpoint (s : State) (r : Nat) : Nat :=
  if isCdie r then s.getF .telRgSet [r] 23 12 else s.getF .telRgSet [r] 35 24
/-- VOLT_MV of a region. -/
def State.volt (s : State) (r : Nat) : Nat := s.getF .telRgStatus [r] 47 36
/-- RATE of a region. -/
def State.rate (s : State) (r : Nat) : Nat := s.getF .telRgStatus [r] 23 12
/-- AT_CEILING of a region. -/
def State.atCeiling (s : State) (r : Nat) : Bool := s.getF .telRgStatus [r] 1 1 = 1
/-- TEMP of a region, signed, in units of 0.125 °C. -/
def State.temp (s : State) (r : Nat) : Int := sext 11 (s.getF .telRgStatus [r] 58 48)

/-- AT_CEILING and BELOW_SET follow the supply and the rate; BELOW_SET of a region in the voltage loop reads 0 (R72; log
entry 15). -/
def State.statusBits (s : State) (r : Nat) : State :=
  let s := s.setF .telRgStatus [r] 1 1 (b2n (decide (s.ceiling r ≤ s.volt r)))
  s.setF .telRgStatus [r] 0 0 (b2n (s.rateLoop r && decide (s.rate r < s.getF .telRgSet [r] 23 12)))

/-- The setpoint of a region brought in force: the lowest of what the point, the power limit and the thermal policy give; the
voltage loop holds it (R58, R60 to R62). -/
def State.applySet (s : State) (r : Nat) : State :=
  let g := s.region r
  let low (x : Nat) (o : Option Nat) : Nat := match o with
    | some y => min x y
    | none => x
  if isCdie r then
    (s.setF .telRgSet [r] 23 12 (low (low g.point g.power) g.thermal)).statusBits r
  else
    let v := low (min (g.point + g.bump) (s.ceiling r)) g.thermal
    ((s.setF .telRgSet [r] 35 24 v).setF .telRgStatus [r] 47 36 v).statusBits r

/-- The largest logic delay that the delay controller of a region sees (R63, R67). -/
def State.logicDelay (s : State) (r : Nat) : Nat :=
  ((List.range 4).filter (fun t => !(s.region r).ignored.contains t)).foldl
    (fun a t => max a (s.getF .telRgTelltale [r] (8 * t + 7) (8 * t))) 0

/-- The margin of a region: taps less the largest logic delay (R63). -/
def State.margin (s : State) (r : Nat) : Int := (s.getF .telRgTaps [r] 7 0 : Int) - s.logicDelay r

/-! ## The ageing ledger (R70) -/

/-- A region's record in a ledger entry (R70). -/
def State.ledgerRecord (s : State) (r : Nat) : Word :=
  let v := if isCdie r then (s.region r).vhold else s.getF .telRgSet [r] 35 24
  BitVec.ofNat 64 (toBits 11 (s.region r).maxTemp * 2 ^ 28 + s.logicDelay r * 2 ^ 20 +
    s.getF .telRgTaps [r] 7 0 * 2 ^ 12 + v)

/-- Bytes 0 to 687 of an entry (R70). -/
def LedgerEntry.body (e : LedgerEntry) : List Byte :=
  leBytes 4 e.seq.toNat ++ leBytes 4 e.hours.toNat ++ leBytes 4 e.mapVersion.toNat ++ leBytes 4 e.cause.toNat ++
  e.records.flatMap (fun w => leBytes 8 w.toNat)

/-- The 720 bytes of an entry (R70). -/
def LedgerEntry.bytes (e : LedgerEntry) : List Byte :=
  e.body ++ leBytes 32 (Config.hmac "LEDGER" e.body).toNat

/-- Entries that the rings of both flashes hold beside the first entry: 1 MiB each, 720 bytes an entry (R70). -/
def ledgerRoom : Nat := 2 * (2 ^ 20 / 720 - 1)

/-- A nanosecond hour. -/
def hourNs : Nat := 3600000000000

/-- Granite writes a ledger entry (R70): causes 1 periodic, 2 weak or disable, 3 power-down. -/
def State.ledgerWrite (s : State) (cause : Nat) : State :=
  let hours := s.getF .telLedger [] 31 0 + (s.now - s.ledgerAt) / hourNs
  let seq := s.getF .telLedger [] 63 32 + 1
  let e : LedgerEntry := { seq := BitVec.ofNat 32 seq, hours := BitVec.ofNat 32 hours, mapVersion := s.flash.map.version,
                           cause := BitVec.ofNat 32 cause, records := (List.range 84).map s.ledgerRecord }
  let s := { s with
    ledgerAt := s.ledgerAt + (s.now - s.ledgerAt) / hourNs * hourNs
    flash := if s.flash.ledgerFirst.isNone then { s.flash with ledgerFirst := some e }
             else { s.flash with ledger := (e :: s.flash.ledger).take ledgerRoom } }
  let s := s.setReg .telLedger [] (BitVec.ofNat 64 (seq * 2 ^ 32 + hours % 2 ^ 32))
  (List.range 84).foldl (fun s r => s.setRegion r { s.region r with maxTemp := s.temp r }) s

/-- The entries of the ledger, newest first. -/
def State.ledgerEntries (s : State) : List LedgerEntry := s.flash.ledger ++ s.flash.ledgerFirst.toList

/-- LEDGER_PERIODIC_WRITE (R70): `ok` is false where the write of the flash fails. -/
def execLedgerPeriodicWrite (ok : Bool) (s : State) : Out1 :=
  .next (if ok then s.ledgerWrite 1 else s.raise .telLedgerFail)

/-- LEDGER_READ's field check (R92): 1 to 256 entries. -/
def ledgerReadParam (p : List Nat) : Nat :=
  if nth 0 p 1 = 0 || 256 < nth 0 p 1 then Status.badParam else 0

/-- LEDGER_READ (R92): the newest entries at dst. -/
def execLedgerRead (q : QueueId) (seq : BitVec 32) (s : State) : Out1 :=
  .next (s.runCmd 0x0902 q.val seq (fun s c =>
    let es := s.ledgerEntries.take (c.arg 1)
    let bs := es.flatMap LedgerEntry.bytes
    if s.cmdBad c (c.arg 0) (720 * c.arg 1) false true then
      s.finishCmd c { status := Status.addrError, r0 := ptrOff (c.arg 0) }
    else (s.storeOff (ptrOff (c.arg 0)) bs).finishCmd c (.ok es.length)))

/-! ## The loops (R58) -/

/-- The supply at which the region last held 1,200 M/s with the guard, or 900 mV (R70), after a rate window; kept while
the economy point is in force. -/
def State.noteHold (s : State) (r : Nat) : State :=
  if s.point = 0 then s
  else if 1200 ≤ s.rate r && (s.getF .telRgTaps [r] 23 16 : Int) ≤ s.margin r then
    s.setRegion r { s.region r with vhold := s.volt r }
  else if s.atCeiling r && s.rate r < 1200 then s.setRegion r { s.region r with vhold := 900 }
  else s

/-- RATE_WINDOW_END (R58): a window of 1 µs ends with a measured rate. -/
def execRateWindowEnd (r : RegionId) (rate : BitVec 12) (s : State) : Out1 :=
  .next (
    let n := rate.toNat
    let s := s.setF .telRgStatus [r.val] 23 12 n
    if s.rateLoop r then
      let want := s.getF .telRgSet [r.val] 23 12
      let v := s.volt r
      let v1 := if n < want then min (v + 5) (s.ceiling r) else if want < n then max (v - 5) 600 else v
      ((s.setF .telRgStatus [r.val] 47 36 (max 600 v1)).statusBits r).noteHold r
    else s.statusBits r)

/-! ## Tell-tales (R64, R67, R69) -/

/-- TELLTALE_REPORT (R64): `tapChange` marks a tap change in the same handshake, which discards the report (R69). -/
def execTelltaleReport (r : RegionId) (t : Fin 4) (delay : BitVec 8) (tapChange : Bool) (s : State) : Out1 :=
  .next (
    if tapChange then s
    else
      let s := s.setF .telRgTelltale [r.val] (8 * t.val + 7) (8 * t.val) delay.toNat
      if (s.region r).ignored.contains t.val then s
      else
        let m := s.margin r
        let taps := s.getF .telRgTaps [r.val] 7 0
        if m < s.getF .telRgTaps [r.val] 15 8 then
          let s := (s.setF .telRgTaps [r.val] 7 0 (min 255 (taps + 4))).raise .telFloor
          let g := s.region r
          if g.weak && s.atCeiling r then s.setRegion r { g with pendingDisable := sinsert g.pendingDisable t.val } else s
        else if m < s.getF .telRgTaps [r.val] 23 16 then s.setF .telRgTaps [r.val] 7 0 (min 255 (taps + 1))
        else s)

/-! ## Re-planning (R65 to R68, R323) -/

/-- Step 1 of a re-plan: a voltage-loop region below its minimum rate has its setpoint raised by 10 mV, up to the ceiling
(R65). -/
def State.raiseVoltage (s : State) (r : Nat) : State :=
  let g := s.region r
  (s.setRegion r { g with bump := min (g.bump + 10) (s.ceiling r - g.point) }).applySet r

/-- Step 2: taps at the largest logic delay plus the guard (R65). -/
def State.replanTaps (s : State) (r : Nat) : State :=
  s.setF .telRgTaps [r] 7 0 (min 255 (s.logicDelay r + s.getF .telRgTaps [r] 23 16))

/-- A cluster region is marked weak: its 12 clusters in one map change, WEAK and a ledger entry (R19, R66, R70). -/
def State.markWeak (s : State) (r : Nat) : State :=
  let s := s.setRegion r { s.region r with weak := true }
  ((s.changeMap (fun m => (regionClusters r).foldl UnitMap.weaken m)).raise .telWeak).ledgerWrite 2

/-- Step 3: successive re-plans at the ceiling below the minimum rate are counted, and a cluster region is marked weak
after three (R66); not evaluated at the economy point. -/
def State.replanWeak (s : State) (r : Nat) : State :=
  if s.point = 0 then s
  else
    let low := s.atCeiling r && decide (s.rate r < minRate r)
    let n := if low then min 255 (s.getF .telRgMargin [r] 23 16 + 1) else 0
    let s := s.setF .telRgMargin [r] 23 16 n
    if isClusterRegion r && 3 ≤ n && !(s.region r).weak then s.markWeak r else s

/-- A weak region below 810 M/s at its ceiling for three successive re-plans: pending disables of its four groups (R67). -/
def State.replanDisable (s : State) (r : Nat) : State :=
  let g := s.region r
  let n := if s.atCeiling r && s.rate r < 810 then min 255 (g.below810 + 1) else 0
  s.setRegion r { g with below810 := n, pendingDisable :=
    if g.weak && 3 ≤ n then [0, 1, 2, 3].filter (fun t => !g.ignored.contains t) else g.pendingDisable }

/-- CEILING and the estimated remaining margin of a region (R65, R68, R70). -/
def State.replanMargin (s : State) (r : Nat) : State :=
  let below := s.atCeiling r && decide (s.rate r < minRate r) && !isClusterRegion r
  let s := if below || (s.atCeiling r && s.getF .telRgStatus [r] 0 0 = 1) then s.raise .telCeiling else s
  let v := if isCdie r then (s.region r).vhold else s.getF .telRgSet [r] 35 24
  let remain := if below then 0 else s.ceiling r - v
  if isCdie r && s.point = 0 && !below then s else s.setF .telRgMargin [r] 11 0 remain

/-- One region's re-plan (R65). -/
def State.replanRegion (s : State) (r : Nat) : State :=
  let s := if !s.rateLoop r && s.rate r < minRate r then s.raiseVoltage r else s
  (((s.replanTaps r).replanWeak r).replanDisable r).replanMargin r

/-- The region that supplies a link's receivers (R57). -/
def linkRegion (n : Nat) : Nat := 64 + 6 * (n / 24) + n % 24 / 12

/-- The eye check of one lane at a re-plan (R323): its receiver's margins are a measurement, a free value (log entry 3). -/
def State.replanEye (s : State) (n lane : Nat) : State :=
  let l := s.link n
  if !l.up || !tbit l.lanes.toNat lane then s
  else
    let m := Config.free s.free % 2 ^ 16
    let s := (s.bump.setF .axlEye [n, lane] 15 8 (m % 256)).setF .axlEye [n, lane] 31 24 (m / 256)
    if m % 256 < s.getF .axlEye [n, lane] 7 0 then
      let k := nth 0 l.eyeBelow lane + 1
      let s := (s.setLink n { l with eyeBelow := setNth l.eyeBelow lane (if k < 3 then k else 0) }).raise .axlEyeLow [n]
      let s := s.raiseVoltage (linkRegion n)
      if k < 3 then s
      else
        let s := s.dropLane n lane
        let s := s.changeMap (fun m => { m with lanes := sinsert m.lanes (2 * n + lane) })
        s.mapLinks n
    else s.setLink n { l with eyeBelow := setNth l.eyeBelow lane 0 }

/-- GRANITE_REPLAN (R65, R323). -/
def execGraniteReplan (s : State) : Out1 :=
  .next (
    let s := (List.range 84).foldl State.replanRegion s
    (List.range 48).foldl (fun s n => (s.replanEye n 0).replanEye n 1) s)

/-! ## Operating points (R60) -/

/-- TEL.OP_STATE as it reads (R72). -/
def State.opState (s : State) : Nat :=
  let rs := List.range 84
  let limited := (rs.filter (fun r => s.setpoint r < pointSet r s.point)).length
  limited * 2 ^ 16 + b2n s.request.isSome * 128 +
  b2n (rs.any (fun r => s.atCeiling r && s.getF .telRgStatus [r] 0 0 = 1)) * 64 +
  b2n (rs.any (fun r => (s.region r).power.isSome)) * 32 + b2n (rs.any (fun r => (s.region r).thermal.isSome)) * 16 +
  s.point

/-- THERM_ALERT_N is low while BY_THERMAL or HOLD is 1 (R477). -/
def State.thermAlertLow (s : State) : Bool :=
  (List.range 84).any (fun r => (s.region r).thermal.isSome) || !s.hold.isEmpty

/-- A write to TEL.OP_REQUEST (R60): 0b11 leaves the field unchanged; another value is requested, in place of one that still
waits. -/
def State.opRequest (s : State) (p : Nat) : State :=
  if p = 3 then s else { s.setReg .telOpRequest [] (BitVec.ofNat 64 p) with request := some p }

/-- OP_POINT (R92): the effect of a write to TEL.OP_REQUEST. -/
def execOpPoint (q : QueueId) (seq : BitVec 32) (s : State) : Out1 :=
  .next (s.runCmd 0x0A04 q.val seq (fun s c =>
    let s := s.opRequest (c.arg 0 % 4)
    s.finishCmd c (.ok s.opState)))

/-- A region takes a point: a lower value, and any voltage, at once; a higher rate by steps (R60). -/
def State.takePoint (s : State) (p r : Nat) : State :=
  let g := s.region r
  let want := pointSet r p
  if isCdie r && g.point < want then s else (s.setRegion r { g with point := want }).applySet r

/-- A change of point is finished once every region has its setpoint (R60). -/
def State.pointDone (s : State) (p : Nat) : State :=
  if (List.range 84).all (fun r => (s.region r).point = pointSet r p) then { s with change := none } else s

/-- OP_POINT_APPLY (R60): the request is applied once no change is in progress. -/
def execOpPointApply (s : State) : Out1 :=
  .next (
    match s.request, s.change with
    | some p, none =>
      let s := (List.range 84).foldl (fun s r => s.takePoint p r) { s with point := p, request := none, change := some p }
      s.pointDone p
    | _, _ => s)

/-- OP_RAISE_STEP (R60): rate setpoints 50 M/s up. -/
def execOpRaiseStep (s : State) : Out1 :=
  .next (
    match s.change with
    | none => s
    | some p =>
      let s := (List.range 64).foldl (fun s r =>
        let g := s.region r
        (s.setRegion r { g with point := min (g.point + 50) (pointSet r p) }).applySet r) s
      s.pointDone p)

/-! ## The power limit (R61) -/

/-- EFFECTIVE_W of GRN.POWER_LIMIT. -/
def State.powerLimit (s : State) : Nat := s.getF .grnPowerLimit [] 28 16

/-- POWER_LIMIT_LOWER (R61): a millisecond in which package power exceeds the limit. -/
def execPowerLimitLower (watts : Nat) (s : State) : Out1 :=
  .next (
    if watts ≤ s.powerLimit then s
    else
      let s1 := (List.range 64).foldl (fun s r =>
        let v := s.setpoint r
        if v ≤ 850 then s
        else (s.setRegion r { s.region r with power := some (max 850 (v - 50)) }).applySet r) s
      if (List.range 64).any (fun r => 850 < s.setpoint r) then s1.raise .telThrottle else s1)

/-- POWER_LIMIT_RAISE (R61): 10 ms in which power lies below 97% of the limit. -/
def execPowerLimitRaise (watts : Nat) (s : State) : Out1 :=
  .next (
    if 97 * s.powerLimit ≤ 100 * watts then s
    else
      (List.range 64).foldl (fun s r =>
        let g := s.region r
        match g.power with
        | none => s
        | some v => (s.setRegion r { g with power := if g.point ≤ v + 50 then none else some (v + 50) }).applySet r) s)

/-! ## Thermal policy (R62) -/

/-- A region's sensor reading (R57, R70). -/
def State.setTemp (s : State) (r : Nat) (t : BitVec 11) : State :=
  let s := s.setF .telRgStatus [r] 58 48 t.toNat
  s.setRegion r { s.region r with maxTemp := max (s.region r).maxTemp t.toInt }

/-- The step of a region's thermal lowering (R62). -/
def thermalStep (r : Nat) : Nat := if isCdie r then 50 else 10

/-- THERMAL_LOWER (R62): above 95 °C. -/
def execThermalLower (r : RegionId) (temp : BitVec 11) (s : State) : Out1 :=
  .next (
    let s := s.setTemp r temp
    let low := pointSet r 0
    let v := s.setpoint r
    if temp.toInt ≤ 760 || v ≤ low then s
    else
      ((s.setRegion r { s.region r with thermal := some (max low (v - thermalStep r)) }).applySet r).raise .telThrottle)

/-- THERMAL_RAISE (R62): below 92 °C after lowering. -/
def execThermalRaise (r : RegionId) (temp : BitVec 11) (s : State) : Out1 :=
  .next (
    let s := s.setTemp r temp
    let g := s.region r
    match g.thermal with
    | none => s
    | some v =>
      if 736 ≤ temp.toInt then s
      else
        let v1 := v + thermalStep r
        (s.setRegion r { g with thermal := if g.point + g.bump ≤ v1 then none else some v1 }).applySet r)

/-- The regions of the scope of a hold that a region began: its C-die's, or every C-die's and its own (R62). -/
def holdScope (r : Nat) : List Nat := if isCdie r then upFrom (16 * (r / 16)) 16 else List.range 64 ++ [r]

/-- THERMAL_HOLD (R62): at or above 105 °C. -/
def execThermalHold (r : RegionId) (temp : BitVec 11) (s : State) : Out1 :=
  .next (
    let s := s.setTemp r temp
    if temp.toInt < 840 || s.hold.any (fun h => h.1 == r.val) then s
    else
      let s := { s with hold := s.hold ++ [(r.val, s.now)] }.raise .telHold
      if isCdie r then s else (s.setRegion r { s.region r with thermal := some (pointSet r 0) }).applySet r)

/-- THERMAL_HOLD_LIFT (R62): a hold lifts when every region of its scope is below 100 °C. -/
def execThermalHoldLift (r : RegionId) (temp : BitVec 11) (s : State) : Out1 :=
  .next (
    let s := s.setTemp r temp
    { s with hold := s.hold.filter (fun h => (holdScope h.1).any (fun x => decide (800 ≤ s.temp x))) })

/-- THERMAL_SHUTDOWN (R62): a region at or above 110 °C, or a hold that has lasted 1 s; the power tiles shut down and the
node is lost (R412). -/
def execThermalShutdown (r : RegionId) (temp : BitVec 11) (s : State) : Out1 :=
  .next (
    let s := s.setTemp r temp
    if 880 ≤ temp.toInt || s.hold.any (fun h => decide (h.2 + 1000000000 ≤ s.now)) then
      ((s.nodeLoss.emit .thermTrip).powerOff).nodeLoss
    else s)

/-- Schedulers of a physical cluster issue nothing because of a thermal hold (R62). -/
def State.heldCluster (s : State) (p : Nat) : Bool := s.hold.any (fun h => !isCdie h.1 || h.1 / 16 == p / 168)

/-- Pending disables applied to the map before the placement loop reads it (R67): a group's three clusters disabled, its
tell-tale ignored from then on, WEAK and a ledger entry for each. -/
def State.applyDisables (s : State) : State :=
  (List.range 64).foldl (fun s r =>
    (s.region r).pendingDisable.foldl (fun s t =>
      let g := s.region r
      let s := s.setRegion r { g with pendingDisable := g.pendingDisable.erase t, ignored := sinsert g.ignored t }
      ((s.changeMap (fun m => (groupClusters r t).foldl UnitMap.disableCluster m)).raise .telWeak).ledgerWrite 2) s) s

end Sys2Proof.Machine
end

