-- ==== Sys2Proof/Machine/Tracking.lean ====
section
/-! DEFINITION. Scale tracking (R217 to R235): the exponent of a channel, the update at a fence, and the QNT commands. -/

namespace Sys2Proof.Machine

namespace Status
def qntNoTrack : Nat := 0x0440
def qntInUse : Nat := 0x0441
def qntNoChannels : Nat := 0x0442
def qntBusy : Nat := 0x0443
def qntSpanLimit : Nat := 0x0444
def qntBadRecord : Nat := 0x0445
end Status

/-! ## The exponent of a channel (R223) -/

/-- The largest finite value of a tracked format (R169, R172, R223). -/
def maxCodeVal (fmt : Nat) : FVal :=
  let f := fwFmt fmt
  if fmtInt f then .fin false (intRange f).2.natAbs (if fwBlock fmt = 0 then 0 else -6)
  else decodeElem f false (fmtMax f)

/-- The largest e with m × 2^(x + e) at most n × 2^y, for m and n above 0. -/
def fitExp (m : Nat) (x : Int) (n : Nat) (y : Int) : Int :=
  let a : Int := (log2 n : Int) - (log2 m : Int)
  let fits := if 0 ≤ a then m * 2 ^ a.toNat ≤ n else m ≤ n * 2 ^ (-a).toNat
  (if fits then a else a - 1) + y - x

/-- The greatest of FP32 codes that are not negative. -/
def maxW32 (xs : List W32) : W32 := xs.foldl (fun a x => if a.toNat < x.toNat then x else a) 0

/-- set_exponent of R223: the channel, and whether CLAMP is set. -/
def Tracked.setExponent (t : Tracked) (ch : Channel) : Channel × Bool :=
  if ch.h.isEmpty then ({ ch with e := t.initExp, status := .new }, false)
  else
    match f32Fmt.decode (maxW32 ch.h).toNat, maxCodeVal t.fmt.toNat with
    | .fin _ m x, .fin _ n y =>
      if m = 0 then ({ ch with e := 0, status := .flat }, false)
      else
        let e := fitExp m x n y - t.margin
        if e < -127 || 127 < e then ({ ch with e := clampInt (-127) 127 e, status := .clamped }, true)
        else ({ ch with e := e, status := .normal }, false)
    | _, _ => ({ ch with e := -127, status := .clamped }, true)

/-- CLAMP for each exponent that was clamped (R223, R235). -/
def State.clamps (s : State) (cs : List (Channel × Bool)) : State :=
  cs.foldl (fun s c => if c.2 then s.raise .qntClamp else s) s

/-! ## The fence update (R223, R224) -/

/-- A channel's history moves on by one step, before its exponent is set (R223). -/
def Channel.shift (ch : Channel) (len : Nat) : Channel := { ch with h := (ch.amaxCur :: ch.h).take len, amaxCur := 0 }

/-- The exact error sum rounded once to FP32 (R223, R225). -/
def Tracked.sqerr (t : Tracked) : W32 :=
  if t.errInf then BitVec.ofNat 32 (f32Fmt.infCode false)
  else BitVec.ofNat 32 (f32Fmt.roundInt 0 false t.errSum (-149)).1

/-- The fence update of one tracked tensor (R223); one that was not touched keeps its state. -/
def State.fenceUpdate (s : State) (track : Nat) : State :=
  match mfind s.tracked track with
  | none => s
  | some t =>
    if !t.touched then s
    else
      let cs := t.channels.map (fun ch => t.setExponent (ch.shift t.len))
      let t1 : Tracked := { t with
        channels := cs.map (·.1), touched := false, errSum := 0, errInf := false, errCount := 0, sqerrLast := t.sqerr,
        countLast := BitVec.ofNat 64 t.errCount, fences := t.fences + 1 }
      ({ s with tracked := minsert s.tracked track t1 }).clamps cs

/-- The tracked tensors of a job in a scope. -/
def State.tracksOf (s : State) (j : Nat) (span : Bool) : List Nat :=
  mkeys (s.tracked.filter (fun e => e.2.job == j && e.2.span == span))

/-- The fence update of a job's node-scope tensors, when a fence of the job completes (R223). -/
def State.fenceTracked (s : State) (j : Nat) : State := (s.tracksOf j false).foldl State.fenceUpdate s

/-! ## Span scope (R224) -/

/-- This node's FENCE record of a Span-scope tensor (R224, R375). -/
def Tracked.fenceRec (t : Tracked) (track : Nat) : FenceRec :=
  { track := track, touched := t.touched, errSum := t.errSum, errInf := t.errInf, errCount := t.errCount,
    amax := t.channels.map (·.amaxCur) }

/-- The FENCE records of a job's Span-scope tensors (R224, R375). -/
def State.fenceRecs (s : State) (j : Nat) : List FenceRec :=
  (s.tracked.filter (fun e => e.2.job == j && e.2.span)).map (fun e => e.2.fenceRec e.1)

/-- Records of two nodes combined: maxima, OR, exact sums (R224). -/
def joinRec (a b : FenceRec) : FenceRec :=
  { a with
    touched := a.touched || b.touched, errSum := a.errSum + b.errSum, errInf := a.errInf || b.errInf,
    errCount := a.errCount + b.errCount
    amax := a.amax.mapIdx (fun i x => maxW32 [x, nth 0 b.amax i]) }

/-- Lists of records combined by tensor; one that only the second list has is taken as it is. -/
def joinFence (xs ys : List FenceRec) : List FenceRec :=
  xs.map (fun a => match ys.find? (fun b => b.track == a.track) with
    | some b => joinRec a b
    | none => a) ++
  ys.filter (fun b => !(xs.any (fun a => a.track == b.track)))

/-- A Span-scope tensor takes the combined values and is updated from them (R224). -/
def State.spanUpdate (s : State) (j : Nat) (r : FenceRec) : State :=
  match mfind s.tracked r.track with
  | none => s
  | some t =>
    if t.job != j || !t.span || !r.touched then s
    else
      let t1 : Tracked := { t with
        touched := true, errSum := r.errSum, errInf := r.errInf, errCount := r.errCount
        channels := t.channels.mapIdx (fun i (ch : Channel) => { ch with amaxCur := nth ch.amaxCur r.amax i }) }
      ({ s with tracked := minsert s.tracked r.track t1 }).fenceUpdate r.track

/-! ## Channel records (R230) -/

/-- STATUS of a channel (R219). -/
def ChStatus.code : ChStatus → Nat
  | .new => 0 | .normal => 1 | .flat => 2 | .clamped => 3

/-- The 80 bytes of a channel's record (R230). -/
def Channel.bytes (ch : Channel) : List Byte :=
  (List.range 16).flatMap (fun i => leBytes 4 (nth 0 ch.h i).toNat) ++ leBytes 4 ch.amaxCur.toNat ++
  leBytes 1 (toBits 8 ch.e) ++ leBytes 1 ch.status.code ++ leBytes 1 ch.h.length ++ leBytes 9 0

/-- QNT.TT_CFG (R235). -/
def Tracked.cfgWord (t : Tracked) : Nat :=
  2 ^ 63 + b2n t.span * 2 ^ 62 + t.margin * 2 ^ 60 + t.len * 2 ^ 55 + t.job * 2 ^ 51 + t.fmt.toNat * 2 ^ 32 +
  t.firstCh * 2 ^ 16 + t.channels.length

/-- QNT.TT_DIV (R235). -/
def Tracked.divWord (t : Tracked) : Nat := toBits 8 t.initExp * 2 ^ 32 + t.div

/-- QNT.TT_STATE (R235). -/
def Tracked.stateWord (t : Tracked) : Nat :=
  let ch0 := nth (Channel.new 0) t.channels 0
  let has (st : ChStatus) : Nat := b2n (t.channels.any (fun ch => ch.status == st))
  t.fences % 2 ^ 32 * 2 ^ 32 + toBits 8 ch0.e * 2 ^ 24 + ch0.h.length * 2 ^ 16 + b2n t.touched * 8 + has .clamped * 4 +
  has .flat * 2 + has .new

/-- A history entry is +0, positive or +∞, and no NaN (R230). -/
def amaxOk (x : Nat) : Bool := x ≤ f32Fmt.infCode false

/-- A record that QNT_HISTORY_SET accepts for a history of length L (R230). -/
def recordOk (len : Nat) (b : List Byte) : Bool :=
  let n := leAt b 70 1
  decide (n ≤ len) && (List.range 16).all (fun i => amaxOk (leAt b (4 * i) 4) && (decide (i < n) || leAt b (4 * i) 4 == 0)) &&
  amaxOk (leAt b 64 4) && allZero (slice b 71 9)

/-- A channel set from a record, less E and STATUS (R229). -/
def Channel.ofRecord (ch : Channel) (b : List Byte) : Channel :=
  { ch with h := (List.range (leAt b 70 1)).map (fun i => BitVec.ofNat 32 (leAt b (4 * i) 4)),
            amaxCur := BitVec.ofNat 32 (leAt b 64 4) }

/-- Channels of a tracked tensor from `first` set from records, with their exponents (R229). -/
def State.setHistory (s : State) (track : Nat) (t : Tracked) (first : Nat) (recs : List (List Byte)) : State :=
  let cs : List (Channel × Bool) := t.channels.mapIdx (fun i ch => match recs[i - first]? with
    | some b => if i < first then (ch, false) else t.setExponent (ch.ofRecord b)
    | none => (ch, false))
  ({ s with tracked := minsert s.tracked track { t with channels := cs.map (fun (x : Channel × Bool) => x.1) } }).clamps cs

/-- A tracked tensor as QNT_RESET leaves it (R229). -/
def Tracked.cleared (t : Tracked) : Tracked :=
  { t with
    channels := t.channels.map (fun _ => Channel.new t.initExp), touched := false, errSum := 0, errInf := false,
    errCount := 0, sqerrLast := 0, countLast := 0, fences := 0 }

/-! ## The channel store (R217) -/

/-- A range of channel entries is free. -/
def State.channelsFree (s : State) (first n : Nat) : Bool :=
  s.tracked.all (fun e => e.2.firstCh + e.2.channels.length ≤ first || first + n ≤ e.2.firstCh)

/-- The lowest free range of n channel entries: it begins at 0 or at the end of a range in use. -/
def State.findChannels (s : State) (n : Nat) : Option Nat :=
  (sortBy id (0 :: s.tracked.map (fun e => e.2.firstCh + e.2.channels.length))).find?
    (fun x => x + n ≤ 65536 && s.channelsFree x n)

/-- Span-scope channels of a job (R224). -/
def State.spanChannels (s : State) (j : Nat) : Nat :=
  sumNat ((s.tracked.filter (fun e => e.2.job == j && e.2.span)).map (fun e => e.2.channels.length))

/-! ## The commands (R228, R229, R232) -/

/-- QNT_SETUP's field checks (R228). -/
def qntSetupParam (p : List Nat) : Nat :=
  let a (i : Nat) : Nat := nth 0 p i
  let e := sext 8 (a 5)
  if a 0 = 0 || 4096 < a 0 || 16 < bits (a 1) 4 0 || bits (a 1) 15 8 ≠ 0 || !fwOutOk (a 2) || fwFmt (a 2) = 0xA ||
      a 3 = 0 || 4096 < a 3 || a 4 = 0 || e < -127 then Status.badParam
  else 0

/-- QNT_READ's field checks (R229). -/
def qntReadParam (p : List Nat) : Nat := if nth 0 p 3 % 16 ≠ 0 then Status.badParam else 0

/-- QNT_RESET's field checks (R228). -/
def qntResetParam (p : List Nat) : Nat := if 1 < nth 0 p 1 then Status.badParam else 0

/-- QNT_SETUP (R228). -/
def execQntSetup (q : QueueId) (seq : BitVec 32) (s : State) : Out1 :=
  .next (s.runJobCmd 0x0401 q.val seq (fun s c j b =>
    let flags := c.arg 1
    let n := c.arg 3
    let span := tbit flags 7
    if b.run.isSome then s.finishCmd c (.st Status.qntBusy)
    else if (mfind s.tracked (c.arg 0)).isSome then s.finishCmd c (.st Status.qntInUse)
    else if span && 4096 < s.spanChannels j + n then s.finishCmd c (.st Status.qntSpanLimit)
    else
      match s.findChannels n with
      | none => s.finishCmd c (.st Status.qntNoChannels)
      | some first =>
        let e := sext 8 (c.arg 5)
        let t : Tracked :=
          { job := j, fmt := BitVec.ofNat 16 (c.arg 2), len := if bits flags 4 0 = 0 then 4 else bits flags 4 0,
            margin := bits flags 6 5, span := span, firstCh := first, div := c.arg 4, initExp := e,
            channels := List.replicate n (Channel.new e), touched := false, errSum := 0, errInf := false, errCount := 0,
            sqerrLast := 0, countLast := 0, fences := 0 }
        ({ s with tracked := minsert s.tracked (c.arg 0) t }).finishCmd c (.ok first)))

/-- The tracked tensor that a command names, and its channel range within it (R231). -/
def State.qntTrack (s : State) (j track first count : Nat) : Option Tracked :=
  match s.trackedOf j track with
  | none => none
  | some t => if first + count ≤ t.channels.length then some t else none

/-- QNT_READ (R229). -/
def execQntRead (q : QueueId) (seq : BitVec 32) (s : State) : Out1 :=
  .next (s.runJobCmd 0x0402 q.val seq (fun s c j _ =>
    match s.qntTrack j (c.arg 0) (c.arg 1) (c.arg 2) with
    | none => s.finishCmd c (.st Status.qntNoTrack)
    | some t =>
      let cs := (t.channels.drop (c.arg 1)).take (c.arg 2)
      match s.jobBad c (c.arg 3) (80 * c.arg 2) false true with
      | some o => s.finishCmd c (addrAnswer o)
      | none =>
        let flat := (cs.filter (fun ch => ch.status == .flat)).length
        (s.storeOff (ptrOff (c.arg 3)) (cs.flatMap Channel.bytes)).finishCmd c
          { status := 0, detail := flat, r0 := t.countLast.toNat, r1 := t.fences % 2 ^ 32 * 2 ^ 32 + t.sqerrLast.toNat }))

/-- QNT_HISTORY_SET (R229, R230). -/
def execQntHistorySet (q : QueueId) (seq : BitVec 32) (s : State) : Out1 :=
  .next (s.runJobCmd 0x0403 q.val seq (fun s c j b =>
    if b.run.isSome then s.finishCmd c (.st Status.qntBusy)
    else
      match s.qntTrack j (c.arg 0) (c.arg 1) (c.arg 2) with
      | none => s.finishCmd c (.st Status.qntNoTrack)
      | some t =>
        match s.jobBad c (c.arg 3) (80 * c.arg 2) true false with
        | some o => s.finishCmd c (addrAnswer o)
        | none =>
          let r := s.loadOff (ptrOff (c.arg 3)) (80 * c.arg 2)
          match r.2.join with
          | none => r.1.finishCmd c (.st Status.uncorrectable)
          | some bs =>
            let recs := chunksOf (c.arg 2) 80 bs
            if !recs.all (recordOk t.len) then r.1.finishCmd c (.st Status.qntBadRecord)
            else (r.1.setHistory (c.arg 0) t (c.arg 1) recs).finishCmd c (.ok)))

/-- QNT_RESET (R229). -/
def execQntReset (q : QueueId) (seq : BitVec 32) (s : State) : Out1 :=
  .next (s.runJobCmd 0x0404 q.val seq (fun s c j b =>
    if b.run.isSome then s.finishCmd c (.st Status.qntBusy)
    else
      match s.trackedOf j (c.arg 0) with
      | none => s.finishCmd c (.st Status.qntNoTrack)
      | some t =>
        let s := if tbit (c.arg 1) 0 then { s with tracked := merase s.tracked (c.arg 0) }
                 else { s with tracked := minsert s.tracked (c.arg 0) t.cleared }
        s.finishCmd c (.ok)))

end Sys2Proof.Machine
end

