-- ==== Sys2Proof/Machine/Token.lean ====
section
/-! DEFINITION. Tokens of the Span reduction tree (R374, R375): their bytes, the contexts they travel on, and how the tokens
of a node's children are combined. -/

namespace Sys2Proof.Machine

/-- KIND of a token (R375). -/
inductive TokenKind where
  | fenceUp | fenceDown | verdictUp | verdictDown | restoreUp | restoreDown
  deriving DecidableEq, Repr

/-- The code of a KIND (R375). -/
def TokenKind.code : TokenKind → Nat
  | .fenceUp => 1 | .fenceDown => 2 | .verdictUp => 3 | .verdictDown => 4 | .restoreUp => 5 | .restoreDown => 6

/-- A token that says nothing, every candidate bit set (R375). -/
def blankToken (step : Word) : Token :=
  { want := false, cut := false, fail := false, cands := 0xFFFF, step := step, fence := [], verdict := [] }

/-! ## Bytes (R375) -/

/-- A FENCE record: track, TOUCHED, error sum, count, maxima; a sum that is +∞ has every bit set (log entry 16). -/
def fenceBytes (r : FenceRec) : List Byte :=
  leBytes 4 r.track ++ leBytes 4 (b2n r.touched) ++ leBytes 40 (if r.errInf then 2 ^ 320 - 1 else r.errSum) ++
  leBytes 8 r.errCount ++ r.amax.flatMap (fun x => leBytes 4 x.toNat)

/-- A VERDICT record: 72 bytes (R375). -/
def verdictBytes (r : VerdictRec) : List Byte :=
  leBytes 4 r.shard.toNat ++ leBytes 32 r.largest.toNat ++ leBytes 32 r.smallest.toNat ++ leBytes 4 0

/-- The bytes of a token (R375). -/
def tokenBytes (k : TokenKind) (t : Token) : List Byte :=
  let cands := match k with
    | .restoreUp | .restoreDown => t.cands.toNat
    | _ => 0
  leBytes 1 k.code ++ leBytes 1 (b2n t.want + 2 * b2n t.cut + 4 * b2n t.fail) ++ leBytes 2 cands ++
  leBytes 4 (t.fence.length + t.verdict.length) ++ leBytes 8 t.step.toNat ++ leBytes 48 0 ++
  t.fence.flatMap fenceBytes ++ t.verdict.flatMap verdictBytes

/-! ## The tree (R341, R374) -/

/-- The parent of this node in a job's Span tree; none at the root and without a tree. -/
def JobSlot.treeParent (b : JobSlot) : Option Nat :=
  match b.tree with
  | some t => if 4096 ≤ t.parent then none else some t.parent
  | none => none

/-- The children of this node in a job's Span tree. -/
def JobSlot.treeChildren (b : JobSlot) : List Nat :=
  match b.tree with
  | some t => t.children
  | none => []

/-- The context of a token to a node: the running table's, or outside a schedule the one that the command's TREECTX names
(R374, R378, R388). -/
def State.treeCtx (s : State) (j node : Nat) : Option Nat :=
  match s.job j with
  | none => none
  | some b =>
    if b.run.isSome then s.runCtx b node
    else
      let n := s.snap j
      let p := match n.restore with
        | some r => leAt r.block 40 8
        | none => leAt n.block 56 8
      if p = 0 || 4096 ≤ node then none
      else
        let e := leNat (s.peek (ptrOff p + 4 * node) 4)
        if tbit e 31 then none else some (e % 2 ^ 20)

/-- A token sent to a node as RED_PIECE packets of the id of its KIND (R374); one without a context cannot be sent. -/
def State.sendToken (s : State) (j : Nat) (k : TokenKind) (node : Nat) (t : Token) : State :=
  match s.treeCtx j node with
  | none => s
  | some x =>
    let bs := tokenBytes k t
    { s with tx := s.tx ++ s.redPieces x (BitVec.ofNat 16 (0xFF00 + k.code)) 0 bs (bs.length / 256 + 1) }

/-- A token passed to every child (R376). -/
def State.passDown (s : State) (j : Nat) (b : JobSlot) (k : TokenKind) (t : Token) : State :=
  b.treeChildren.foldl (fun s c => s.sendToken j k c t) s

/-! ## Combination (R375) -/

/-- VERDICT records combined by SHARD_ID (R375). -/
def joinVerdict (xs ys : List VerdictRec) : List VerdictRec :=
  xs.map (fun a => match ys.find? (fun b => b.shard == a.shard) with
    | some b => { a with
        largest := if a.largest.toNat < b.largest.toNat then b.largest else a.largest
        smallest := if b.smallest.toNat < a.smallest.toNat then b.smallest else a.smallest }
    | none => a) ++
  ys.filter (fun b => !(xs.any (fun a => a.shard == b.shard)))

/-- Two tokens combined (R375). -/
def joinToken (a b : Token) : Token :=
  { want := a.want || b.want, cut := a.cut || b.cut, fail := a.fail || b.fail, cands := a.cands &&& b.cands,
    step := a.step, fence := joinFence a.fence b.fence, verdict := joinVerdict a.verdict b.verdict }

/-- Tokens received and a node's own combined. -/
def joinAll (own : Token) (rs : List (Nat × Token)) : Token := rs.foldl (fun a r => joinToken a r.2) own

/-- Every child's token has come. -/
def JobSlot.heardAll (b : JobSlot) (rs : List (Nat × Token)) : Bool :=
  b.treeChildren.all (fun c => rs.any (fun r => r.1 == c))

/-- A child's token kept: one from each child. -/
def keepToken (b : JobSlot) (from_ : Nat) (t : Token) (rs : List (Nat × Token)) : List (Nat × Token) :=
  if b.treeChildren.contains from_ && !(rs.any (fun r => r.1 == from_)) then rs ++ [(from_, t)] else rs

end Sys2Proof.Machine
end

