-- ==== Sys2Proof/Machine/Snapshot.lean ====
section
/-! DEFINITION. Snapshots (R377 to R387, R391 to R394): the block and its descriptors, the cut, the page engine, the verdict,
the manifest, and the commands. Restores are in `Restore.lean`. -/

namespace Sys2Proof.Machine

/-! ## The block (R378) -/

/-- A field of the block in use: offset and length. -/
def SnapJob.at (n : SnapJob) (o l : Nat) : Nat := leAt n.block o l
/-- DEST_KIND 1: the host window (R378). -/
def SnapJob.toHost (n : SnapJob) : Bool := n.at 10 1 == 1
/-- DEST (R378). -/
def SnapJob.dest (n : SnapJob) : Nat := n.at 16 8

/-! ## Shard descriptors (R379) -/

/-- SHAPE of a dimension. -/
def dShape (b : List Byte) (i : Nat) : Nat := leAt b (16 + 8 * i) 8
/-- START of a dimension. -/
def dStart (b : List Byte) (i : Nat) : Nat := leAt b (48 + 8 * i) 8
/-- COUNT of a dimension. -/
def dCount (b : List Byte) (i : Nat) : Nat := leAt b (80 + 8 * i) 8
/-- ELEM_BYTES. -/
def dElem (b : List Byte) : Nat := leAt b 8 2
/-- SHARD_ID. -/
def dShard (b : List Byte) : Nat := leAt b 4 4
/-- SRC. -/
def dSrc (b : List Byte) : Nat := leAt b 112 8
/-- Elements of the box. -/
def dElems (b : List Byte) : Nat := dCount b 0 * dCount b 1 * dCount b 2 * dCount b 3
/-- Bytes of the box, packed row-major. -/
def dLen (b : List Byte) : Nat := dElems b * dElem b
/-- The replica that writes the shard (R384). -/
def dWriter (b : List Byte) : Bool := leAt b 12 2 == dShard b % leAt b 14 2

/-- A descriptor's fields are in range and its box lies inside SHAPE; FLAGS and ORIG, which manifests use, are 0 (R379,
R380). -/
def descOk (b : List Byte) : Bool :=
  let nd := leAt b 10 1
  1 ≤ dElem b && dElem b ≤ 16 && 1 ≤ nd && nd ≤ 4 && leAt b 11 1 == 0 && leAt b 12 2 < leAt b 14 2 && leAt b 120 8 == 0 &&
  (List.range 4).all (fun i => 1 ≤ dCount b i && dStart b i + dCount b i ≤ dShape b i &&
    (i < nd || (dShape b i == 1 && dStart b i == 0 && dCount b i == 1)))

/-- SRC of a SNAP_TAKE region is local and aligned for its window (R380). -/
def State.srcOk (s : State) (b : List Byte) : Bool :=
  let o := ptrOff (dSrc b)
  !s.namesOther (dSrc b) && (match windowOf o with
    | .hbm => o % 2 ^ 16 == 0
    | .shale | .pool => o % 64 == 0
    | _ => true)

/-- The region lies in Shale or Pool, which is copied at the cut (R381). -/
def inSram (b : List Byte) : Bool :=
  match windowOf (ptrOff (dSrc b)) with
  | .shale | .pool => true
  | _ => false

/-! ## State pages (R383) -/

/-- TA.VERSION (R216). -/
def Core.versionWord (k : Core) : Nat :=
  let v := k.versionNumbers
  v.1 * 2 ^ 48 + v.2 * 2 ^ 32 + min 2 k.versions.length

/-- TA.REFS (R216); with one live version, REF_OLDER shows its count as OLDER shows its number. -/
def Core.refsWord (k : Core) : Nat :=
  let wait := match k.phase with
    | .waitVersion _ _ => 1
    | _ => 0
  match k.versions with
  | [] => wait * 2 ^ 63
  | [v] => wait * 2 ^ 63 + v.refs.toNat * 2 ^ 32 + v.refs.toNat
  | v :: u :: _ => wait * 2 ^ 63 + v.refs.toNat * 2 ^ 32 + u.refs.toNat

/-- The 192-byte version record of a core (R383). -/
def Core.versionRecord (k : Core) : List Byte :=
  let d (i : Nat) : List Byte := match k.versions[i]? with
    | some v => slice v.desc 0 64
    | none => leBytes 64 0
  leBytes 8 k.versionWord ++ leBytes 8 k.refsWord ++ leBytes 48 0 ++ d 0 ++ d 1

/-- A tracked tensor's record: its register group, whose reserved bytes hold its number (log entry 16), and its channel
records (R383). -/
def Tracked.record (t : Tracked) (track : Nat) : List Byte :=
  leBytes 8 t.cfgWord ++ leBytes 8 t.divWord ++ leBytes 8 t.stateWord ++ leBytes 8 t.sqerrLast.toNat ++
  leBytes 8 t.countLast.toNat ++ leBytes 2 track ++ leBytes 22 0 ++ t.channels.flatMap Channel.bytes

/-- The logical cores of a job, 16l + k, rising. -/
def JobSlot.cores (b : JobSlot) : List Nat := upFrom (16 * b.first) (16 * b.count)

/-- The bytes of the state pages before padding (R383). -/
def State.stateBytes (s : State) (j : Nat) (b : JobSlot) : List Byte :=
  b.cores.flatMap (fun lc => (List.range 256).flatMap (fun t => leBytes 4 (s.tally (lc / 16) (lc % 16) t))) ++
  b.cores.flatMap (fun lc => match s.servingCore (lc / 16) (lc % 16) with
    | some c => (s.core c).versionRecord
    | none => leBytes 192 0) ++
  (s.tracked.filter (fun e => e.2.job == j)).flatMap (fun e => e.2.record e.1)

/-- A page of a snapshot. -/
def pageSize : Nat := 2 ^ 16

/-- Bytes cut into pages, the last one zero-padded. -/
def padPages (bs : List Byte) : List (List Byte) :=
  (chunksOf (bs.length / pageSize + 1) pageSize bs).map (fun p => slice p 0 pageSize)

/-! ## Sizes (R380, R385) -/

/-- Pages of a region. -/
def dPages (b : List Byte) : Nat := cdiv (dLen b) pageSize

/-- MLEN for numbers of shards, seeds and pages (R385). -/
def manifestLen (shards seeds pages : Nat) : Nat := 256 + 128 * shards + 8 * seeds + 32 * pages + 64

/-- MLEN rounded up to a page: where the page stream begins (R383). -/
def streamAt (mlen : Nat) : Nat := cdiv mlen pageSize * pageSize

/-- The whole image is larger than a destination (R380). -/
def State.imageSize (s : State) (j : Nat) (b : JobSlot) (regions : List (List Byte)) (seeds : Nat) : Nat :=
  let pages := cdiv (s.stateBytes j b).length pageSize + sumNat (regions.map dPages)
  streamAt (manifestLen regions.length seeds pages) + pages * pageSize

/-! ## The end of a snapshot (R386) -/

/-- Staged pages of the stream that have not been freed. -/
def SnapJob.stagedLeft (n : SnapJob) : Nat := (n.pages.filter (fun p => p.staged.isSome && !p.sent)).length

/-- The frozen set of a job released: its pages become DONE, its staging pages are freed, and held writes go on (R384,
R386). -/
def State.releaseFrozen (s : State) (j : Nat) : State :=
  let mine := s.pages.filter (fun p => p.2.job == j)
  let staged := (mine.filter (fun p => p.2.st == PageSt.staged)).length + (s.snap j).stagedLeft
  let n := s.snap j
  let s := s.setSnap j { n with pages := n.pages.map (fun (p : StreamPage) => { p with staged := none }) }
  ({ s with pages := s.pages.filter (fun p => p.2.job != j), stageUsed := s.stageUsed - staged }).releaseHeld

/-- A snapshot's fields back to idle; a trigger that fired meanwhile is pending again (R377). -/
def SnapJob.idle (n : SnapJob) (last : Word) : SnapJob :=
  { n with
    phase := if n.trigger && n.standing.isSome then .want else .idle
    trigger := false, cmd := none, block := [], shards := [], seeds := [], pages := [], statePages := 0, fail := 0,
    last := last, tokens := { n.tokens with verdict := [] }, verdictSent := false, sealed := false, rest := 0 }

/-- SNP.LAST (R394). -/
def lastWord (status : Nat) (step : Word) : Word := BitVec.ofNat 64 (status * 2 ^ 48 + step.toNat % 2 ^ 48)

/-- A snapshot fails at this node (R386): no manifest, the frozen set released, FAIL. -/
def State.snapFail (s : State) (j status : Nat) : State :=
  let s := s.releaseFrozen j
  let s := { s with copies := s.copies.filter (fun y => y.origin != CopyOrigin.snapshot j) }
  let n := s.snap j
  let s := (s.setSnap j (n.idle (lastWord status n.step))).raise .snpFail
  match n.cmd with
  | some (q, seq) => s.finish q seq { status := status, r0 := n.step.toNat }
  | none => s

/-- A tally target is signalled once: 1 is added here, or by a SIGNAL on a context to its node (R98, R378, R388). -/
def State.signalTally (s : State) (j : Nat) (t : Word) (x : Option Nat) : State :=
  match s.job j with
  | none => s
  | some b =>
    if !tallyValid t then s
    else if s.isSelf (sigNode t.toNat) then s.tallyHit b.tag b.epoch t 1
    else
      match x with
      | some x =>
        if s.ctxUsable x b.tag b.epoch (sigNode t.toNat) s.spanNo then
          ({ s with nextCopy := s.nextCopy + 1 }).ctxRequest x Op.signal 0 (t.toNat % 2 ^ 48 + 1) [] (.copy s.nextCopy)
        else s
      | none => s

/-- A snapshot's manifest has landed (R386). -/
def State.snapDone (s : State) (j : Nat) : State :=
  let n := s.snap j
  let div := (n.shards.filter Shard.diverged).length
  let status := if div = 0 then Status.success else Status.replicaDivergence
  let x := if n.toHost then s.treeCtx j (sigNode (n.at 48 8)) else some (n.at 12 4 % 2 ^ 20)
  let s := s.signalTally j (BitVec.ofNat 64 (n.at 48 8)) x
  let s := (s.setSnap j (n.idle (lastWord status n.step))).raise .snpSnapDone
  let written := (n.pages.filter StreamPage.sent).length
  match n.cmd with
  | some (q, seq) => s.finish q seq { status := status, detail := min div 0xFFFF, r0 := n.step.toNat, r1 := written }
  | none => s

/-! ## Writing the image (R378, R383, R385) -/

/-- The snapshot will fail at this node with a status; the first one stands. -/
def State.snapBroken (s : State) (j status : Nat) : State :=
  let n := s.snap j
  s.setSnap j { n with fail := if n.fail = 0 then status else n.fail }

/-- Bytes written at an offset of the image: in the host window at once, or by a put on the context to the peer (R378). -/
def State.snapWrite (s : State) (j off : Nat) (bs : List Byte) : State :=
  match s.job j with
  | none => s
  | some b =>
    let n := s.snap j
    let o := ptrOff n.dest + off
    if n.toHost then
      if (s.firstBad 5 b.tag true o bs.length false true).isSome || s.unreachable o bs.length then
        s.snapBroken j Status.snapDestFail
      else s.storeOff o bs
    else
      let x := n.at 12 4 % 2 ^ 20
      if !s.ctxUsable x b.tag b.epoch (ptrNode n.dest) s.spanNo then s.snapBroken j Status.snapDestFail
      else
        let y : Copy := { id := s.nextCopy, origin := .snapshot j, tag := b.tag, epoch := b.epoch, src := 0, dst := o,
                          len := bs.length, ctx := x, seq := 0, acked := 0, opened := false, limit := bs.length,
                          t0 := s.now, tries := 0, data := bs, tally := 0, redo := 0 }
        let s := { s with nextCopy := s.nextCopy + 1, copies := s.copies ++ [y] }
        s.ctxRequest x Op.copyOpen 0 o (leBytes 8 bs.length ++ leBytes 8 0) (.copy y.id)

/-- The parts of the disabled-unit map after its version, as R17 lays them out. -/
def UnitMap.bytes (m : UnitMap) : List Byte :=
  let code : ClusterSt → Nat
    | .good => 0 | .weak => 1 | .disabled => 2 | .reserved => 3
  leBytes 168 (m.clusters.foldl (fun a e => a + code e.2 * 4 ^ e.1) 0) ++ leBytes 1428 (ofSetBits m.cores) ++
  leBytes 48 (ofSetBits m.pcs) ++ leBytes 12 (ofSetBits m.lanes) ++ leBytes 1 (ofSetBits m.dispatch) ++
  leBytes 8 (ofSetBits m.pdie) ++ leBytes 1 (ofSetBits m.granite)

/-- A digest's 32 bytes. -/
def digestBytes (d : Digest) : List Byte := leBytes 32 d.toNat

/-- The first page of a shard in the stream. -/
def SnapJob.firstPage (n : SnapJob) (i : Nat) : Nat := n.pages.findIdx (fun p => p.shard == some i)

/-- A shard's descriptor as the manifest holds it (R379). -/
def SnapJob.shardBytes (n : SnapJob) (i : Nat) (d : Shard) : List Byte :=
  slice d.bytes 0 11 ++ leBytes 1 (b2n d.digestOnly + 2 * b2n d.diverged) ++ slice d.bytes 12 100 ++
  leBytes 8 (n.firstPage i * pageSize) ++ leBytes 8 (dSrc d.bytes)

/-- Nodes of a job: those that its route table has a way to, and this one (log entry 16). -/
def JobSlot.nodes (b : JobSlot) : Nat :=
  1 + (match b.routes with
    | some r => r.ways.length
    | none => 0)

/-- The manifest less its signature (R385). -/
def State.manifestBody (s : State) (j : Nat) (b : JobSlot) : List Byte :=
  let n := s.snap j
  let mlen := manifestLen n.shards.length n.seeds.length n.pages.length
  leBytes 4 0x00010000 ++ leBytes 4 (b2n b.ordered + 2 * b2n (n.shards.any Shard.diverged)) ++ leBytes 8 n.step.toNat ++
  leBytes 2 b.tag.toNat ++ leBytes 1 b.epoch.toNat ++ leBytes 1 0 ++ leBytes 2 s.nodeNo ++ leBytes 2 b.nodes ++
  (List.range 3).flatMap (fun i => leBytes 2 (nth 0 s.granite.bundle i).toNat) ++ leBytes 2 0 ++
  digestBytes s.granite.bundleDigest ++ digestBytes (Config.sm3 s.flash.map.bytes) ++
  (match b.tree with
    | some t => digestBytes (Config.sm3 t.header)
    | none => leBytes 32 0) ++
  leBytes 4 n.shards.length ++ leBytes 4 n.seeds.length ++ leBytes 8 n.pages.length ++ leBytes 8 n.statePages ++
  leBytes 8 mlen ++ leBytes 96 0 ++
  (n.shards.zipIdx.flatMap (fun d => n.shardBytes d.2 d.1)) ++ n.seeds.flatMap (fun w => leBytes 8 w.toNat) ++
  n.pages.flatMap (fun p => digestBytes (p.digest.getD 0))

/-- A key slot that is loaded for a job with a usage (R439). -/
def State.jobKey (s : State) (slot usage : Nat) (b : JobSlot) : Option KeySlot :=
  match mfind s.granite.keys slot with
  | some k => if 2 ≤ slot && k.loaded && k.usage == usage && k.tag == b.tag && k.epoch == b.epoch then some k else none
  | none => none

/-- The manifest is signed by Granite and written (R385, R432). -/
def State.writeManifest (s : State) (j : Nat) (b : JobSlot) : State :=
  let n := s.snap j
  match s.jobKey (n.at 42 1) 3 b with
  | none => s.snapBroken j Status.keySlotUsage
  | some k =>
    let body := s.manifestBody j b
    let sig := slice (Config.sm2Sign k.key (Config.sm3 body) s.free) 0 64
    (s.bump.setSnap j { n with sealed := true }).snapWrite j 0 (body ++ sig)

/-- Sealing goes on (R385, R386): once every page has landed the manifest is written, and once that has landed the snapshot
is complete. -/
def State.snapSettle (s : State) (j : Nat) : Nat → State
  | 0 => s
  | f + 1 =>
    let n := s.snap j
    match s.job j with
    | none => s
    | some b =>
      if n.phase != .sealing then s
      else if n.fail ≠ 0 then s.snapFail j n.fail
      else if s.copies.any (fun y => y.origin == CopyOrigin.snapshot j) then s
      else if n.sealed then s.snapDone j
      else (s.writeManifest j b).snapSettle j f

/-! ## The verdict (R384, R386) -/

/-- Digests of the pages of a shard. -/
def SnapJob.digests (n : SnapJob) (i : Nat) : List Digest :=
  (n.pages.filter (fun p => p.shard == some i)).filterMap (·.digest)

/-- The shard digest: SM3 of the list of page digests (R384). -/
def SnapJob.shardDigest (n : SnapJob) (i : Nat) : Digest := Config.sm3 ((n.digests i).flatMap digestBytes)

/-- This node's VERDICT_UP (R384, R386). -/
def SnapJob.ownVerdict (n : SnapJob) : Token :=
  { blankToken n.step with
    fail := n.fail ≠ 0
    verdict := joinVerdict [] (n.shards.zipIdx.foldl (fun (rs : List VerdictRec) d =>
      joinVerdict rs [⟨BitVec.ofNat 32 (dShard d.1.bytes), n.shardDigest d.2, n.shardDigest d.2⟩]) []) }

/-- The bytes of a stream page as they stood at the cut; a page read in place that is not delivered gives a free value (R382,
log entry 3). -/
def State.pageBytes (s : State) (p : StreamPage) : State × List Byte :=
  match p.staged, p.page with
  | some bs, _ => (s, slice bs 0 pageSize)
  | none, none => (s, leBytes pageSize 0)
  | none, some g =>
    match mfind s.pages g with
    | some r =>
      if r.st == PageSt.staged then (s, slice ((List.range p.len).map (mget 0#8 r.copy)) 0 pageSize)
      else
        let (s, ok) := s.scan (g * pageSize) p.len
        if ok then (s, slice (memRead s.mem (g * pageSize) p.len) 0 pageSize)
        else (s.bump, leBytes pageSize (Config.free s.free))
    | none => (s, slice (memRead s.mem (g * pageSize) p.len) 0 pageSize)

/-- A stream page of a job changed. -/
def State.updPage (s : State) (j i : Nat) (f : StreamPage → StreamPage) : State :=
  let n := s.snap j
  s.setSnap j { n with pages := n.pages.mapIdx (fun k (p : StreamPage) => if k = i then f p else p) }

/-- Where the page stream lies in the image. -/
def SnapJob.stream (n : SnapJob) : Nat := streamAt (manifestLen n.shards.length n.seeds.length n.pages.length)

/-- A stream page sent to the image. -/
def State.sendPage (s : State) (j i : Nat) : State :=
  match (s.snap j).pages[i]? with
  | none => s
  | some p =>
    let (s, bs) := s.pageBytes p
    (s.snapWrite j ((s.snap j).stream + i * pageSize) bs).updPage j i (fun p => { p with sent := true })

/-- A page that was sent is DONE: its staging page is freed and writes to it go on, once no other page of the stream needs
it (R382). -/
def State.pageDone (s : State) (j : Nat) (p : StreamPage) : State :=
  match p.page with
  | none => if p.staged.isSome then { s with stageUsed := s.stageUsed - 1 } else s
  | some g =>
    if (s.snap j).pages.any (fun (q : StreamPage) => q.page == some g && !q.sent) then s
    else
      match mfind s.pages g with
      | some r =>
        if r.job ≠ j then s
        else
          ({ s with pages := merase s.pages g, stageUsed := if r.st == PageSt.staged then s.stageUsed - 1 else s.stageUsed
            }).releaseIf (fun a => a < 2 ^ 40 && a / pageSize == g)
      | none => s

/-- VERDICT_DOWN reaches this node (R384, R386): it is passed on; then the snapshot fails, or diverged shards are marked and
sent, the frozen set is released and the manifest follows. -/
def State.verdictDown (s : State) (j : Nat) (t : Token) : State :=
  match s.job j with
  | none => s
  | some b =>
    let s := s.passDown j b .verdictDown t
    let n := s.snap j
    if n.fail ≠ 0 then s.snapFail j n.fail
    else if t.fail then
      (s.bump).snapFail j (nth 0 [Status.snapUnsavedSource, Status.snapDestFail, Status.snapAborted] (Config.free s.free % 3))
    else
      let differs (d : Shard) : Bool :=
        t.verdict.any (fun r => r.shard.toNat == dShard d.bytes && r.largest != r.smallest)
      let div := (List.range n.shards.length).filter (fun i => match n.shards[i]? with
        | some d => differs d
        | none => false)
      let s := div.foldl (fun s _ => s.raise .snpDivergence) s
      let s := s.setSnap j { n with
        phase := .sealing
        shards := n.shards.mapIdx (fun i (d : Shard) =>
          if div.contains i then { d with diverged := true, digestOnly := false } else d)
        pages := n.pages.map (fun (p : StreamPage) => match p.shard with
          | some i => if div.contains i then { p with send := true } else p
          | none => p) }
      let todo := (List.range n.pages.length).filter (fun i => match (s.snap j).pages[i]? with
        | some p => p.send && !p.sent
        | none => false)
      ((todo.foldl (fun s i => s.sendPage j i) s).releaseFrozen j).snapSettle j 3

/-- VERDICT_UP once this node's pages are digested, or its snapshot has failed, and every child's has come (R384, R386). -/
def State.verdictTry (s : State) (j : Nat) : State :=
  let n := s.snap j
  match s.job j with
  | none => s
  | some b =>
    if n.phase != .copying && n.phase != .verdict then s
    else if n.fail = 0 && n.pages.any (fun p => p.digest.isNone) then s
    else
      let s := s.setSnap j { n with phase := .verdict }
      if n.verdictSent || !b.heardAll n.tokens.verdict then s
      else
        let t := joinAll n.ownVerdict n.tokens.verdict
        let n1 := s.snap j
        let s := s.setSnap j { n1 with verdictSent := true, tokens := { n1.tokens with verdict := [] } }
        match b.treeParent with
        | some p => s.sendToken j .verdictUp p t
        | none => s.verdictDown j t

/-! ## The cut (R381) -/

/-- The source ranges of a version, as node offsets (R193). -/
def Version.sources (v : Version) : List (Nat × Nat) :=
  let x := readWDesc v.desc
  let alongK := fwShare x.fmt = 0
  let row := packedLen x.nt (fmtBits (fwFmt x.fmt))
  let sc := if alongK then (x.nt, scaleBlocks (fwBlockLen x.fmt) x.kbase x.kt)
    else (x.kt, scaleBlocks (fwBlockLen x.fmt) x.nbase x.nt)
  (List.range x.kt).map (fun i => (ptrOff (x.src + i * x.stride), row)) ++
  (if fwBlock x.fmt = 0 then [] else (List.range sc.1).map (fun i => (ptrOff (x.scales + i * x.sstride), sc.2))) ++
  (if x.zpb = 0 then [] else [(ptrOff x.zpb, 2 * x.nt)])

/-- A live version of the job has a source outside the regions (R381). -/
def State.unsaved (s : State) (b : JobSlot) (regions : List (List Byte)) : Bool :=
  let covered (r : Nat × Nat) : Bool := regions.any (fun d =>
    ptrOff (dSrc d) ≤ r.1 && r.1 + r.2 ≤ ptrOff (dSrc d) + dLen d)
  b.cores.any (fun lc => match s.servingCore (lc / 16) (lc % 16) with
    | some c => (s.core c).versions.any (fun v => !v.sources.all covered)
    | none => false)

/-- Descriptors of an array in this node's memory. -/
def State.descs (s : State) (p n : Nat) : List (List Byte) :=
  (List.range n).map (fun i => s.peek (ptrOff p + 128 * i) 128)

/-- The stream pages of a region: staged at the cut from Shale and Pool, or from a page that another job's snapshot holds;
else read later (R381, R383). -/
def State.regionPages (s : State) (i : Nat) (d : List Byte) : List StreamPage :=
  (List.range (dPages d)).map (fun k =>
    let o := ptrOff (dSrc d) + k * pageSize
    let len := min pageSize (dLen d - k * pageSize)
    let now := inSram d || (mfind s.pages (o / pageSize)).isSome
    { staged := if now then some (s.peek o len) else none, page := if now then none else some (o / pageSize), len := len,
      shard := some i, send := dWriter d, digest := none, sent := false })

/-- The cut (R376, R381): regions of Shale and Pool and the state pages staged, pages of HBM3E regions frozen. A node that
holds no block takes no cut. -/
def State.takeCut (s : State) (j : Nat) : State :=
  match s.job j with
  | none => s
  | some b =>
    let n := s.snap j
    let block := match n.cmd, n.standing with
      | some _, _ => n.block
      | none, some o => s.peek o 64
      | none, none => []
    if block.isEmpty || !(n.phase == .want || n.phase == .idle) then s
    else
      let n : SnapJob := { n with
        block := block, lastCut := s.now, fencesSince := 0, step := b.step, phase := .copying, fail := 0, rest := 0
        verdictSent := false, sealed := false, tokens := { n.tokens with verdict := [] } }
      let regions := s.descs (n.at 0 8) (n.at 8 2)
      let seeds := (List.range (n.at 40 2)).map (fun i => BitVec.ofNat 64 (leNat (s.peek (ptrOff (n.at 32 8) + 8 * i) 8)))
      if s.unsaved b regions && !tbit (n.at 11 1) 1 then
        (s.setSnap j { n with fail := Status.snapUnsavedSource, pages := [], shards := [] }).verdictTry j
      else
        let state : List StreamPage := (padPages (s.stateBytes j b)).map (fun bs =>
          { staged := some bs, page := none, len := pageSize, shard := none, send := true, digest := none, sent := false })
        let pages := state ++ (regions.zipIdx.flatMap (fun d => s.regionPages d.2 d.1))
        let staged := (pages.filter (fun p => p.staged.isSome)).length
        let s := s.setSnap j { n with
          pages := pages, seeds := seeds, statePages := state.length
          shards := regions.map (fun d => { bytes := d, diverged := false, digestOnly := !dWriter d }) }
        { s with
          pages := (pages.filterMap (·.page)).foldl (fun m g => minsert m g { job := j, st := .frozen, copy := [] }) s.pages
          stageUsed := s.stageUsed + staged
          stagePeak := max s.stagePeak (s.stageUsed + staged) }

/-! ## WANT (R377) -/

/-- The trigger of a job is due: its timer's period has elapsed since the last cut, or the next fence reaches its count; it
needs a standing block (R377). -/
def State.snapDue (s : State) (j : Nat) : Bool :=
  let n := s.snap j
  let ms := s.getF .snpTrigger [j] 63 32
  let steps := s.getF .snpTrigger [j] 31 0
  n.standing.isSome &&
  ((ms ≠ 0 && n.lastCut + ms * 1000000 ≤ s.now) || (steps ≠ 0 && steps ≤ n.fencesSince + 1))

/-- The trigger of a job fires if it is due: WANT is set, or it stays pending while a snapshot or restore is in progress
(R377). -/
def State.snapFire (s : State) (j : Nat) : State :=
  let n := s.snap j
  if !s.snapDue j || n.phase == .want then s
  else if n.phase == .idle && n.restore.isNone then s.setSnap j { n with phase := .want }
  else s.setSnap j { n with trigger := true }

/-- Job commands of classes 0x02, 0x05 and 0x06 are in progress; a posted receive not yet matched is none of them (R377). -/
def State.busyClasses (s : State) (b : JobSlot) : Bool :=
  s.started.any (fun c => c.ofJob b.tag b.epoch && [2, 5, 6].contains (c.opcode.toNat / 256) && (match c.wait with
    | .recv _ => false
    | _ => true))

/-- FENCE_DOWN outside a schedule: passed on, and the cut taken when it says so (R376, R377). -/
def State.restDown (s : State) (j : Nat) (b : JobSlot) (t : Token) : State :=
  let s := s.passDown j b .fenceDown t
  let n := s.snap j
  let s := s.setSnap j { n with rest := 0 }
  if t.cut then s.takeCut j else s

/-- The exchange of FENCE tokens outside a schedule goes on (R377). -/
def State.restStep (s : State) (j : Nat) : State :=
  match s.job j with
  | none => s
  | some b =>
    let n := s.snap j
    if n.rest ≠ 1 || b.run.isSome || s.busyClasses b || !b.heardAll n.tokens.fence then s
    else
      let own : Token := { blankToken b.step with want := n.phase == .want }
      let t := joinAll own n.tokens.fence
      let s := s.setSnap j { n with tokens := { n.tokens with fence := [] }, rest := 2 }
      match b.treeParent with
      | some p => s.sendToken j .fenceUp p t
      | none => s.restDown j b { t with cut := t.want && (n.phase == .want || n.phase == .idle) }

/-! ## The commands (R378, R380, R387) -/

/-- SNAP_TAKE's field checks (R378, R380). -/
def snapTakeParam (p : List Nat) : Nat :=
  let a (i : Nat) : Nat := nth 0 p i
  let o := ptrOff (a 5)
  let dest := o % pageSize = 0 && (if a 2 = 1 then windowOf o == .host && a 4 = 0 else a 4 < 2 ^ 20)
  if a 1 = 0 || 4096 < a 1 || 1 < a 2 || 3 < a 3 || !dest || 64 < a 8 || a 9 < 2 || 63 < a 9 || a 10 ≠ 0 || a 11 ≠ 0 ||
      !tallyForm (BitVec.ofNat 64 (a 12)) then Status.badParam
  else 0

/-- The first offending offset of what SNAP_TAKE reads: its arrays and its regions (R89). -/
def State.snapBad (s : State) (c : Started) (regions : List (List Byte)) : Option Nat :=
  let seeds := s.jobBad c (c.arg 7) (8 * c.arg 8) true false
  let tree := if c.arg 13 = 0 then none else s.jobBad c (c.arg 13) 16384 true false
  match seeds, tree with
  | some o, _ => some o
  | none, some o => some o
  | none, none => regions.findSome? (fun d => s.jobBad c (dSrc d) (dLen d) true false)

/-- SNAP_TAKE (R377, R378, R380). -/
def execSnapTake (q : QueueId) (seq : BitVec 32) (s : State) : Out1 :=
  .next (s.runJobCmd 0x0701 q.val seq (fun s c j b =>
    let n := s.snap j
    let destOk := if c.arg 2 = 1 then !s.namesOther (c.arg 5) && !reservedNode (ptrNode (c.arg 5)) else s.namesOther (c.arg 5)
    if (s.jobKey (c.arg 9) 3 b).isNone || !destOk then s.finishCmd c (.st Status.badParam)
    else
      match s.jobBad c (c.arg 0) (128 * c.arg 1) true false with
      | some o => s.finishCmd c (addrAnswer o)
      | none =>
        let r := s.loadOff (ptrOff (c.arg 0)) (128 * c.arg 1)
        match r.2.join with
        | none => r.1.finishCmd c (.st Status.uncorrectable)
        | some bs =>
          let s := r.1
          let regions := chunksOf (c.arg 1) 128 bs
          if !regions.all (fun d => descOk d && s.srcOk d) then s.finishCmd c (.st Status.badParam)
          else
            match s.snapBad c regions with
            | some o => s.finishCmd c (addrAnswer o)
            | none =>
              if n.cmd.isSome || n.restore.isSome || !(n.phase == .idle || n.phase == .want) then
                s.finishCmd c (.st Status.snapBusy)
              else if 2 ^ 32 < sumNat ((regions.filter inSram).map dLen) ||
                  c.arg 6 < s.imageSize j b regions (c.arg 8) then s.finishCmd c (.st Status.snapTooLarge)
              else
                let s := s.setSnap j { n with
                  phase := .want, cmd := some (c.q, c.seq), block := slice c.params 0 64, step := b.step
                  standing := if tbit (c.arg 3) 0 then some c.block else n.standing
                  rest := if b.run.isSome then 0 else 1 }
                (s.waitCmd c (.snap j)).restStep j))

/-- SNAP_TRIGGER (R377): the period elapses or the count is reached; while a snapshot is in progress it stays pending. -/
def execSnapTrigger (j : JobSlotId) (s : State) : Out1 := .next (if (s.job j.val).isNone then s else s.snapFire j.val)

/-- SNAPSHOT_PAGE_COPY (R382, R384): the next page of the stream is digested, and sent where this node writes it. -/
def execSnapshotPageCopy (j : JobSlotId) (s : State) : Out1 :=
  .next (
    let n := s.snap j.val
    if n.phase != .copying then s
    else if n.fail ≠ 0 then s.verdictTry j.val
    else
      match (List.range n.pages.length).find? (fun i => match n.pages[i]? with
        | some p => p.digest.isNone
        | none => false) with
      | none => s.verdictTry j.val
      | some i =>
        match n.pages[i]? with
        | none => s
        | some p =>
          let (s, bs) := s.pageBytes p
          let s := s.updPage j.val i (fun p => { p with digest := some (Config.sm3 bs) })
          let s := if p.send then
              ((s.snapWrite j.val (n.stream + i * pageSize) bs).updPage j.val i (fun p => { p with sent := true })).pageDone j.val p
            else s
          s.verdictTry j.val)

/-- STAGE_FULL_RESUME (R382): staging has a free page again, and writes held to the frozen pages of a job go on. -/
def execStageFullResume (j : JobSlotId) (s : State) : Out1 :=
  .next (
    if stagePages ≤ s.stageUsed then s
    else s.releaseIf (fun a => a < 2 ^ 40 && (match mfind s.pages (a / pageSize) with
      | some r => r.job == j.val
      | none => false)))

/-- VERDICT_UP (R384): a child's token is kept, and the combined one goes up once all are there. -/
def execVerdictUp (j : JobSlotId) (from_ : Nat) (tok : Token) (s : State) : Out1 :=
  .next (
    match s.job j.val with
    | none => s
    | some b =>
      let n := s.snap j.val
      (s.setSnap j.val { n with tokens := { n.tokens with verdict := keepToken b from_ tok n.tokens.verdict } }).verdictTry
        j.val)

/-- VERDICT_DOWN (R384, R386): from the parent, after this node's VERDICT_UP. -/
def execVerdictDown (j : JobSlotId) (from_ : Nat) (tok : Token) (s : State) : Out1 :=
  .next (
    match s.job j.val with
    | none => s
    | some b =>
      let n := s.snap j.val
      if n.phase == .verdict && n.verdictSent && b.treeParent == some from_ then s.verdictDown j.val tok else s)

/-- The status that the verdict exchange is told of once a snapshot has been cut, or the end of one that still waits. -/
def State.snapStop (s : State) (j status : Nat) : State :=
  let n := s.snap j
  match n.phase with
  | .want => s.snapFail j status
  | .copying | .verdict => (s.snapBroken j status).verdictTry j
  | .sealing => (s.snapBroken j status).snapSettle j 3
  | .idle | .restoring => s

/-- SNAP_ABORT (R387). -/
def execSnapAbort (q : QueueId) (seq : BitVec 32) (s : State) : Out1 :=
  .next (s.runJobCmd 0x0702 q.val seq (fun s c j _ =>
    let n := s.snap j
    if n.phase == .idle || n.restore.isSome || (n.phase == .want && n.cmd.isNone) then s.finishCmd c (.st Status.snapNone)
    else (s.snapStop j Status.snapAborted).finishCmd c (.ok)))

/-- PHASE of SNP.JOB_STATE (R394). -/
def SnapPhase.code : SnapPhase → Nat
  | .idle => 0 | .want => 1 | .copying => 2 | .verdict => 3 | .sealing => 4 | .restoring => 5

/-- SNP.JOB_STATE (R394). -/
def State.snapState (s : State) (j : Nat) : Nat :=
  (s.snap j).phase.code * 2 ^ 61 + (s.pages.filter (fun p => p.2.job == j)).length % 2 ^ 24

/-- SNAP_STATUS (R387). -/
def execSnapStatus (q : QueueId) (seq : BitVec 32) (s : State) : Out1 :=
  .next (s.runJobCmd 0x0703 q.val seq (fun s c j _ => s.finishCmd c (.ok (s.snapState j) (s.snap j).last.toNat)))

end Sys2Proof.Machine
end

