-- ==== Sys2Proof/Machine/Restore.lean ====
section
/-! DEFINITION. Restores (R388 to R390): candidates and their manifests, the vote through RESTORE tokens, the load, and what
is applied. Images on other nodes are fetched by GET copies into buffers of the node (log entry 16). -/

namespace Sys2Proof.Machine

/-! ## Candidates and images (R388) -/

/-- Candidates of a restore. -/
def Restore.count (r : Restore) : Nat := leAt r.block 8 1
/-- RESLICE. -/
def Restore.reslice (r : Restore) : Bool := tbit (leAt r.block 9 1) 1
/-- ALLOW_DIVERGED. -/
def Restore.allow (r : Restore) : Bool := tbit (leAt r.block 9 1) 0

/-- A candidate's 32 bytes. -/
def State.cand (s : State) (r : Restore) (c : Nat) : List Byte := s.peek (ptrOff (leAt r.block 0 8) + 32 * c) 32
/-- NODES of a candidate. -/
def State.candNodes (s : State) (r : Restore) (c : Nat) : Nat := leAt (s.cand r c) 8 4 % 4097

/-- Pointer and context of an entry of a candidate's LIST. -/
def State.entry (s : State) (r : Restore) (c e : Nat) : Nat × Nat :=
  let bs := s.peek (ptrOff (leAt (s.cand r c) 16 8) + 16 * e) 16
  (leAt bs 0 8, leAt bs 8 4 % 2 ^ 20)

/-- Where the fetched bytes of an image lie: a buffer of 2^42 bytes for each job slot, candidate and entry (log entry 16). -/
def imageBuf (j c e : Nat) : Nat := bufferBase + ((j * 16 + c) * 4096 + e) * 2 ^ 42

/-- n bytes of an image from an offset: none where they cannot be read (R389). -/
def State.imageRead (s : State) (j : Nat) (b : JobSlot) (r : Restore) (c e o n : Nat) : State × Option (List Byte) :=
  let p := (s.entry r c e).1
  if r.bad.contains (4096 * c + e) || reservedNode (ptrNode p) then (s, none)
  else if s.namesOther p then (s, some (s.peek (imageBuf j c e + o) n))
  else if (s.firstBad 5 b.tag true (ptrOff p + o) n true false).isSome || s.unreachable (ptrOff p + o) n then (s, none)
  else
    let t := s.loadOff (ptrOff p + o) n
    (t.1, t.2.join)

/-- A fetch of n bytes of an image on another node, from an offset, into its buffer; it fails at once without a usable
context. -/
def State.fetchImage (s : State) (j : Nat) (b : JobSlot) (r : Restore) (c e o n : Nat) : State :=
  let (p, x) := s.entry r c e
  let idx := 4096 * c + e
  if !s.ctxUsable x b.tag b.epoch (ptrNode p) s.spanNo then
    let m := s.snap j
    s.setSnap j { m with restore := m.restore.map (fun r => { r with bad := idx :: r.bad }) }
  else
    let y : Copy := { id := s.nextCopy, origin := .restore j idx, tag := b.tag, epoch := b.epoch, src := ptrOff p + o,
                      dst := imageBuf j c e + o, len := n, ctx := x, seq := 0, acked := 0, opened := false, limit := n,
                      t0 := s.now, tries := 0, data := [], tally := 0, redo := 0 }
    let s := { s with nextCopy := s.nextCopy + 1, copies := s.copies ++ [y] }
    s.ctxRequest x Op.copyOpen 16 y.src (leBytes 8 n ++ leBytes 8 0) (.copy y.id)

/-- A copy fetches bytes for the restore of a job. -/
def Copy.fetches (y : Copy) (j : Nat) : Bool :=
  match y.origin with
  | .restore k _ => k == j
  | _ => false

/-- The images of a candidate that lie on other nodes, less those of which a fetch failed. -/
def State.farEntries (s : State) (r : Restore) (c : Nat) : List Nat :=
  (List.range (s.candNodes r c)).filter (fun e => s.namesOther (s.entry r c e).1 && !r.bad.contains (4096 * c + e))

/-! ## Manifests (R385, R389) -/

/-- NSHARDS. -/
def mShardCount (m : List Byte) : Nat := leAt m 128 4
/-- NSEEDS. -/
def mSeeds (m : List Byte) : Nat := leAt m 132 4
/-- PAGES. -/
def mPages (m : List Byte) : Nat := leAt m 136 8
/-- STATE_PAGES. -/
def mStatePages (m : List Byte) : Nat := leAt m 144 8
/-- MLEN. -/
def mLen (m : List Byte) : Nat := leAt m 152 8
/-- NODE. -/
def mNode (m : List Byte) : Nat := leAt m 20 2
/-- The shard descriptors. -/
def mShards (m : List Byte) : List (List Byte) := (List.range (mShardCount m)).map (fun i => slice m (256 + 128 * i) 128)
/-- The seeds. -/
def mSeedBytes (m : List Byte) : List Byte := slice m (256 + 128 * mShardCount m) (8 * mSeeds m)
/-- The digest of a stream page. -/
def mDigest (m : List Byte) (p : Nat) : List Byte := slice m (256 + 128 * mShardCount m + 8 * mSeeds m + 32 * p) 32

/-- The longest manifest there can be: 4,096 shards, 64 seeds, and a page for each 64 KiB of the node's memory. -/
def mLenMax : Nat := 2 ^ 30

/-- MLEN of a header agrees with its numbers (R385). -/
def headOk (h : List Byte) : Bool :=
  leAt h 0 4 == 0x00010000 && mLen h == manifestLen (mShardCount h) (mSeeds h) (mPages h) && mLen h ≤ mLenMax

/-- The manifest of an entry, where it is present with a valid FORMAT. -/
def State.manifest (s : State) (j : Nat) (b : JobSlot) (r : Restore) (c e : Nat) : State × Option (List Byte) :=
  match s.imageRead j b r c e 0 256 with
  | (s, none) => (s, none)
  | (s, some h) => if headOk h then s.imageRead j b r c e 0 (mLen h) else (s, none)

/-- All manifests of a candidate; none where one is missing. -/
def State.manifests (s : State) (j : Nat) (b : JobSlot) (r : Restore) (c : Nat) : State × Option (List (List Byte)) :=
  (List.range (s.candNodes r c)).foldl (fun t e =>
    let u := t.1.manifest j b r c e
    (u.1, match t.2, u.2 with
      | some ms, some m => some (ms ++ [m])
      | _, _ => none)) (s, some [])

/-- A manifest's signature verifies under the key of the restore's slot (R388, R389). -/
def sigOk (k : KeySlot) (m : List Byte) : Bool :=
  let n := m.length - 64
  Config.sm2Verify (k.key.take 64) k.ident (Config.sm3 (m.take n)) (m.drop n)

/-- The first three conditions of R389 for a candidate's manifests. -/
def State.candOk (s : State) (k : KeySlot) (r : Restore) (c : Nat) (ms : List (List Byte)) : Bool :=
  let id (m : List Byte) : List Byte := slice m 16 3
  match ms with
  | [] => false
  | m0 :: _ =>
    ms.all (fun m => sigOk k m && leAt m 8 8 == leAt (s.cand r c) 0 8 && id m == id m0 &&
      leAt m 24 2 == (nth 0 s.granite.bundle 0).toNat &&
      (r.allow || !(mShards m).any (fun d => tbit (leAt d 11 1) 1))) &&
    (ms.map mNode).Nodup

/-- The candidates that stand at this node before the vote (R389). -/
def State.candBits (s : State) (j : Nat) (b : JobSlot) (r : Restore) : State × Nat :=
  match s.jobKey (leAt r.block 10 1) 4 b with
  | none => (s, 0)
  | some k =>
    (List.range r.count).foldl (fun t c =>
      let u := t.1.manifests j b r c
      (u.1, match u.2 with
        | some ms => if u.1.candOk k r c ms then t.2 + 2 ^ c else t.2
        | none => t.2)) (s, 0)

/-! ## What a node loads (R389, R390) -/

/-- A run of bytes to load: the entry, the offset in its page stream, the length, and the node offset written. -/
structure LoadRun where
  e : Nat
  src : Nat
  len : Nat
  dst : Nat
  deriving DecidableEq, Repr

/-- The copy of a shard that a restore reads: the writer's (R384, R389). -/
def writerOf (ms : List (List Byte)) (d : List Byte) : Option (Nat × List Byte) :=
  (ms.zipIdx.flatMap (fun m => (mShards m.1).map (fun x => (m.2, x)))).find? (fun x =>
    leAt x.2 0 4 == leAt d 0 4 && dShard x.2 == dShard d && dWriter x.2)

/-- Without RESLICE: each shard of the node's own manifest to its ORIG pointer; its own copy, or the writer's where it holds
none or diverged. None where there is no such copy (R390; log entry 16). -/
def plainRuns (ms : List (List Byte)) (node : Nat) : Option (List LoadRun) :=
  let e := ms.findIdx (fun m => mNode m == node)
  match ms[e]? with
  | none => some []
  | some m => (mShards m).mapM (fun d =>
      let run (x : Nat × List Byte) : LoadRun := ⟨x.1, dSrc x.2, dLen d, ptrOff (leAt d 120 8)⟩
      if leAt d 11 1 = 0 then some (run (e, d)) else (writerOf ms d).map run)

/-- Runs of a target box filled from a source box: one for each row that they share (R379, R390). -/
def boxRuns (t : List Byte) (e : Nat) (d : List Byte) : List LoadRun :=
  let lo (i : Nat) : Nat := max (dStart t i) (dStart d i)
  let hi (i : Nat) : Nat := min (dStart t i + dCount t i) (dStart d i + dCount d i)
  let n (i : Nat) : Nat := hi i - lo i
  let at_ (x : List Byte) (a b c : Nat) : Nat :=
    (((a - dStart x 0) * dCount x 1 + (b - dStart x 1)) * dCount x 2 + (c - dStart x 2)) * dCount x 3 + (lo 3 - dStart x 3)
  if n 3 = 0 then []
  else
    (upFrom (lo 0) (n 0)).flatMap (fun a => (upFrom (lo 1) (n 1)).flatMap (fun b => (upFrom (lo 2) (n 2)).map (fun c =>
      ⟨e, dSrc d + at_ d a b c * dElem d, n 3 * dElem d, ptrOff (dSrc t) + at_ t a b c * dElem t⟩)))

/-- The targets of a re-sliced restore (R388). -/
def State.targets (s : State) (r : Restore) : List (List Byte) := s.descs (leAt r.block 16 8) (leAt r.block 24 4 % 4097)

/-- With RESLICE: the runs of every target, or RESTORE_SHAPE or RESTORE_UNCOVERED (R390). -/
def State.sliceRuns (s : State) (r : Restore) (ms : List (List Byte)) : Except Nat (List LoadRun) :=
  let srcs := (ms.zipIdx.flatMap (fun m => (mShards m.1).map (fun x => (m.2, x)))).filter (fun x =>
    dWriter x.2 && !tbit (leAt x.2 11 1) 0)
  let of_ (t : List Byte) : List (Nat × List Byte) := srcs.filter (fun x => leAt x.2 0 4 == leAt t 0 4)
  let shape (t : List Byte) : Bool := (of_ t).all (fun x =>
    dElem x.2 == dElem t && (List.range 4).all (fun i => dShape x.2 i == dShape t i))
  let runs (t : List Byte) : List LoadRun := (of_ t).flatMap (fun x => boxRuns t x.1 x.2)
  let covered (t : List Byte) : Bool := (List.range (dElems t)).all (fun i =>
    let o := ptrOff (dSrc t) + i * dElem t
    (runs t).any (fun u => u.dst ≤ o && o < u.dst + u.len))
  if !(s.targets r).all shape then .error Status.restoreShape
  else if !(s.targets r).all covered then .error Status.restoreUncovered
  else .ok ((s.targets r).flatMap runs)

/-- The entry whose state pages a node applies: its own manifest, or with RESLICE any one, for Span-scope tensors (R390). -/
def stateEntry (r : Restore) (ms : List (List Byte)) (node : Nat) : Nat :=
  if r.reslice then 0 else ms.findIdx (fun m => mNode m == node)

/-- Pages that a restore reads: of its runs, and of the state pages (R389). -/
def needed (runs : List LoadRun) (se sn : Nat) : List (Nat × Nat) :=
  (runs.flatMap (fun u =>
    (upFrom (u.src / pageSize) ((u.src + u.len - 1) / pageSize + 1 - u.src / pageSize)).map (fun p => (u.e, p))) ++
   (List.range sn).map (fun p => (se, p))).eraseDups

/-- The runs of a candidate, or the status that its load ends with; 0 for a candidate that merely fails. -/
def State.loadPlan (s : State) (b : JobSlot) (r : Restore) (ms : List (List Byte)) : Except Nat (List LoadRun) :=
  let runs : Except Nat (List LoadRun) :=
    if r.reslice then s.sliceRuns r ms
    else match plainRuns ms s.nodeNo with
      | some us => .ok us
      | none => .error 0
  match runs with
  | .error e => .error e
  | .ok us =>
    if us.any (fun u => (s.firstBad 5 b.tag false u.dst u.len false true).isSome) then .error Status.addrError else .ok us

/-- Pages of an image that match their digests (R389). -/
def State.pagesOk (s : State) (j : Nat) (b : JobSlot) (r : Restore) (c : Nat) (ms : List (List Byte))
    (ps : List (Nat × Nat)) : State × Bool :=
  ps.foldl (fun t p =>
    match ms[p.1]? with
    | none => (t.1, false)
    | some m =>
      let u := t.1.imageRead j b r c p.1 (streamAt (mLen m) + p.2 * pageSize) pageSize
      (u.1, t.2 && (match u.2 with
        | some bs => digestBytes (Config.sm3 bs) == mDigest m p.2
        | none => false))) (s, true)

/-! ## Applying state (R383, R390) -/

/-- A channel read from its record (R230). -/
def readChannel (b : List Byte) : Channel :=
  let st : ChStatus := match leAt b 69 1 with
    | 0 => .new | 1 => .normal | 2 => .flat | _ => .clamped
  { (Channel.new 0).ofRecord b with e := sext 8 (leAt b 68 1), status := st }

/-- The tracked tensors of state pages: number and state, less the job and the channel entries that they take here. -/
def readTracked : Nat → List Byte → List (Nat × Tracked)
  | 0, _ => []
  | fuel + 1, bs =>
    let cfg := leAt bs 0 8
    let n := bits cfg 12 0
    if !tbit cfg 63 then []
    else
      let st := leAt bs 16 8
      let t : Tracked :=
        { job := 0, fmt := BitVec.ofNat 16 (bits cfg 47 32), len := bits cfg 59 55, margin := bits cfg 61 60,
          span := tbit cfg 62, firstCh := 0, div := leAt bs 8 4, initExp := sext 8 (leAt bs 12 1),
          channels := (List.range n).map (fun i => readChannel (slice bs (64 + 80 * i) 80)), touched := tbit st 3,
          errSum := 0, errInf := false, errCount := 0, sqerrLast := BitVec.ofNat 32 (leAt bs 24 4),
          countLast := BitVec.ofNat 64 (leAt bs 32 8), fences := bits st 63 32 }
      (leAt bs 40 2, t) :: readTracked fuel (bs.drop (64 + 80 * n))

/-- A tracked tensor applied under its number (R390): in the channel entries that the tensor holds, or in free ones. -/
def State.applyTracked (s : State) (j : Nat) (x : Nat × Tracked) : State :=
  let old := mfind s.tracked x.1
  let foreign := match old with
    | some t => t.job != j
    | none => false
  if foreign then s
  else
    let s := { s with tracked := merase s.tracked x.1 }
    let first := match old with
      | some t => if t.channels.length = x.2.channels.length then some t.firstCh else s.findChannels x.2.channels.length
      | none => s.findChannels x.2.channels.length
    match first with
    | none => s
    | some f => { s with tracked := minsert s.tracked x.1 { x.2 with job := j, firstCh := f } }

/-- A core's versions from a version record: to be read again from their sources with their numbers and counts (R211,
R390). -/
def Core.applyVersions (k : Core) (b : List Byte) : Core :=
  let v (number refs o : Nat) : Version :=
    { number := BitVec.ofNat 16 number, refs := BitVec.ofNat 16 refs, desc := slice b o 64, codes := [], scales := [],
      zeros := [], bad := none, reread := true }
  let newer := v (leAt b 6 2) (leAt b 12 2) 64
  let older := v (leAt b 4 2) (leAt b 8 2) 128
  match leAt b 0 1 with
  | 0 => { k with versions := [] }
  | 1 => { k with versions := [newer], nextVersion := nextNumber newer.number }
  | _ => { k with versions := [newer, older], nextVersion := nextNumber newer.number }

/-- State pages applied to a job (R390): tallies and versions by logical core and tensors by number; with RESLICE the
Span-scope tensors only. -/
def State.applyState (s : State) (j : Nat) (b : JobSlot) (reslice : Bool) (bs : List Byte) : State :=
  let n := b.cores.length
  let ts := readTracked 4096 (bs.drop (1216 * n))
  if reslice then (ts.filter (fun x => x.2.span)).foldl (fun s x => s.applyTracked j x) s
  else
    let s := b.cores.zipIdx.foldl (fun s x =>
      let s := (List.range 256).foldl (fun s t => s.setTally (x.1 / 16) (x.1 % 16) t (leAt bs (1024 * x.2 + 4 * t) 4)) s
      match s.servingCore (x.1 / 16) (x.1 % 16) with
      | some c => s.setCore c ((s.core c).applyVersions (slice bs (1024 * n + 192 * x.2) 192))
      | none => s) s
    ts.foldl (fun s x => s.applyTracked j x) s

/-! ## The vote and the load (R389) -/

/-- A restore's record changed. -/
def State.updRestore (s : State) (j : Nat) (f : Restore → Restore) : State :=
  let n := s.snap j
  s.setSnap j { n with restore := n.restore.map f }

/-- A restore ends: its buffers are freed and its command replies. -/
def State.restoreEnd (s : State) (j : Nat) (r : Restore) (a : Answer) : State :=
  let n := s.snap j
  let s := s.setSnap j { n with
    restore := none, phase := if n.trigger && n.standing.isSome then .want else .idle, tokens := { n.tokens with restore := [] } }
  let s := { s with
    mem := memClear s.mem (imageBuf j 0 0) (16 * 4096 * 2 ^ 42)
    copies := s.copies.filter (fun y => !y.fetches j) }
  s.finish r.q r.seq a

/-- The chosen candidate takes effect at this node (R389, R390): memory and state loaded, seeds written back, SCH.STEP set,
the tally signalled. -/
def State.restoreCommit (s : State) (j : Nat) (b : JobSlot) (r : Restore) (c : Nat) : State :=
  let step := leAt (s.cand r c) 0 8
  let t := s.manifests j b r c
  match t.2 with
  | none => t.1.restoreEnd j r (.st Status.restoreNone)
  | some ms =>
    let s := t.1
    let runs := match s.loadPlan b r ms with
      | .ok us => us
      | .error _ => []
    let s := runs.foldl (fun s u =>
      let m := nth [] ms u.e
      match s.imageRead j b r c u.e (streamAt (mLen m) + u.src) u.len with
      | (s, some bs) => s.storeOff u.dst bs
      | (s, none) => s) s
    let se := stateEntry r ms s.nodeNo
    let m := nth [] ms se
    let s := if m.isEmpty then s
      else match s.imageRead j b r c se (streamAt (mLen m)) (mStatePages m * pageSize) with
        | (s, some bs) => s.applyState j b r.reslice bs
        | (s, none) => s
    let s := match (s.snap j).standing with
      | some o => s.storeOff (ptrOff (leAt (s.peek o 64) 32 8)) (mSeedBytes m)
      | none => s
    let s := match s.job j with
      | some b => s.setJob j { b with step := BitVec.ofNat 64 step }
      | none => s
    let tally := leAt r.block 32 8
    let s := s.signalTally j (BitVec.ofNat 64 tally) (s.treeCtx j (sigNode tally))
    s.restoreEnd j r { status := if c = 0 then Status.success else Status.restoreFallback,
                       detail := c + b2n r.reslice * 2 ^ 15, r0 := step }

/-- The lowest candidate of a set; none where it is empty. -/
def lowestCand (x : Nat) : Option Nat := leastFrom (tbit x) 0 16

/-- The fetch of the pages that a chosen candidate needs from other nodes. -/
def State.beginLoad (s : State) (j : Nat) (b : JobSlot) (r : Restore) (c : Nat) : State :=
  let s := s.updRestore j (fun r => { r with st := .loading, chosen := some c, upSent := false, failed := false })
  let t := s.manifests j b r c
  match t.2 with
  | none => t.1
  | some ms =>
    match t.1.loadPlan b r ms with
    | .error _ => t.1
    | .ok runs =>
      let se := stateEntry r ms s.nodeNo
      ((needed runs se (mStatePages (nth [] ms se))).filter (fun p => t.1.namesOther (t.1.entry r c p.1).1)).foldl
        (fun s p => s.fetchImage j b r c p.1 (streamAt (mLen (nth [] ms p.1)) + p.2 * pageSize) pageSize) t.1

/-- The load of the chosen candidate is checked at this node once its pages are here (R389): a failure clears it. -/
def State.checkLoad (s : State) (j : Nat) (b : JobSlot) (r : Restore) (c : Nat) : State :=
  let t := s.manifests j b r c
  let (s, ok, status) : State × Bool × Nat := match t.2 with
    | none => (t.1, false, 0)
    | some ms =>
      match t.1.loadPlan b r ms with
      | .error e => (t.1, false, e)
      | .ok runs =>
        let se := stateEntry r ms s.nodeNo
        let u := t.1.pagesOk j b r c ms (needed runs se (mStatePages (nth [] ms se)))
        (u.1, u.2, 0)
  s.updRestore j (fun r => { r with
    st := .confirm, upSent := false, failed := !ok, status := if r.status = 0 then status else r.status
    cands := if ok then r.cands else if status ≠ 0 then 0 else r.cands - bits r.cands c c * 2 ^ c })

/-- RESTORE_DOWN reaches this node (R389): it is passed on; CANDS names the candidate to load next, no bit ends the restore
with RESTORE_NONE, and after a load that failed nowhere the chosen candidate takes effect. -/
def State.restoreDown (s : State) (j : Nat) (b : JobSlot) (r : Restore) (t : Token) : State :=
  let s := s.passDown j b .restoreDown t
  let next (s : State) : State := match lowestCand t.cands.toNat with
    | some c => s.beginLoad j b r c
    | none => s.restoreEnd j r (.st (if r.status = 0 then Status.restoreNone else r.status))
  match r.st, r.chosen with
  | .confirm, some c => if t.fail then next s else s.restoreCommit j b r c
  | _, _ => next s

/-- The root's RESTORE_DOWN (R389). -/
def rootChoice (t : Token) : Token :=
  { t with cands := match lowestCand t.cands.toNat with
      | some c => BitVec.ofNat 16 (2 ^ c)
      | none => 0 }

/-- A restore goes on as far as it can: headers and manifests are fetched, the candidates judged, the vote joined, the
chosen candidate's pages fetched and checked, and the load confirmed. -/
def State.restoreGo (s : State) (j : Nat) : Nat → State
  | 0 => s
  | f + 1 =>
    match s.job j, (s.snap j).restore with
    | some b, some r =>
      let busy := s.copies.any (fun y => y.fetches j)
      let vote (own : Token) : State :=
        let n := s.snap j
        if r.upSent || !b.heardAll n.tokens.restore then s
        else
          let t := joinAll own n.tokens.restore
          let s := s.setSnap j { n with
            tokens := { n.tokens with restore := [] }, restore := some { r with upSent := true } }
          match b.treeParent with
          | some p => s.sendToken j .restoreUp p t
          | none => (s.restoreDown j b { r with upSent := true } (rootChoice t)).restoreGo j f
      let own : Token := { blankToken b.step with cands := BitVec.ofNat 16 r.cands, fail := r.failed }
      match r.st with
      | .heads =>
        if busy then s
        else
          let far := (List.range r.count).flatMap (fun c => (s.farEntries r c).map (fun e => (c, e)))
          let s := far.foldl (fun s x =>
            let h := s.peek (imageBuf j x.1 x.2) 256
            if headOk h then s.fetchImage j b r x.1 x.2 0 (mLen h)
            else s.updRestore j (fun r => { r with bad := (4096 * x.1 + x.2) :: r.bad })) s
          (s.updRestore j (fun r => { r with st := .manifests })).restoreGo j f
      | .manifests =>
        if busy then s
        else
          let t := s.candBits j b r
          (t.1.updRestore j (fun r => { r with st := .vote, cands := t.2 })).restoreGo j f
      | .vote => vote own
      | .loading =>
        if busy then s
        else
          match r.chosen with
          | some c => (s.checkLoad j b r c).restoreGo j f
          | none => s
      | .confirm => vote own
    | _, _ => s

/-- Steps that a restore can take at once: three for each of 16 candidates, and the first three. -/
def restoreFuel : Nat := 64

/-! ## The commands and tokens (R388, R389) -/

/-- SNAP_RESTORE's field checks (R388). -/
def snapRestoreParam (p : List Nat) : Nat :=
  let a (i : Nat) : Nat := nth 0 p i
  if a 1 = 0 || 16 < a 1 || 3 < a 2 || a 3 < 2 || 63 < a 3 || 4096 < a 5 || !tallyForm (BitVec.ofNat 64 (a 6)) then
    Status.badParam
  else 0

/-- The candidates descend in STEP, and their zero bytes are zero (R388). -/
def candsOk (cs : List (List Byte)) : Bool :=
  cs.all (fun b => 1 ≤ leAt b 8 4 && leAt b 8 4 ≤ 4096 && leAt b 12 4 == 0 && leAt b 24 8 == 0) &&
  (cs.zip (cs.drop 1)).all (fun x => leAt x.2 0 8 < leAt x.1 0 8)

/-- SNAP_RESTORE (R388): a job that has run no schedule. -/
def execSnapRestore (q : QueueId) (seq : BitVec 32) (s : State) : Out1 :=
  .next (s.runJobCmd 0x0704 q.val seq (fun s c j b =>
    let n := s.snap j
    let reslice := tbit (c.arg 2) 1
    let bad := match s.jobBad c (c.arg 0) (32 * c.arg 1) true false with
      | some o => some o
      | none =>
        let tr := if c.arg 7 = 0 then none else s.jobBad c (c.arg 7) 16384 true false
        let ls := (List.range (c.arg 1)).findSome? (fun i =>
          let e := s.peek (ptrOff (c.arg 0) + 32 * i) 32
          s.jobBad c (leAt e 16 8) (16 * leAt e 8 4) true false)
        match tr, ls with
        | some o, _ => some o
        | none, some o => some o
        | none, none => if reslice then s.jobBad c (c.arg 4) (128 * c.arg 5) true false else none
    if (s.jobKey (c.arg 3) 4 b).isNone then s.finishCmd c (.st Status.badParam)
    else
      match bad with
      | some o => s.finishCmd c (addrAnswer o)
      | none =>
        let cs := (List.range (c.arg 1)).map (fun i => s.peek (ptrOff (c.arg 0) + 32 * i) 32)
        let ts := if reslice then s.descs (c.arg 4) (c.arg 5) else []
        if !candsOk cs || !ts.all (fun d => descOk d && !s.namesOther (dSrc d)) then s.finishCmd c (.st Status.badParam)
        else
          match ts.findSome? (fun d => s.jobBad c (dSrc d) (dLen d) false true) with
          | some o => s.finishCmd c (addrAnswer o)
          | none =>
            if b.ran || n.cmd.isSome || n.restore.isSome || !(n.phase == .idle || n.phase == .want) then
              s.finishCmd c (.st Status.snapBusy)
            else
              let r : Restore := { q := c.q, seq := c.seq, block := slice c.params 0 64, st := .heads, cands := 0,
                                   chosen := none, bad := [], failed := false, status := 0, upSent := false }
              let s := (s.setSnap j { n with phase := .restoring, restore := some r }).waitCmd c (.restore j)
              let far := (List.range r.count).flatMap (fun i => (s.farEntries r i).map (fun e => (i, e)))
              let s := far.foldl (fun s x => s.fetchImage j b r x.1 x.2 0 256) s
              s.restoreGo j restoreFuel))

/-- RESTORE_UP (R389): a child's token is kept, and the vote goes on. -/
def execRestoreUp (j : JobSlotId) (from_ : Nat) (tok : Token) (s : State) : Out1 :=
  .next (
    match s.job j.val with
    | none => s
    | some b =>
      let n := s.snap j.val
      (s.setSnap j.val { n with tokens := { n.tokens with restore := keepToken b from_ tok n.tokens.restore } }).restoreGo
        j.val restoreFuel)

/-- RESTORE_DOWN (R389): from the parent, after this node's RESTORE_UP. -/
def execRestoreDown (j : JobSlotId) (from_ : Nat) (tok : Token) (s : State) : Out1 :=
  .next (
    match s.job j.val, (s.snap j.val).restore with
    | some b, some r =>
      if r.upSent && b.treeParent == some from_ then (s.restoreDown j.val b r tok).restoreGo j.val restoreFuel else s
    | _, _ => s)

/-! ## Answers that a snapshot or restore waits for -/

/-- Snapshots and restores go on after a copy of theirs has ended. -/
def State.snapsGoOn (s : State) : State :=
  (mkeys s.jobs).foldl (fun s j => (s.snapSettle j 3).restoreGo j restoreFuel) s

/-- PIECE (R362). -/
def execPiecePacket (n : LinkId) (p : Packet) (s : State) : Out1 :=
  .next (s.onCtx n p true (fun x s => (s.pieceIn x p).snapsGoOn))

/-- REPLY (R354). -/
def execReplyPacket (n : LinkId) (p : Packet) (s : State) : Out1 :=
  .next (s.onCtx n p true (fun x s => (s.replyIn x p).snapsGoOn))

/-- PIECE_ACK (R362). -/
def execPieceAck (n : LinkId) (p : Packet) (s : State) : Out1 :=
  .next (s.onCtx n p true (fun x s => (s.pieceAckIn x p).snapsGoOn))

/-- QUERY_REPLY (R357). -/
def execQueryReply (n : LinkId) (p : Packet) (s : State) : Out1 :=
  .next (s.onCtx n p true (fun x s => (s.queryReplyIn x p).snapsGoOn))

end Sys2Proof.Machine
end

