-- ==== Sys2Proof/Machine/Solver.lean ====
section
/-! DEFINITION. Batched fixed-point solver units (R249 to R269): the primitives, factorisations and iterations, problem
records, and the batch commands. A problem runs whole in one command; where a deadline cuts it short, the command of the
deadline says how far it had come. -/

namespace Sys2Proof.Machine

namespace Status
def slvAborted : Nat := 0x0540
def slvBusy : Nat := 0x0541
def slvNoBatch : Nat := 0x0542
end Status

/-! ## Primitives (R251, R252) -/

/-- What a problem has raised: OVERFLOW, REG_COUNT and FIRST_REG (R251, R252, R261). -/
structure SlvFlags where
  ovf : Bool := false
  regs : Nat := 0
  first : Nat := 0xFFFF
  deriving DecidableEq, Repr

/-- A computation of a solver unit, which raises flags. -/
abbrev Slv := StateM SlvFlags

/-- Saturation into n bits; a value that it changes sets OVERFLOW (R251). -/
def satS (n : Nat) (z : Int) : Slv Int := do
  let c := clampInt (-(2 ^ (n - 1))) (2 ^ (n - 1) - 1) z
  modify (fun f => { f with ovf := f.ovf || c != z })
  return c

/-- acc of R251. -/
def accS (init : Int) (ts : List Int) : Slv Int := ts.foldlM (fun a t => satS 64 (a + t)) init

/-- rs of R251. -/
def rsS (a : Int) (f : Nat) : Slv Int := satS 32 (divEven a (2 ^ f))

/-- div of R251. -/
def divS (n d : Int) (f : Nat) : Slv Int :=
  satS 32 (if d < 0 then divEven (-(n * 2 ^ f)) (-d) else divEven (n * 2 ^ f) d)

/-- add of R251, with a difference as the sum of the negated value. -/
def addS (x y : Int) : Slv Int := satS 32 (x + y)

/-- rs of an exact product. -/
def mulS (f : Nat) (x y : Int) : Slv Int := rsS (x * y) f

/-- A pivot regularised (R252). -/
def regulariseS (eps k : Nat) (p : Int) : Slv Int := do
  if p.natAbs < eps then
    modify (fun f => { f with regs := f.regs + 1, first := min f.first k })
    return (if 0 ≤ p then (eps : Int) else -(eps : Int))
  else return p

/-! ## Matrices -/

/-- An entry of a matrix held by rows. -/
def ent (a : List (List Int)) (i j : Nat) : Int := nth 0 (nth [] a i) j

/-- A row of a substitution: the right-hand side less the products (R255). -/
def rowS (fm : Nat) (b : Int) (ts : List (Int × Int)) : Slv Int := do
  rsS (← accS (b * 2 ^ fm) (ts.map (fun t => -(t.1 * t.2)))) fm

/-! ## LU (R253, R255) -/

/-- Two elements of a list exchanged. -/
def swapAt {α : Type} (d : α) (xs : List α) (i j : Nat) : List α := setNth (setNth xs i (nth d xs j)) j (nth d xs i)

/-- The lowest row from k whose entry in column k is largest in magnitude (R253). -/
def pivotRow (a : List (List Int)) (k n : Nat) : Nat :=
  (upFrom k (n - k)).foldl (fun p i => if (ent a p k).natAbs < (ent a i k).natAbs then i else p) k

/-- LU factors, in place, and the order of the rows (R253). -/
def luS (n fm eps : Nat) (a : List (List Int)) : Slv (List (List Int) × List Nat) :=
  (List.range n).foldlM (fun (t : List (List Int) × List Nat) k => do
    let p := pivotRow t.1 k n
    let a := swapAt [] t.1 k p
    let piv ← regulariseS eps k (ent a k k)
    let rowk := setNth (nth [] a k) k piv
    let a ← a.zipIdx.mapM (fun r => do
      if r.2 = k then return rowk
      else if r.2 < k then return r.1
      else
        let m ← divS (nth 0 r.1 k) piv fm
        r.1.zipIdx.mapM (fun x => do
          if x.2 < k then return x.1
          else if x.2 = k then return m
          else rowS fm x.1 [(m, nth 0 rowk x.2)]))
    return (a, swapAt 0 t.2 k p)) (a, List.range n)

/-- A solve with LU factors (R255). -/
def luSolveS (n fm : Nat) (a : List (List Int)) (perm : List Nat) (b : List Int) : Slv (List Int) := do
  let y ← (List.range n).foldlM (fun (y : List Int) i => do
    let v ← rowS fm (nth 0 b (nth 0 perm i)) ((List.range i).map (fun j => (ent a i j, nth 0 y j)))
    return y ++ [v]) []
  (List.range n).reverse.foldlM (fun (x : List Int) i => do
    let t ← rowS fm (nth 0 y i) ((upFrom (i + 1) (n - 1 - i)).map (fun j => (ent a i j, nth 0 x j)))
    let v ← divS t (ent a i i) fm
    return setNth x i v) (List.replicate n 0)

/-! ## LDLᵀ (R254, R255) -/

/-- LDLᵀ factors of a symmetric matrix whose lower triangle is read: the unit lower factor and the pivots (R254). -/
def ldlS (n fm eps : Nat) (a : List (List Int)) : Slv (List (List Int) × List Int) :=
  (List.range n).foldlM (fun (t : List (List Int) × List Int) k => do
    let w ← (List.range k).mapM (fun j => mulS fm (ent t.1 k j) (nth 0 t.2 j))
    let below (i : Nat) : Slv Int :=
      rowS fm (ent a i k) ((List.range k).map (fun j => (nth 0 w j, ent t.1 i j)))
    let d ← regulariseS eps k (← below k)
    let col ← (upFrom (k + 1) (n - 1 - k)).mapM (fun i => do divS (← below i) d fm)
    let l := t.1.mapIdx (fun i (row : List Int) => if k < i then setNth row k (nth 0 col (i - k - 1)) else row)
    return (l, t.2 ++ [d])) (List.replicate n (List.replicate n 0), [])

/-- A solve with LDLᵀ factors (R255). -/
def ldlSolveS (n fm : Nat) (l : List (List Int)) (d b : List Int) : Slv (List Int) := do
  let y ← (List.range n).foldlM (fun (y : List Int) i => do
    let v ← rowS fm (nth 0 b i) ((List.range i).map (fun j => (ent l i j, nth 0 y j)))
    return y ++ [v]) []
  let z ← (List.range n).mapM (fun i => divS (nth 0 y i) (nth 0 d i) fm)
  (List.range n).reverse.foldlM (fun (x : List Int) i => do
    let v ← rowS fm (nth 0 z i) ((upFrom (i + 1) (n - 1 - i)).map (fun j => (ent l j i, nth 0 x j)))
    return setNth x i v) (List.replicate n 0)

/-! ## Problems (R250, R255, R256, R259) -/

/-- A problem with its input arrays. -/
structure Problem where
  kind : Nat
  n : Nat
  m : Nat
  fm : Nat
  fv : Nat
  iters : Nat
  eps : Nat
  rho : Int
  rhoInv : Int
  sigma : Int
  alpha : Int
  /-- A of KIND 1 and 2, P of KIND 3 -/
  a : List (List Int)
  /-- b, or q -/
  b : List Int
  /-- A of KIND 3 -/
  c : List (List Int)
  lo : List Int
  hi : List Int
  /-- the starting iterate of KIND 3 (x, z, y) -/
  warm : List Int
  deriving DecidableEq, Repr

/-- An entry of a symmetric matrix whose lower triangle is read. -/
def symEnt (a : List (List Int)) (i j : Nat) : Int := if j ≤ i then ent a i j else ent a j i

/-- The input matrix of KIND 1 and 2 (R249). -/
def Problem.input (p : Problem) (i j : Nat) : Int := if p.kind = 2 then symEnt p.a i j else ent p.a i j

/-- The KKT matrix of KIND 3, lower triangle (R256). -/
def Problem.kkt (p : Problem) : Slv (List (List Int)) :=
  (List.range (p.n + p.m)).mapM (fun i => (List.range (p.n + p.m)).mapM (fun j => do
    if i < p.n then
      if j < p.n then (if i = j then addS (symEnt p.a i j) p.sigma else return symEnt p.a i j)
      else return ent p.c (j - p.n) i
    else if j < p.n then return ent p.c (i - p.n) j
    else return (if i = j then -p.rhoInv else 0)))

/-- A factor ready for solves: of LU, or of LDLᵀ. -/
structure Factor where
  lu : Bool
  l : List (List Int)
  perm : List Nat
  d : List Int

/-- The factorisation of a problem (R253, R254, R256). -/
def Problem.factor (p : Problem) : Slv Factor := do
  if p.kind = 1 then
    let t ← luS p.n p.fm p.eps p.a
    return { lu := true, l := t.1, perm := t.2, d := [] }
  else if p.kind = 2 then
    let t ← ldlS p.n p.fm p.eps p.a
    return { lu := false, l := t.1, perm := [], d := t.2 }
  else
    let t ← ldlS (p.n + p.m) p.fm p.eps (← p.kkt)
    return { lu := false, l := t.1, perm := [], d := t.2 }

/-- A solve (R255). -/
def Factor.solve (f : Factor) (n fm : Nat) (b : List Int) : Slv (List Int) :=
  if f.lu then luSolveS n fm f.l f.perm b else ldlSolveS n fm f.l f.d b

/-- What a problem has come to: its iterate (x, or x, z, y), and what the residuals are formed from. -/
structure Iterate where
  v : List Int
  /-- r of the last refinement step, or rs(RHO × (z − zprev)) of the last iteration -/
  last : List Int

/-- One refinement step (R255). -/
def Problem.refine (p : Problem) (f : Factor) (t : Iterate) : Slv Iterate := do
  let r ← (List.range p.n).mapM (fun i =>
    rowS p.fm (nth 0 p.b i) ((List.range p.n).map (fun j => (p.input i j, nth 0 t.v j))))
  let d ← f.solve p.n p.fm r
  let x ← (t.v.zip d).mapM (fun e => addS e.1 e.2)
  return { v := x, last := r }

/-- clip of R256. -/
def clipS (v lo hi : Int) : Int :=
  if hi < lo then clampInt (-(2 ^ 31)) (2 ^ 31 - 1) (Config.clipCrossed v lo hi) else clampInt lo hi v

/-- One ADMM iteration (R256). -/
def Problem.iterate (p : Problem) (f : Factor) (t : Iterate) : Slv Iterate := do
  let x := t.v.take p.n
  let z := (t.v.drop p.n).take p.m
  let y := t.v.drop (p.n + p.m)
  let mul := mulS p.fm
  let r1 ← (x.zip p.b).mapM (fun e => do addS (← mul p.sigma e.1) (-e.2))
  let r2 ← (z.zip y).mapM (fun e => do addS e.1 (-(← mul p.rhoInv e.2)))
  let xv ← f.solve (p.n + p.m) p.fm (r1 ++ r2)
  let xt := xv.take p.n
  let v := xv.drop p.n
  let one := 2 ^ p.fm - p.alpha
  let mix (a b : Int) : Slv Int := do addS (← mul p.alpha a) (← mul one b)
  let zt ← ((z.zip v).zip y).mapM (fun e => do addS e.1.1 (← mul p.rhoInv (← addS e.1.2 (-e.2))))
  let x1 ← (xt.zip x).mapM (fun e => mix e.1 e.2)
  let zr ← (zt.zip z).mapM (fun e => mix e.1 e.2)
  let zn ← ((zr.zip y).zip (p.lo.zip p.hi)).mapM (fun e => do
    return clipS (← addS e.1.1 (← mul p.rhoInv e.1.2)) e.2.1 e.2.2)
  let y1 ← ((y.zip zr).zip zn).mapM (fun e => do addS e.1.1 (← mul p.rho (← addS e.1.2 (-e.2))))
  let dual ← (zn.zip z).mapM (fun e => do mul p.rho (← addS e.1 (-e.2)))
  return { v := x1 ++ zn ++ y1, last := dual }

/-- k steps of a kind. -/
def stepsS (step : Iterate → Slv Iterate) : Nat → Iterate → Slv Iterate
  | 0, t => return t
  | k + 1, t => do stepsS step k (← step t)

/-- The factorisation phase and then k steps (R255 to R257). -/
def Problem.run (p : Problem) (k : Nat) : Slv Iterate := do
  let f ← p.factor
  if p.kind = 3 then stepsS (p.iterate f) k { v := p.warm, last := [] }
  else
    let x ← f.solve p.n p.fm p.b
    stepsS (p.refine f) k { v := x, last := [] }

/-- The greatest magnitude of a list, saturating. -/
def maxAbsS (xs : List Int) : Slv Nat := do
  let z ← satS 32 (xs.foldl (fun a x => max a (x.natAbs : Int)) 0)
  return z.toNat

/-- PRIM_RES and DUAL_RES of a returned iterate (R261). -/
def Problem.residuals (p : Problem) (t : Iterate) : Slv (Nat × Nat) := do
  if p.kind = 3 then
    let rs ← (List.range p.m).mapM (fun i => do
      let ax ← rsS (← accS 0 ((List.range p.n).map (fun j => ent p.c i j * nth 0 t.v j))) p.fm
      return ax - nth 0 t.v (p.n + i))
    return (← maxAbsS rs, ← maxAbsS t.last)
  else return (← maxAbsS t.last, 0)

/-! ## Problem records (R259) -/

/-- A pointer that obeys R258: this node's HBM3E, Shale or Pool. -/
def State.slvPtr (s : State) (p : Nat) : Bool :=
  !reservedNode (ptrNode p) && !s.namesOther p && (match windowOf (ptrOff p) with
    | .hbm | .shale | .pool => true
    | _ => false)

/-- A header obeys R259 for a kind. -/
def headerOk (kind : Nat) (h : List Byte) : Bool :=
  let n := leAt h 0 2
  let m := leAt h 2 2
  let fm := leAt h 4 1
  let it := leAt h 6 2
  let pos (o : Nat) : Bool := 1 ≤ leAt h o 4 && leAt h o 4 < 2 ^ 31
  1 ≤ n && n ≤ 64 && (if kind = 3 then 1 ≤ m && m ≤ 128 else m == 0) && 8 ≤ fm && fm ≤ 30 && 8 ≤ leAt h 5 1 &&
  leAt h 5 1 ≤ 30 && (if kind = 3 then 1 ≤ it else it ≤ 15) && pos 8 &&
  (if kind = 3 then pos 12 && pos 16 && pos 20 && 1 ≤ leAt h 24 4 && leAt h 24 4 ≤ 2 ^ (fm + 1) - 1
    else allZero (slice h 12 16)) &&
  leAt h 28 4 == 0 && allZero (slice h 56 8) && leAt h 32 8 % 4 == 0

/-- Values of the vector that WARMV and OUT hold. -/
def outLen (kind n m : Nat) : Nat := if kind = 3 then n + 2 * m else n
/-- Values of the input arrays. -/
def dataLen (kind n m : Nat) : Nat := if kind = 3 then n * n + n + m * n + 2 * m else n * n + n

/-- 32-bit values of bytes. -/
def ints (bs : List Byte) : List Int := (chunksOf (bs.length / 4 + 1) 4 bs).map (fun b => sext 32 (leNat b))

/-- A pointer's range is one that a job command may reach; n bytes of it. -/
def State.slvReach (s : State) (b : JobSlot) (p n : Nat) (wr : Bool) : Bool :=
  s.slvPtr p && (s.firstBad 5 b.tag false (ptrOff p) n (!wr) wr).isNone

/-- What a problem record gives. -/
inductive Loaded where
  /-- its header breaks R259 -/
  | bad
  /-- its inputs are not delivered -/
  | unread
  | ok (p : Problem) (out : Nat) (warm : List Int)

/-- A problem's header, inputs and warm vector read (R259). -/
def State.loadProblem (s : State) (b : JobSlot) (x : Batch) (i : Nat) : State × Loaded :=
  match s.loadOff (ptrOff (x.probs.toNat + i * x.pstride)) 64 with
  | (s, some (some h)) =>
    let n := leAt h 0 2
    let m := leAt h 2 2
    let warmv := leAt h 40 8
    let ol := outLen x.kind n m
    let dl := dataLen x.kind n m
    if !headerOk x.kind h || !s.slvReach b (leAt h 32 8) (4 * dl) false || !s.slvReach b (leAt h 48 8) (4 * ol) true ||
        !(warmv = 0 || s.slvReach b warmv (4 * ol) false) then (s, .bad)
    else
      let r := s.loadOff (ptrOff (leAt h 32 8)) (4 * dl)
      let w := if warmv = 0 then (r.1, some (some (leBytes (4 * ol) 0))) else r.1.loadOff (ptrOff warmv) (4 * ol)
      match r.2.join, w.2.join with
      | some ds, some ws =>
        let v := ints ds
        let rows (o k : Nat) : List (List Int) := (List.range k).map (fun i => (v.drop (o + i * n)).take n)
        let part (o k : Nat) : List Int := (v.drop o).take k
        let q (o : Nat) : Int := sext 32 (leAt h o 4)
        let c := n * n + n
        let p : Problem :=
          { kind := x.kind, n := n, m := m, fm := leAt h 4 1, fv := leAt h 5 1, iters := leAt h 6 2, eps := leAt h 8 4,
            rho := q 12, rhoInv := q 16, sigma := q 20, alpha := (leAt h 24 4 : Int), a := rows 0 n, b := part (n * n) n,
            c := if x.kind = 3 then rows c m else [], lo := part (c + m * n) m, hi := part (c + m * n + m) m,
            warm := if x.warm then ints ws else List.replicate ol 0 }
        (w.1, .ok p (ptrOff (leAt h 48 8)) (ints ws))
      | _, _ => (w.1, .unread)
  | (s, some none) => (s, .unread)
  | (s, none) => (s, .bad)

/-! ## The end of a problem (R261) -/

/-- A result record (R261). -/
def resultRecord (status iters : Nat) (f : SlvFlags) (prim dual : Nat) : List Byte :=
  leBytes 2 status ++ leBytes 2 iters ++ leBytes 2 (min f.regs 0xFFFF) ++ leBytes 2 f.first ++ leBytes 4 prim ++
  leBytes 4 dual ++ leBytes 16 0

/-- PIVOT_REGULARISED and OVERFLOW of a STATUS (R261). -/
def SlvFlags.status (f : SlvFlags) : Nat := b2n (decide (0 < f.regs)) + 2 * b2n f.ovf

/-- A batch changed. -/
def State.updBatch (s : State) (x : Batch) (f : Batch → Batch) : State :=
  { s with batches := updFirst (fun y => y.q == x.q && y.seq == x.seq) f s.batches }

/-- A problem has ended with a record: its events and the unit's count (R261, R268, R269). -/
def State.problemEnd (s : State) (x : Batch) (i : Nat) (rec : List Byte) : State :=
  let st := leAt rec 0 2
  let s := s.updBatch x (fun y => { y with ended := minsert y.ended i rec })
  let s := if tbit st 0 then s.raise .slvPivotReg else s
  let s := if tbit st 1 then s.raise .slvOverflow else s
  let s := if tbit st 2 || tbit st 3 then s.raise .slvDeadline else s
  match s.servingCluster (x.first + i % x.nclusters) with
  | some p => s.setReg .sluDone [p] (BitVec.ofNat 64 (satInc 64 (s.reg .sluDone [p]).toNat))
  | none => s

/-- A problem's output vector written. -/
def State.writeOut (s : State) (o : Nat) (v : List Int) : State :=
  s.storeOff o (v.flatMap (fun z => leBytes 4 (toBits 32 z)))

/-- A problem runs k steps after its factorisation phase and ends with a deadline flag or without (R255 to R257, R263). -/
def State.runProblem (s : State) (x : Batch) (i k : Nat) (deadline : Bool) (p : Problem) (out : Nat) : State :=
  let r := (do
    let t ← p.run k
    let e ← p.residuals t
    return (t, e) : Slv (Iterate × Nat × Nat)).run {}
  let s := s.writeOut out r.1.1.v
  s.problemEnd x i (resultRecord (r.2.status + 4 * b2n deadline) k r.2 r.1.2.1 r.1.2.2)

/-- The problem of a batch that a unit takes next: the lowest that has not ended, of those the unit of a logical cluster
solves (R260). -/
def Batch.nextOn (x : Batch) (l : Nat) : Option Nat :=
  (List.range x.count).find? (fun p => x.first + p % x.nclusters == l && (mfind x.ended p).isNone)

/-! ## The end of a batch (R260, R262) -/

/-- STATUS of an ended problem. -/
def Batch.statusOf (x : Batch) (i : Nat) : Nat := leAt ((mfind x.ended i).getD []) 0 2

/-- Result records written, the tally target signalled, and the command answered (R260, R268). -/
def State.endBatch (s : State) (x : Batch) (a : Answer) (signal : Bool) : State :=
  let s := x.ended.foldl (fun s e => s.storeOff (ptrOff x.results.toNat + 32 * e.1) e.2) s
  let s := if signal then
      (match s.job x.job with
      | some b => s.signalTally x.job x.tally (s.runCtx b (sigNode x.tally.toNat))
      | none => s)
    else s
  let s := { s with batches := s.batches.filter (fun y => !(y.q == x.q && y.seq == x.seq)) }
  let s := s.setReg .slvLast [] (BitVec.ofNat 64 (x.q * 2 ^ 48 + a.status * 2 ^ 32 + x.seq.toNat))
  s.finish x.q x.seq a

/-- The batch of a command. -/
def State.findBatch (s : State) (q : Nat) (seq : W32) : Option Batch := s.batches.find? (fun y => y.q == q && y.seq == seq)

/-- A batch whose last problem has ended replies (R260, R262). -/
def State.settleBatch (s : State) (q : Nat) (seq : W32) : State :=
  match s.findBatch q seq with
  | none => s
  | some x =>
    if x.ended.length < x.count then s
    else
      let sts := (List.range x.count).map x.statusOf
      let bad := (sts.filter (· ≠ 0)).length
      let late := (sts.filter (fun t => tbit t 2 || tbit t 3)).length
      let ran := (sts.filter (fun t => bits t 5 2 = 0)).length
      let status := if x.unread then Status.uncorrectable else if bad = 0 then Status.success else Status.itemStatus
      s.endBatch x { status := status, detail := min bad 0xFFFF, r0 := ran, r1 := late } true

/-- A batch is stopped (R265): problems not yet ended are NOT_RUN. -/
def State.stopBatch (s : State) (x : Batch) (status : Nat) (signal : Bool) : State :=
  let rest := (List.range x.count).filter (fun i => (mfind x.ended i).isNone)
  let x1 : Batch := { x with ended := rest.foldl (fun m i => minsert m i (resultRecord 16 0 {} 0 0)) x.ended }
  (s.raise .slvAbort).endBatch x1 (.st status) signal

/-- Batches of a job that wait for AFTER_STEP start once SCH.STEP has reached it (R258, R263). -/
def State.startBatches (s : State) (j : Nat) : State :=
  match s.job j with
  | none => s
  | some b =>
    { s with batches := s.batches.map (fun (x : Batch) =>
        if x.job = j && x.start.isNone && x.afterStep.toNat ≤ b.step.toNat then { x with start := some s.now } else x) }

/-! ## The commands -/

/-- SLV_BATCH's field checks (R258). -/
def slvBatchParam (p : List Nat) : Nat :=
  let a (i : Nat) : Nat := nth 0 p i
  if a 0 % 64 ≠ 0 || a 1 % 32 ≠ 0 || a 2 = 0 || 65536 < a 2 || a 3 = 0 || a 3 % 64 ≠ 0 ||
      !(a 4 = 0 || (1000 ≤ a 4 && a 4 ≤ 10000000000)) || !tallyForm (BitVec.ofNat 64 (a 5)) || a 7 = 0 || 3 < a 7 || 1 < a 8 ||
      a 9 ≠ 0 || a 11 = 0 then Status.badParam
  else 0

/-- SLV_ABORT's field checks (R265). -/
def slvAbortParam (p : List Nat) : Nat := if 1 < nth 0 p 1 then Status.badParam else 0

/-- SLV_BATCH (R258). -/
def execSlvBatch (q : QueueId) (seq : BitVec 32) (s : State) : Out1 :=
  .next (s.runJobCmd 0x0501 q.val seq (fun s c j b =>
    let bytes := (c.arg 2 - 1) * c.arg 3 + 64
    if !(b.first ≤ c.arg 10 && c.arg 10 + c.arg 11 ≤ b.first + b.count) || !s.slvPtr (c.arg 0) || !s.slvPtr (c.arg 1) then
      s.finishCmd c (.st Status.badParam)
    else if c.arg 4 ≠ 0 && b.ordered then s.finishCmd c (.st Status.deadlineInOrdered)
    else
      match s.jobBad c (c.arg 0) bytes true false, s.jobBad c (c.arg 1) (32 * c.arg 2) false true with
      | some o, _ => s.finishCmd c (addrAnswer o)
      | none, some o => s.finishCmd c (addrAnswer o)
      | none, none =>
        if 64 ≤ s.batches.length then s.finishCmd c (.st Status.slvBusy)
        else
          let x : Batch :=
            { q := c.q, seq := c.seq, job := j, probs := BitVec.ofNat 64 (c.arg 0), results := BitVec.ofNat 64 (c.arg 1),
              count := c.arg 2, pstride := c.arg 3, deadline := c.arg 4, tally := BitVec.ofNat 64 (c.arg 5),
              afterStep := BitVec.ofNat 64 (c.arg 6), kind := c.arg 7, warm := c.arg 8 = 1, first := c.arg 10,
              nclusters := c.arg 11, start := none, ended := [], unread := false }
          (({ s with batches := s.batches ++ [x] }).waitCmd c .batch).startBatches j))

/-- SOLVER_PROBLEM (R260): the solver unit of a logical cluster takes its next problem of the oldest batch that has one,
and runs its fixed steps. -/
def execSolverProblem (l : LClusterId) (s : State) : Out1 :=
  .next (
    match s.batches.find? (fun x => x.start.isSome && (x.nextOn l.val).isSome) with
    | none => s
    | some x =>
      match x.nextOn l.val, s.job x.job with
      | some i, some b =>
        let s := (match s.loadProblem b x i with
          | (s, .ok p out _) => s.runProblem x i p.iters false p out
          | (s, .bad) => s.problemEnd x i (resultRecord 32 0 {} 0 0)
          | (s, .unread) => (s.updBatch x (fun y => { y with unread := true })).problemEnd x i (resultRecord 32 0 {} 0 0))
        s.settleBatch x.q x.seq
      | _, _ => s)

/-- A problem ends at the deadline in its factorisation phase or before (R263): the warm vector is its output; the flags
raised so far are those of some part of the phase, a free value (log entry 3). -/
def State.cutEarly (s : State) (x : Batch) (i : Nat) (started : Bool) (p : Problem) (out : Nat) (warm : List Int) : State :=
  let whole := (p.factor.run {}).2
  let regs := Config.free s.free % (whole.regs + 1)
  let f : SlvFlags :=
    if started then { ovf := whole.ovf && Config.freeBool s.free, regs := regs, first := if regs = 0 then 0xFFFF else whole.first }
    else {}
  let res := ((p.residuals { v := warm, last := [] }).run {}).1
  (s.bump.writeOut out warm).problemEnd x i (resultRecord (f.status + 8) 0 f res.1 res.2)

/-- SLV_DEADLINE_EXPIRY (R263): `progress` gives, for the problem that each unit has in hand, the steps it has completed, none
in its factorisation phase. -/
def execSlvDeadlineExpiry (q : QueueId) (seq : BitVec 32) (progress : List (Nat × Option Nat)) (s : State) : Out1 :=
  .next (
    match s.findBatch q.val seq with
    | none => s
    | some x =>
      match x.start, s.job x.job with
      | some t, some b =>
        if x.deadline = 0 || s.now < t + x.deadline then s
        else
          let open_ := (List.range x.count).filter (fun i => (mfind x.ended i).isNone)
          let s := open_.foldl (fun s i =>
            let inHand := if x.nextOn (x.first + i % x.nclusters) = some i then progress.find? (fun e => e.1 == i) else none
            match s.loadProblem b x i with
            | (s, .bad) => s.problemEnd x i (resultRecord 32 0 {} 0 0)
            | (s, .unread) => (s.updBatch x (fun y => { y with unread := true })).problemEnd x i (resultRecord 32 0 {} 0 0)
            | (s, .ok p out warm) =>
              match inHand with
              | none => s.cutEarly x i false p out warm
              | some (_, none) => s.cutEarly x i true p out warm
              | some (_, some k) =>
                if p.iters ≤ k then s.runProblem x i p.iters false p out else s.runProblem x i k true p out) s
          s.settleBatch q.val seq
      | _, _ => s)

/-- SLV_ABORT (R265). -/
def execSlvAbort (q : QueueId) (seq : BitVec 32) (s : State) : Out1 :=
  .next (s.runJobCmd 0x0502 q.val seq (fun s c j _ =>
    let all := c.arg 1 = 1
    let xs := s.batches.filter (fun x => x.job == j && (all || (x.q == c.arg 0 && x.seq.toNat == c.arg 2)))
    if !all && xs.isEmpty then s.finishCmd c (.st Status.slvNoBatch)
    else (xs.foldl (fun s x => s.stopBatch x Status.slvAborted true) s).finishCmd c (.ok xs.length)))

end Sys2Proof.Machine
end

