-- ==== Sys2Proof/Machine/Schedule.lean ====
section
/-! DEFINITION. Jobs and schedules (R20 to R22, R92 to R107, R376, R399): JOB_BEGIN, schedule tables, the scoreboard, the
commit of units, fences and the ends of a schedule. -/

namespace Sys2Proof.Machine

/-! ## JOB_BEGIN (R92, R399) -/

/-- JOB_BEGIN's field checks, the tag apart (R92). -/
def jobBeginParam (p : List Nat) : Nat :=
  if nth 0 p 1 = 0 || 640 < nth 0 p 0 + nth 0 p 1 || 1 < nth 0 p 2 then Status.badParam else 0

/-- The lowest CLOSED entry of a link's job filter (R399). -/
def State.closedFilter (s : State) (n : Nat) : Option Nat := leastFrom (fun e => (s.filter n e).st == .closed) 0 256

/-- JOB_BEGIN's entry on a link: WAITING while an entry of the same tag is DRAINING there, else OPEN (R398, R399). -/
def State.openFilter (s : State) (n : Nat) (tag : W16) (epoch : Byte) : State :=
  match s.closedFilter n with
  | none => s
  | some e =>
    let draining := (List.range 256).any (fun i => (s.filter n i).st == .draining && (s.filter n i).tag == tag)
    s.setFilter n e { tag := tag, epoch := epoch, st := if draining then .waiting else .open, remembered := false }

/-- Two ranges of logical clusters overlap. -/
def overlaps (a n b m : Nat) : Bool := a < b + m && b < a + n

/-- The tallies of logical cores lo to lo + n − 1 (16l + k) below index t are 0 (R92, R103). -/
def State.clearTallies (s : State) (lo n t : Nat) : State :=
  { s with tallies := s.tallies.filter (fun e => !(256 * lo ≤ e.1 && e.1 < 256 * (lo + n) && e.1 % 256 < t)) }

/-- Every weight version of the serving cores of a job is discarded, and the next is number 1 (R92, R208). -/
def State.clearVersions (s : State) (b : JobSlot) : State :=
  b.cores.foldl (fun s lc => match s.servingCore (lc / 16) (lc % 16) with
    | some c =>
      s.setCore c { s.core c with versions := [], nextVersion := 1, versionsAtIssue := [], nextVersionAtIssue := 1 }
    | none => s) s

/-- The job is opened in a slot, with the placement in force (R92, R399). -/
def State.openJob (s : State) (c : Started) (j : Nat) : State :=
  let place := match s.placement with
    | some p => p.place
    | none => []
  let b : JobSlot := {
    tag := c.tag, epoch := c.epoch, first := c.arg 0, count := c.arg 1, ordered := tbit (c.arg 2) 0, teardown := false
    step := 0, varyCur := 0, varyLast := 0, ran := false, run := none, routes := none, tree := none
    confluence := (upFrom (c.arg 0) (c.arg 1)).filterMap (fun l => (mfind place l).map (fun r => (l, r.phys))) }
  let s := (s.setJob j b).setSnap j { SnapJob.zero with lastCut := s.now }
  let s := (s.clearTallies (16 * b.first) (16 * b.count) 256).clearVersions b
  let s := (List.range 48).foldl (fun s n => s.openFilter n c.tag c.epoch) s
  let version := match s.placement with
    | some p => p.mapVersion.toNat
    | none => 0
  s.finishCmd c (.ok j version)

/-- JOB_BEGIN (R20 to R22, R67, R92, R399). -/
def execJobBegin (q : QueueId) (seq : BitVec 32) (s : State) : Out1 :=
  .next (s.runCmd 0x0301 q.val seq (fun s c =>
    if c.tag = 0 then s.finishCmd c (.st Status.badParam)
    else if s.jobs.any (fun e => e.2.tag == c.tag) then
      s.finishCmd c { status := Status.jobTagInUse,
                      detail := if s.jobs.any (fun e => e.2.tag == c.tag && e.2.epoch == c.epoch) then 1 else 2 }
    else if s.jobs.any (fun e => overlaps (c.arg 0) (c.arg 1) e.2.first e.2.count) then s.finishCmd c (.st Status.clustersBusy)
    else
      match leastFrom (fun j => (s.job j).isNone) 0 16 with
      | none => s.finishCmd c (.st Status.noSlot)
      | some j =>
        if (List.range 48).any (fun n => (s.closedFilter n).isNone) then s.finishCmd c (.st Status.jobFilterFull)
        else if s.placement.isSome then s.openJob c j
        else
          let s := s.applyDisables
          match s.flash.map.failedDies with
          | [] => { s with placement := some s.flash.map.placement }.openJob c j
          | d :: ds =>
            s.nodeLoss.finishCmd c { status := Status.placementFailed, detail := d, r0 := ofSetBits (d :: ds) }))

/-! ## Tables (R94 to R98) -/

/-- A table's header (R95). -/
def readTable (j base len : Nat) (h : List Byte) : TableSlot :=
  { job := j, ordered := tbit (leAt h 4 2) 0, span := tbit (leAt h 4 2) 1, stepTallies := leAt h 6 2
    firstCluster := leAt h 8 2, clusters := leAt h 10 2, steps := leAt h 12 4, unitCount := leAt h 32 4, base := base
    length := len, stepIndex := leAt h 16 8, units := leAt h 24 8, ctxMap := leAt h 40 8 }

/-- Index and count of a step-index entry (R95). -/
def entryFirst (e : Nat) : Nat := bits e 63 32
/-- The unit count of a step-index entry (R95). -/
def entryCount (e : Nat) : Nat := bits e 9 0

/-- Offset in the image of the step-index entry of a step and a logical cluster (R95). -/
def TableSlot.entryAt (t : TableSlot) (step l : Nat) : Nat := t.stepIndex + (step * t.clusters + l - t.firstCluster) * 8

/-- A work-unit descriptor (R96) of a logical cluster; waits and signals beyond NWAIT and NSIG are ignored (R97). -/
def readUnit (l : Nat) (d : List Byte) : UnitRec :=
  let w0 := leAt d 0 8
  { lcluster := l, lcore := bits (leAt d 8 8) 53 50, unit := BitVec.ofNat 16 (leAt d 8 2), entry := bits w0 50 0
    param := bits (leAt d 16 8) 50 0, varies := tbit w0 63
    waits := (List.range (min 4 (bits w0 62 60))).map (fun i => BitVec.ofNat 32 (leAt d (24 + 4 * i) 4))
    sigs := (List.range (min 4 (bits w0 59 57))).map (fun i => BitVec.ofNat 48 (leAt d (40 + 6 * i) 6))
    st := .waiting, journal := [], unreplayable := false, checks := 0, contribs := [] }

/-- A descriptor's fields that R94 cause 4 names, its logical cluster apart. -/
def unitFieldsOk (d : List Byte) : Bool :=
  let w0 := leAt d 0 8
  bits w0 62 60 ≤ 4 && bits w0 59 57 ≤ 4 && bits w0 56 51 == 0 && w0 % 4 == 0 && bits (leAt d 8 8) 49 16 == 0 &&
  bits (leAt d 16 8) 63 51 == 0

/-- The lowest cause for which SCHED_LOAD refuses an image that lies in job space (R94); none where there is none. -/
def State.tableCause (s : State) (b : JobSlot) (t : TableSlot) (img : List Byte) : Option Nat :=
  let ends : List (Nat × Nat) := [(t.stepIndex, t.steps * t.clusters * 8), (t.units, t.unitCount * 64)] ++
    (if t.ctxMap = 0 then [] else [(t.ctxMap, 16384)])
  if leAt img 0 4 ≠ 0x00010000 || ends.any (fun e => t.length < e.1 + e.2) then some 1
  else if 3 < leAt img 4 2 || 256 < t.stepTallies || t.clusters = 0 || 640 < t.clusters || t.steps = 0 || 1048576 < t.steps ||
      leAt img 36 4 ≠ 0 || leAt img 48 16 ≠ 0 || t.firstCluster < b.first ||
      b.first + b.count < t.firstCluster + t.clusters then some 2
  else
    let entries := (List.range (t.steps * t.clusters)).map (fun i => (t.firstCluster + i % t.clusters, leAt img (t.stepIndex + 8 * i) 8))
    if entries.any (fun e => 512 < entryCount e.2 || t.unitCount < entryFirst e.2 + entryCount e.2 || bits e.2 31 10 ≠ 0) then
      some 3
    else
      let descs := (List.range t.unitCount).map (fun i => slice img (t.units + 64 * i) 64)
      let strays := entries.any (fun e => (upFrom (entryFirst e.2) (entryCount e.2)).any (fun i =>
        bits (leAt img (t.units + 64 * i + 8) 8) 63 54 != e.1))
      let units := descs.map (readUnit 0)
      let sigs := units.flatMap (fun u => u.sigs.map (fun (x : Signal) => x.toNat))
      let unmapped (x : Nat) : Bool := !reservedNode (sigNode x) && s.isOther (sigNode x) &&
        (t.ctxMap = 0 || tbit (leAt img (t.ctxMap + 4 * sigNode x) 4) 31)
      if strays || !descs.all unitFieldsOk then some 4
      else if t.ordered && units.any (·.varies) then some 5
      else if t.ordered != b.ordered then some 6
      else if sigs.any unmapped then some 7
      else if sigs.any (s.sigBad b.first b.count) then some 8
      else none

/-- SCHED_LOAD (R94). -/
def execSchedLoad (q : QueueId) (seq : BitVec 32) (s : State) : Out1 :=
  .next (s.runJobCmd 0x0303 q.val seq (fun s c j b =>
    let o := ptrOff (c.arg 0)
    let n := c.arg 1
    let invalid (s : State) (d : Nat) : State := s.finishCmd c { status := Status.tableInvalid, detail := d }
    if n < 64 || windowOf o != .hbm || (s.jobBad c (c.arg 0) n true false).isSome then invalid s 1
    else
      let r := s.loadOff o n
      match r.2.join with
      | none => r.1.finishCmd c (.st Status.uncorrectable)
      | some img =>
        let s := r.1
        let t := readTable j o n img
        match s.tableCause b t img, leastFrom (fun i => (mfind s.tables i).isNone) 0 16 with
        | some d, _ => invalid s d
        | none, none => s.finishCmd c (.st Status.noSlot)
        | none, some i => { s with tables := minsert s.tables i t }.finishCmd c (.ok i)))

/-- The table of a slot, where it belongs to a job. -/
def State.tableOf (s : State) (j i : Nat) : Option TableSlot :=
  match mfind s.tables i with
  | some t => if t.job = j then some t else none
  | none => none

/-- SCHED_UNLOAD's field check (R92). -/
def schedUnloadParam (p : List Nat) : Nat := if 15 < nth 0 p 0 then Status.badParam else 0

/-- SCHED_UNLOAD (R92). -/
def execSchedUnload (q : QueueId) (seq : BitVec 32) (s : State) : Out1 :=
  .next (s.runJobCmd 0x0304 q.val seq (fun s c j b =>
    let i := c.arg 0
    let busy := match b.run with
      | some r => r.slot == i
      | none => false
    if 15 < i then s.finishCmd c (.st Status.badParam)
    else if (s.tableOf j i).isNone then s.finishCmd c (.st Status.slotEmpty)
    else if busy then s.finishCmd c (.st Status.schedBusy)
    else { s with tables := merase s.tables i }.finishCmd c (.ok)))

/-! ## A step is loaded (R101) -/

/-- A logical cluster's units of a step, in table order; none where a word of the table is uncorrectable (R101, R105). -/
def State.loadCluster (s : State) (t : TableSlot) (step l : Nat) : State × Option (List UnitRec) :=
  let e := s.loadOff (t.base + t.entryAt step l) 8
  match e.2.join with
  | none => (e.1, none)
  | some bs =>
    let n := entryCount (leNat bs)
    let r := e.1.loadOff (t.base + t.units + 64 * entryFirst (leNat bs)) (64 * n)
    (r.1, r.2.join.map (fun ds => (List.range n).map (fun i => readUnit l (slice ds (64 * i) 64))))

/-- The step under way of a job is loaded by its cluster schedulers (R101); the first cluster whose table words are
uncorrectable ends the schedule (R105). -/
def State.loadStep (s : State) (j : Nat) : State :=
  match s.job j with
  | none => s
  | some b =>
    match b.run with
    | none => s
    | some r =>
      match mfind s.tables r.slot with
      | none => s
      | some t =>
        let x := (upFrom t.firstCluster t.clusters).foldl (fun (x : State × List UnitRec × List Nat) l =>
          let y := x.1.loadCluster t r.cur l
          match y.2 with
          | some us => (y.1, x.2.1 ++ us, x.2.2)
          | none => (y.1, x.2.1, x.2.2 ++ [l])) (s, [], [])
        let s := x.1.updRun j (fun r => { r with units := x.2.1, stepStart := s.now, upSent := false })
        match x.2.2 with
        | [] => s
        | l :: _ => (s.schedEnd j Status.uncorrectable l 0 0xFFFF true).schedSettle j

/-! ## SCHED_RUN, SCHED_HALT, STEP_WAIT (R92, R101, R105) -/

/-- SCHED_RUN's field checks that come first (R101). -/
def schedRunParam (p : List Nat) : Nat :=
  let t := nth 0 p 4
  if 15 < nth 0 p 0 || nth 0 p 3 = 0 || !(t = 0 || (1000 ≤ t && t ≤ 10000000000)) then Status.badParam else 0

/-- SCHED_RUN (R101). -/
def execSchedRun (q : QueueId) (seq : BitVec 32) (s : State) : Out1 :=
  .next (s.runJobCmd 0x0305 q.val seq (fun s c j b =>
    match s.tableOf j (c.arg 0) with
    | none => s.finishCmd c (.st Status.slotEmpty)
    | some t =>
      if t.steps < c.arg 1 + c.arg 2 then s.finishCmd c (.st Status.badParam)
      else if b.run.isSome then s.finishCmd c (.st Status.schedBusy)
      else if c.arg 2 = 0 then (s.setJob j { b with ran := true }).finishCmd c (.ok 0 b.step.toNat)
      else
        let r : SchedRun := {
          q := c.q, seq := c.seq, slot := c.arg 0, first := c.arg 1, count := c.arg 2, rep := c.arg 3, timeout := c.arg 4
          cur := c.arg 1, done := 0, fences := 0, stepStart := s.now, units := [], halts := [], ending := none
          haltReq := false, upSent := false }
        ((s.waitCmd c (.sched j)).setJob j { b with run := some r, ran := true }).loadStep j))

/-- SCHED_HALT (R92). -/
def execSchedHalt (q : QueueId) (seq : BitVec 32) (s : State) : Out1 :=
  .next (s.runJobCmd 0x0306 q.val seq (fun s c j b =>
    if b.run.isNone then s.finishCmd c (.ok b.step.toNat)
    else (s.waitCmd c (.halt j)).updRun j (fun r => { r with haltReq := true, halts := r.halts ++ [(c.q, c.seq)] })))

/-- STEP_WAIT (R92). -/
def execStepWait (q : QueueId) (seq : BitVec 32) (s : State) : Out1 :=
  .next (s.runJobCmd 0x0307 q.val seq (fun s c j b =>
    if c.arg 0 ≤ b.step.toNat then s.finishCmd c (.ok b.step.toNat)
    else s.waitCmd c (.step j (BitVec.ofNat 64 (c.arg 0)))))

/-! ## TALLY_SET and TALLY_READ (R92, R100) -/

/-- The field check of TALLY_SET and TALLY_READ: the form of the tally target (R85, R88 check 7). -/
def tallyParam (p : List Nat) : Nat :=
  let t : Word := BitVec.ofNat 64 (nth 0 p 0)
  if tallyValid t && tallyForm t then 0 else Status.badParam

/-- A target that TALLY_SET and TALLY_READ accept (R92). -/
def State.tallyTarget (s : State) (b : JobSlot) (t : Nat) : Bool :=
  tallyValid (BitVec.ofNat 64 t) && tallyForm (BitVec.ofNat 64 t) && s.isSelf (sigNode t) && b.holds (sigCluster t)

/-- TALLY_SET (R92, R100). -/
def execTallySet (q : QueueId) (seq : BitVec 32) (s : State) : Out1 :=
  .next (s.runJobCmd 0x0308 q.val seq (fun s c _ b =>
    let t := c.arg 0
    if !s.tallyTarget b t then s.finishCmd c (.st Status.badParam)
    else
      ((s.setTally (sigCluster t) (sigCore t) (sigTally t) (c.arg 1)).wakeTally (sigCluster t) (sigCore t)
        (sigTally t)).finishCmd c (.ok)))

/-- TALLY_READ (R92). -/
def execTallyRead (q : QueueId) (seq : BitVec 32) (s : State) : Out1 :=
  .next (s.runJobCmd 0x0309 q.val seq (fun s c _ b =>
    let t := c.arg 0
    if !s.tallyTarget b t then s.finishCmd c (.st Status.badParam)
    else s.finishCmd c (.ok (s.tally (sigCluster t) (sigCore t) (sigTally t)))))

/-! ## Issue (R97, R101) -/

/-- Every wait of a unit is satisfied (R97). -/
def State.waitsMet (s : State) (u : UnitRec) : Bool :=
  u.waits.all (fun w => bits w.toNat 23 0 ≤ s.tally u.lcluster u.lcore (bits w.toNat 31 24))

/-- The first unit of the step on a logical core that has not committed, where it waits to issue: its place and record. -/
def SchedRun.nextUnit (r : SchedRun) (l k : Nat) : Option (Nat × UnitRec) :=
  match r.units.findIdx? (fun u => u.lcluster == l && u.lcore == k && u.st != .committed) with
  | none => none
  | some i =>
    match r.units[i]? with
    | some u => if u.st == .waiting then some (i, u) else none
    | none => none

/-- The open job whose range holds a logical cluster. -/
def State.jobOfCluster (s : State) (l : Nat) : Option (Nat × JobSlot) := s.jobs.find? (fun e => e.2.holds l)

/-- UNIT_ISSUE (R62, R101, R112, R412): the next unit of a logical core issues where the conditions hold. -/
def execUnitIssue (l : LClusterId) (k : Fin 16) (s : State) : Out1 :=
  .next (
    match s.jobOfCluster l.val, s.servingCore l.val k.val with
    | some (j, b), some c =>
      (match b.run with
      | none => s
      | some r =>
        match r.nextUnit l.val k.val with
        | none => s
        | some (i, u) =>
          if r.ending.isNone && !b.teardown && !s.package.lost && !s.heldCluster (c / 17) && (s.core c).phase == .idle &&
              s.waitsMet u then s.issueUnit ⟨j, i⟩ b u c
          else s)
    | _, _ => s)

/-! ## Commit (R98, R102, R126) -/

/-- One signal of a committed unit is sent (R98, R126). -/
def State.sendSignal (s : State) (j : Nat) (b : JobSlot) (t : TableSlot) (lc : Nat) (unit : W16) (x : Nat) : State :=
  if s.isSelf (sigNode x) then
    if b.holds (sigCluster x) then s.addTally (sigCluster x) (sigCore x) (sigTally x) (sigAdd x) else s.dropSignal j lc unit
  else
    match s.mapEntry t.base t.ctxMap (sigNode x) with
    | none => s.dropSignal j lc unit
    | some e =>
      let c := e % 2 ^ 20
      if s.ctxUsable c b.tag b.epoch (sigNode x) s.spanNo then s.ctxRequest c Op.signal 0 x [] (.signal j lc unit)
      else s.dropSignal j lc unit

/-- The core is idle again after a commit. -/
def Core.commit (k : Core) : Core :=
  { k with phase := .idle, unit := none, sigq := [], recUpdates := [], trackUpdates := [], vbuf := [] }

/-- UNIT_COMMIT (R102, R104, R126, R186, R221, R276): a core whose program has ended. -/
def execUnitCommit (c : CoreId) (s : State) : Out1 :=
  .next (
    let k := s.core c.val
    if k.phase ≠ .ended then s
    else
      match s.unitTable k with
      | none => s
      | some (u, b, r, t) =>
        match r.units[u.idx]? with
        | none => s
        | some x =>
          let lc := 16 * x.lcluster + x.lcore
          let s := k.recUpdates.foldl State.addRecord s
          let s := k.trackUpdates.foldl State.applyTrack s
          let s := x.contribs.foldl (fun s d => s.contribute u.job lc x.unit d.1 d.2) s
          let s := s.setCore c.val (s.core c.val).commit
          let s := s.updUnit u (fun x => { x with st := .committed })
          let s := match s.job u.job with
            | some b => if x.varies then s.setJob u.job { b with varyCur := b.varyCur + 1 } else s
            | none => s
          let s := if x.checks = 1 then
              s.continuity (fun h => { h with transient := BitVec.ofNat 32 (satInc 32 h.transient.toNat) })
            else s
          ((x.sigs ++ k.sigq).foldl (fun s g => s.sendSignal u.job b t lc x.unit g.toNat) s).schedSettle u.job)

/-! ## Fences (R103, R376) -/

/-- Steps 1 and 2 of R103: every unit of the step has committed, and every copy, reduction and remote operation that units
started has completed. -/
def State.fenceReady (s : State) (j : Nat) (b : JobSlot) (r : SchedRun) : Bool :=
  let unitOp (o : ReqOrigin) : Bool := match o with
    | .core _ | .signal _ _ _ => true
    | _ => false
  r.ending.isNone && r.units.all (fun u => u.st == .committed) &&
  !(s.copies.any (fun y => match y.origin with
    | .unit k _ _ | .reduction k _ => k == j
    | _ => false)) &&
  !(s.reductions.any (fun x => x.job == j)) &&
  (s.ctxsOf b.tag b.epoch).all (fun x =>
    let e := s.ctx x
    e.queue.all (fun q => !unitOp q.origin) && e.reqs.all (fun q => q.answered || !unitOp q.origin))

/-- The STEP_WAIT commands of a job whose step has come complete (R92). -/
def State.stepReached (s : State) (j : Nat) (step : Word) : State :=
  (s.started.filter (fun c => match c.wait with
    | .step k t => k == j && decide (t.toNat ≤ step.toNat)
    | _ => false)).foldl (fun s c => s.finishCmd c (.ok step.toNat)) s

/-- After a fence, the run ends or goes on with its next step (R101, R105). -/
def State.nextStep (s : State) (j : Nat) : State :=
  match s.job j with
  | none => s
  | some b =>
    match b.run with
    | none => s
    | some r =>
      let endOfRange := r.cur + 1 = r.first + r.count
      if endOfRange && r.done + 1 = r.rep then s.endRun j Status.success
      else if r.haltReq then s.endRun j Status.halted
      else if endOfRange then (s.updRun j (fun r => { r with cur := r.first, done := r.done + 1 })).loadStep j
      else (s.updRun j (fun r => { r with cur := r.cur + 1 })).loadStep j

/-- Steps 4 and 5 of R103, the updates of tracked tensors (R223, R224), and with CUT the cut (R376, R377); then the next
step begins. `t` is the FENCE_DOWN token of a SPAN fence. -/
def State.fenceDone (s : State) (j : Nat) (t : Token) : State :=
  match s.job j with
  | none => s
  | some b =>
    match b.run with
    | none => s
    | some r =>
      let s := match mfind s.tables r.slot with
        | some tb => s.clearTallies (16 * tb.firstCluster) (16 * tb.clusters) tb.stepTallies
        | none => s
      let s := s.setJob j { b with
        step := b.step + 1, varyLast := b.varyCur, varyCur := 0, run := some { r with fences := r.fences + 1 } }
      let s := (t.fence.foldl (fun s x => s.spanUpdate j x) s).fenceTracked j
      let n := s.snap j
      let s := s.setSnap j { n with fencesSince := n.fencesSince + 1 }
      let s := (s.stepReached j (b.step + 1)).startBatches j
      (if t.cut then s.takeCut j else s).nextStep j

/-- FENCE_DOWN of a SPAN fence: passed to the children, and the fence completes (R376). -/
def State.spanFenceDone (s : State) (j : Nat) (b : JobSlot) (t : Token) : State :=
  (s.passDown j b .fenceDown t).fenceDone j t

/-- A fence goes on (R103, R376): a SPAN fence sends FENCE_UP once its children's have come, and the root turns it into
FENCE_DOWN. -/
def State.fenceTry (s : State) (j : Nat) : State :=
  match s.job j with
  | none => s
  | some b =>
    match b.run with
    | none => s.restStep j
    | some r =>
      match mfind s.tables r.slot with
      | none => s
      | some t =>
        if !s.fenceReady j b r || r.upSent then s
        else if !t.span then s.fenceDone j (blankToken b.step)
        else
          let s := s.snapFire j
          let n := s.snap j
          let want := n.phase == .want
          if (want && s.busyClasses b) || !b.heardAll n.tokens.fence then s
          else
            let own : Token := { blankToken b.step with want := want, fence := s.fenceRecs j }
            let tok := joinAll own n.tokens.fence
            let s := s.setSnap j { n with tokens := { n.tokens with fence := [] } }
            match b.treeParent with
            | some p => (s.sendToken j .fenceUp p tok).updRun j (fun r => { r with upSent := true })
            | none => s.spanFenceDone j b { tok with cut := tok.want && (n.phase == .want || n.phase == .idle) }

/-- FENCE_COMPLETE (R103): the fence of a job's step goes on where its conditions hold. -/
def execFenceComplete (j : JobSlotId) (s : State) : Out1 := .next (s.fenceTry j.val)

/-- FENCE_UP (R376): a child's token is kept until this node's own FENCE_UP. -/
def execFenceUp (j : JobSlotId) (from_ : Nat) (tok : Token) (s : State) : Out1 :=
  .next (
    match s.job j.val with
    | none => s
    | some b =>
      let n := s.snap j.val
      (s.setSnap j.val { n with tokens := { n.tokens with fence := keepToken b from_ tok n.tokens.fence } }).fenceTry j.val)

/-- FENCE_DOWN (R376, R377): from the parent, after this node's FENCE_UP. -/
def execFenceDown (j : JobSlotId) (from_ : Nat) (tok : Token) (s : State) : Out1 :=
  .next (
    match s.job j.val with
    | none => s
    | some b =>
      if b.treeParent ≠ some from_ then s
      else
        match b.run with
        | some r => if r.upSent && r.ending.isNone then s.spanFenceDone j.val b tok else s
        | none => if (s.snap j.val).rest = 2 then s.restDown j.val b tok else s)

/-- STEP_TIMEOUT (R56, R105): the step has not reached its fence in time. -/
def execStepTimeout (j : JobSlotId) (s : State) : Out1 :=
  .next (
    match s.job j.val with
    | none => s
    | some b =>
      match b.run with
      | none => s
      | some r =>
        if r.timeout = 0 || r.ending.isSome || s.now < r.stepStart + r.timeout then s
        else ((s.raise .schStepTimeout).schedEnd j.val Status.stepTimeout 0 0 0 false).schedSettle j.val)

end Sys2Proof.Machine
end

