-- ==== Sys2Proof/Machine/Teardown.lean ====
section
/-! DEFINITION. JOB_TEARDOWN (R400): its first two steps; the rest is in `Contexts.lean`. -/

namespace Sys2Proof.Machine

/-- Step 1 of R400: the job's filter entries go to TEARDOWN. -/
def State.filtersTeardown (s : State) (tag : W16) (epoch : Byte) : State :=
  (List.range 48).foldl (fun s n => match s.filterOf n tag epoch with
    | some (e, f) => s.setFilter n e { f with st := .teardown }
    | none => s) s

/-- Units in progress and held units of a job end without commit (R135, R400 step 2). -/
def State.endUnits (s : State) (j : Nat) : State :=
  let s := (s.cores.filter (fun e => match e.2.unit with
    | some u => u.job == j
    | none => false)).foldl (fun s e => s.setCore e.1 (s.core e.1).endAttempt) s
  s.updRun j (fun r => { r with units := r.units.map (fun u => if u.inProgress then { u with st := .ended } else u) })

/-- Step 2 of R400 for the job's snapshot and restore (R386). -/
def State.snapTeardown (s : State) (j : Nat) : State :=
  let n := s.snap j
  let s := match n.restore with
    | some r => s.restoreEnd j r (.st Status.aborted)
    | none => s
  if n.restore.isSome || n.phase == .idle || (n.phase == .want && n.cmd.isNone) then s else s.snapFail j Status.aborted

/-- Requests that wait for a credit are not sent any more (R400 step 3). -/
def State.dropQueues (s : State) (tag : W16) (epoch : Byte) : State :=
  (s.ctxsOf tag epoch).foldl (fun s x => s.setCtx x { s.ctx x with queue := [] }) s

/-- Steps 1 and 2 of R400 for a job slot; an end of the schedule that has already occurred keeps its status (R105, R265). -/
def State.beginTeardown (s : State) (j : Nat) (b : JobSlot) : State :=
  let s := (s.setJob j { b with teardown := true }).filtersTeardown b.tag b.epoch
  let s := ((s.endUnits j).schedEnd j Status.aborted 0 0 0 false).schedSettle j
  let s := (s.batches.filter (fun x => x.job == j)).foldl (fun s x => s.stopBatch x Status.aborted false) s
  let s := s.snapTeardown j
  let s := s.finishAll Status.aborted (fun d => match d.wait with
    | .step k _ => k == j
    | _ => false)
  s.dropQueues b.tag b.epoch

/-- JOB_TEARDOWN (R400). -/
def execJobTeardown (q : QueueId) (seq : BitVec 32) (s : State) : Out1 :=
  .next (s.runJobCmd 0x0302 q.val seq (fun s c j b =>
    ((s.beginTeardown j b).waitCmd c (.teardown j s.now)).teardownCheck j))

/-- TEARDOWN_LIMIT (R400 step 3): the wait for outstanding requests has reached its limit. -/
def execTeardownLimit (j : JobSlotId) (s : State) : Out1 :=
  .next (
    let ripe (c : Started) : Bool := match c.wait with
      | .teardown k t => k == j.val && decide (t + s.getF .timeTeardownLimit [] 31 0 * 1000000 ≤ s.now)
      | .nodeReset _ t => decide (t + s.getF .timeTeardownLimit [] 31 0 * 1000000 ≤ s.now)
      | _ => false
    let open_ := match s.job j.val with
      | some b => b.teardown
      | none => false
    if open_ && s.started.any ripe then (s.raise .timeTeardownLimit).teardownEnd j.val else s)

end Sys2Proof.Machine
end

