-- ==== Sys2Proof/Machine/Transport.lean ====
section
/-! DEFINITION. The commands of copies, contexts, messages, routes and links (R341, R343, R344, R350, R351, R360, R366,
R453). -/

namespace Sys2Proof.Machine

/-! ## MEM_COPY (R360, R453) -/

/-- MEM_COPY's checks of length, class and tally target (R85, R360). -/
def memCopyParam (p : List Nat) : Nat :=
  let n := nth 0 p 2
  if n = 0 || 16777216 < n || 2 < nth 0 p 4 || !tallyForm (BitVec.ofNat 64 (nth 0 p 5)) then Status.copyParam else 0

/-- A pointer of a copy names the host window. -/
def namesHost (p : Nat) : Bool := windowOf (ptrOff p) == .host

/-- MEM_COPY (R360, R453). -/
def execMemCopy (q : QueueId) (seq : BitVec 32) (s : State) : Out1 :=
  .next (s.runJobCmd 0x0201 q.val seq (fun s c _ _ =>
    let src := c.arg 0
    let dst := c.arg 1
    let x := c.arg 3
    let tally : Word := BitVec.ofNat 64 (c.arg 5)
    let far := s.namesOther src || s.namesOther dst
    let node := ptrNode (if s.namesOther src then src else dst)
    if !s.copyParamsOk src dst (c.arg 2) (c.arg 4) tally then s.finishCmd c (.st Status.copyParam)
    else if far && !(x < 2 ^ 20 && s.ctxUsable x c.tag c.epoch node s.spanNo) then s.finishCmd c (.st Status.ctxNotOpen)
    else
      match s.copyBad c.tag true src dst (c.arg 2) with
      | some o => s.finishCmd c (addrAnswer o)
      | none =>
        if (namesHost src || namesHost dst) && s.hostDown then s.waitCmd c (.hostDown s.now)
        else
          let s := if far then s.waitCmd c (.copy s.nextCopy) else s
          s.startCopy (.command c.q c.seq) c.tag c.epoch src dst (c.arg 2) x tally))

/-- HOST_ACCESS_TIMEOUT (R453): 10 ms after a MEM_COPY named the host window of a link that is down. -/
def execHostAccessTimeout (q : QueueId) (seq : BitVec 32) (s : State) : Out1 :=
  .next (
    match s.findStarted q.val seq with
    | none => s
    | some c =>
      match c.wait with
      | .hostDown t =>
        if s.now < t + 10000000 then s
        else s.finishCmd c (addrAnswer (ptrOff (if namesHost (c.arg 0) then c.arg 0 else c.arg 1)))
      | _ => s)

/-! ## Contexts (R350, R351) -/

/-- CTX_OPEN's field checks (R24, R85, R350). -/
def ctxOpenParam (p : List Nat) : Nat :=
  let a (i : Nat) : Nat := nth 0 p i
  if 4096 ≤ a 0 || a 2 ≠ 0 || (15 < a 3 && a 3 ≠ 0xFF) || 10000000 < a 5 || !tallyForm (BitVec.ofNat 64 (a 6)) then
    Status.badParam
  else 0

/-- CTX_OPEN (R350). -/
def execCtxOpen (q : QueueId) (seq : BitVec 32) (s : State) : Out1 :=
  .next (s.runJobCmd 0x0601 q.val seq (fun s c _ _ =>
    let node := c.arg 0
    let span := c.arg 1
    let same (e : Nat × Ctx) : Bool := e.2.st == .binding && e.2.tag == c.tag && e.2.epoch == c.epoch &&
      e.2.key.toNat == c.arg 4 && e.2.peerNode.toNat == node && e.2.peerSpan.toNat == span
    if node = s.nodeNo && span = s.spanNo then s.finishCmd c (.st Status.badParam)
    else if s.ctxs.any same then s.finishCmd c (.st Status.ctxKeyInUse)
    else
      match leastFrom (fun x => (s.ctx x).st == .closed) 0 (min (2 ^ 20) (s.ctxs.length + 1)) with
      | none => s.finishCmd c (.st Status.ctxNoneFree)
      | some x =>
        let e : Ctx := { Ctx.zero with
          peerNode := BitVec.ofNat 13 node, peerSpan := BitVec.ofNat 16 span, tag := c.tag, epoch := c.epoch, st := .binding
          timeoutUs := BitVec.ofNat 32 (if c.arg 5 = 0 then 50000 else c.arg 5), sendSeq := 1, lowUnack := 1
          retries := BitVec.ofNat 4 (if c.arg 3 = 0xFF then 3 else c.arg 3), tally := BitVec.ofNat 64 (c.arg 6)
          key := BitVec.ofNat 32 (c.arg 4), bindStart := s.now, cmd := some (c.q, c.seq) }
        ((s.waitCmd c (.bind x)).setCtx x e).sendBind x))

/-- A context number names an entry of a command's job (R351). -/
def State.ctxOfCmd (s : State) (c : Started) (x : Nat) : Bool := x < 2 ^ 20 && (s.ctx x).ofJob c.tag c.epoch

/-- CTX_CLOSE (R351). -/
def execCtxClose (q : QueueId) (seq : BitVec 32) (s : State) : Out1 :=
  .next (s.runJobCmd 0x0602 q.val seq (fun s c _ _ =>
    let x := c.arg 0
    let e := s.ctx x
    if !s.ctxOfCmd c x then s.finishCmd c (.st Status.ctxNotOpen)
    else if e.st == .resolve then s.finishCmd c (.st Status.ctxBusy)
    else if e.st != .open then s.finishCmd c (.st Status.ctxNotOpen)
    else ((s.waitCmd c (.close x)).setCtx x { e with st := .closing }).settleClose x))

/-- CTX_QUERY's field checks (R351). -/
def ctxQueryParam (p : List Nat) : Nat := if nth 0 p 1 % 64 ≠ 0 then Status.badParam else 0

/-- CTX_QUERY (R349, R351). -/
def execCtxQuery (q : QueueId) (seq : BitVec 32) (s : State) : Out1 :=
  .next (s.runJobCmd 0x0603 q.val seq (fun s c _ _ =>
    let x := c.arg 0
    if !s.ctxOfCmd c x then s.finishCmd c (.st Status.ctxNotOpen)
    else
      match s.jobBad c (c.arg 1) 64 false true with
      | some o => s.finishCmd c (addrAnswer o)
      | none => (s.storeOff (ptrOff (c.arg 1)) (s.ctx x).bytes).finishCmd c (.ok)))

/-! ## Messages (R366) -/

/-- MSG_SEND's field checks (R366). -/
def msgSendParam (p : List Nat) : Nat := if 16777216 < nth 0 p 2 then Status.badParam else 0

/-- A context that a command's messages may use (R366, R371). -/
def State.msgCtx (s : State) (c : Started) (x : Nat) : Bool :=
  s.ctxOfCmd c x && ((s.ctx x).st == .open || (s.ctx x).st == .resolve)

/-- MSG_SEND (R366). -/
def execMsgSend (q : QueueId) (seq : BitVec 32) (s : State) : Out1 :=
  .next (s.runJobCmd 0x0605 q.val seq (fun s c _ _ =>
    let x := c.arg 3
    let n := c.arg 2
    if !s.msgCtx c x then s.finishCmd c (.st Status.ctxNotOpen)
    else
      match s.jobBad c (c.arg 0) n true false with
      | some o => s.finishCmd c (addrAnswer o)
      | none =>
        let y : Copy := { id := s.nextCopy, origin := .message c.q c.seq, tag := c.tag, epoch := c.epoch, src := ptrOff (c.arg 0),
                          dst := 0, len := n, ctx := x, seq := 0, acked := 0, opened := false, limit := n, t0 := s.now, tries := 0,
                          data := [], tally := 0, redo := 0 }
        let s := { (s.waitCmd c (.msg x)) with nextCopy := s.nextCopy + 1, copies := s.copies ++ [y] }
        s.ctxRequest x Op.msg 0 (c.arg 1) (leBytes 8 n) (.msg y.id)))

/-- MSG_RECV_POST's field checks (R85). -/
def msgRecvParam (p : List Nat) : Nat := if tallyForm (BitVec.ofNat 64 (nth 0 p 5)) then 0 else Status.badParam

/-- MSG_RECV_POST (R366). -/
def execMsgRecvPost (q : QueueId) (seq : BitVec 32) (s : State) : Out1 :=
  .next (s.runJobCmd 0x0606 q.val seq (fun s c _ _ =>
    let x := c.arg 4
    let e := s.ctx x
    if !s.msgCtx c x then s.finishCmd c (.st Status.ctxNotOpen)
    else
      match s.jobBad c (c.arg 0) (c.arg 3) false true with
      | some o => s.finishCmd c (addrAnswer o)
      | none =>
        if 64 ≤ e.recvs.length then s.finishCmd c (.st Status.recvLimit)
        else
          let r : Recv := { q := c.q, seq := c.seq, dst := ptrOff (c.arg 0), tag := BitVec.ofNat 64 (c.arg 1)
                            mask := BitVec.ofNat 64 (c.arg 2), len := c.arg 3, tally := BitVec.ofNat 64 (c.arg 5) }
          (s.waitCmd c (.recv x)).setCtx x { e with recvs := e.recvs ++ [r] }))

/-! ## ROUTE_LOAD (R341, R343) -/

/-- Bytes of a route image (R341). -/
def routeLen : Nat := 32832

/-- The byte offset of the first fault of a route image among its FORMAT, reserved fields, NCHILD, child order and links
(R341, R343); its length where nothing is wrong. -/
def routeFault (img : List Byte) : Nat :=
  let tree := tbit (leAt img 4 2) 0
  let n := leAt img 6 2
  let child (i : Nat) : Nat := leAt img (16 + 2 * i) 2
  let childBad (i : Nat) : Bool :=
    if i < n then 4096 ≤ child i || (0 < i && child i ≤ child (i - 1)) else child i != 0
  let wayBad (v : Nat) : Bool := bits v 13 6 ≠ 0 || (tbit v 15 && 47 < v % 64)
  let head : List (Nat × Bool) :=
    [(0, leAt img 0 4 != 0x00010000), (4, decide (1 < leAt img 4 2)), (6, decide (16 < n) || (!tree && n != 0)),
     (10, leAt img 10 6 != 0)] ++
    (List.range 16).map (fun i => (16 + 2 * i, childBad i)) ++ [(48, leAt img 48 16 != 0)]
  match head.find? (fun x => x.2) with
  | some x => x.1
  | none =>
    match (chunksOf 16384 2 (img.drop 64)).zipIdx.find? (fun x => wayBad (leNat x.1)) with
    | some x => 64 + 2 * x.2
    | none => img.length

/-- The ways of a route image, the ones that are not valid left out. -/
def readWays (img : List Byte) : RouteTable :=
  let way (v : Nat) : Nat := if tbit v 15 then v else 0
  { ways := (List.range 4096).foldl (fun m d =>
      let e := slice img (64 + 8 * d) 8
      mset 0 m d (BitVec.ofNat 64 ((List.range 4).foldl (fun a i => a + way (leAt e (2 * i) 2) * 2 ^ (16 * i)) 0))) [] }

/-- The tree of a route image (R341); none when TREE is 0. -/
def readTree (img : List Byte) : Option Tree :=
  if tbit (leAt img 4 2) 0 then
    some { parent := leAt img 8 2, children := (List.range (leAt img 6 2)).map (fun i => leAt img (16 + 2 * i) 2),
           header := slice img 0 64 }
  else none

/-- ROUTE_LOAD (R341, R343). -/
def execRouteLoad (q : QueueId) (seq : BitVec 32) (s : State) : Out1 :=
  .next (s.runJobCmd 0x0604 q.val seq (fun s c j b =>
    let p := c.arg 0
    let n := min (c.arg 1) routeLen
    match if windowOf (ptrOff p) == .hbm then s.jobBad c p n true false else some (ptrOff p) with
    | some o => s.finishCmd c (addrAnswer o)
    | none =>
      let r := s.loadOff (ptrOff p) n
      match r.2.join with
      | none => r.1.finishCmd c (.st Status.uncorrectable)
      | some img =>
        let s := r.1
        let f := min n (routeFault img)
        if f < n || c.arg 1 ≠ routeLen then s.finishCmd c { status := Status.routeBadImage, detail := f }
        else
          let ways := some (readWays img)
          match readTree img, b.tree with
          | none, _ => (s.setJob j { b with routes := ways }).finishCmd c (.ok)
          | some t, some u =>
            if t.parent = u.parent && t.children = u.children then (s.setJob j { b with routes := ways }).finishCmd c (.ok)
            else s.finishCmd c (.st Status.routeTreeMismatch)
          | some t, none =>
            if b.ran then s.finishCmd c (.st Status.routeTreeLate)
            else (s.setJob j { b with routes := ways, tree := some t }).finishCmd c (.ok)))

/-! ## LINK_RESET (R344) -/

/-- LINK_RESET's field check (R344). -/
def linkResetParam (p : List Nat) : Nat := if 47 < nth 0 p 0 then Status.badParam else 0

/-- LINK_RESET (R329, R339, R344): a link whose ENABLE is 0 stays DISABLED and trains no more (log entry 18). -/
def execLinkReset (q : QueueId) (seq : BitVec 32) (s : State) : Out1 :=
  .next (s.runCmd 0x0A03 q.val seq (fun s c =>
    let n := c.arg 0
    if s.enabledLanes n = 0 then s.finishCmd c (.st Status.unitAbsent)
    else
      let s := s.setReg .axlAnom [n] 0
      if (s.link n).st == .disabled then s.finishCmd c (.ok (s.link n).stateWord.toNat)
      else
        let s := s.linkToDown n
        (s.setLink n { (s.link n) with trainStart := s.now }).waitCmd c (.link n)))

end Sys2Proof.Machine
end

