-- ==== Sys2Proof/Machine/MemCmds.lean ====
section
/-! DEFINITION. The memory commands (R301, R302, R310) and the repair and retraining of HBM3E (R294, R298, R305 to R314). -/

namespace Sys2Proof.Machine

/-! ## Reservations (R301, R310) -/

/-- ALLOC_TOP (R310). -/
def State.allocTop (s : State) : Nat := (s.reg .memAllocTop []).toNat

/-- A refill where no reservation lies at or above ALLOC_TOP (R310). -/
def State.refill (s : State) : State :=
  if s.reservations.any (fun r => s.allocTop < r.base + r.size) then s
  else { s.setReg .memReserveBase [] (BitVec.ofNat 64 s.allocTop) with mapPending := 0 }

/-- The lowest base from `b` at which a size fits between reservations in rising order. -/
def fitBase (size : Nat) : Nat → List Reservation → Nat
  | b, [] => b
  | b, r :: rs => if b + size ≤ r.base then b else fitBase size (max b (r.base + r.size)) rs

/-- MEM_RESERVE's field check (R301). -/
def memReserveParam (p : List Nat) : Nat := if nth 0 p 0 = 0 then Status.badParam else 0

/-- MEM_RESERVE (R301, R310). -/
def execMemReserve (q : QueueId) (seq : BitVec 32) (s : State) : Out1 :=
  .next (s.runJobCmd 0x0204 q.val seq (fun s c _ _ =>
    let s := s.refill
    let size := cdiv (c.arg 0) (2 ^ 21) * 2 ^ 21
    let base := fitBase size 0 (sortBy (·.base) s.reservations)
    if 4096 ≤ s.reservations.length then s.finishCmd c (.st Status.memTooMany)
    else if s.allocTop < base + size then s.finishCmd c (.st Status.noCapacity)
    else
      let r : Reservation := { base := base, size := size, tag := c.tag }
      ({ s with reservations := s.reservations ++ [r] }.zeroOff base size).finishCmd c (.ok base)))

/-- MEM_RELEASE (R301, R310). -/
def execMemRelease (q : QueueId) (seq : BitVec 32) (s : State) : Out1 :=
  .next (s.runJobCmd 0x0205 q.val seq (fun s c _ _ =>
    let mine (r : Reservation) : Bool := r.base == c.arg 0 && r.tag == c.tag
    if s.reservations.any mine then
      ({ s with reservations := s.reservations.filter (fun r => !mine r) }.refill).finishCmd c (.ok)
    else s.refill.finishCmd c (.st Status.memNoReservation)))

/-- MEM_QUERY (R301). -/
def execMemQuery (q : QueueId) (seq : BitVec 32) (s : State) : Out1 :=
  .next (s.runCmd 0x0203 q.val seq (fun s c =>
    let below := sumNat (s.reservations.map (fun r => min s.allocTop (r.base + r.size) - min s.allocTop r.base))
    s.finishCmd c (.ok (s.allocTop - below) (sumNat (s.reservations.map (·.size))))))

/-! ## MEM_FILL (R301, R302) -/

/-- MEM_FILL's field checks (R301, R302). -/
def memFillParam (p : List Nat) : Nat :=
  if 2 < nth 0 p 3 then Status.badParam
  else if nth 0 p 0 % 8 ≠ 0 || nth 0 p 1 = 0 || nth 0 p 1 % 8 ≠ 0 then Status.memRange
  else 0

/-- MEM_FILL (R301). -/
def execMemFill (q : QueueId) (seq : BitVec 32) (s : State) : Out1 :=
  .next (s.runJobCmd 0x0202 q.val seq (fun s c _ _ =>
    let p := c.arg 0
    let o := ptrOff p
    let n := c.arg 1
    let placed := !reservedNode (ptrNode p) && s.isSelf (ptrNode p) &&
      (inWindow .hbm o n || inWindow .shale o n || inWindow .pool o n)
    if !placed then s.finishCmd c (.st Status.memRange)
    else
      match s.jobBad c p n false true with
      | some a => s.finishCmd c (addrAnswer a)
      | none => (s.storeOff o (List.replicate (n / 8) (leBytes 8 (c.arg 2))).flatten).finishCmd c (.ok n)))

/-! ## Patrol scrub (R294, R298, R303) -/

/-- PATROL_SCRUB (R294, R298): a word or codeword is read, and what can be corrected is. -/
def execPatrolScrub (a : Nat) (s : State) : Out1 := .next (s.scan a 1).1

/-! ## Repair (R305 to R311) -/

/-- The codewords with errors of rows lo to lo + n − 1 of a pseudo-channel. -/
def State.rowErrs (s : State) (p lo n : Nat) : List (Nat × ErrKind) :=
  s.errs.filter (fun e => decide (e.1 < 2 ^ 40) && (hbmMap e.1).1 == p && decide (lo ≤ (hbmMap e.1).2 / 4) &&
    decide ((hbmMap e.1).2 / 4 < lo + n))

/-- Codewords moved by a repair or a migration: what the code corrects moves clean, the rest with POISON set (R306, R309). -/
def State.moveCodewords (s : State) (es : List (Nat × ErrKind)) : State :=
  es.foldl (fun s e =>
    let s := (s.readErr e.1 e.2).1
    match e.2 with
    | .correctable | .recorrect => s
    | .uncorrectable | .poison => { s with errs := minsert s.errs e.1 .poison }) s

/-- Rows lo to lo + n − 1 of a pseudo-channel are failing no more. -/
def State.clearFailing (s : State) (p lo n : Nat) : State :=
  let c := s.pc p
  s.setPc p { c with failing := c.failing.filter (fun r => !(lo ≤ r && r < lo + n)) }

/-- A pseudo-channel's rows may be repaired or retired: it neither migrates nor is mapped out (R309). -/
def State.repairable (s : State) (p : Nat) : Bool :=
  match (s.pc p).mode, (s.pc p).retrainBack with
  | .inService, _ => true
  | .retraining, .inService => true
  | _, _ => false

/-- PPR (R306): a failing row never repaired before, in a bank that still has a spare row. -/
def execPpr (pc : PcId) (row : Nat) (s : State) : Out1 :=
  .next (
    let p := pc.val
    if !s.repairable p || !(s.pc p).failing.contains row || s.flash.repairLog.contains (p, row) then s
    else
      let s := (s.moveCodewords (s.rowErrs p row 1)).clearFailing p row 1
      let s := { s with flash := { s.flash with repairLog := s.flash.repairLog ++ [(p, row)] } }
      (s.bumpConfig).raise .memPpr)

/-- Retirement entries of a pseudo-channel. -/
def State.retiredOf (s : State) (p : Nat) : Nat := (s.flash.retire.filter (fun e => e.2.pc == p)).length

/-- The reserve has no room for one more map-out (R311): those completed since the last refill, under way and queued are
four (log entry 19). -/
def State.reserveFull (s : State) : Bool := 4 ≤ s.mapPending + s.mapOutQueue.length

/-- A pseudo-channel reaches map-out (R308, R309, R311): it waits its turn, or the reserve is full and its rows stay in
service. -/
def State.reachMapOut (s : State) (p : Nat) : State :=
  if s.mapOutQueue.contains p then s
  else if s.reserveFull then s.raise .memRepairLimit
  else { s with mapOutQueue := s.mapOutQueue ++ [p] }

/-- A page begins to be retired to the lowest free entry (R307, R311). -/
def State.retirePage (s : State) (p page : Nat) : State :=
  match leastFrom (fun i => (mfind s.flash.retire i).isNone) 0 4096 with
  | none => s.raise .memRepairLimit
  | some i => { s with flash := { s.flash with retire := minsert s.flash.retire i ⟨p, page, .copying⟩ } }

/-- PAGE_RETIRE (R307, R308, R311): the page of a failing row that cannot be repaired is retired; instead of a 65th
retirement the pseudo-channel reaches map-out, and where the reserve has no room for it the page is retired all the same. -/
def execPageRetire (pc : PcId) (page : Nat) (s : State) : Out1 :=
  .next (
    let p := pc.val
    let due := (s.pc p).failing.any (fun r => r / 4 == page)
    let retired := s.flash.retire.any (fun e => e.2.pc == p && e.2.page == page)
    if !s.repairable p || !due || retired || s.mapOutQueue.contains p then s
    else if s.retiredOf p < 64 then s.retirePage p page
    else if s.reserveFull then (s.reachMapOut p).retirePage p page
    else s.reachMapOut p)

/-- PAGE_RETIRE_DONE (R307): the page is served from its slot. -/
def execPageRetireDone (i : Fin 4096) (s : State) : Out1 :=
  .next (
    match mfind s.flash.retire i.val with
    | none => s
    | some e =>
      if e.st == .served then s
      else
        let s := (s.moveCodewords (s.rowErrs e.pc (4 * e.page) 4)).clearFailing e.pc (4 * e.page) 4
        let s := { s with flash := { s.flash with retire := minsert s.flash.retire i.val { e with st := .served } } }
        s.bumpConfig.raise .memRetire)

/-- MAP_OUT_BEGIN (R308, R309): the first pseudo-channel that waits for it begins to migrate. -/
def execMapOutBegin (pc : PcId) (s : State) : Out1 :=
  .next (
    let c := s.pc pc.val
    if s.mapOutQueue.head? = some pc.val ∧ c.mode = .inService then s.setPc pc.val { c with mode := .migrating } else s)

/-- MAP_OUT (R308, R310): the copy is complete. -/
def execMapOut (pc : PcId) (s : State) : Out1 :=
  .next (
    let p := pc.val
    if (s.pc p).mode ≠ .migrating then s
    else
      let s := s.moveCodewords (s.rowErrs p 0 1572864)
      let c := s.pc p
      let s := s.setPc p { c with mode := .mappedOut, failing := [] }
      let s := { s with
        flash := { s.flash with retire := s.flash.retire.filter (fun e => e.2.pc != p) }
        mapOutQueue := s.mapOutQueue.erase p, mapPending := s.mapPending + 1 }
      let s := s.setReg .memAllocTop [] (BitVec.ofNat 64 (s.allocTop - 0x60000000))
      (s.changeMap (fun m => { m with pcs := sinsert m.pcs p })).raise .memMapOut)

/-! ## Retraining (R312 to R314) -/

/-- INCREMENTAL_RETRAIN (R312): a slot of at most 1 µs, which changes only time. -/
def execIncrementalRetrain (_ : PcId) (s : State) : Out1 := .next s

/-- FULL_RETRAIN (R313): an error burst has been met. -/
def execFullRetrain (pc : PcId) (s : State) : Out1 :=
  .next (
    let c := s.pc pc.val
    match c.mode with
    | .retraining | .mappedOut => s
    | m => (s.setPc pc.val { c with mode := .retraining, retrainStart := some s.now, retrainBack := m }).raise .memRetrain)

/-- FULL_RETRAIN_END (R313): with no working eye every row is failing and the pseudo-channel reaches map-out. -/
def execFullRetrainEnd (pc : PcId) (eye : Bool) (s : State) : Out1 :=
  .next (
    let p := pc.val
    let c := s.pc p
    match c.retrainStart with
    | none => s
    | some t =>
      let s := s.setReg .memRetrainLast [] (BitVec.ofNat 64 (p * 2 ^ 32 + (s.now - t) % 2 ^ 32))
      let s := s.setPc p { c with
        mode := c.retrainBack, retrainStart := none, retrainBack := .inService
        failing := if eye then c.failing else List.range 1572864 }
      if eye then s else s.reachMapOut p)

end Sys2Proof.Machine
end

