-- ==== Sys2Proof/Machine/Span.lean ====
section
/-! DEFINITION. Span time and its servo (R403, R404), and the chunks of a broadcast image (R396, R397). -/

namespace Sys2Proof.Machine

/-! ## Span time (R403) -/

/-- Span time: the counter plus TIME.OFFSET (R403). -/
def State.spanNow (s : State) : Word := s.clock.now + s.reg .timeOffset

/-- ROLE of TIME.CTRL: this node is the beacon root. -/
def State.isRoot (s : State) : Bool := s.getF .timeCtrl [] 4 4 = 1
/-- BEACON_EN of TIME.CTRL. -/
def State.beaconEn (s : State) : Bool := s.getF .timeCtrl [] 1 1 = 1
/-- PTP_EN of TIME.CTRL. -/
def State.ptpEn (s : State) : Bool := s.getF .timeCtrl [] 0 0 = 1
/-- SOURCE of TIME.STATUS of a follower. -/
def State.timeSource (s : State) : Nat := s.getF .timeStatus [] 63 62

/-- The servo acts on an error (R404): OFFSET steps where no job is open and the error exceeds 1 ms; otherwise it slews
toward the error by an amount the manual leaves open, at most 100 ppm of the time since the last servo step while a job is
open (log entry 20). -/
def State.servo (s : State) (err : Int) : State :=
  let mag := err.natAbs
  let s := s.setF .timeStatus [] 31 0 (min mag (2 ^ 32 - 1))
  let since := s.now - s.clock.slewFrom
  let s := { s with clock := { s.clock with slewFrom := s.now } }
  if s.jobs.isEmpty && 1000000 < mag then s.setReg .timeOffset [] (s.reg .timeOffset + BitVec.ofInt 64 err)
  else
    let bound := if s.jobs.isEmpty then mag else min mag (since / 10000)
    let d := Config.free s.free % (bound + 1)
    let s := s.bump
    s.setReg .timeOffset [] (s.reg .timeOffset + BitVec.ofInt 64 (if err < 0 then -(d : Int) else (d : Int)))

/-! ## Beacons (R404) -/

/-- A beacon sent on a link that is ACTIVE: own Span time, and the echo of the partner's last beacon. -/
def State.beaconOut (s : State) (n hops root : Nat) : State :=
  let l := s.link n
  if l.st = .active then
    s.emit (.beacon n { spanTime := s.spanNow, echoTx := l.beaconTx, echoRx := l.beaconRx,
                        hops := BitVec.ofNat 8 (min hops 255), root := BitVec.ofNat 16 root })
  else s

/-- A beacon sent on every ACTIVE link. -/
def State.beaconsOut (s : State) (hops root : Nat) : State :=
  (List.range 48).foldl (fun s n => s.beaconOut n hops root) s

/-- BEACON_SEND (R404): the root's beacons. -/
def execBeaconSend (s : State) : Out1 :=
  .next (if s.isRoot && s.beaconEn then s.beaconsOut 0 s.nodeNo else s)

/-- A follower follows a beacon of a link: the one followed already, or one of lower hop count or, at equal counts, of a
lower link; any once none has come for 10 ms (R404). -/
def State.follows (s : State) (n hops : Nat) : Bool :=
  let have_ := s.getF .timeStatus [] 61 56
  let old := match s.clock.beaconLast with
    | some t => decide (t + 10000000 ≤ s.now)
    | none => true
  s.timeSource ≠ 2 || n == s.clock.beaconLink || old || decide (hops < have_) ||
  (hops == have_ && decide (n < s.clock.beaconLink))

/-- The servo error that a beacon shows: its transmit time plus the link's delay less the receive time; none where the
beacon echoes no beacon of this end (R404). -/
def beaconError (b : BeaconMsg) (rx : Word) : Option Int :=
  if b.echoTx = 0 ∧ b.echoRx = 0 then none
  else
    let d := ((rx - b.echoTx).toInt - (b.spanTime - b.echoRx).toInt) / 2
    some ((b.spanTime - rx).toInt + d)

/-- BEACON (R404): the beacon's times are kept for the echo, and a follower that follows it feeds its servo and forwards it on
all its ACTIVE links with the hop count one higher. -/
def execBeaconArrival (n : LinkId) (b : BeaconMsg) (s : State) : Out1 :=
  .next (
    if (s.link n).st ≠ .active || !s.beaconEn then s
    else
      let rx := s.spanNow
      let s := s.setLink n { s.link n with beaconTx := b.spanTime, beaconRx := rx }
      let hops := min (b.hops.toNat + 1) 63
      if s.isRoot || !s.follows n hops then s
      else
        let s := ((s.setF .timeStatus [] 63 62 2).setF .timeStatus [] 61 56 hops).setF .timeStatus [] 44 32 b.root.toNat
        let s := { s with clock := { s.clock with beaconLink := n, beaconLast := some s.now } }
        let s := match beaconError b rx with
          | some e => s.servo e
          | none => s
        s.beaconsOut (b.hops.toNat + 1) b.root.toNat)

/-- LOCK_LOST (R404): no beacon followed for 10 ms; the servo falls back to PTP where it runs. -/
def execLockLost (s : State) : Out1 :=
  .next (
    match s.clock.beaconLast with
    | some t =>
      if s.timeSource = 2 && t + 10000000 ≤ s.now then
        (s.setF .timeStatus [] 63 62 (b2n s.ptpEn)).raise .timeLockLost
      else s
    | none => s)

/-! ## Management frames (R454) -/

/-- The address in HST.MGT_PEER0–1, whose bytes are in network order (R466). -/
def State.mgtPeer (s : State) : BitVec 128 :=
  let w (i : Nat) : List Byte := leBytes 8 (s.reg .hstMgtPeer [i]).toNat
  BitVec.ofNat 128 ((w 0 ++ w 1).foldl (fun a x => a * 256 + x.toNat) 0)

/-- PTP_MESSAGE (R404, R454): a frame from another address is dropped and counted; the clock's error feeds the servo of the
root, and of a follower that receives no beacons. -/
def execPtpMessage (peer : BitVec 128) (p : PtpMsg) (s : State) : Out1 :=
  .next (
    if peer ≠ s.mgtPeer then s.raise .hstMgtDrop
    else if !s.ptpEn then s
    else if s.isRoot then s.servo p.error
    else if s.timeSource = 2 then s
    else (s.setF .timeStatus [] 63 62 1).servo p.error)

/-! ## Broadcast images (R396, R397) -/

/-- CHUNK_OVERDUE (R397): the runtime reports the lowest chunk that it has not yet verified. A new one starts its 20 ms; when it
is overdue, it is asked for from the grandparent, and again every 20 ms; the node holds the image once every chunk is
verified. -/
def execChunkOverdue (tag : W16) (epoch : Byte) (lowest : Nat) (grandparent : Bool) (s : State) : Out1 :=
  .next (
    let is (b : Broadcast) : Bool := b.tag == tag && b.epoch == epoch
    match s.broadcasts.find? is with
    | none => s
    | some b =>
      let put (s : State) (b : Broadcast) : State := { s with broadcasts := updFirst is (fun _ => b) s.broadcasts }
      if b.chunks ≤ lowest then { s with broadcasts := s.broadcasts.filter (fun b => !is b) }
      else if lowest ≠ b.lowest then put s { b with lowest := lowest, since := s.now }
      else if grandparent && b.since + 20000000 ≤ s.now then
        (put s { b with since := s.now }).emit (.chunkRequest lowest)
      else s)

end Sys2Proof.Machine
end

