-- ==== Sys2Proof/Machine/Faults.lean ====
section
/-! DEFINITION. Faults of replicated elements and the health record (R412, R419, R421, R423, R427 to R429), and the health
summary (R406). -/

namespace Sys2Proof.Machine

/-! ## Readings of TEL over all regions (R72) -/

/-- TEL.MARGIN_MIN: the smallest remaining margin and its region, the lowest of equals (R72). -/
def State.marginMin (s : State) : Nat :=
  let m (r : Nat) : Nat := s.getF .telRgMargin [r] 11 0
  let r := (List.range 84).foldl (fun a r => if m r < m a then r else a) 0
  r * 2 ^ 16 + m r

/-- TEL.THERM: the hottest region, the lowest of equals, its temperature, and HOLD (R72). -/
def State.therm (s : State) : Nat :=
  let r := (List.range 84).foldl (fun a r => if s.temp a < s.temp r then r else a) 0
  b2n (!s.hold.isEmpty) * 2 ^ 24 + r * 2 ^ 16 + toBits 11 (s.temp r)

/-! ## The health record (R428) -/

/-- Application cores in service (R423, R428). -/
def State.pdieOn (s : State) : Nat :=
  ((List.range 64).filter (fun k => !s.flash.map.pdie.contains k && !s.package.pdieFailed.contains k)).length

/-- The standby pair is in service: it lives and does not serve (R428, R429). -/
def State.standbyReady (s : State) : Bool :=
  s.granite.pairs.standby && s.granite.pairs.lockstep && !s.granite.pairs.standbyServing

/-- Byte 9: the Granite pairs (R428). -/
def State.graniteByte (s : State) : Nat :=
  b2n (s.granite.pairs.lockstep && !s.granite.pairs.standbyServing) + 2 * b2n s.standbyReady +
  4 * b2n s.granite.pairs.standbyServing

/-- Spare clusters of a C-die of the placement in force: placeable, serving no logical cluster; 0xFF with no placement
(R428). -/
def State.spares (s : State) (d : Nat) : Nat :=
  match s.placement with
  | none => 0xFF
  | some p => ((s.flash.map.candidates d).filter (fun q => !(p.serve.any (fun r => r.2.phys == q)))).length

/-- Logical clusters that serve without a spare core (R428). -/
def State.noSpareCore (s : State) : Nat :=
  match s.placement with
  | none => 0
  | some p => (p.serve.filter (fun r => (s.flash.map.coresOf r.2.phys).length < 17)).length

/-- Failed phases of all tiles (R428). -/
def State.failedPhases (s : State) : Nat := sumNat (s.package.phases.map (·.2))

/-- Pseudo-channels mapped out (R428). -/
def State.pcsOut (s : State) : Nat := (s.pcs.filter (fun e => e.2.mode == PcMode.mappedOut)).length

/-- A pool whose next fault ends a job or loses the node has no spare left (R428 STATE 2). -/
def State.exposed (s : State) : Bool :=
  (s.placement.isSome && (List.range 4).any (fun d => s.spares d == 0)) || !s.standbyReady || s.dispatchOn == 1 ||
  s.pdieOn == 8

/-- A spare is in use, or a pool is below full health (R428 STATE 1). -/
def State.degraded (s : State) : Bool :=
  let m := s.flash.map
  (match s.placement with
    | some p => p.place != p.serve
    | none => false) ||
  !m.clusters.isEmpty || !m.cores.isEmpty || !m.pcs.isEmpty || !m.lanes.isEmpty || s.dispatchOn < 8 || s.pdieOn < 64 ||
  !m.granite.isEmpty || 0 < s.failedPhases || !s.flash.retire.isEmpty || !s.flash.repairLog.isEmpty || 0 < s.pcsOut ||
  (0 < s.hostPort.width && s.hostPort.width < 16)

/-- STATE of R428. -/
def State.healthState (s : State) : Nat :=
  if s.package.lost then 3 else if s.exposed then 2 else if s.degraded then 1 else 0

/-- The 64 bytes of the health record (R428). -/
def State.healthRecord (s : State) : List Byte :=
  leBytes 4 0x10000 ++ leBytes 4 s.flash.map.version.toNat ++ leBytes 1 s.healthState ++ leBytes 1 s.graniteByte ++
  leBytes 1 s.dispatchOn ++ leBytes 1 s.pdieOn ++ (List.range 4).flatMap (fun d => leBytes 1 (s.spares d)) ++
  leBytes 2 s.noSpareCore ++ leBytes 1 s.hostPort.width ++ leBytes 1 s.failedPhases ++
  leBytes 2 s.flash.map.lanes.length ++
  leBytes 2 (s.links.filter (fun l => l.2.st == LinkSt.active)).length ++ leBytes 2 s.pcsOut ++
  leBytes 2 s.flash.retire.length ++ leBytes 4 0 ++ leBytes 4 s.health.transient.toNat ++
  leBytes 4 s.health.coreRemaps.toNat ++ leBytes 4 s.health.clusterRemaps.toNat ++
  leBytes 4 s.health.noSpareEnds.toNat ++ leBytes 8 s.health.lastEvent.toNat ++ leBytes 8 0

/-- HEALTH_READ's field check (R427): a 64-byte-aligned dst with node field 0x1FFF. -/
def healthReadParam (p : List Nat) : Nat :=
  if nth 0 p 0 % 64 ≠ 0 || ptrNode (nth 0 p 0) ≠ 0x1FFF then Status.badParam else 0

/-- HEALTH_READ (R427). -/
def execHealthRead (q : QueueId) (seq : BitVec 32) (s : State) : Out1 :=
  .next (s.runCmd 0x0901 q.val seq (fun s c =>
    if s.cmdBad c (c.arg 0) 64 false true then s.finishCmd c (.st Status.badParamAddr)
    else
      let rec_ := s.healthRecord
      let st := s.healthState
      (s.storeOff (ptrOff (c.arg 0)) rec_).finishCmd c { status := 0, detail := st, r0 := leAt rec_ 0 8 }))

/-! ## The health summary (R406) -/

/-- Blocks of the control space with an event flag set, by number (R406). -/
def State.eventBlocks (s : State) : List Nat :=
  (s.regs.filter (fun e => match regAt e.1 with
    | some (t, _) => Ev.all.any (fun v => v.info.1 == t && tbit e.2.toNat v.info.2.1)
    | none => false)).foldl (fun a e => sinsert a (e.1 / 2 ^ 24)) []

/-- HEALTH_SUMMARY (R406). -/
def execHealthSummary (s : State) : Out1 :=
  .next (s.emit (.health
    { node := s.nodeNo, span := s.spanNo, jobs := s.jobs.map (fun e => (e.1, e.2.tag, e.2.epoch)),
      mapVersion := s.flash.map.version, marginMin := BitVec.ofNat 64 s.marginMin, therm := BitVec.ofNat 64 s.therm,
      source := if s.isRoot then 3 else s.timeSource, hops := s.getF .timeStatus [] 61 56, events := s.eventBlocks,
      state := s.healthState }))

/-! ## Faults of replicated elements (R421) -/

/-- EFFECTIVE_W: LIMIT_W less 333 W for each tile with two failed phases (R421, R447). -/
def State.effectiveLimit (s : State) : State :=
  let derated := (s.package.phases.filter (fun e => 2 ≤ e.2)).length
  s.setF .grnPowerLimit [] 28 16 (s.getF .grnPowerLimit [] 12 0 - 333 * derated)

/-- TILE_PHASE_FAIL (R421): one phase is shed; a second in the tile lowers the power limit, and a third is node loss. -/
def execTilePhaseFail (t : Fin 12) (s : State) : Out1 :=
  .next (
    let n := mget 0 s.package.phases t.val + 1
    let s := { s with package := { s.package with phases := mset 0 s.package.phases t.val (min n 8) } }
    let s := (s.continuity id).effectiveLimit
    if 3 ≤ n then s.nodeLoss else s)

/-- PDIE_CORE_FAULT (R421, R423): Granite sets the core's map bit; its harts resume on another core. -/
def execPdieCoreFault (k : Fin 64) (s : State) : Out1 :=
  .next (
    if s.flash.map.pdie.contains k.val || s.package.pdieFailed.contains k.val then s
    else
      let s := s.changeMap (fun m => { m with pdie := sinsert m.pdie k.val })
      let s := { s with package := { s.package with pdieFailed := sinsert s.package.pdieFailed k.val } }
      let s := s.continuity id
      if s.pdieOn < 8 then s.nodeLoss else s)

/-- CLUSTER_SCHEDULER_FAULT (R419): Granite marks the old cluster disabled, and the logical cluster is remapped. -/
def execClusterSchedulerFault (l : LClusterId) (s : State) : Out1 :=
  .next (
    match s.servingCluster l.val with
    | none => s
    | some p => (s.changeMap (·.disableCluster p)).clusterRemap l.val [])

/-- SOLVER_UNIT_CHECK_FAULT (R267, R421): a problem in progress restarts from its inputs on another unit of the batch, and the
cluster is disabled from the next placement; a batch with one unit has its cluster remapped first (log entry 17). -/
def execSolverUnitCheckFault (l : LClusterId) (s : State) : Out1 :=
  .next (
    let on := s.batches.filter (fun x => x.start.isSome && x.first ≤ l.val && l.val < x.first + x.nclusters)
    match s.servingCluster l.val, on with
    | some p, x :: _ =>
      let s := (s.changeMap (·.disableCluster p)).continuity id
      if x.nclusters = 1 then s.clusterRemap l.val [] else s
    | _, _ => s)

/-! ## The Granite pairs (R422, R429) -/

/-- GRANITE_TAKEOVER (R429): the serving pair halts; the standby pair serves from the mirrored state, with every request in
progress still to be answered; with no standby the node is lost. -/
def execGraniteTakeover (s : State) : Out1 :=
  .next (
    let p := s.granite.pairs
    if s.standbyReady then
      let s := s.changeMap (fun m => { m with granite := sinsert m.granite 0 })
      let s := { s with granite := { s.granite with pairs := { p with lockstep := false, standbyServing := true } } }
      (s.raise .grnTakeover).continuity id
    else
      let dead : Pairs := ⟨false, false, false⟩
      { s with granite := { s.granite with pairs := dead } }.nodeLoss)

/-- STANDBY_PAIR_FAIL (R429): the standby pair halts while the lockstep pair serves. -/
def execStandbyPairFail (s : State) : Out1 :=
  .next (
    if s.standbyReady then
      let s := s.changeMap (fun m => { m with granite := sinsert m.granite 1 })
      { s with granite := { s.granite with pairs := { s.granite.pairs with standby := false } } }.continuity id
    else s)

end Sys2Proof.Machine
end

