-- ==== Sys2Proof/Machine/Granite.lean ====
section
/-! DEFINITION. Granite (R429 to R447): firmware images and bundles, the mailbox, key slots, two-party change and attestation. -/

namespace Sys2Proof.Machine

/-! ## Images and bundles (R436) -/

/-- A bundle's four images by TYPE. -/
structure Bundle where
  granite : List Byte
  dispatch : List Byte
  pdie : List Byte
  manifest : List Byte
  deriving DecidableEq, Repr

/-- What the check of a bundle gives. -/
inductive BundleCheck where
  | good (b : Bundle)
  | rollback
  | bad
  deriving DecidableEq, Repr

/-- TYPE of an image. -/
def imgType (x : List Byte) : Nat := leAt x 4 1
/-- SVN of an image. -/
def imgSvn (x : List Byte) : Nat := leAt x 14 2
/-- LENGTH of an image's body. -/
def imgLen (x : List Byte) : Nat := leAt x 16 4

/-- Concatenated images cut apart by their LENGTH fields; none where a header is wrong or bytes are missing (R436). -/
def cutImages : Nat → List Byte → Option (List (List Byte))
  | 0, bs => if bs.isEmpty then some [] else none
  | n + 1, bs =>
    let len := 256 + imgLen bs
    if bs.length < 256 || leAt bs 0 4 ≠ 0x00010000 || bs.length < len then none
    else (cutImages n (bs.drop len)).map (fun xs => bs.take len :: xs)

/-- The signer, the signature and the body of an image verify (R436). -/
def imgVerifies (x : List Byte) : Bool :=
  decide (Config.sm3 (slice x 56 64) = Config.vendorRoot) &&
  Config.sm2Verify (slice x 56 64) [] (Config.sm3 (slice x 0 120)) (slice x 120 64) &&
  slice x 24 32 == digestBytes (Config.sm3 (x.drop 256))

/-- The four images of a bundle, found by TYPE. -/
def bundleOf (xs : List (List Byte)) : Option Bundle :=
  match xs.find? (imgType · == 0), xs.find? (imgType · == 1), xs.find? (imgType · == 2), xs.find? (imgType · == 3) with
  | some g, some d, some p, some m => some ⟨g, d, p, m⟩
  | _, _, _, _ => none

/-- The images of a bundle in the order of their TYPE. -/
def Bundle.images (b : Bundle) : List (List Byte) := [b.granite, b.dispatch, b.pdie, b.manifest]

/-- The manifest's body lists the digests of the images of TYPE 0, 1 and 2 (R436). -/
def Bundle.listed (b : Bundle) : Bool :=
  let body := b.manifest.drop 256
  (List.range 3).all (fun t => slice body (32 * t) 32 == digestBytes (Config.sm3 (nth [] b.images t)))

/-- A bundle's check (R436): each image verifies, each digest matches, and no SVN lies below its anti-rollback counter. -/
def checkBundle (svn : List W16) (bs : List Byte) : BundleCheck :=
  match (cutImages 4 bs).bind bundleOf with
  | none => .bad
  | some b =>
    if !(b.images.all imgVerifies && b.listed) then .bad
    else if (List.range 4).any (fun t => imgSvn (nth [] b.images t) < (nth 0 svn t).toNat) then .rollback
    else .good b

/-- An image set of the flashes: set A, or (true) set B. -/
def Flash.set (f : Flash) (b : Bool) : List Byte := if b then f.setB else f.setA

/-- The running bundle: the set Granite booted from (R437). -/
def State.runningBundle (s : State) : Option Bundle :=
  (cutImages 4 (s.flash.set s.granite.bootSet)).bind bundleOf

/-- A bundle is written to the set not in use, which the next boot then prefers (R437). -/
def State.installBundle (s : State) (bs : List Byte) : State :=
  let b := !s.granite.bootSet
  { s with flash := if b then { s.flash with setB := bs, bootSel := b } else { s.flash with setA := bs, bootSel := b } }

/-- The bytes of a bundle that lies at a node offset: four images, each as long as its header says. -/
def State.bundleAt (s : State) (o : Nat) : Nat → List Byte
  | 0 => []
  | n + 1 =>
    let len := 256 + imgLen (s.peek o 256)
    s.peek o len ++ s.bundleAt (o + len) n

/-! ## Identity (R438) -/

/-- SM3 of the device identity public key (R438, R447). -/
def State.identity (s : State) : Digest := Config.sm3 (Config.sm2Public s.flash.identityKey)

/-- The operator (0) or security (1) authority (R439). -/
def State.authority (s : State) (i : Nat) : Option KeySlot := mfind s.flash.protection.authority i

/-- The factory state: both authority slots are empty (R442). -/
def State.factory (s : State) : Bool := (s.authority 0).isNone && (s.authority 1).isNone

/-- An authority's signature over a digest verifies, with its identifier (R439, R440). -/
def authSigned (k : Option KeySlot) (d : Digest) (sig : List Byte) : Bool :=
  match k with
  | some k => Config.sm2Verify k.key k.ident d sig
  | none => false

/-- The 32 bytes of a policy entry (R433); an index without an entry is all zero. -/
def policyBytes : Option PolicyEntry → List Byte
  | none => leBytes 32 0
  | some e => leBytes 8 e.base ++ leBytes 8 e.limit ++ leBytes 1 (b2n e.node) ++ leBytes 1 e.read.toNat ++
    leBytes 1 e.write.toNat ++ leBytes 1 1 ++ leBytes 2 e.tag.toNat ++ leBytes 10 0

/-- The service section of the configuration record (R438). -/
def State.serviceSection (s : State) : List Byte :=
  let f := s.flash
  Config.serviceSection (leBytes 4 f.map.version.toNat ++ f.map.bytes) f.repairLog
    (f.retire.map (fun e => (e.1, e.2.pc, e.2.page))) f.config.toNat

/-- The protection record (R438). -/
def State.protectionBytes (s : State) : List Byte :=
  let p := s.flash.protection
  Config.protectionRecord ((List.range 64).flatMap (fun i => policyBytes (mfind p.policy i))) p.enables
    (p.admitted.map (fun e => (e.digest, e.encrypt))) p.usages (p.authority.map (fun k => (k.2.key, k.2.ident))) p.prot.toNat

/-! ## The mailbox (R435) -/

/-- A master may use a range of node offsets. -/
def State.masterReach (s : State) (m : Master) (o n : Nat) (rd wr : Bool) : Bool :=
  !s.unreachable o n && s.masterOn m.val && s.policy m.val true o rd wr 0

/-- Codes of the mailbox requests with the masters that may make them (R435). -/
def mbxMasters (req : Nat) : Option (List Nat) :=
  match req with
  | 1 | 3 | 4 => some [0, 1, 3]
  | 2 => some [1, 2]
  | 5 | 6 | 7 => some [0, 1, 2, 3, 4, 5, 6, 7]
  | 8 => some [0, 3]
  | 9 => some [2]
  | _ => none

/-- REQ, RESP, PTR, LEN and ARGS of a request (R435). -/
def MbxReq.req (r : MbxReq) : Nat := leAt r.block 0 2
def MbxReq.resp (r : MbxReq) : Nat := leAt r.block 8 8
def MbxReq.ptr (r : MbxReq) : Nat := leAt r.block 16 8
def MbxReq.len (r : MbxReq) : Nat := leAt r.block 24 4
def MbxReq.args (r : MbxReq) (i n : Nat) : Nat := leAt r.block (28 + i) n

/-- A request's reserved bytes, and its ARGS beyond the first `n`, are 0 (R435). -/
def MbxReq.clean (r : MbxReq) (n : Nat) : Bool := allZero (slice r.block 2 6) && allZero (r.block.drop (28 + n))

/-- A request ends: its response is written and GRN.MBX_STATUS notes it (R435). -/
def State.mbxEnd (s : State) (m : Master) (r : MbxReq) (a : Answer) : State :=
  let bs := leBytes 2 a.status ++ leBytes 2 r.req ++ leBytes 4 0 ++ leBytes 8 a.r0 ++ leBytes 8 a.r1 ++ leBytes 8 0
  let s := if s.masterReach m r.resp 32 false true then s.storeOff r.resp bs else s
  { s with granite := { s.granite with
      mbx := merase s.granite.mbx m.val
      mbxOrder := s.granite.mbxOrder.filter (fun x => x != m.val)
      mbxLast := minsert s.granite.mbxLast m.val (BitVec.ofNat 64 (a.status * 2 ^ 32 + r.req)) } }

/-- The answer that a request gets before any service: an undefined REQ, or a master not listed for it (R435). -/
def mbxRefusal (m : Master) (r : MbxReq) : Option Nat :=
  match mbxMasters r.req with
  | none => some Status.mbxBadRequest
  | some ms => if ms.contains m.val then none else some Status.denied

/-- Requests at the front of the arbiter's order that no service takes are answered (R435). -/
def State.mbxSettle (s : State) : Nat → State
  | 0 => s
  | n + 1 =>
    match s.granite.mbxOrder with
    | [] => s
    | k :: _ =>
      match mfind s.granite.mbx k with
      | none => s
      | some r =>
        let m : Master := Fin.ofNat 8 k
        match mbxRefusal m r with
        | none => s
        | some st => (s.mbxEnd m r (.st st)).mbxSettle n

/-- A doorbell write (R435): at another master's offset it is denied, and while the master's request is BUSY it is ignored; a
block that the master may not read, or a response field that it may not write, is a bad request (log entry 21). -/
def State.mbxDoorbell (s : State) (m slot : Master) (v : Word) : State :=
  if m ≠ slot then s.raise .grnPolicyDenied
  else if (mfind s.granite.mbx m.val).isSome then s.raise .grnGwDenied
  else
    let o := fld v 50 6 * 64
    let bad (s : State) (req : Nat) : State :=
      { s with granite := { s.granite with
          mbxLast := minsert s.granite.mbxLast m.val (BitVec.ofNat 64 (Status.mbxBadRequest * 2 ^ 32 + req)) } }
    if !s.masterReach m o 64 true false then bad s 0
    else
      match s.loadOff o 64 with
      | (s, some (some bs)) =>
        let r : MbxReq := ⟨bs⟩
        if !s.masterReach m r.resp 32 false true then bad s r.req
        else
          { s with granite := { s.granite with
              mbx := minsert s.granite.mbx m.val r, mbxOrder := s.granite.mbxOrder ++ [m.val] } }.mbxSettle 9
      | (s, _) => bad s 0

/-- The request of a master is served when it is the first in the arbiter's order and has this code (R435); the requests behind
it that need no service follow. -/
def State.mbxServe (s : State) (m : Master) (req : Nat) (f : State → MbxReq → State × Answer) : State :=
  match s.granite.mbxOrder.head?, mfind s.granite.mbx m.val with
  | some k, some r =>
    if k = m.val && r.req = req then
      let (s, a) := f s r
      (s.mbxEnd m r a).mbxSettle 9
    else s
  | _, _ => s

/-- The bytes at PTR, as the requesting master reads them. -/
def State.mbxData (s : State) (m : Master) (o n : Nat) : State × (Answer ⊕ List Byte) :=
  if !s.masterReach m o n true false then (s, .inl (addrAnswer o))
  else
    match s.loadOff o n with
    | (s, some (some bs)) => (s, .inr bs)
    | (s, _) => (s, .inl (.st Status.uncorrectable))

/-- Bytes written at PTR, as the requesting master writes them. -/
def State.mbxPut (s : State) (m : Master) (o : Nat) (bs : List Byte) : State × Answer :=
  if bs.isEmpty then (s, .ok)
  else if !s.masterReach m o bs.length false true then (s, addrAnswer o) else (s.storeOff o bs, .ok)

/-- POWER_LIMIT (R435): LIMIT_W, 1,000 to 4,000 W. -/
def execPowerLimit (m : Master) (s : State) : Out1 :=
  .next (s.mbxServe m 1 (fun s r =>
    let w := r.args 0 2
    if !r.clean 2 || w < 1000 || 4000 < w then (s, .st Status.badParam)
    else
      let s := (s.setF .grnPowerLimit [] 12 0 w).effectiveLimit
      (s, .ok (s.reg .grnPowerLimit).toNat)))

/-- The layout of an image manifest (R396). -/
def imageManifestOk (bs : List Byte) : Bool :=
  let n := leAt bs 4 4
  let len := leAt bs 8 8
  leAt bs 0 4 = 0x00020000 && 1 ≤ n && n ≤ 65536 && allZero (slice bs 19 45) && bs.length = 64 + 32 * n + 64 &&
  4194304 * (n - 1) < len && len ≤ 4194304 * n

/-- VERIFY_IMAGE (R396, R435, R439): a verified manifest starts the broadcast of its image (R397). -/
def execVerifyImage (m : Master) (s : State) : Out1 :=
  .next (s.mbxServe m 2 (fun s r =>
    if !r.clean 1 then (s, .st Status.badParam)
    else
      match s.mbxData m r.ptr r.len with
      | (s, .inl a) => (s, a)
      | (s, .inr bs) =>
        let tag := leAt bs 16 2
        let epoch := leAt bs 18 1
        match mfind s.granite.keys (r.args 0 1) with
        | none => (s, .st Status.badParam)
        | some k =>
          if r.args 0 1 < 2 || !k.loaded || k.usage ≠ 4 || k.tag.toNat ≠ tag || k.epoch.toNat ≠ epoch then
            (s, .st Status.badParam)
          else if !imageManifestOk bs ||
              !Config.sm2Verify k.key k.ident (Config.sm3 (bs.take (bs.length - 64))) (bs.drop (bs.length - 64)) then
            (s, .st Status.verifyFail)
          else
            let b : Broadcast := { tag := k.tag, epoch := k.epoch, chunks := leAt bs 4 4, lowest := 0, since := s.now }
            ({ s with broadcasts := s.broadcasts.filter (fun x => !(x.tag == k.tag && x.epoch == k.epoch)) ++ [b] }, .ok)))

/-- The fault of a key blob, 0 for none (R439). -/
def State.keyBlobFault (s : State) (bs : List Byte) : Nat :=
  let slot := leAt bs 4 1
  let usage := leAt bs 5 1
  let dev := slice bs 16 32
  if leAt bs 0 4 ≠ 0x00010000 || slot < 2 || 63 < slot || (usage ≠ 3 && usage ≠ 4) || !allZero (slice bs 9 7) ||
      (usage = 4 && (!allZero dev || !allZero (slice bs 112 96))) then Status.badParam
  else if mget 0 s.flash.protection.usages slot ≠ usage || (usage = 3 && s.granite.debug ≠ 0) then Status.keySlotUsage
  else if usage = 3 && dev ≠ digestBytes s.identity then Status.tpDeviceMismatch
  else if !authSigned (s.authority 0) (Config.sm3 (slice bs 0 208)) (slice bs 208 64) then Status.signatureInvalid
  else 0

/-- The key that a blob carries, none where its ciphertext does not open (R439). -/
def State.blobKey (s : State) (bs : List Byte) : Option (List Byte) :=
  if leAt bs 5 1 = 4 then some (slice bs 48 64) else Config.sm2Decrypt s.flash.identityKey (slice bs 48 160)

/-- KEY_IMPORT (R439). -/
def execKeyImport (m : Master) (s : State) : Out1 :=
  .next (s.mbxServe m 3 (fun s r =>
    if !r.clean 0 || r.len ≠ 272 then (s, .st Status.badParam)
    else
      match s.mbxData m r.ptr 272 with
      | (s, .inl a) => (s, a)
      | (s, .inr bs) =>
        let st := s.keyBlobFault bs
        if st ≠ 0 then (s, .st st)
        else
          match s.blobKey bs with
          | none => (s, .st Status.badParam)
          | some key =>
            let k : KeySlot := { usage := leAt bs 5 1, loaded := true, tag := BitVec.ofNat 16 (leAt bs 6 2),
                                 epoch := BitVec.ofNat 8 (leAt bs 8 1), key := key, ident := [] }
            ({ s with granite := { s.granite with keys := minsert s.granite.keys (leAt bs 4 1) k } }, .ok)))

/-- KEY_CLEAR (R439). -/
def execKeyClear (m : Master) (s : State) : Out1 :=
  .next (s.mbxServe m 4 (fun s r =>
    let slot := r.args 0 1
    if !r.clean 1 || slot < 2 || 63 < slot then (s, .st Status.badParam)
    else ({ s with granite := { s.granite with keys := merase s.granite.keys slot } }, .ok)))

/-- ADMIT_READ (R435): the listed entries of the range; it may reach past the last one (log entry 21). -/
def execAdmitRead (m : Master) (s : State) : Out1 :=
  .next (s.mbxServe m 5 (fun s r =>
    let first := r.args 0 2
    let count := r.args 2 2
    if !r.clean 4 || 16384 < first + count || r.len < 36 * count then (s, .st Status.badParam)
    else
      let es := (s.flash.protection.admitted.drop first).take count
      s.mbxPut m r.ptr (es.flatMap (fun e => digestBytes e.digest ++ leBytes 4 (b2n e.encrypt)))))

/-- POLICY_READ (R435): the 64 entries, then the master enables. -/
def execPolicyRead (m : Master) (s : State) : Out1 :=
  .next (s.mbxServe m 6 (fun s r =>
    if !r.clean 0 || r.len < 2049 then (s, .st Status.badParam)
    else
      let p := s.flash.protection
      s.mbxPut m r.ptr ((List.range 64).flatMap (fun i => policyBytes (mfind p.policy i)) ++ leBytes 1 p.enables.toNat)))

/-- CONFIG_READ (R435): the service section of R438. -/
def execConfigRead (m : Master) (s : State) : Out1 :=
  .next (s.mbxServe m 7 (fun s r =>
    if !r.clean 0 || r.len < s.serviceSection.length then (s, .st Status.badParam)
    else s.mbxPut m r.ptr s.serviceSection))

/-- A bundle is checked and installed (R437): a failure is counted, and a Granite image other than the running one needs two
parties. -/
def State.stageBundle (s : State) (bs : List Byte) : State × Answer :=
  match checkBundle s.flash.svn bs with
  | .bad => (s.raise .grnVerifyFail, .st Status.verifyFail)
  | .rollback => (s.raise .grnVerifyFail, .st Status.rollback)
  | .good b =>
    if s.runningBundle.map (·.granite) ≠ some b.granite then (s, .st Status.tpRequired) else (s.installBundle bs, .ok)

/-- BUNDLE_STAGE (R437). -/
def execBundleStage (m : Master) (s : State) : Out1 :=
  .next (s.mbxServe m 8 (fun s r =>
    if !r.clean 0 then (s, .st Status.badParam)
    else
      match s.mbxData m r.ptr r.len with
      | (s, .inl a) => (s, a)
      | (s, .inr bs) => s.stageBundle bs))

/-- SIGN (R435): a job-signing slot signs a digest for dispatch firmware. -/
def execSign (m : Master) (s : State) : Out1 :=
  .next (s.mbxServe m 9 (fun s r =>
    let slot := r.args 0 1
    let dst := r.args 8 8
    if !allZero (slice r.block 2 6) || !allZero (slice r.block 29 7) || !allZero (r.block.drop 44) || r.len ≠ 32 ||
        dst % 64 ≠ 0 then (s, .st Status.badParam)
    else
      match s.mbxData m r.ptr 32, mfind s.granite.keys slot with
      | (s, .inl a), _ => (s, a)
      | (s, .inr bs), some k =>
        if slot < 2 || !k.loaded || k.usage ≠ 3 then (s, .st Status.keySlotUsage)
        else
          let sig := slice (Config.sm2Sign k.key (BitVec.ofNat 256 (leNat bs)) s.free) 0 64
          let (s, a) := s.bump.mbxPut m dst sig
          (s, if a.status = 0 then .ok dst else a)
      | (s, .inr _), none => (s, .st Status.keySlotUsage)))

/-! ## Two-party change (R440 to R442) -/

/-- An operation of a change record (R440): OP and body. -/
structure TpOp where
  op : Nat
  body : List Byte
  deriving DecidableEq, Repr

/-- BYTES of an operation's body (R440). -/
def tpOpLen (op : Nat) : Option Nat :=
  match op with
  | 1 => some 36
  | 2 => some 4
  | 3 => some 36
  | 4 => some 32
  | 5 => some 4
  | 6 => some 104
  | 7 => some 4
  | 8 => some 40
  | _ => none

/-- The zero bytes that an operation's layout asks for (R440). -/
def tpOpClean (x : TpOp) : Bool :=
  match x.op with
  | 2 | 7 => allZero (slice x.body 1 3)
  | 3 => leAt x.body 32 4 ≤ 1
  | 5 => allZero (slice x.body 2 2)
  | 6 => allZero (slice x.body 1 3)
  | _ => true

/-- The operations of a record, and the bytes after them; none where one has a layout that R440 does not give. -/
def tpOps : Nat → List Byte → Option (List TpOp × List Byte)
  | 0, bs => some ([], bs)
  | n + 1, bs =>
    let op := leAt bs 0 2
    let len := leAt bs 2 2
    if tpOpLen op ≠ some len || bs.length < 4 + len then none
    else
      let x : TpOp := ⟨op, slice bs 4 len⟩
      if !tpOpClean x then none else (tpOps n (bs.drop (4 + len))).map (fun r => (x :: r.1, r.2))

/-- A record that passes check 1 of R441: its operations. -/
def tpLayout (bs : List Byte) : Option (List TpOp) :=
  let len := leAt bs 4 4
  let nops := leAt bs 76 2
  if leAt bs 0 4 ≠ 0x00010000 || len < 256 || 65536 < len || len % 8 ≠ 0 || bs.length < len ||
      !allZero (bs.drop len) || nops < 1 || 255 < nops || !allZero (slice bs 78 2) ||
      !allZero (slice bs (len - 134) 6) then none
  else
    match tpOps nops (slice bs 80 (len - 216)) with
    | some (xs, rest) => if rest.length < 8 && allZero rest then some xs else none
    | none => none

/-- What the operations change, as far as they have been taken. -/
structure TpWork where
  prot : Protection
  debug : Option Byte
  bundle : Option (List Byte)
  admits : Bool
  /-- key slots whose usage has changed -/
  slots : List Nat
  deriving DecidableEq, Repr

/-- The state of the protection set-up before an operation (R441 check 7). -/
def tpPolicy (w : TpWork) (b : List Byte) : Option TpWork :=
  let i := leAt b 0 4
  let e := slice b 4 32
  let flags := leAt e 19 1
  if 63 < i || 1 < leAt e 16 1 || 1 < flags || !allZero (slice e 22 10) then none
  else
    let p : PolicyEntry := { base := leAt e 0 8, limit := leAt e 8 8, node := leAt e 16 1 = 1,
                             read := BitVec.ofNat 8 (leAt e 17 1), write := BitVec.ofNat 8 (leAt e 18 1),
                             tag := BitVec.ofNat 16 (leAt e 20 2) }
    some { w with prot := { w.prot with
      policy := if flags = 1 then minsert w.prot.policy i p else merase w.prot.policy i } }

/-- The authority that an AUTHORITY_SET body sets (R440). -/
def tpAuthority (b : List Byte) : KeySlot :=
  { usage := leAt b 0 1 + 1, loaded := true, tag := 0, epoch := 0, key := slice b 4 64,
    ident := slice b 72 (leAt b 68 4) }

/-- One operation against the state left by those before it; none where it is not valid (R441 check 7). -/
def State.tpApply (s : State) (w : TpWork) (x : TpOp) : Option TpWork :=
  let b := x.body
  match x.op with
  | 1 => tpPolicy w b
  | 2 => if 127 < leAt b 0 1 then none else some { w with prot := { w.prot with enables := BitVec.ofNat 8 (leAt b 0 1) } }
  | 3 =>
    let e : AdmitEntry := ⟨BitVec.ofNat 256 (leAt b 0 32), tbit (leAt b 32 4) 0⟩
    let rest := w.prot.admitted.filter (fun a => a.digest != e.digest)
    if 16384 ≤ rest.length then none
    else some { w with prot := { w.prot with admitted := rest ++ [e] }, admits := true }
  | 4 =>
    let d := BitVec.ofNat 256 (leAt b 0 32)
    if !(w.prot.admitted.any (fun a => a.digest == d)) then none
    else some { w with prot := { w.prot with admitted := w.prot.admitted.filter (fun a => a.digest != d) }, admits := true }
  | 5 =>
    let k := leAt b 0 1
    let u := leAt b 1 1
    if k < 2 || 63 < k || !(u = 0 || u = 3 || u = 4) then none
    else
      let slots := if mget 0 w.prot.usages k = u then w.slots else sinsert w.slots k
      some { w with prot := { w.prot with usages := mset 0 w.prot.usages k u }, slots := slots }
  | 6 =>
    let k := leAt b 0 1
    let n := leAt b 68 4
    if 1 < k || 32 < n then none
    else
      some { w with prot := { w.prot with authority := minsert w.prot.authority k (tpAuthority b) } }
  | 7 => if 31 < leAt b 0 1 then none else some { w with debug := some (BitVec.ofNat 8 (leAt b 0 1)) }
  | 8 =>
    let o := leAt b 0 8
    let bs := s.bundleAt o 4
    if (s.segments o bs.length).isNone then none
    else
      (match checkBundle s.flash.svn bs with
      | .good x => if slice b 8 32 == digestBytes (Config.sm3 x.manifest) then some { w with bundle := some bs } else none
      | _ => none)
  | _ => none

/-- Every operation in order: what they leave, or the index from 1 of the first that is not valid. -/
def State.tpAll (s : State) (w : TpWork) : Nat → List TpOp → TpWork ⊕ Nat
  | _, [] => .inl w
  | i, x :: xs =>
    match s.tpApply w x with
    | none => .inr i
    | some w => s.tpAll w (i + 1) xs

/-- A two-party change that has passed every check is applied (R441): the new record, one raise of PROT, then the operations'
effects on hardware. -/
def State.tpCommit (s : State) (record : List Byte) (w : TpWork) : State :=
  let s := { s with flash := { s.flash with
    protection := { w.prot with prot := w.prot.prot + 1 }, protDigest := Config.sm3 record } }
  let s := { s with granite := { s.granite with keys := s.granite.keys.filter (fun k => !w.slots.contains k.1) } }
  let s := if w.admits then s.admitListChanged else s
  let s := match w.debug with
    | some d =>
      { s with granite := { s.granite with
          debug := s.granite.debug ||| d, keys := s.granite.keys.filter (fun k => k.2.usage != 3) } }.raise .grnDebugUnlocked
    | none => s
  let s := match w.bundle with
    | some bs => s.installBundle bs
    | none => s
  s.raise .grnChangeApplied

/-- The authority keys under which a record's signatures are checked: those in force, or in the factory state those that the
record enrols (R442). -/
def State.tpKeys (s : State) (xs : List TpOp) : Option KeySlot × Option KeySlot :=
  if s.factory then
    let w := xs.foldl (fun m x => if x.op = 6 && leAt x.body 0 1 ≤ 1 && leAt x.body 68 4 ≤ 32 then
      minsert m (leAt x.body 0 1) (tpAuthority x.body) else m) ([] : SMap KeySlot)
    (mfind w 0, mfind w 1)
  else (s.authority 0, s.authority 1)

/-- The checks of R441 from check 2 on; the nonce is used once check 2 has passed. -/
def State.tpChecks (s : State) (bs : List Byte) (xs : List TpOp) : State × Answer :=
  let bs := bs.take (leAt bs 4 4)
  let nonce := BitVec.ofNat 256 (leAt bs 8 32)
  if !s.granite.nonces.contains nonce then (s.raise .grnChangeRefused, .st Status.nonceInvalid)
  else
    let s := { s with granite := { s.granite with nonces := s.granite.nonces.erase nonce } }
    let refuse (n d : Nat) : State × Answer := (s.raise .grnChangeRefused, { status := n, detail := d })
    let base := bs.length - 136
    let a := leAt bs base 1
    let b := leAt bs (base + 1) 1
    let ks := s.tpKeys xs
    let key (i : Nat) : Option KeySlot := if i = 0 then ks.1 else ks.2
    let d := Config.sm3 (bs.take base)
    if slice bs 40 32 ≠ digestBytes s.identity then refuse Status.tpDeviceMismatch 0
    else if leAt bs 72 4 ≠ s.flash.protection.prot.toNat then refuse Status.tpStale 0
    else if a = b || (s.factory && ks.1.map (·.key) == ks.2.map (·.key)) then refuse Status.sameAuthority 0
    else if 1 < a || 1 < b then refuse Status.tpBadRecord 0
    else if !authSigned (key a) d (slice bs (base + 8) 64) || !authSigned (key b) d (slice bs (base + 72) 64) then
      refuse Status.signatureInvalid 0
    else
      match s.tpAll ⟨s.flash.protection, none, none, false, []⟩ 1 xs with
      | .inr i => refuse Status.tpBadRecord i
      | .inl w =>
        let s := s.tpCommit bs w
        (s, .ok s.flash.protection.prot.toNat)

/-- A proposed record (R441, R442), from the master that submits it. -/
def State.tpPropose (s : State) (m : Master) (bs : List Byte) : State × Answer :=
  let refuse (n : Nat) : State × Answer := (s.raise .grnChangeRefused, .st n)
  if s.factory && m ≠ 3 then refuse Status.tpNotEnrolled
  else
    match tpLayout bs with
    | none => refuse Status.tpBadRecord
    | some xs =>
      let enrols (k : Nat) : Bool := xs.any (fun x => x.op == 6 && leAt x.body 0 1 == k)
      if s.factory && !(enrols 0 && enrols 1) then refuse Status.tpNotEnrolled else s.tpChecks bs xs

/-- TWO_PARTY_NONCE (R441): a fresh nonce; a fifth ends the oldest. -/
def execTwoPartyNonce (q : QueueId) (seq : BitVec 32) (s : State) : Out1 :=
  .next (s.runCmd 0x0801 q.val seq (fun s c =>
    if s.cmdBad c (c.arg 0) 32 false true then s.finishCmd c (addrAnswer (ptrOff (c.arg 0)))
    else
      let n := Config.random s.free
      let s := s.bump
      let live := s.granite.nonces ++ [n]
      let s := { s with granite := { s.granite with nonces := live.drop (live.length - 4) } }
      (s.storeOff (ptrOff (c.arg 0)) (digestBytes n)).finishCmd c (.ok s.flash.protection.prot.toNat)))

/-- TWO_PARTY_PROPOSE (R441). -/
def execTwoPartyPropose (q : QueueId) (seq : BitVec 32) (s : State) : Out1 :=
  .next (s.runCmd 0x0802 q.val seq (fun s c =>
    let (s, a) := s.tpPropose c.master c.params
    s.finishCmd c a))

/-- TWO_PARTY_STATUS (R441). -/
def execTwoPartyStatus (q : QueueId) (seq : BitVec 32) (s : State) : Out1 :=
  .next (s.runCmd 0x0803 q.val seq (fun s c =>
    s.finishCmd c { status := 0, detail := b2n s.factory, r0 := s.flash.protection.prot.toNat,
                    r1 := leAt (digestBytes s.flash.protDigest) 0 8 }))

/-! ## Attestation (R444) -/

/-- The measurements 1 to 7 (R444). -/
def State.measurements (s : State) : List Digest :=
  let imgs := match s.runningBundle with
    | some b => b.images
    | none => [[], [], [], []]
  imgs.map Config.sm3 ++ [
    Config.sm3 (Config.manufacturingSection ++ s.serviceSection),
    Config.sm3 (s.protectionBytes ++ leBytes 4 s.flash.protection.prot.toNat),
    Config.sm3 (leBytes 1 (BitVec.toNat s.granite.debug))]

/-- A signature by the device identity key over the transcript of SPDM 1.3, which the manual does not give: over a free digest
(R444; log entry 3). -/
def State.spdmSign (s : State) : State × List Byte :=
  (s.bump.bump, Config.sm2Sign s.flash.identityKey (BitVec.ofNat 256 (Config.free s.free)) (s.free + 1))

/-- An SPDM request is answered while Granite serves (R444, R457 step 3). -/
def State.spdm (s : State) (t : SpdmPath) (f : State → State × SpdmResponse) : State :=
  if s.getF .hstBoot [] 63 61 < 2 || (t = .doe && s.hostDown) then s
  else
    let (s, r) := f s
    s.emit (.spdm t r)

/-- GET_VERSION (R444). -/
def execGetVersion (t : SpdmPath) (_req : List Byte) (s : State) : Out1 :=
  .next (s.spdm t (fun s => (s, .version 1 3)))

/-- GET_CAPABILITIES (R444). -/
def execGetCapabilities (t : SpdmPath) (_req : List Byte) (s : State) : Out1 :=
  .next (s.spdm t (fun s => (s, .capabilities true true true)))

/-- NEGOTIATE_ALGORITHMS (R444). -/
def execNegotiateAlgorithms (t : SpdmPath) (_req : List Byte) (s : State) : Out1 :=
  .next (s.spdm t (fun s => (s, .algorithms true true)))

/-- GET_DIGESTS (R444). -/
def execGetDigests (t : SpdmPath) (_req : List Byte) (s : State) : Out1 :=
  .next (s.spdm t (fun s => (s, .digests (Config.sm3 s.flash.chain))))

/-- GET_CERTIFICATE (R444). -/
def execGetCertificate (t : SpdmPath) (_req : List Byte) (s : State) : Out1 :=
  .next (s.spdm t (fun s => (s, .certificate s.flash.chain)))

/-- CHALLENGE (R444). -/
def execChallenge (t : SpdmPath) (_req : List Byte) (s : State) : Out1 :=
  .next (s.spdm t (fun s =>
    let (s1, sig) := s.spdmSign
    (s1, .challengeAuth (Config.sm3 s.flash.chain) (Config.sm3 (s.measurements.flatMap digestBytes)) sig)))

/-- GET_MEASUREMENTS (R444). -/
def execGetMeasurements (t : SpdmPath) (_req : List Byte) (s : State) : Out1 :=
  .next (s.spdm t (fun s =>
    let (s1, sig) := s.spdmSign
    (s1, .measurements s.measurements sig)))

end Sys2Proof.Machine
end

