-- ==== Sys2Proof/Machine/Host.lean ====
section
/-! DEFINITION. The host port, boot and the resets (R448 to R465). -/

namespace Sys2Proof.Machine

/-! ## Boot (R457 to R459) -/

/-- STAGE of HST.BOOT (R457). -/
def State.stage (s : State) : Nat := s.getF .hstBoot [] 63 61
/-- STAGE set. -/
def State.setStage (s : State) (n : Nat) : State := s.setF .hstBoot [] 63 61 n

/-- A region as Granite sets it at boot (R59, R70): the loop of its class, the ceiling, the nominal point, and taps and the
voltage setpoint of the newest ledger entry, or the reset values of TEL where there is none. -/
def State.bootRegion (s : State) (e : Option LedgerEntry) (r : Nat) : State :=
  let rec_ := (e.map (fun x => (nth 0 x.records r).toNat))
  let held := rec_.map (fun w => bits w 11 0)
  let s := match rec_ with
    | some w => s.setF .telRgTaps [r] 7 0 (bits w 19 12)
    | none => s
  let s := (s.setF .telRgSet [r] 47 36 900).setF .telRgSet [r] 0 0 (b2n (!isCdie r))
  let point := if isCdie r then pointSet r 1 else held.getD (s.getF .telRgSet [r] 35 24)
  (s.setRegion r { Region.zero with point := point, vhold := held.getD 900 }).applySet r

/-- The ledger at boot (R70): its newest entry, or LEDGER_FAIL. -/
def State.bootLedger (s : State) : State :=
  let e := s.ledgerEntries.head?
  let s := (List.range 84).foldl (fun s r => s.bootRegion e r) { s with point := 1, ledgerAt := s.now }
  match e with
  | some x => s.setReg .telLedger [] (BitVec.ofNat 64 (x.seq.toNat * 2 ^ 32 + x.hours.toNat))
  | none => s.raise .telLedgerFail

/-- A cause of node loss that the map and the tiles show (R412, R421). -/
def State.mustLose (s : State) : Bool :=
  let p := s.granite.pairs
  !(p.lockstep || p.standby) || s.dispatchOn == 0 || s.pdieOn < 8 || s.package.phases.any (fun e => 3 ≤ e.2)

/-- The pairs as the map leaves them: the lockstep pair serves where it is in use (R17, R429). -/
def State.bootPairs (s : State) : State :=
  let m := s.flash.map.granite
  let p : Pairs := ⟨!m.contains 0, !m.contains 1, m.contains 0 && !m.contains 1⟩
  { s with granite := { s.granite with pairs := p } }

/-- The running set and its version (R437, R447). -/
def State.runSet (s : State) (sel : Bool) (b : Bundle) : State :=
  { s with granite := { s.granite with
      bootSet := sel
      bundle := [BitVec.ofNat 16 (leAt b.manifest 8 2), BitVec.ofNat 16 (leAt b.manifest 10 2),
                 BitVec.ofNat 16 (leAt b.manifest 12 2)]
      bundleDigest := Config.sm3 b.manifest } }

/-- Steps 2 and 3 of R457 (R437, R459): the preferred set, or the other one, verifies; the records and the ledger load; J,
ALLOC_TOP and the links follow the map (R310, R321). With neither set, no die is released and the node is lost. -/
def State.graniteBoot (s : State) : State :=
  let s := s.bootPairs.setStage 1
  let sel := s.flash.bootSel
  let try_ (b : Bool) : Option Bundle := match checkBundle s.flash.svn (s.flash.set b) with
    | .good x => some x
    | _ => none
  let run (s : State) (b : Bool) (x : Bundle) : State :=
    let s := ((s.runSet b x).setStage 2).bootLedger.effectiveLimit
    let k := s.flash.map.pcs.length
    let top := BitVec.ofNat 64 (0x8880000000 - 0x60000000 * k)
    let s := (s.setReg .memReserveBase [] top).setReg .memAllocTop [] top
    let s := (List.range 48).foldl State.mapLinks s
    if s.mustLose then s.nodeLoss else s
  match try_ sel with
  | some x => run s sel x
  | none =>
    let s := s.raise .grnVerifyFail
    match try_ (!sel) with
    | some x => run s (!sel) x
    | none => (s.raise .grnVerifyFail).nodeLoss

/-- Milliseconds since PERST_N was deasserted, in 16 bits (R458, R466). -/
def State.sincePerst (s : State) : Nat := min ((s.now - s.package.perstAt) / 1000000) 65535

/-- Step 6 of R457: the dies are released, and Granite raises the anti-rollback counters that lie below the running images'
(R437); held while PERST_N is asserted, REFCLK_156 is absent or the node is lost (R457, R459, R478). -/
def State.release (s : State) : State :=
  if s.package.perst || !s.package.refclk || s.package.lost || s.stage ≠ 2 then s
  else
    let svns := match s.runningBundle with
      | some b => (b.images.zip s.flash.svn).map (fun p => if p.2.toNat < imgSvn p.1 then BitVec.ofNat 16 (imgSvn p.1) else p.2)
      | none => s.flash.svn
    { s with flash := { s.flash with svn := svns } }.setStage 3

/-- POWER_ON (R457 steps 1 to 4, R473): the input comes within its limits; a cold reset (R460). -/
def execPowerOn (s : State) : Out1 :=
  .next (
    if s.package.power then s
    else
      let s := s.restart
      { s with package := { s.package with power := true } }.graniteBoot)

/-- PERST_DEASSERT (R457 steps 5 and 6). -/
def execPerstDeassert (s : State) : Out1 :=
  .next (
    if !s.package.power || !s.package.perst || s.stage < 2 then s
    else { s with package := { s.package with perst := false, perstAt := s.now } }.release)

/-- The width at which a link of working lanes runs, 0 where fewer than four fit (R448, R453). -/
def laneWidth (lanes : Nat) : Nat :=
  let all (hi lo : Nat) : Bool := bits lanes hi lo == 2 ^ (hi + 1 - lo) - 1
  if all 15 0 then 16 else if all 7 0 || all 15 8 then 8 else if all 3 0 || all 15 12 then 4 else 0

/-- CONFIG_READY (R457 steps 7 and 8, R458): the link has trained and configuration space is ready. -/
def execConfigReady (lanes : BitVec 16) (mode : HostMode) (s : State) : Out1 :=
  .next (
    let w := laneWidth lanes.toNat
    if s.stage < 3 || s.package.lost || s.getF .hstBoot [] 33 33 = 1 || w = 0 || mode = .down then s
    else
      let s := { s with hostPort := { s.hostPort with mode := mode, width := w } }
      (s.setF .hstBoot [] 33 33 1).setF .hstBoot [] 31 16 s.sincePerst)

/-- HBM_TRAINED (R457 step 9): the map's pseudo-channels are out, and the retirements that were completed stand (R306, R307). -/
def execHbmTrained (s : State) : Out1 :=
  .next (
    if s.stage ≠ 3 then s
    else
      let s := s.flash.map.pcs.foldl (fun s p => s.setPc p { s.pc p with mode := .mappedOut }) s
      let kept := s.flash.retire.filter (fun e => e.2.st == RetireSt.served)
      { s with flash := { s.flash with retire := kept } }.setStage 4)

/-- Every codeword of HBM3E written with zeros (R457 step 10). -/
def State.zeroHbm (s : State) : State :=
  { s with mem := s.mem.filter (fun c => decide (2 ^ 40 ≤ c.1)), errs := s.errs.filter (fun e => decide (2 ^ 40 ≤ e.1)) }

/-- MEMORY_ACTIVE (R457 step 10, R458). -/
def execMemoryActive (s : State) : Out1 :=
  .next (
    if s.stage ≠ 4 then s
    else ((s.zeroHbm.setStage 5).setF .hstBoot [] 32 32 1).setF .hstBoot [] 15 0 s.sincePerst)

/-! ## Warm reset and the power input (R460, R461, R474, R475) -/

/-- WARM_RESET (R460, R461): PERST_N asserted after it was deasserted; an orderly power-down writes a ledger entry first
(R70, R475). -/
def execWarmReset (orderly : Bool) (s : State) : Out1 :=
  .next (
    if !s.package.power || s.package.perst then s
    else
      let s := if orderly then s.ledgerWrite 3 else s
      (s.restart.setF .hstReset [] 34 32 1).graniteBoot)

/-! ## NODE_RESET and CLUSTER_RESET (R462, R463) -/

/-- NODE_RESET's field check: bits 15:1 of its flags (R462). -/
def nodeResetParam (p : List Nat) : Nat := if 1 < nth 0 p 0 then Status.badParam else 0

/-- HBM3E bytes that a NODE_RESET keeps: outside job space, and below 64 GiB when the host has committed an HDM decoder (R461). -/
def State.nodeResetKeeps (s : State) (a : Nat) : Bool :=
  2 ^ 50 ≤ a || (a < 2 ^ 40 && (s.jTop ≤ a || (s.hostPort.hdmCommitted && a < 2 ^ 36)))

/-- A register that NODE_RESET resets: CQ, SCH, CLS, CORE, TA, SLU, CTX, SNP, QNT and SLV (R461). -/
def nodeResetReg (o : Nat) : Bool := 2 ^ 28 ≤ o || [1, 2, 5, 6, 7].contains (o / 2 ^ 24)

/-- Step 5 of R462 (R461, NODE_RESET). -/
def State.nodeResetApply (s : State) (links : Bool) : State :=
  let n := satInc 32 (s.getF .hstReset [] 31 0)
  let s := { s with
    mem := s.mem.filter (fun c => s.nodeResetKeeps c.1), errs := s.errs.filter (fun e => s.nodeResetKeeps e.1)
    heldWrites := s.heldWrites.filter (fun w => s.nodeResetKeeps w.1)
    regs := s.regs.filter (fun r => !nodeResetReg r.1)
    tallies := [], queues := [], started := [], waits := State.reset.waits, lastServed := State.reset.lastServed
    jobs := [], tables := [], placement := none, cores := [], tracked := [], batches := [], reservations := []
    ctxs := [], copies := [], reductions := [], redIn := [], snaps := [], pages := [], stageUsed := 0, stagePeak := 0 }
  let s := (s.setF .hstReset [] 34 32 2).setF .hstReset [] 31 0 n
  if links then
    (List.range 48).foldl (fun s n => if (s.link n).st == LinkSt.disabled then s else s.linkToDown n) s
  else s

/-- A command that waits for commands of queue 0 under R78, which a NODE_RESET does not wait for (R462 step 3). -/
def Started.waitsQueue0 (c : Started) : Bool :=
  match c.wait with
  | .drain t _ => t == 0
  | .selfDrain _ => c.q == 0
  | _ => false

/-- Steps 3 to 6 of R462, once every job is torn down, every other command has replied and the NODE_RESET's reply can be
written. -/
def State.nodeResetGo (s : State) (c : Started) (links : Bool) : State :=
  let k := s.queue c.q
  if !s.jobs.isEmpty || s.started.any (fun d => !(d.q == c.q && d.seq == c.seq)) || k.cringFull || !k.held.isEmpty then s
  else (s.answer c (.ok)).nodeResetApply links

/-- Step 1 and 2 of R462: commands that have not begun to execute reply ABORTED, and every open job is torn down under R400. -/
def State.nodeResetBegin (s : State) (c : Started) (links : Bool) : State :=
  let s := s.waitCmd c (.nodeReset links s.now)
  let s := s.finishAll Status.aborted (fun d => d.wait == .ready || d.waitsQueue0)
  (mkeys s.jobs).foldl (fun s j => match s.job j with
    | some b => (if b.teardown then s else s.beginTeardown j b).teardownCheck j
    | none => s) s

/-- NODE_RESET (R462); the row taken again carries a NODE_RESET that waits to its end once its waits are over (log entry 22). -/
def execNodeReset (q : QueueId) (seq : BitVec 32) (s : State) : Out1 :=
  .next (
    match s.findStarted q.val seq with
    | none => s
    | some c =>
      if c.opcode ≠ 0x0A01 then s
      else
        match c.wait with
        | .ready =>
          let links := tbit (c.arg 0) 0
          (s.nodeResetBegin c links).nodeResetGo c links
        | .nodeReset links _ => s.nodeResetGo c links
        | _ => s)

/-- CLUSTER_RESET's field check (R463). -/
def clusterResetParam (p : List Nat) : Nat := if 671 < nth 0 p 0 then Status.badParam else 0

/-- A cluster serves a logical cluster under the placement in force (R463). -/
def State.serving (s : State) (p : Nat) : Bool :=
  match s.placement with
  | none => false
  | some x => x.serve.any (fun r => r.2.phys == p)

/-- An address in the Shale slices or Pools of a physical cluster (R26). -/
def ofCluster (p a : Nat) : Bool :=
  (2 ^ 41 + 17 * p * 2 ^ 19 ≤ a && a < 2 ^ 41 + 17 * (p + 1) * 2 ^ 19) ||
  (2 ^ 42 + 17 * p * 2 ^ 16 ≤ a && a < 2 ^ 42 + 17 * (p + 1) * 2 ^ 16)

/-- CLUSTER_RESET (R461, R463). -/
def execClusterReset (q : QueueId) (seq : BitVec 32) (s : State) : Out1 :=
  .next (s.runCmd 0x0A02 q.val seq (fun s c =>
    let p := c.arg 0
    if s.flash.map.clusterOff p then s.finishCmd c (.st Status.unitAbsent)
    else if s.serving p then s.finishCmd c (.st Status.resetBusy)
    else
      let s := { s with
        mem := s.mem.filter (fun x => !ofCluster p x.1), errs := s.errs.filter (fun x => !ofCluster p x.1)
        cores := s.cores.filter (fun x => x.1 / 17 != p)
        regs := s.regs.filter (fun r => !(2 ^ 28 ≤ r.1 && (r.1 - 2 ^ 28) / 0x40000 == p)) }
      s.finishCmd c (.ok)))

/-! ## The host port (R449 to R453) -/

/-- FUNCTION_LEVEL_RESET (R449): the MSI-X table and the queues that notify the host are disabled. -/
def execFunctionLevelReset (s : State) : Out1 :=
  .next (
    let s := { s with hostPort := { s.hostPort with msixEnabled := false } }
    (mkeys s.queues).foldl (fun s q =>
      let k := s.queue q
      if k.st ≠ .disabled && fld k.ctrl 9 9 = 0 then s.setQueue q { k with st := .disabled, stopping := false } else s) s)

/-- The host link runs a CXL mode (R448). -/
def hostModeCxl : HostMode → Bool
  | .cxl11 | .cxl20 | .cxl31 => true
  | _ => false

/-- HOST_SNOOP (R450): a miss. -/
def execHostSnoop (_a : Nat) (s : State) : Out1 :=
  .next (if hostModeCxl s.hostPort.mode then s.emit (.cxl none) else s)

/-- Entries of the snoop filter (R451). -/
def snoopEntries : Nat := 262144

/-- A line that the host caches enters the snoop filter; a full filter back-invalidates its oldest entry first (R451). -/
def State.track (s : State) (line : Nat) : State :=
  let h := s.hostPort
  if h.snoop.any (fun l => l.line == line) then s
  else
    let s := if snoopEntries ≤ h.snoop.length then
        match h.snoop with
        | l :: ls => ({ s with hostPort := { h with snoop := ls } }.emit (.biSnp l.line)).releaseHeld
        | [] => s
      else s
    { s with hostPort := { s.hostPort with snoop := s.hostPort.snoop ++ [⟨line, none⟩] } }

/-- A write of a line by the host itself, which its own tracking does not hold. -/
def State.hostWrite (s : State) (a : Nat) (bs : List Byte) : State :=
  let lines := s.hostPort.snoop
  let s := { s with hostPort := { s.hostPort with snoop := [] } }.storePart a bs
  { s with hostPort := { s.hostPort with snoop := lines } }

/-- HDM_ACCESS (R451): a read (no data) or a write of the 64-byte line at device physical address a; a denied or uncorrectable
read answers poison, a denied write is dropped. -/
def execHdmAccess (a : Nat) (data : Option (List Byte)) (cache : Bool) (s : State) : Out1 :=
  .next (
    let o := a / 64 * 64
    if s.hostPort.mode ≠ .cxl31 || s.getF .hstBoot [] 32 32 = 0 || 2 ^ 36 ≤ a then s
    else
      match data with
      | some bs =>
        let r := s.allowed 0 true o false true 0
        if r.2 then r.1.hostWrite o bs else r.1
      | none =>
        let g := s.allowed 0 true o true false 0
        if !g.2 then g.1.emit (.cxl none)
        else
          let (s, r) := g.1.load o 64
          let s := if cache then s.track (o / 64) else s
          s.emit (.cxl r))

/-- An entry of the snoop filter that was snooped goes, and the write that waited for it proceeds (R451). -/
def State.dropLine (s : State) (line : Nat) : State :=
  { s with hostPort := { s.hostPort with
      snoop := s.hostPort.snoop.filter (fun l => l.line != line) } }.releaseHeld

/-- BIRSP (R451). -/
def execBirsp (a : Nat) (s : State) : Out1 :=
  .next (if s.hostPort.snoop.any (fun l => l.line == a / 64 && l.snooped.isSome) then s.dropLine (a / 64) else s)

/-- BI_TIMEOUT (R451): 10 ms without a BIRsp. -/
def execBiTimeout (a : Nat) (s : State) : Out1 :=
  .next (
    match s.hostPort.snoop.find? (fun l => l.line == a / 64) with
    | some ⟨_, some t⟩ => if t + 10000000 ≤ s.now then (s.dropLine (a / 64)).raise .hstBiTimeout else s
    | _ => s)

/-! ### IDE (R452) -/

/-- Low bit of a stream's state in HST.IDE_STATE. -/
def ideLo (stream : Nat) : Nat := 4 * stream

/-- A stream holds keys of one set in both directions. -/
def State.ideSet (s : State) (stream set : Nat) : Bool :=
  s.hostPort.ideKeys.contains (stream, 0, set) && s.hostPort.ideKeys.contains (stream, 1, set)

/-- The state of a stream that has not failed: 0 insecure, 1 keyed, 2 secure (R452). -/
def State.ideState (s : State) (stream : Nat) : Nat :=
  if !(s.ideSet stream 0 || s.ideSet stream 1) then 0
  else if nth false s.hostPort.ideEnabled stream then 2 else 1

/-- A stream's state brought up to date, a failed one only with new keys. -/
def State.ideSettle (s : State) (stream : Nat) : State :=
  let lo := ideLo stream
  if s.getF .hstIdeState [] (lo + 3) lo = 3 && s.ideState stream = 0 then s
  else s.setF .hstIdeState [] (lo + 3) lo (s.ideState stream)

/-- The status of an IDE key blob's load, and the stream, direction and key set that it keys (R452). -/
def State.ideLoad (s : State) (bs : List Byte) : Nat :=
  if leAt bs 0 4 ≠ 0x00010000 || 1 < leAt bs 4 1 || 1 < leAt bs 5 1 || 1 < leAt bs 6 1 || leAt bs 7 1 ≠ 0 then
    Status.badParam
  else if slice bs 8 32 ≠ digestBytes s.identity then Status.tpDeviceMismatch
  else if !authSigned (s.authority 0) (Config.sm3 (slice bs 0 168)) (slice bs 168 64) then Status.signatureInvalid
  else if (Config.sm2Decrypt s.flash.identityKey (slice bs 40 128)).isNone then Status.badParam
  else 0

/-- A blob named with GO is checked and its key programmed (R452). -/
def State.ideGo (s : State) (m : Master) (o : Nat) : State :=
  let done (s : State) (st : Nat) : State := s.setF .hstIdeState [] 31 16 st
  if !s.masterReach m o 232 true false then done s Status.badParam
  else
    match s.loadOff o 232 with
    | (s, some (some bs)) =>
      let st := s.ideLoad bs
      if st ≠ 0 then done s st
      else
        let stream := leAt bs 4 1
        let set := leAt bs 6 1
        let key := (stream, leAt bs 5 1, set)
        let s := { s with hostPort := { s.hostPort with
          ideKeys := if s.hostPort.ideKeys.contains key then s.hostPort.ideKeys else s.hostPort.ideKeys ++ [key] } }
        let s := if s.ideSet stream set then s.setF .hstIdeState [] (8 + stream) (8 + stream) set else s
        done (s.ideSettle stream) 0
    | (s, _) => done s Status.uncorrectable

/-- IDE_FAIL (R452): the stream fails, and its keys are of no more use. -/
def execIdeFail (stream : Fin 2) (s : State) : Out1 :=
  .next (
    let lo := ideLo stream.val
    if s.getF .hstIdeState [] (lo + 3) lo ≠ 2 then s
    else
      let s := { s with hostPort := { s.hostPort with ideKeys := s.hostPort.ideKeys.filter (fun k => k.1 != stream.val) } }
      (s.setF .hstIdeState [] (lo + 3) lo 3).raise .hstIdeFail)

/-! ### Width and loss of the link (R453) -/

/-- The host link goes down (R453): streams must be enabled again after the next training (R465). -/
def State.hostLinkFails (s : State) : State :=
  let s := { s with hostPort := { s.hostPort with
    mode := .down, width := 0, ideEnabled := [false, false], detectLast := s.now } }
  ((s.ideSettle 0).ideSettle 1).raise .hstLinkDown

/-- WIDTH_DOWN (R453): the lanes that still work. -/
def execWidthDown (lanes : BitVec 16) (s : State) : Out1 :=
  .next (
    let w := laneWidth lanes.toNat
    if s.hostDown || s.hostPort.width ≤ w then s
    else if w = 0 then s.hostLinkFails
    else { s with hostPort := { s.hostPort with width := w } }.raise .hstWidthDown)

/-- HOST_LINK_DOWN (R453). -/
def execHostLinkDown (s : State) : Out1 := .next (if s.hostDown then s else s.hostLinkFails)

/-- CXL_DETECT_RETRY (R453): 1 s after the last attempt, a full training with the lanes that answer. -/
def execCxlDetectRetry (lanes : BitVec 16) (mode : HostMode) (s : State) : Out1 :=
  .next (
    let w := laneWidth lanes.toNat
    if !s.hostDown || s.getF .hstBoot [] 33 33 = 0 || s.package.lost || s.now < s.hostPort.detectLast + 1000000000 then s
    else
      let s := { s with hostPort := { s.hostPort with detectLast := s.now } }
      if w = 0 || mode = .down then s else { s with hostPort := { s.hostPort with mode := mode, width := w } })

/-- COMPONENT_REGISTER_WRITE (R449, R451, R452): a write while the link is up. The pending bits of an MSI-X table that is enabled
are signalled; the pending-bit array and the offsets beyond it discard writes. -/
def execComponentRegisterWrite (w : CompWrite) (s : State) : Out1 :=
  .next (
    if s.hostDown then s
    else
      match w with
      | .hdm on => { s with hostPort := { s.hostPort with hdmCommitted := on } }
      | .ide st on =>
        { s with hostPort := { s.hostPort with ideEnabled := setNth s.hostPort.ideEnabled st.val on } }.ideSettle st.val
      | .msix on =>
        if on then
          let vs := s.hostPort.pba
          vs.foldl (fun s v => s.emit (.msix v)) { s with hostPort := { s.hostPort with msixEnabled := true, pba := [] } }
        else { s with hostPort := { s.hostPort with msixEnabled := false } }
      | .bar2 off size v =>
        if 0x18000 ≤ off || off % size ≠ 0 then s
        else
          let o := off / 8 * 8
          let lo := 8 * (off % 8)
          let old := mget 0 s.hostPort.bar2 o
          let new := BitVec.ofNat 64 (putBits old.toNat (lo + 8 * size - 1) lo v.toNat)
          { s with hostPort := { s.hostPort with bar2 := mset 0 s.hostPort.bar2 o new } })

end Sys2Proof.Machine
end

