-- ==== Sys2Proof/Machine/Package.lean ====
section
/-! DEFINITION. The package's power input and reference clock (R474, R478). -/

namespace Sys2Proof.Machine

/-- UNDERVOLTAGE (R474): Granite shuts the tiles down; the next POWER_ON is the cold reset that follows. -/
def execUndervoltage (s : State) : Out1 := .next (if s.package.power then s.powerOff else s)

/-- OVERVOLTAGE (R474). -/
def execOvervoltage (s : State) : Out1 := .next (if s.package.power then s.powerOff else s)

/-- REFCLK_156_PRESENT (R478): the clock drives the time counter, and dies held for it are released. -/
def execRefclk156Present (s : State) : Out1 :=
  .next { s with package := { s.package with refclk := true } }.release

end Sys2Proof.Machine
end

