-- ==== Sys2Proof/Machine/Frontend.lean ====
section
/-! DEFINITION. COMMAND_START: the queue front end chooses a queue, takes its slot and makes the checks of R88 (R75, R79, R80,
R83 to R88). -/

namespace Sys2Proof.Machine

/-! ## Slots (R74, R83) -/

/-- The node offset of the next slot of a queue (R74). -/
def Queue.slotAt (k : Queue) : Nat := ringBase k.ring + k.consumer.toNat % 2 ^ ringLog2 k.ring * 64

/-- The master that the next command acts as: the one that wrote the doorbell covering its slot (R432). -/
def Queue.master (k : Queue) : Master :=
  match k.marks.find? (fun m => (m.1 - k.consumer).toNat ≠ 0) with
  | some m => m.2
  | none => 0

/-- The queue once its front slot has been taken. -/
def Queue.taken (k : Queue) : Queue :=
  let c := k.consumer + 1
  { k with consumer := c, marks := k.marks.dropWhile (fun m => (m.1 - c).toNat = 0 || 2 ^ 31 < (m.1 - c).toNat) }

/-- The command in a slot (R83), as a started command with its inline parameters. -/
def slotCommand (q : Nat) (m : Master) (bs : List Byte) : Started :=
  { q := q, seq := BitVec.ofNat 32 (leAt bs 4 4), opcode := BitVec.ofNat 16 (leAt bs 0 2),
    flags := BitVec.ofNat 16 (leAt bs 2 2), tag := BitVec.ofNat 16 (leAt bs 8 2), epoch := BitVec.ofNat 8 (leAt bs 10 1),
    params := slice bs 16 48, block := 0, master := m, wait := .ready }

/-! ## The choice (R79, R80, R377, R462) -/

/-- The next command of a queue carries FENCE while earlier commands of the queue have not completed (R80); a slot whose SEQ
does not match is not held back. -/
def State.fenceHolds (s : State) (q : Nat) : Bool :=
  let k := s.queue q
  s.started.any (fun c => c.q == q) &&
  (let c := slotCommand q 0 (s.peek k.slotAt 64)
  c.seq == k.consumer && tbit c.flags.toNat 1)

/-- The next command of a queue is a job command of class 0x02, 0x05 or 0x06 of a job whose cut is awaited (R377). -/
def State.cutHolds (s : State) (q : Nat) : Bool :=
  let k := s.queue q
  let c := slotCommand q 0 (s.peek k.slotAt 64)
  let cls := c.opcode.toNat / 256
  c.seq == k.consumer && (cls == 2 || cls == 5 || cls == 6) && c.opcode ≠ 0x0203 &&
  (match s.findJob c.tag c.epoch with
    | some (j, _) => (s.snap j).phase == SnapPhase.want
    | none => false)

/-- A command waits that starts nothing further on any queue: NODE_RESET (R462 step 1). -/
def State.resetting (s : State) : Bool :=
  s.started.any (fun c => match c.wait with
    | .nodeReset _ _ => true
    | _ => false)

/-- Queues with a command that takes part in the choice, rising. -/
def State.eligible (s : State) : List Nat :=
  if s.resetting then []
  else (mkeys s.queues).filter (fun q => (s.queue q).ready && !s.fenceHolds q && !s.cutHolds q)

/-- The level served: the starving level of largest wait count, else the highest priority (R79). -/
def State.levelChosen (s : State) (qs : List Nat) : Option Nat :=
  let on := (List.range 4).filter (fun l => qs.any (fun q => (s.queue q).priority == l))
  let w (l : Nat) : Nat := nth 0 s.waits l
  let starving := on.filter (fun l => 64 ≤ w l)
  match starving with
  | l :: ls => some (ls.foldl (fun a b => if w a < w b then b else a) l)
  | [] => on.head?

/-- The queue of a level next in round-robin order (R79). -/
def State.queueChosen (s : State) (qs : List Nat) (l : Nat) : Option Nat :=
  let last := nth 0 s.lastServed l
  let mine := qs.filter (fun q => (s.queue q).priority == l)
  match mine.find? (fun q => last < q) with
  | some q => some q
  | none => mine.head?

/-- Wait counts after a start of a level (R79). -/
def State.waitsAfter (s : State) (qs : List Nat) (l : Nat) : List Nat :=
  (List.range 4).map (fun k =>
    if k = l then 0 else if qs.any (fun q => (s.queue q).priority == k) then nth 0 s.waits k + 1 else 0)

/-! ## The checks (R88) -/

/-- Check 3 for the class: CLASSES admits it; queue 0 accepts every class (R77, R108). -/
def Queue.admits (k : Queue) (q cls : Nat) : Bool := q == 0 || tbit k.ctrl.toNat (31 + cls)

/-- The field checks of an opcode's parameters: check 7 of R88. -/
def paramCheck (op : Nat) (p : List Nat) : Nat :=
  match op with
  | 0x0101 => qCreateParam p
  | 0x0201 => memCopyParam p
  | 0x0202 => memFillParam p
  | 0x0204 => memReserveParam p
  | 0x0301 => jobBeginParam p
  | 0x0304 => schedUnloadParam p
  | 0x0305 => schedRunParam p
  | 0x0308 | 0x0309 => tallyParam p
  | 0x0401 => qntSetupParam p
  | 0x0402 | 0x0403 => qntReadParam p
  | 0x0404 => qntResetParam p
  | 0x0501 => slvBatchParam p
  | 0x0502 => slvAbortParam p
  | 0x0601 => ctxOpenParam p
  | 0x0603 => ctxQueryParam p
  | 0x0605 => msgSendParam p
  | 0x0606 => msgRecvParam p
  | 0x0701 => snapTakeParam p
  | 0x0704 => snapRestoreParam p
  | 0x0901 => healthReadParam p
  | 0x0902 => ledgerReadParam p
  | 0x0A01 => nodeResetParam p
  | 0x0A02 => clusterResetParam p
  | 0x0A03 => linkResetParam p
  | _ => 0

/-- Checks 2 to 5 of R88: 0 where they pass. -/
def State.headCheck (s : State) (k : Queue) (c : Started) : Nat :=
  let op := c.opcode.toNat
  let cls := op / 256
  if cls = 0 || 10 < cls then Status.badOpcode
  else if !k.admits c.q cls then Status.denied
  else if (op = 0x0A01 || op = 0x0A02) && c.q ≠ 0 then Status.resetRefused
  else if op = 0x0A04 && !(s.masterOn c.master.val && s.policy c.master.val false (RegTag.off .telOpRequest []) false true 0) then
    Status.denied
  else
    match cmdSpec op with
    | none => Status.badOpcode
    | some d =>
      if c.flags.toNat / 32 ≠ 0 || (d.block && !tbit c.flags.toNat 0) then Status.badFlags else 0

/-- Checks 6 and 7 of R88 as far as the parameter block goes: the command with its parameters, or the failing status. -/
def State.withParams (s : State) (c : Started) : State × (Nat ⊕ Started) :=
  if !tbit c.flags.toNat 0 then (s, .inr c)
  else
    let p := leAt c.params 0 8
    let n := leAt c.params 8 4
    let o := ptrOff p
    if s.cmdBad c p (max n 1) true false then (s, .inl Status.badParamAddr)
    else if o % 64 ≠ 0 || n < 64 || 65536 < n || !allZero (c.params.drop 12) then (s, .inl Status.badParam)
    else
      match s.loadOff o n with
      | (s, some (some bs)) => (s, .inr { c with params := bs, block := o })
      | (s, _) => (s, .inl Status.uncorrectable)

/-- Checks 7 and 8 of R88 on the parameters and the job: 0 where they pass. -/
def State.bodyCheck (s : State) (c : Started) : Nat :=
  let op := c.opcode.toNat
  let p := match cmdSpec op with
    | some ⟨some ns, _⟩ => unpack ns c.params
    | _ => some []
  match p with
  | none => Status.badParam
  | some xs =>
    let st := paramCheck op xs
    if st ≠ 0 then st else if opActsForJob op then s.jobStatus c.tag c.epoch else 0

/-- A slot taken from a queue: SEQ is checked before anything else (R75), and a command that passes the checks of R88 is started,
to be run by its own row; one that fails them is answered. CQ.Q_ERR holds the slot count of a SEQ mismatch (R108), and its
reply has PATH 0, since nothing executed the command (R75, R87). -/
def State.startSlot (s : State) (q : Nat) (k : Queue) (bs : List Byte) : State :=
  let c := slotCommand q k.master bs
  if c.seq ≠ k.consumer then
    (s.queueError q Status.seqMismatch c.opcode.toNat k.consumer.toNat).putReply q
      { c.reply (.st Status.seqMismatch) with path := false }
  else
    let s := { s with started := s.started ++ [c] }
    let st := s.headCheck k c
    if st ≠ 0 then s.finishCmd c (.st st)
    else
      match s.withParams c with
      | (s, .inl st) => s.finishCmd c (.st st)
      | (s, .inr c) =>
        let st := s.bodyCheck c
        if st ≠ 0 then s.finishCmd c (.st st) else s.setStarted c

/-- COMMAND_START (R79). A slot that cannot be read is not started, and its queue enters ERROR (R78, R453). -/
def execCommandStart (s : State) : Out1 :=
  .next (
    let qs := s.eligible
    match s.levelChosen qs with
    | none => s
    | some l =>
      match s.queueChosen qs l with
      | none => s
      | some q =>
        let k := s.queue q
        let o := k.slotAt
        let (s, ok) := if s.unreachable o 64 then (s, false) else s.allowed k.master.val true o true false 0
        let fail (s : State) : State := s.queueError q Status.uncorrectable 0 k.consumer.toNat
        if !ok then fail s
        else
          match s.loadOff o 64 with
          | (s, some (some bs)) =>
            let ws := s.waitsAfter qs l
            let s := { s.setQueue q k.taken with waits := ws, lastServed := setNth s.lastServed l q }
            s.startSlot q k bs
          | (s, _) => fail s)

end Sys2Proof.Machine
end

