-- ==== Sys2Proof/Machine/Registers.lean ====
section
/-! DEFINITION. What a read of a control-space register answers (R9, R10, R30): the stored value, or for a register that shows
other state the value computed from it. -/

namespace Sys2Proof.Machine

/-! ## Values of registers that show other state -/

/-- The value of an optional part of the state, 0 where it is absent. -/
def orZero {α : Type} (x : Option α) (f : α → Nat) : Nat :=
  match x with
  | some y => f y
  | none => 0

/-- SCH.PLACE and SCH.SERVE (R109). -/
def PlaceRec.word (r : PlaceRec) : Nat :=
  2 ^ 63 + r.phys * 2 ^ 32 + r.spare.getD 31 * 2 ^ 24 + ofSetBits r.cores

/-- SCH.JOB (R109). -/
def JobSlot.word (b : JobSlot) : Nat :=
  2 ^ 63 + b2n b.teardown * 2 ^ 62 + b2n b.run.isSome * 2 ^ 61 + b2n b.ordered * 2 ^ 60 + orZero b.run (·.slot) * 2 ^ 56 +
  b.epoch.toNat * 2 ^ 48 + b.tag.toNat * 2 ^ 32 + b.count * 2 ^ 16 + b.first

/-- SCH.TABLE (R109). -/
def TableSlot.word (t : TableSlot) : Nat :=
  2 ^ 63 + b2n t.ordered * 2 ^ 62 + b2n t.span * 2 ^ 61 + t.job * 2 ^ 56 + (t.steps - 1) * 2 ^ 32 + t.unitCount

/-- CQ.Q_CTRL as it reads (R108): for queue 0 every class is admitted, and ENABLE shows that it is not DISABLED. -/
def Queue.ctrlWord (k : Queue) (q : Nat) : Nat :=
  if q = 0 then
    k.ctrl.toNat % 2 ^ 32 / 16 * 16 + (if k.st = .disabled then 0 else 0x3FF * 2 ^ 32 + 1)
  else k.ctrl.toNat

/-- STATE of CQ.Q_CSTATE (R108). -/
def QState.code : QState → Nat
  | .disabled => 0 | .active => 1 | .paused => 2 | .error => 3

/-- CQ.Q_CSTATE (R108): a command is answered once its reply is written. -/
def State.qCstate (s : State) (q : Nat) : Nat :=
  let k := s.queue q
  k.cproducer.toNat * 2 ^ 32 + k.st.code * 2 ^ 16 + (s.started.filter (fun c => c.q == q)).length + k.held.length

/-- The logical cluster that a physical cluster carries (R110). -/
def State.carried (s : State) (p : Nat) : Option (Nat × PlaceRec) :=
  s.placement.bind (fun x => x.serve.find? (fun e => e.2.phys == p))

/-- CLS.STATUS (R110): an entry is in use until its unit commits or ends. -/
def State.clsStatus (s : State) (p : Nat) : Nat :=
  orZero (s.carried p) (fun e =>
    2 ^ 63 + e.1 * 2 ^ 48 +
    orZero (s.jobOfCluster e.1) (fun j =>
      orZero j.2.run (fun r =>
        (r.units.filter (fun u => u.lcluster == e.1 && u.st != UnitSt.committed && u.st != UnitSt.ended)).length * 2 ^ 32 +
        j.2.step.toNat % 2 ^ 32)))

/-- CORE.STATUS of physical core c of physical cluster p (R139). -/
def State.coreStatus (s : State) (p c : Nat) : Nat :=
  let k := s.core (17 * p + c)
  let held : Bool := match k.phase with
    | .held _ => true
    | _ => false
  let waiting : Bool := match k.phase with
    | .waitTally _ _ _ | .waitVersion _ _ => true
    | _ => false
  b2n k.unit.isSome * 2 ^ 63 + b2n held * 2 ^ 62 + b2n waiting * 2 ^ 61 +
  orZero (s.carried p) (fun e => b2n (e.2.spare == some c) * 2 ^ 60 + (if e.2.cores.contains c then e.2.cores.idxOf c else 0) * 2 ^ 50) +
  min 15 k.sigq.length * 2 ^ 16 + orZero (k.unit.bind s.unitRec) (·.unit.toNat)

/-- TA.ACC (R216). -/
def Core.accWord (k : Core) : Nat :=
  sumNat ((List.range 4).map (fun t => (b2n (k.tile t).fp32 * 2 ^ 15 + toBits 10 (k.tile t).anchor) * 2 ^ (16 * t)))

/-- MEM.MIGRATE (R316): the map-out that migrates, else a retirement that copies; the count of granules copied is a free value
(log entries 3, 19). -/
def State.migrateWord (s : State) : Nat :=
  let done := Config.free s.free % 2 ^ 23
  match s.mapOutQueue.head?.filter (fun p => (s.pc p).mode == PcMode.migrating) with
  | some p => 2 ^ 63 + 2 ^ 62 + p * 2 ^ 32 + done
  | none => orZero (s.flash.retire.find? (fun e => e.2.st == RetireSt.copying)) (fun e => 2 ^ 63 + e.2.pc * 2 ^ 32 + done)

/-- STATE of MEM.PC_STATE (R316). -/
def PcMode.code : PcMode → Nat
  | .inService => 0 | .migrating => 1 | .mappedOut => 2 | .retraining => 3

/-- MEM.PC_STATE (R316). -/
def State.pcWord (s : State) (p : Nat) : Nat :=
  (s.pc p).mode.code * 2 ^ 62 + min 255 (s.flash.repairLog.filter (fun e => e.1 == p)).length * 2 ^ 40 +
  min 255 (s.retiredOf p) * 2 ^ 32 + (s.pc p).corrected

/-- AXL.PARTNER (R347). -/
def Link.partnerWord (l : Link) : Nat :=
  orZero l.partner (fun c => 2 ^ 63 + c.node.toNat * 2 ^ 50 + c.link.toNat * 2 ^ 40 + c.gens.toNat * 2 ^ 32 +
    l.partnerLeaf.toNat % 2 ^ 32)

/-- CTX.STATE (R373). -/
def State.ctxStateWord (s : State) : Nat :=
  (s.ctxs.filter (fun e => e.2.st != CtxSt.closed)).length * 2 ^ 32 +
  (s.ctxs.filter (fun e => e.2.st == CtxSt.resolve)).length

/-- TIME.FILTER_ENTRY (R408). -/
def State.filterWord (s : State) : Nat :=
  let f := s.filter (s.getF .timeFilterSel [] 13 8) (s.getF .timeFilterSel [] 7 0)
  let st : Nat := match f.st with
    | .closed => 0 | .waiting => 1 | .open => 2 | .teardown => 3 | .draining => 4
  st * 2 ^ 24 + f.tag.toNat * 2 ^ 8 + f.epoch.toNat

/-- GRN.KEYSLOT (R439, R447). -/
def State.keyWord (s : State) (i : Nat) : Nat :=
  let low (d : List Byte) : Nat := leAt (digestBytes (Config.sm3 d)) 0 2
  if i < 2 then (i + 1) * 2 ^ 56 + orZero (s.authority i) (fun k => 2 ^ 48 + low k.key)
  else
    mget 0 s.flash.protection.usages i * 2 ^ 56 +
    orZero (mfind s.granite.keys i) (fun k => b2n k.loaded * 2 ^ 48 + k.tag.toNat * 2 ^ 24 + k.epoch.toNat * 2 ^ 16 +
      low (if k.usage = 3 then Config.sm2Public k.key else k.key))

/-- MODE, RATE and FLIT of HST.LINK (R448, R466). -/
def modeFields : HostMode → Nat × Nat × Nat
  | .down => (0, 0, 0)
  | .pcie4 => (1, 16, 0)
  | .pcie5 => (1, 32, 0)
  | .pcie6 => (1, 64, 2)
  | .cxl11 => (2, 32, 1)
  | .cxl20 => (3, 32, 1)
  | .cxl31 => (4, 64, 2)

/-- HST.LINK (R466): IDE is 1 when a stream is enabled and every enabled one is secure. -/
def State.hostLinkWord (s : State) : Nat :=
  let (m, r, f) := modeFields s.hostPort.mode
  let on := (List.range 2).filter (fun i => nth false s.hostPort.ideEnabled i)
  let secure := !on.isEmpty && on.all (fun i => s.getF .hstIdeState [] (4 * i + 3) (4 * i) = 2)
  s.hostPort.width * 2 ^ 32 + m * 2 ^ 24 + r * 2 ^ 16 + f * 4 + b2n secure * 2 + b2n (!s.hostDown)

/-- GRN.STATE (R447). -/
def State.grnStateWord (s : State) : Nat :=
  (BitVec.toNat s.granite.debug) * 2 ^ 56 + b2n s.factory * 16 + b2n s.granite.bootSet * 8 + s.graniteByte

/-- A register of the GRN block that shows Granite's state, once its firmware runs (R447, R457 step 2). -/
def State.grnValue (s : State) (t : RegTag) (i : Nat) : Nat :=
  match t with
  | .grnState => s.grnStateWord
  | .grnBundle =>
    (nth 0 s.granite.bundle 0).toNat * 2 ^ 32 + (nth 0 s.granite.bundle 1).toNat * 2 ^ 16 + (nth 0 s.granite.bundle 2).toNat
  | .grnBundleDigest => leAt (digestBytes s.granite.bundleDigest) (8 * i) 8
  | .grnProtCount => s.flash.protection.prot.toNat * 2 ^ 32 + s.flash.config.toNat
  | .grnMapVersion => s.flash.map.version.toNat
  | .grnRollback => sumNat ((List.range 4).map (fun j => (nth 0 s.flash.svn j).toNat * 2 ^ (16 * j)))
  | .grnIdentity => leAt (digestBytes s.identity) (8 * i) 8
  | .grnMbxStatus => b2n (mfind s.granite.mbx i).isSome * 2 ^ 63 + (mget 0 s.granite.mbxLast i).toNat
  | .grnMap => leAt (leBytes 4 s.flash.map.version.toNat ++ s.flash.map.bytes) (8 * i) 8
  | .grnKeyslot => s.keyWord i
  | _ => (s.reg t [i]).toNat

/-- The registers whose value Granite's firmware brings (R447, R457 step 2). -/
def RegTag.byGranite (t : RegTag) : Bool :=
  [.grnState, .grnBundle, .grnBundleDigest, .grnProtCount, .grnMapVersion, .grnRollback, .grnIdentity, .grnMbxStatus,
    .grnMap, .grnKeyslot].contains t

/-! ## Reads -/

/-- The value of a register (R9); a field that is write-only stores nothing and reads 0 (R10). -/
def State.regValue (s : State) (t : RegTag) (is : List Nat) : Nat :=
  let i := nth 0 is 0
  let j := nth 0 is 1
  let stored := (s.reg t is).toNat
  match t with
  | .telOpState => if s.stage < 2 then stored else s.opState
  | .telTherm => s.therm
  | .telMarginMin => s.marginMin
  | .cqCaps => putBits stored 31 24 s.dispatchOn
  | .cqCh => (s.queue i).consumed.toNat
  | .cqQRing => (s.queue i).ring.toNat
  | .cqQCring => (s.queue i).cring.toNat
  | .cqQCtrl => (s.queue i).ctrlWord i
  | .cqQState => (s.queue i).producer.toNat * 2 ^ 32 + (s.queue i).consumer.toNat
  | .cqQCstate => s.qCstate i
  | .cqQErr => (s.queue i).err.toNat
  | .schPlaceInfo => b2n s.placement.isSome * 2 ^ 63 + s.jobs.length * 2 ^ 32 + orZero s.placement (·.mapVersion.toNat)
  | .schJob => orZero (s.job i) (·.word)
  | .schStep => orZero (s.job i) (·.step.toNat)
  | .schVaryCount => orZero (s.job i) (fun b => b.varyLast.toNat * 2 ^ 32 + b.varyCur.toNat)
  | .schTable => orZero (mfind s.tables i) (·.word)
  | .schTableBase => orZero (mfind s.tables i) (·.base)
  | .schPlace => orZero (s.placement.bind (fun p => mfind p.place i)) (·.word)
  | .schServe => orZero (s.placement.bind (fun p => mfind p.serve i)) (·.word)
  | .clsStatus => s.clsStatus i
  | .coreStatus => s.coreStatus i j
  | .taVersion => (s.core (17 * i + j)).versionWord
  | .taRefs => (s.core (17 * i + j)).refsWord
  | .taAcc => (s.core (17 * i + j)).accWord
  | .qntFree => (65536 - sumNat (s.tracked.map (·.2.channels.length))) * 2 ^ 32 + (4096 - s.tracked.length)
  | .qntTtCfg => orZero (mfind s.tracked (i + 1)) (·.cfgWord)
  | .qntTtDiv => orZero (mfind s.tracked (i + 1)) (·.divWord)
  | .qntTtState => orZero (mfind s.tracked (i + 1)) (·.stateWord)
  | .qntTtSqerr => orZero (mfind s.tracked (i + 1)) (·.sqerrLast.toNat)
  | .qntTtCount => orZero (mfind s.tracked (i + 1)) (·.countLast.toNat)
  | .slvActive => s.batches.length * 2 ^ 32 + sumNat (s.batches.map (fun x => x.count - x.ended.length))
  | .memState => s.mapPending * 2 ^ 40 + s.pcsOut * 2 ^ 16 + s.flash.retire.length
  | .memMigrate => s.migrateWord
  | .memPcState => s.pcWord i
  | .memRetire =>
    if s.stage < 2 then 0 else orZero (mfind s.flash.retire i) (fun e => 2 ^ 63 + e.pc * 2 ^ 32 + e.page)
  | .axlState => (s.link i).stateWord.toNat
  | .axlPartner => (s.link i).partnerWord
  | .axlVc => putBits stored 39 28 (nth 0 (s.link i).avail j)
  | .ctxState => s.ctxStateWord
  | .snpStage => s.stagePeak * 2 ^ 32 + s.stageUsed
  | .snpJobState => s.snapState i
  | .snpLast => (s.snap i).last.toNat
  | .snpStanding => orZero (s.snap i).standing (2 ^ 63 + ·)
  | .timeNow => s.clock.now.toNat
  | .timeSpanNow => s.spanNow.toNat
  | .timeStatus => if s.isRoot then putBits stored 63 62 3 else stored
  | .timeFilterEntry => s.filterWord
  | .hstLink => s.hostLinkWord
  | .hstSf => s.hostPort.snoop.length
  | _ => if t.byGranite then (if s.stage < 2 then stored else s.grnValue t i) else stored

/-- An access reaches a register (R30): 8 aligned bytes at an address that is not reserved, outside the window of a disabled
cluster and the block of a disabled core. -/
def State.controlReg (s : State) (off size : Nat) : Option (RegTag × List Nat) :=
  if size ≠ 8 || off % 8 ≠ 0 then none
  else
    match regAt off with
    | none => none
    | some (t, is) =>
      if off < 2 ^ 28 then some (t, is)
      else
        let p := nth 0 is 0
        if s.flash.map.clusterOff p then none
        else if 2 ≤ is.length && s.flash.map.cores.contains (17 * p + nth 0 is 1) then none
        else some (t, is)

/-- The firewall and the access policy table let a control-space access through; a denial is counted (R30, R431, R434). Reads of GRN
are never denied (R431). -/
def State.controlAllowed (s : State) (m : Master) (off : Nat) (rd wr : Bool) : State × Bool :=
  if !wr && off < 2 ^ 24 then (s, true)
  else if s.masterOn m.val && s.policy m.val false off rd wr 0 then (s, true)
  else (s.raise .grnPolicyDenied, false)

/-- A control-space read by a master (R30). -/
def State.controlRead (s : State) (m : Master) (off size : Nat) : State × Word :=
  let (s, ok) := s.controlAllowed m off true false
  if !ok then (s, 0)
  else
    match s.controlReg off size with
    | some (t, is) => (s, BitVec.ofNat 64 (s.regValue t is))
    | none => (s, 0)

end Sys2Proof.Machine
end

