-- ==== Sys2Proof/Machine/Control.lean ====
section
/-! DEFINITION. Writes of the control space (R9 to R12, R30, R431) and the management messages (R454, R455). -/

namespace Sys2Proof.Machine

/-! ## Registers with a behaviour of their own -/

/-- A doorbell write (R76, R78, R82). -/
def State.doorbell (s : State) (m : Master) (q : Nat) (v : Word) : State :=
  let k := s.queue q
  let new := BitVec.ofNat 32 v.toNat
  if k.st = .disabled then s.raise .cqDbDiscard
  else if (new - k.producer).toNat ≤ 2 ^ 31 && (new - k.consumer).toNat ≤ 2 ^ ringLog2 k.ring then
    if new = k.producer then s else s.setQueue q { k with producer := new, marks := k.marks ++ [(new, m)] }
  else if k.st = .error then s.raise .cqDbDiscard
  else s.queueError q Status.doorbellInvalid 0 new.toNat

/-- A write of CQ.CH (R81): replies that were held take the room. -/
def State.chWrite (s : State) (q : Nat) (v : Word) : State :=
  let k := s.queue q
  let new := BitVec.ofNat 32 v.toNat
  if (new - k.consumed).toNat ≤ (k.cproducer - k.consumed).toNat then
    ((s.setQueue q { k with consumed := new }).flushHeld q k.held.length).settle
  else s.raise .cqDbDiscard

/-- A write of a ring register of queue 0 (R73): discarded whole where the ring is out of form or place. -/
def State.ring0Write (s : State) (completion : Bool) (v : Word) : State :=
  let w := v &&& (if completion then 0x7FFFFFFFFFFFF else 0x7FFFFFFFFFFDF)
  let l := ringLog2 w
  let placed := if completion then ringPlaced (cringBase w) 32 l else ringPlaced (ringBase w) 64 l
  if l < 6 || 16 < l || !placed then s
  else if completion then s.setQueue 0 { s.queue 0 with cring := w } else s.setQueue 0 { s.queue 0 with ring := w }

/-- Queue 0 starts no further command, and a reset (`r`) or the disabling waits for those already started (R78); a disabling
that waits stays due. -/
def State.drain0 (s : State) (r : Bool) : State :=
  let k := s.queue 0
  if k.st = .disabled then s
  else (s.setQueue 0 { k with stopping := true, due := some (r && k.due != some false) }).settle

/-- ENABLE of queue 0 written 1 (R73, R108). -/
def State.enable0 (s : State) : State :=
  let k := s.queue 0
  if k.st ≠ .disabled || ringLog2 k.ring = 0 || ringLog2 k.cring = 0 then s else s.setQueue 0 { k with st := .active }

/-- A write of CQ.Q_CTRL of queue 0 (R108): the fields, then ENABLE and RESET. -/
def State.ctrl0Write (s : State) (v : Word) : State :=
  let k := s.queue 0
  let s := s.setQueue 0 { k with ctrl := (k.ctrl &&& ~~~0x1FFE30#64) ||| (v &&& 0x1FFE30#64) }
  let s := if tbit v.toNat 0 then s.enable0 else s.drain0 false
  if tbit v.toNat 1 then s.drain0 true else s

/-- A write of AXL.CTRL (R321, R347). -/
def State.axlCtrlWrite (s : State) (n : Nat) (v : Word) : State :=
  let s := s.setF .axlCtrl [n] 0 0 (fld v 0 0)
  let s := if fld v 5 4 = 0 then s else s.setF .axlCtrl [n] 5 4 (fld v 5 4)
  if !tbit v.toNat 0 then (if (s.link n).st = .disabled then s else s.linkToDisabled n)
  else
    let l := s.link n
    if l.st = .disabled then (if s.enabledLanes n = 0 then s else s.setLink n { l with st := .down })
    else if tbit v.toNat 7 && (l.st == LinkSt.active || l.st == LinkSt.quarantine) && l.fastRetrain.isNone then
      s.beginFastRetrain n
    else s

/-- A write of AXL.VC (R330, R347): ALLOC is written only in DOWN and DISABLED. -/
def State.axlVcWrite (s : State) (n vc : Nat) (v : Word) : State :=
  let s := s.setF .axlVc [n, vc] 27 8 (fld v 27 8)
  if (s.link n).st == LinkSt.down || (s.link n).st == LinkSt.disabled then s.setF .axlVc [n, vc] 51 40 (fld v 51 40) else s

/-- A write of AXL.REPLAY_CFG (R347). -/
def State.replayCfgWrite (s : State) (n : Nat) (v : Word) : State :=
  let s := if fld v 39 32 = 0 then s else s.setF .axlReplayCfg [n] 39 32 (fld v 39 32)
  let t := fld v 31 0
  if t < 1000 || 1000000 < t then s else s.setF .axlReplayCfg [n] 31 0 t

/-- A write of CTX.SELECT takes a snapshot of the entry (R373). -/
def State.ctxSelectWrite (s : State) (v : Word) : State :=
  let x := fld v 19 0
  let bs := (s.ctx x).bytes
  (List.range 8).foldl (fun s w => s.setReg .ctxEntry [w] (BitVec.ofNat 64 (leAt bs (8 * w) 8)))
    (s.setReg .ctxSelect [] (BitVec.ofNat 64 x))

/-- A write of TIME.NODE_ID (R395, R408). -/
def State.nodeIdWrite (s : State) (v : Word) : State :=
  if !s.jobs.isEmpty then s.raise .timeIdRefused
  else
    let s := s.setF .timeNodeId [] 47 32 (fld v 47 32)
    if reservedNode (fld v 12 0) then s else s.setF .timeNodeId [] 12 0 (fld v 12 0)

/-- A write of TIME.FILTER_SEL (R408). -/
def State.filterSelWrite (s : State) (v : Word) : State :=
  let s := s.setF .timeFilterSel [] 7 0 (fld v 7 0)
  if 48 ≤ fld v 13 8 then s else s.setF .timeFilterSel [] 13 8 (fld v 13 8)

/-- A write of HST.IDE_KEY (R452, R466). -/
def State.ideKeyWrite (s : State) (m : Master) (v : Word) : State :=
  let s := s.setF .hstIdeKey [] 50 6 (fld v 50 6)
  if tbit v.toNat 0 then s.ideGo m (fld v 50 6 * 64) else s

/-- A write of TA.TFLAG (R207): with every cause bit at 0 the index fields return to all ones. -/
def State.tflagWrite (s : State) (is : List Nat) (v : Word) : State :=
  let w := s.reg .taTflag is &&& ~~~(v &&& 0x1F#64)
  s.setReg .taTflag is (if w &&& 0x1F#64 = 0 then 0xFFFFFF00FFFF0000#64 else w)

/-- A register without a behaviour of its own (R10): RW fields take the value, and W1C bits written 1 are cleared. -/
def State.plainWrite (s : State) (t : RegTag) (is : List Nat) (v : Word) : State :=
  let rw := BitVec.ofNat 64 t.info.rw
  let c := BitVec.ofNat 64 t.info.w1c
  s.setReg t is (((s.reg t is &&& ~~~rw) ||| (v &&& rw)) &&& ~~~(v &&& c))

/-! ## Granite-write fields (R10, R431) -/

/-- A write by another master than Granite reaches a GW field: the register has only such fields to write, or the write would
change one (R431; log entry 23). -/
def State.gwDenied (s : State) (t : RegTag) (is : List Nat) (v : Word) : Bool :=
  let i := t.info
  i.gw ≠ 0 && (i.rw + i.w1c + i.wo = 0 || ((v ^^^ BitVec.ofNat 64 (s.regValue t is)) &&& BitVec.ofNat 64 i.gw) ≠ 0)

/-- Granite writes the GW fields of a register (R10). -/
def State.gwWrite (s : State) (t : RegTag) (is : List Nat) (v : Word) : State :=
  let gw := BitVec.ofNat 64 t.info.gw
  let s' := s.setReg t is ((s.reg t is &&& ~~~gw) ||| (v &&& gw))
  match t with
  | .telRgSet => s'.statusBits (nth 0 is 0)
  | .grnPowerLimit => s'.effectiveLimit
  | .grnKeyslot =>
    let i := nth 0 is 0
    if i < 2 then s
    else { s with flash := { s.flash with protection := { s.flash.protection with
             usages := mset 0 s.flash.protection.usages i (fld v 63 56) } } }
  | _ => s'

/-- A write that reaches a register (R10). -/
def State.writeReg (s : State) (m : Master) (i3c : Bool) (t : RegTag) (is : List Nat) (v : Word) : State :=
  let i := nth 0 is 0
  let s :=
    if t.info.gw = 0 then s
    else if m = 7 then s.gwWrite t is v
    else if s.gwDenied t is v then s.raise .grnGwDenied else s
  match t with
  | .telOpRequest => s.opRequest (fld v 1 0)
  | .cqDb => s.doorbell m i v
  | .cqCh => s.chWrite i v
  | .cqQRing => if i = 0 then s.ring0Write false v else s
  | .cqQCring => if i = 0 then s.ring0Write true v else s
  | .cqQCtrl => if i = 0 then s.ctrl0Write v else s
  | .axlCtrl => s.axlCtrlWrite i v
  | .axlVc => s.axlVcWrite i (nth 0 is 1) v
  | .axlReplayCfg => s.replayCfgWrite i v
  | .ctxSelect => s.ctxSelectWrite v
  | .snpShare => if 1 ≤ fld v 6 0 && fld v 6 0 ≤ 64 then s.setReg .snpShare [] (BitVec.ofNat 64 (fld v 6 0)) else s
  | .timeNodeId => s.nodeIdWrite v
  | .timeTeardownLimit =>
    if 1 ≤ fld v 31 0 && fld v 31 0 ≤ 100000 then s.setReg .timeTeardownLimit [] (BitVec.ofNat 64 (fld v 31 0)) else s
  | .timeFilterSel => s.filterSelWrite v
  | .grnMbxDb => s.mbxDoorbell m (Fin.ofNat 8 i) v
  | .hstIdeKey => s.ideKeyWrite m v
  | .hstMgtPeer => if i3c then s.setReg .hstMgtPeer is v else s.raise .grnPolicyDenied
  | .taTflag => s.tflagWrite is v
  | _ => s.plainWrite t is v

/-- A control-space write by a master (R30), over I3C or not (R455). -/
def State.controlWrite (s : State) (m : Master) (i3c : Bool) (off size : Nat) (v : Word) : State :=
  let (s, ok) := s.controlAllowed m off false true
  if !ok then s
  else
    match s.controlReg off size with
    | some (t, is) => s.writeReg m i3c t is v
    | none => s

/-! ## The register-write rows -/

/-- REGISTER_WRITE (R30, R431). -/
def execRegisterWrite (m : Master) (off size : Nat) (v : Word) (s : State) : Out1 := .next (s.controlWrite m false off size v)

/-- Hardware's settings of event flags that arrive in the same handshake as the write: the set wins (R11). TA.TFLAG is set by
TSTREAM and TREADACC alone (R207). -/
def State.setFlags (s : State) (off : Nat) (hw : Word) : State :=
  match regAt off with
  | none => s
  | some (t, is) =>
    if t = .taTflag then s
    else (Ev.all.filter (fun e => e.info.1 == t && tbit hw.toNat e.info.2.1)).foldl (fun s e => s.raise e is) s

/-- EVENT_FLAG_CLEAR (R11): the write of 1s, and the flags that hardware sets in the same handshake. -/
def execEventFlagClear (m : Master) (off : Nat) (v hwSet : Word) (s : State) : Out1 :=
  .next ((s.controlWrite m false off 8 v).setFlags off hwSet)

/-- TA_TFLAG_CLEAR (R207). -/
def execTaTflagClear (m : Master) (c : CoreId) (t : Fin 4) (v : Word) (s : State) : Out1 :=
  .next (s.controlWrite m false (RegTag.taTflag.off [c.val / 17, c.val % 17, t.val]) 8 v)

/-- OP_REQUEST_WRITE (R60). -/
def execOpRequestWrite (m : Master) (v : Word) (s : State) : Out1 :=
  .next (s.controlWrite m false (RegTag.telOpRequest.off []) 8 v)

/-- QUEUE0_RING_WRITE (R73). -/
def execQueue0RingWrite (m : Master) (completion : Bool) (v : Word) (s : State) : Out1 :=
  .next (s.controlWrite m false ((if completion then RegTag.cqQCring else RegTag.cqQRing).off [0]) 8 v)

/-- QUEUE0_ENABLE (R78, R108). -/
def execQueue0Enable (m : Master) (v : Word) (s : State) : Out1 := .next (s.controlWrite m false (RegTag.cqQCtrl.off [0]) 8 v)

/-- QUEUE0_DISABLE (R78, R108). -/
def execQueue0Disable (m : Master) (v : Word) (s : State) : Out1 := .next (s.controlWrite m false (RegTag.cqQCtrl.off [0]) 8 v)

/-- QUEUE0_RESET (R78, R108). -/
def execQueue0Reset (m : Master) (v : Word) (s : State) : Out1 := .next (s.controlWrite m false (RegTag.cqQCtrl.off [0]) 8 v)

/-- DOORBELL_WRITE (R76). -/
def execDoorbellWrite (m : Master) (q : QueueId) (v : Word) (s : State) : Out1 :=
  .next (s.controlWrite m false (RegTag.cqDb.off [q.val]) 8 v)

/-- CH_WRITE (R81). -/
def execChWrite (m : Master) (q : QueueId) (v : Word) (s : State) : Out1 :=
  .next (s.controlWrite m false (RegTag.cqCh.off [q.val]) 8 v)

/-- LINK_ENABLE (R321). -/
def execLinkEnable (m : Master) (n : LinkId) (v : Word) (s : State) : Out1 :=
  .next (s.controlWrite m false (RegTag.axlCtrl.off [n.val]) 8 v)

/-- LINK_DISABLE (R321). -/
def execLinkDisable (m : Master) (n : LinkId) (v : Word) (s : State) : Out1 :=
  .next (s.controlWrite m false (RegTag.axlCtrl.off [n.val]) 8 v)

/-- AXL_RETRAIN (R321). -/
def execAxlRetrain (m : Master) (n : LinkId) (v : Word) (s : State) : Out1 :=
  .next (s.controlWrite m false (RegTag.axlCtrl.off [n.val]) 8 v)

/-- VC_ALLOC_WRITE (R330). -/
def execVcAllocWrite (m : Master) (n : LinkId) (vc : Fin 8) (v : Word) (s : State) : Out1 :=
  .next (s.controlWrite m false (RegTag.axlVc.off [n.val, vc.val]) 8 v)

/-- CTX_SELECT_WRITE (R373). -/
def execCtxSelectWrite (m : Master) (v : Word) (s : State) : Out1 :=
  .next (s.controlWrite m false (RegTag.ctxSelect.off []) 8 v)

/-- NODE_ID_WRITE (R395). -/
def execNodeIdWrite (m : Master) (v : Word) (s : State) : Out1 :=
  .next (s.controlWrite m false (RegTag.timeNodeId.off []) 8 v)

/-- MBX_DB_WRITE (R435). -/
def execMbxDbWrite (m : Master) (slot : Fin 8) (v : Word) (s : State) : Out1 :=
  .next (s.controlWrite m false (RegTag.grnMbxDb.off [slot.val]) 8 v)

/-- IDE_KEY_LOAD (R452). -/
def execIdeKeyLoad (m : Master) (v : Word) (s : State) : Out1 :=
  .next (s.controlWrite m false (RegTag.hstIdeKey.off []) 8 v)

/-- MGT_PEER_WRITE (R455, R466). -/
def execMgtPeerWrite (m : Master) (i3c : Bool) (w : Fin 2) (v : Word) (s : State) : Out1 :=
  .next (s.controlWrite m i3c (RegTag.hstMgtPeer.off [w.val]) 8 v)

/-! ## Management messages (R454, R455) -/

/-- A management message is served as master 3 (R432) once Granite's firmware runs; an Ethernet frame from another address than
the peer's is dropped and counted (R454). -/
def State.mgtServe (s : State) (t : MgtPath) (f : State → State) : State :=
  if s.stage < 2 then s
  else if t.i3c || t.peer = s.mgtPeer then f s
  else s.raise .hstMgtDrop

/-- MGT_REGISTER_READ (R455). -/
def execMgtRegisterRead (t : MgtPath) (off : Nat) (s : State) : Out1 :=
  .next (s.mgtServe t (fun s =>
    let (s', v) := s.controlRead 3 off 8
    s'.bump.emit (.mgtRead off v)))

/-- MGT_REGISTER_WRITE (R455). -/
def execMgtRegisterWrite (t : MgtPath) (off : Nat) (v : Word) (s : State) : Out1 :=
  .next (s.mgtServe t (fun s => s.controlWrite 3 t.i3c off 8 v))

/-- MGT_SLOT_SUBMIT (R432, R455): the slot is written into queue 0's ring and its doorbell rung; a full ring takes none (log
entry 22). -/
def execMgtSlotSubmit (t : MgtPath) (slot : List Byte) (s : State) : Out1 :=
  .next (s.mgtServe t (fun s =>
    let k := s.queue 0
    let a := ringBase k.ring + k.producer.toNat % 2 ^ ringLog2 k.ring * 64
    if k.st = .disabled then s.raise .cqDbDiscard
    else if (k.producer - k.consumer).toNat = 2 ^ ringLog2 k.ring || !s.masterReach 3 a 64 false true then s
    else (s.storeOff a slot).controlWrite 3 t.i3c (RegTag.cqDb.off [0]) 8 ((k.producer + 1).zeroExtend 64)))

end Sys2Proof.Machine
end

