-- ==== Sys2Proof/Machine/CoreMem.lean ====
section
/-! DEFINITION. Loads, stores, atomics and ACOPY of a core (R113, R117, R127 to R130), the element-ordered vector instructions
(R154 to R161), and the row of a check fault (R417). -/

namespace Sys2Proof.Machine

/-! ## Near accesses (R113, R117) -/

/-- Effective address of a near access (R113). -/
def nearEa (w : W32) (k : Core) : Nat := (k.rg (fa w) + BitVec.ofInt 64 (simm16 w)).toNat

/-- A near load of n bytes handed to `f` (R113, R133). -/
def State.nearLoad (s : State) (c : Nat) (k : Core) (ea n : Nat) (f : Nat → Core) : State × Step1 :=
  match s.nearTarget c k ea n with
  | .local_ a => s.loadAt k a n ea f
  | .fault code => (s, .fault k code 0 (BitVec.ofNat 64 ea))
  | _ => (s, .wait k)

/-- A near store of bytes (R113, R133). -/
def State.nearStore (s : State) (c : Nat) (k : Core) (ea : Nat) (bs : List Byte) : State × Step1 :=
  match s.nearTarget c k ea bs.length with
  | .local_ a => (s.store a bs, .done k)
  | .fault code => (s, .fault k code 0 (BitVec.ofNat 64 ea))
  | _ => (s, .wait k)

/-- NEAR_LOAD (R113, R117): majors 0x10 to 0x16 are LDB, LDBU, LDH, LDHU, LDW, LDWU and LDD. -/
def nearLoadStep (c : Nat) (w : W32) (s : State) (k : Core) : State × Step1 :=
  let m := major w - 0x10
  let n := 2 ^ (m / 2)
  s.nearLoad c k (nearEa w k) n (fun v =>
    k.wg (fd w) (if m % 2 = 0 then BitVec.ofInt 64 (sext (8 * n) v) else BitVec.ofNat 64 v))

/-- NEAR_STORE (R113, R117): majors 0x17 to 0x1A are STB, STH, STW and STD. -/
def nearStoreStep (c : Nat) (w : W32) (s : State) (k : Core) : State × Step1 :=
  s.nearStore c k (nearEa w k) (leBytes (2 ^ (major w - 0x17)) (k.rg (fd w)).toNat)

/-- LDF (R117): F[rd] bits 31:0, bits 511:32 set to 0. -/
def ldfStep (c : Nat) (w : W32) (s : State) (k : Core) : State × Step1 :=
  s.nearLoad c k (nearEa w k) 4 (fun v => k.ws (fd w) v)

/-- STF (R117). -/
def stfStep (c : Nat) (w : W32) (s : State) (k : Core) : State × Step1 :=
  s.nearStore c k (nearEa w k) (leBytes 4 (k.rs (fd w)))

/-! ## Global loads and stores (R127) -/

/-- GLOBAL_LOAD (R127): func 0 to 3 are B, H, W and D, 4 to 6 BU, HU and WU. -/
def globalLoadStep (c : Nat) (w : W32) (s : State) (k : Core) : State × Step1 :=
  let fn := func w
  let lg := fn % 4
  let p := k.ga (fa w)
  if fb w ≠ 0 then (s, illegalW k w)
  else
    match s.globalTarget k p (2 ^ lg) true false with
    | (s, .local_ a) => s.loadAt k a (2 ^ lg) p (fun v => k.wg (fd w) (gload fn v))
    | (s, .remote x off) => s.sendAccess k x Op.load lg off [] c 0 p 0 w
    | (s, .fault code) => (s, .fault k code 0 (BitVec.ofNat 64 p))
    | (s, .wait) => (s, .wait k)

/-- GLOBAL_STORE (R127): func 8 to 11 are B, H, W and D. -/
def globalStoreStep (c : Nat) (w : W32) (s : State) (k : Core) : State × Step1 :=
  let lg := func w % 4
  let p := k.ga (fa w)
  let bs := leBytes (2 ^ lg) (k.rg (fb w)).toNat
  if fd w ≠ 0 then (s, illegalW k w)
  else
    match s.globalTarget k p (2 ^ lg) false true with
    | (s, .local_ a) => (s.store a bs, .done k)
    | (s, .remote x off) => s.sendAccess k x Op.store lg off bs c 1 p 0 w
    | (s, .fault code) => (s, .fault k code 0 (BitVec.ofNat 64 p))
    | (s, .wait) => (s, .wait k)

/-! ## Atomics (R129, R416) -/

/-- An atomic's func obeys R129. -/
def atomicFuncOk (w : W32) : Bool :=
  let f := func w
  f < 32 && (f % 16 != 10 || f == 10) && (f % 16 != 11 || (f == 27 && fb w % 2 == 0 && fd w % 2 == 0))

/-- The operand that an atomic hands to its target (R129, R352): CAS's compare value, or G[rb] with G[rb + 1] for GADD. -/
def atomicX (w : W32) (k : Core) : Nat :=
  let f := func w % 16
  if f = 9 then (k.rg (fd w)).toNat
  else if f = 11 then (k.rg (fb w)).toNat + (k.rg (fb w + 1)).toNat * 2 ^ 64
  else (k.rg (fb w)).toNat

/-- The payload of an ATOMIC packet (R352). -/
def atomicPayload (w : W32) (k : Core) : List Byte :=
  let f := func w
  leBytes 8 f ++ (if f % 16 = 9 then leBytes 8 (atomicX w k) ++ leBytes 8 (k.rg (fb w)).toNat else leBytes 16 (atomicX w k))

/-- What the attempt journal compares of an atomic's operand (R416): for CAS both values. -/
def atomicOperand (w : W32) (k : Core) : Nat :=
  if func w % 16 = 9 then atomicX w k + (k.rg (fb w)).toNat * 2 ^ 64 else atomicX w k

/-- A check fault inside an instruction (R416, R417): the core stands as the fault leaves it. -/
def State.checkStep (s : State) (c : Nat) : State × Step1 :=
  let s := s.checkFault c
  (s, .wait (s.core c))

/-- An atomic instruction (R127 to R129, R416). -/
def atomicStep (c : Nat) (w : W32) (s : State) (k : Core) : State × Step1 :=
  let f := func w
  let p := k.ga (fa w)
  let kind := if f % 16 = 11 then 3 else 2
  let opnd := atomicOperand w k
  if !atomicFuncOk w then (s, illegalW k w)
  else
    match s.globalTarget k p (atomicBytes f) true true with
    | (s, .fault code) => (s, .fault k code 0 (BitVec.ofNat 64 p))
    | (s, t) =>
      match s.journalNext k f p opnd with
      | .take old => (s, .done (k.journaled.atomicRet w old))
      | .mismatch => s.checkStep c
      | .await x q => (s, .wait { k.journaled with phase := .blocked ⟨x, q, w, kind, BitVec.ofNat 64 p, 0⟩ })
      | .perform =>
        match t with
        | .local_ a =>
          (match s.atomicAt a f (atomicX w k) (k.rg (fb w)).toNat with
          | (s, some old) => (s.journalAdd k f p opnd old none, .done (k.journaled.atomicRet w old))
          | (s, none) => (s, .fault k FaultCode.dataError 0 (BitVec.ofNat 64 p)))
        | .remote x off =>
          let s := s.journalAdd k f p opnd 0 (some (x, (s.ctx x).sendSeq))
          s.sendAccess k.journaled x Op.atomic (log2 (atomicBytes f)) off (atomicPayload w k) c kind p 0 w
        | _ => (s, .wait k)

/-! ## ACOPY (R130, R361, R416) -/

/-- ACOPY (R130): the descriptor is read, and its status goes to G[rd]. -/
def acopyStep (c : Nat) (w : W32) (s : State) (k : Core) : State × Step1 :=
  let p := k.ga (fa w)
  let off := ptrOff p
  if fb w ≠ 0 || func w ≠ 0 then (s, illegalW k w)
  else if s.namesOther p then (s, .fault k FaultCode.addr 0 (BitVec.ofNat 64 p))
  else
    match s.globalTarget k p 64 true false with
    | (s, .local_ a) =>
      (match s.load a 64 with
      | (s, none) => (s, .fault k FaultCode.dataError 0 (BitVec.ofNat 64 p))
      | (s, some desc) =>
        (match s.journalNext k 0xFF off (leAt desc 0 16) with
        | .take st => (s, .done (k.journaled.wg (fd w) (BitVec.ofNat 64 st)))
        | .perform =>
          let r := s.acopy k desc
          (r.1.journalAdd k 0xFF off (leAt desc 0 16) r.2 none, .done (k.journaled.wg (fd w) (BitVec.ofNat 64 r.2)))
        | _ => s.checkStep c))
    | (s, .fault code) => (s, .fault k code 0 (BitVec.ofNat 64 p))
    | (s, _) => (s, .wait k)

/-! ## Element-ordered instructions (R154 to R161) -/

/-- The instruction is a store. -/
def vmStore (w : W32) : Bool :=
  if major w = 0x2D then vmop w = 1 || vmop w = 3 || vmop w = 6 else (3 ≤ vmop w && vmop w ≤ 5) || vmop w = 7

/-- VLD.D2P or VST.P2D. -/
def vmPair (w : W32) : Bool := major w = 0x2E && 6 ≤ vmop w

/-- Bytes of an element access (R156). -/
def vmBytes (w : W32) : Nat := if vmPair w then 8 else vwidth w

/-- Width at which the predicate is read and lanes lie (R143, R154). -/
def vmLane (w : W32) : Nat := if vmPair w then 4 else vwidth w

/-- The fields of the word obey R142, R145, R154, R157 and R158. -/
def vmOk (w : W32) (k : Core) : Bool :=
  let r := vR w k
  let o := vmop w
  !(vmStore w && vz w) &&
  (if major w = 0x2D then
    vfield r (fd w) && (o = 2 || o = 3 || (if 5 ≤ o then 2 ≤ vew w && vfield r (fb w) else fb w = 0))
  else
    fb w = 0 &&
    (if 6 ≤ o then vew w = 3 && vfield (2 * r) (fd w) else fd w % r = 0 && fd w + vmFields w * r ≤ 32))

/-- Byte offset of field j of element i from the base (R154, R156 to R158). -/
def vmOffset (w : W32) (k : Core) (i j : Nat) : Int :=
  let o := vmop w
  if major w = 0x2E then (if 6 ≤ o then 8 * i else ((i * vmFields w + j) * vwidth w : Nat))
  else if o ≤ 1 then (i * vwidth w : Nat)
  else if o ≤ 3 then i * (k.rg (fb w)).toInt
  else if o = 4 then 0
  else (laneOf (k.vget (fb w) (vR w k)) 4 i : Nat)

/-- Where an element access goes, with the address that FADDR records (R156). -/
def State.vmTarget (s : State) (c : Nat) (k : Core) (w : W32) (i j : Nat) : State × Target × Nat :=
  let off := vmOffset w k i j
  let base := k.ga (fa w)
  let st := vmStore w
  if vgl w then
    let sum := (ptrOff base : Int) + off
    let p := ptrNode base * 2 ^ 51 + (sum % (2 ^ 51 : Nat)).toNat
    if sum < 0 || (2 ^ 51 : Nat) ≤ sum then (s, .fault FaultCode.addr, p)
    else
      let r := s.globalTarget k p (vmBytes w) (!st) st
      (r.1, r.2, p)
  else
    let ea := (((base : Int) + off) % (2 ^ 64 : Nat)).toNat
    (s, s.nearTarget c k ea (vmBytes w), ea)

/-- A lane of the destination written, the other lanes kept. -/
def Core.vmPutLane (k : Core) (v r width i x : Nat) : Core :=
  let old := k.vget v r
  k.vput v r (putBits old (8 * width * (i + 1) - 1) (8 * width * i) x)

/-- The loaded values of element i written to its lanes (R154, R155, R157). -/
def Core.vmLand (k : Core) (w : W32) (i : Nat) (vs : List Nat) : Core :=
  let r := vR w k
  if vmPair w then
    let (hi, lo, cv, fl) := d2p (nth 0 vs 0)
    let k := (k.vmPutLane (fd w) r 4 i hi).vmPutLane (fd w + r) r 4 i lo
    ({ k with csrs := { k.csrs with vcvt := k.csrs.vcvt ||| BitVec.ofNat 4 cv.bits } } : Core).accrue fl
  else vs.zipIdx.foldl (fun k v => k.vmPutLane (fd w + v.2 * r) r (vwidth w) i v.1) k

/-- Registers per destination operand and operands of an element-ordered load. -/
def vmParts (w : W32) : Nat := if vmPair w then 2 else vmFields w

/-- An inactive element (R143): its lanes keep their contents, or become 0 with Z 1 in a load. -/
def Core.vmSkip (k : Core) (w : W32) (i : Nat) : Core :=
  if vz w then
    (List.range (vmParts w)).foldl (fun k j => k.vmPutLane (fd w + j * vR w k) (vR w k) (vmLane w) i 0) k
  else k

/-- The values that element i of a store writes (R154, R157). -/
def Core.vmTake (k : Core) (w : W32) (i : Nat) : List Nat :=
  let r := vR w k
  if vmPair w then [p2d (laneOf (k.vget (fd w) r) 4 i) (laneOf (k.vget (fd w + r) r) 4 i)]
  else (List.range (vmFields w)).map (fun j => laneOf (k.vget (fd w + j * r) r) (vwidth w) i)

/-- The instruction is complete: CSR.VSTART is 0, and a short destination's bits 511:128 become 0 (R140, R159). -/
def Core.vmEnd (k : Core) (w : W32) : Core :=
  let k1 : Core := { k with vbuf := [], csrs := { k.csrs with vstart := 0 } }
  if vsh w && !vmStore w then
    (List.range (vmParts w)).foldl (fun k j => k.wf (fd w + j) (BitVec.ofNat 512 ((k.rf (fd w + j)).toNat % 2 ^ 128))) k1
  else k1

/-- The core with CSR.VSTART at an element (R160, R161). -/
def Core.atElem (k : Core) (i : Nat) : Core := { k with csrs := { k.csrs with vstart := BitVec.ofNat 8 i } }

/-- What the fields of one element come to. -/
inductive VmRes where
  /-- all performed, with the values of a load -/
  | vals (vs : List Nat)
  /-- the instruction stops here -/
  | stop (r : Step1)

/-- The fields of element i of a load, from the first not yet loaded (R157, R159). -/
def State.vmLoadElem (s : State) (c : Nat) (k : Core) (w : W32) (i : Nat) (got : List Nat) : Nat → State × VmRes
  | 0 => (s, .vals got)
  | fuel + 1 =>
    let kk : Core := { k.atElem i with vbuf := got }
    match s.vmTarget c k w i got.length with
    | (s, .local_ a, ad) =>
      (match s.load a (vmBytes w) with
      | (s, some bs) => s.vmLoadElem c k w i (got ++ [leNat bs]) fuel
      | (s, none) => (s, .stop (.fault { kk with vbuf := [] } FaultCode.dataError 0 (BitVec.ofNat 64 ad))))
    | (s, .remote x off, ad) =>
      let r := s.sendAccess kk x Op.load (log2 (vmBytes w)) off [] c 4 ad i w
      (r.1, .stop r.2)
    | (s, .fault code, ad) => (s, .stop (.fault { kk with vbuf := [] } code 0 (BitVec.ofNat 64 ad)))
    | (s, .wait, _) => (s, .stop (.wait kk))

/-- The first fault among the fields of element i of a store. -/
def State.vmStoreFault (s : State) (c : Nat) (k : Core) (w : W32) (i : Nat) : Option (Nat × Nat) :=
  (List.range (vmFields w)).findSome? (fun j => match s.vmTarget c k w i j with
    | (_, .fault code, ad) => some (code, ad)
    | _ => none)

/-- The fields of element i of a store, from field j, none of which faults (R157, R159, R161). -/
def State.vmStoreElem (s : State) (c : Nat) (k : Core) (w : W32) (i j : Nat) : List Nat → State × VmRes
  | [] => (s, .vals [])
  | v :: vs =>
    let kk : Core := { k.atElem i with vbuf := List.replicate j 0 }
    let bs := leBytes (vmBytes w) v
    match s.vmTarget c k w i j with
    | (s, .local_ a, _) => (s.store a bs).vmStoreElem c k w i (j + 1) vs
    | (s, .remote x off, ad) =>
      let r := s.sendAccess kk x Op.store (log2 (vmBytes w)) off bs c 5 ad i w
      (r.1, .stop r.2)
    | (s, .fault code, ad) => (s, .stop (.fault { kk with vbuf := [] } code 0 (BitVec.ofNat 64 ad)))
    | (s, .wait, _) => (s, .stop (.wait kk))

/-- One element (R159, R160). -/
def State.vmElem (s : State) (c : Nat) (k : Core) (w : W32) (i : Nat) : State × VmRes :=
  if vmStore w then
    let j := k.vbuf.length
    match s.vmStoreFault c k w i with
    | some (code, ad) =>
      let r := s.vmTarget c k w i 0
      (r.1, .stop (.fault { k.atElem i with vbuf := [] } code 0 (BitVec.ofNat 64 ad)))
    | none => s.vmStoreElem c { k with vbuf := [] } w i j ((k.vmTake w i).drop j)
  else s.vmLoadElem c { k with vbuf := [] } w i k.vbuf (vmFields w - k.vbuf.length)

/-- The elements from i on, in ascending order (R159). -/
def State.vmRun (s : State) (c : Nat) (w : W32) (k : Core) (i : Nat) : Nat → State × Step1
  | 0 => (s, .done (k.vmEnd w))
  | fuel + 1 =>
    if !laneOn (k.rp (vpg w)) (vmLane w) i then s.vmRun c w (k.vmSkip w i) (i + 1) fuel
    else
      match s.vmElem c k w i with
      | (s, .stop r) => (s, r)
      | (s, .vals vs) =>
        let k1 : Core := { k with vbuf := [] }
        s.vmRun c w (if vmStore w then k1 else k1.vmLand w i vs) (i + 1) fuel

/-- VLDBC (R156): one access, whose value goes to every active lane; it stands as the access of the first active lane (log
entry 10). -/
def State.vmBroadcast (s : State) (c : Nat) (w : W32) (k : Core) (i : Nat) : Nat → State × Step1
  | 0 => (s, .done (k.vmEnd w))
  | fuel + 1 =>
    if !laneOn (k.rp (vpg w)) (vmLane w) i then s.vmBroadcast c w (k.vmSkip w i) (i + 1) fuel
    else
      match s.vmElem c k w i with
      | (s, .stop r) => (s, r)
      | (s, .vals vs) =>
        let k1 : Core := { k with vbuf := [] }
        (s, .done (((upFrom i (fuel + 1)).foldl (fun k e =>
          if laneOn (k.rp (vpg w)) (vmLane w) e then k.vmLand w e vs else k.vmSkip w e) k1).vmEnd w))

/-- An element-ordered instruction (R154 to R160). -/
def vmStep (c : Nat) (w : W32) (s : State) (k : Core) : State × Step1 :=
  let i := k.csrs.vstart.toNat
  if !vmOk w k then (s, illegalW k w)
  else if major w = 0x2D && vmop w = 4 then s.vmBroadcast c w k i (vmCount w k - i)
  else s.vmRun c w k i (vmCount w k - i)

/-! ## Meanings -/

/-- NEAR_LOAD (R113). -/
def execNearLoad (c : CoreId) (w : W32) (s : State) : Out1 := .next (coreExec .nearLoad c w s (nearLoadStep c w))
/-- NEAR_STORE (R113). -/
def execNearStore (c : CoreId) (w : W32) (s : State) : Out1 := .next (coreExec .nearStore c w s (nearStoreStep c w))
/-- LDF (R117). -/
def execLdf (c : CoreId) (w : W32) (s : State) : Out1 := .next (coreExec .ldf c w s (ldfStep c w))
/-- STF (R117). -/
def execStf (c : CoreId) (w : W32) (s : State) : Out1 := .next (coreExec .stf c w s (stfStep c w))
/-- GLOBAL_LOAD (R127). -/
def execGlobalLoad (c : CoreId) (w : W32) (s : State) : Out1 := .next (coreExec .globalLoad c w s (globalLoadStep c w))
/-- GLOBAL_STORE (R127). -/
def execGlobalStore (c : CoreId) (w : W32) (s : State) : Out1 := .next (coreExec .globalStore c w s (globalStoreStep c w))
/-- ATOMIC_INTEGER (R129). -/
def execAtomicInteger (c : CoreId) (w : W32) (s : State) : Out1 := .next (coreExec .atomicInteger c w s (atomicStep c w))
/-- CAS (R129). -/
def execCas (c : CoreId) (w : W32) (s : State) : Out1 := .next (coreExec .cas c w s (atomicStep c w))
/-- ATOMIC_FADD (R129). -/
def execAtomicFadd (c : CoreId) (w : W32) (s : State) : Out1 := .next (coreExec .atomicFadd c w s (atomicStep c w))
/-- GADD (R129). -/
def execGadd (c : CoreId) (w : W32) (s : State) : Out1 := .next (coreExec .gadd c w s (atomicStep c w))
/-- ACOPY (R130). -/
def execAcopy (c : CoreId) (w : W32) (s : State) : Out1 := .next (coreExec .acopy c w s (acopyStep c w))
/-- VLD (R156). -/
def execVld (c : CoreId) (w : W32) (s : State) : Out1 := .next (coreExec .vld c w s (vmStep c w))
/-- VST (R156). -/
def execVst (c : CoreId) (w : W32) (s : State) : Out1 := .next (coreExec .vst c w s (vmStep c w))
/-- VLDS (R156). -/
def execVlds (c : CoreId) (w : W32) (s : State) : Out1 := .next (coreExec .vlds c w s (vmStep c w))
/-- VSTS (R156). -/
def execVsts (c : CoreId) (w : W32) (s : State) : Out1 := .next (coreExec .vsts c w s (vmStep c w))
/-- VLDBC (R156). -/
def execVldbc (c : CoreId) (w : W32) (s : State) : Out1 := .next (coreExec .vldbc c w s (vmStep c w))
/-- VGATHER (R158). -/
def execVgather (c : CoreId) (w : W32) (s : State) : Out1 := .next (coreExec .vgather c w s (vmStep c w))
/-- VSCATTER (R158). -/
def execVscatter (c : CoreId) (w : W32) (s : State) : Out1 := .next (coreExec .vscatter c w s (vmStep c w))
/-- VLD_STRUCTURE (R157). -/
def execVldStructure (c : CoreId) (w : W32) (s : State) : Out1 := .next (coreExec .vldStructure c w s (vmStep c w))
/-- VST_STRUCTURE (R157). -/
def execVstStructure (c : CoreId) (w : W32) (s : State) : Out1 := .next (coreExec .vstStructure c w s (vmStep c w))
/-- VLD_D2P (R154). -/
def execVldD2p (c : CoreId) (w : W32) (s : State) : Out1 := .next (coreExec .vldD2p c w s (vmStep c w))
/-- VST_P2D (R154). -/
def execVstP2d (c : CoreId) (w : W32) (s : State) : Out1 := .next (coreExec .vstP2d c w s (vmStep c w))

/-- CHECK_FAULT (R417): charged to the unit in progress on the core, or to its next one (R426). -/
def execCheckFault (c : CoreId) (s : State) : Out1 := .next (s.checkFault c)

end Sys2Proof.Machine
end

