-- ==== Sys2Proof/Machine/LinkEvents.lean ====
section
/-! DEFINITION. Events of the links (R319 to R340, R401). A timer's event has its effect only once the counter has reached
its limit (R56), and an event that the state of the link does not allow has none (log entry 6). -/

namespace Sys2Proof.Machine

/-- SIGNAL_DETECT (R319): a link in DOWN begins training, unless it waits for a retry (R320). -/
def execSignalDetect (n : LinkId) (lanes : BitVec 2) (s : State) : Out1 :=
  .next (
    let l := s.link n
    if l.st = .down ∧ l.retryFrom = none then s.beginTraining n lanes.toNat else s)

/-- TRAINING_TIMEOUT (R320, R344): the training attempt has not ended in time, or a link that LINK_RESET has reset found no
signal. -/
def execTrainingTimeout (n : LinkId) (s : State) : Out1 :=
  .next (
    let l := s.link n
    if s.now < l.trainStart + 100000000 then s
    else if l.st = .training then s.trainingFails n
    else if l.st = .down then s.linkSettled n
    else s)

/-- TRAINING_RETRY (R320): 1 s after a failed training. -/
def execTrainingRetry (n : LinkId) (lanes : BitVec 2) (s : State) : Out1 :=
  .next (
    let l := s.link n
    match l.retryFrom with
    | some t => if l.st = .down ∧ t + 1000000000 ≤ s.now then s.beginTraining n lanes.toNat else s
    | none => s)

/-- TRAINING_DONE (R319 steps 2 to 6). -/
def execTrainingDone (n : LinkId) (cap : Capability) (kept : List (BitVec 2)) (s : State) : Out1 :=
  .next (if (s.link n).st = .training then s.trainingEnds n cap kept else s)

/-- ADMISSION_MESSAGE (R334). -/
def execAdmissionMessage (n : LinkId) (a : AdmissionMsg) (s : State) : Out1 :=
  .next (if (s.link n).up then s.admissionIn n a else s)

/-- ADMISSION_VERDICT (R335). -/
def execAdmissionVerdict (n : LinkId) (admitted : Bool) (s : State) : Out1 :=
  .next (
    let l := s.link n
    match l.admission with
    | some a => (s.setLink n { l with admission := some { a with partnerVerdict := some admitted } }).admissionSettles n
    | none => s)

/-- ADMIT_TIMEOUT (R335): 100 ms after admission began. -/
def execAdmitTimeout (n : LinkId) (s : State) : Out1 :=
  .next (
    match (s.link n).admission with
    | some a => if a.start + 100000000 ≤ s.now then s.linkToQuarantine n 5 else s
    | none => s)

/-- FLIT_SEND (R331). -/
def execFlitSend (n : LinkId) (vc : Fin 8) (s : State) : Out1 := .next (s.sendFlit n vc)

/-- FLIT_RECEIVE (R327). -/
def execFlitReceive (n : LinkId) (bytes : List Byte) (fecCorrected fecBad : Nat) (s : State) : Out1 :=
  .next (s.flitIn n bytes fecCorrected fecBad)

/-- REPLAY_TIMEOUT (R327): after LIMIT resends without progress, a fast retrain. -/
def execReplayTimeout (n : LinkId) (s : State) : Out1 :=
  .next (
    let l := s.link n
    if !l.up || s.now < l.ackTime + s.getF .axlReplayCfg [n.val] 31 0 then s else s.resend n)

/-- FAST_RETRAIN (R321): the retrain in progress completes; the partner's expected SEQ acknowledges what lies before it,
and the rest of the Eddy buffer is sent again (R327, R328). -/
def execFastRetrain (n : LinkId) (expected : BitVec 12) (s : State) : Out1 :=
  .next (
    let l := s.link n
    if !l.up || l.fastRetrain.isNone then s
    else
      let s := s.setLink n { l with fastRetrain := none, ackTime := s.now }
      (s.ackIn n (expected - 1).toNat).replay n)

/-- FAST_RETRAIN_TIMEOUT (R321): 1 ms after the retrain began. -/
def execFastRetrainTimeout (n : LinkId) (s : State) : Out1 :=
  .next (
    match (s.link n).fastRetrain with
    | some t => if t + 1000000 ≤ s.now then (s.linkToDown n).linkSettled n else s
    | none => s)

/-- LANE_DROP (R328). -/
def execLaneDrop (n : LinkId) (lane : Fin 2) (s : State) : Out1 :=
  .next (
    let s := s.dropLane n lane
    if (s.link n).st = .down then s.linkSettled n else s)

/-- LINK_DOWN (R340): no signal, or the loss of every lane. -/
def execLinkDown (n : LinkId) (s : State) : Out1 :=
  .next (
    let l := s.link n
    match l.st with
    | .disabled | .isolated => s
    | .down => s.linkSettled n
    | _ => (s.linkToDown n).linkSettled n)

/-- LINK_RATE_WINDOW (R332): the end of a 1 µs window. -/
def execLinkRateWindow (n : LinkId) (s : State) : Out1 :=
  .next (
    let l := s.link n
    let s1 := s.setLink n { l with windowCount := [0, 0, 0, 0, 0, 0, 0, 0], sentCount := [0, 0, 0, 0, 0, 0, 0, 0] }
    (List.range 8).foldl (fun s m =>
      if s.getF .axlVc [n.val, m] 27 16 + s.getF .axlVc [n.val, m] 15 8 < nth 0 l.windowCount m then s.anomaly n .rate
      else s) s1)

/-- DRAIN_DONE (R401). -/
def execDrainDone (n : LinkId) (tag : W16) (epoch : Byte) (s : State) : Out1 :=
  .next (if (s.link n).up then s.drainDoneIn n tag epoch else s)

/-- DRAIN_DONE_RESEND (R401). -/
def execDrainDoneResend (n : LinkId) (e : Fin 256) (s : State) : Out1 :=
  .next (
    let f := s.filter n e
    if f.st = .draining ∧ (s.link n).st = .active then s.emit (.drainDone n f.tag f.epoch) else s)

end Sys2Proof.Machine
end

