-- ==== Sys2Proof/Machine/Dispatch.lean ====
section
/-! DEFINITION. One arm per command: a direct call of its meaning. -/

namespace Sys2Proof.Machine

/-- The effect of a command on everything but the queue of commands that wait. -/
def exec (i : Instr) (s : State) : Host.Outcome State Fault Refusal :=
  match i with
  | .registerWrite m off size v => Sys2Proof.Machine.execRegisterWrite m off size v s
  | .eventFlagClear m off v hwSet => Sys2Proof.Machine.execEventFlagClear m off v hwSet s
  | .rateWindowEnd r rate => Sys2Proof.Machine.execRateWindowEnd r rate s
  | .telltaleReport r t delay tapChange => Sys2Proof.Machine.execTelltaleReport r t delay tapChange s
  | .graniteReplan => Sys2Proof.Machine.execGraniteReplan s
  | .opRequestWrite m v => Sys2Proof.Machine.execOpRequestWrite m v s
  | .opPointApply => Sys2Proof.Machine.execOpPointApply s
  | .opRaiseStep => Sys2Proof.Machine.execOpRaiseStep s
  | .powerLimitLower watts => Sys2Proof.Machine.execPowerLimitLower watts s
  | .powerLimitRaise watts => Sys2Proof.Machine.execPowerLimitRaise watts s
  | .thermalLower r temp => Sys2Proof.Machine.execThermalLower r temp s
  | .thermalRaise r temp => Sys2Proof.Machine.execThermalRaise r temp s
  | .thermalHold r temp => Sys2Proof.Machine.execThermalHold r temp s
  | .thermalHoldLift r temp => Sys2Proof.Machine.execThermalHoldLift r temp s
  | .thermalShutdown r temp => Sys2Proof.Machine.execThermalShutdown r temp s
  | .ledgerPeriodicWrite ok => Sys2Proof.Machine.execLedgerPeriodicWrite ok s
  | .queue0RingWrite m completion v => Sys2Proof.Machine.execQueue0RingWrite m completion v s
  | .queue0Enable m v => Sys2Proof.Machine.execQueue0Enable m v s
  | .queue0Disable m v => Sys2Proof.Machine.execQueue0Disable m v s
  | .queue0Reset m v => Sys2Proof.Machine.execQueue0Reset m v s
  | .doorbellWrite m q v => Sys2Proof.Machine.execDoorbellWrite m q v s
  | .chWrite m q v => Sys2Proof.Machine.execChWrite m q v s
  | .commandStart => Sys2Proof.Machine.execCommandStart s
  | .qCreate q seq => Sys2Proof.Machine.execQCreate q seq s
  | .qDestroy q seq => Sys2Proof.Machine.execQDestroy q seq s
  | .qPause q seq => Sys2Proof.Machine.execQPause q seq s
  | .qResume q seq => Sys2Proof.Machine.execQResume q seq s
  | .qReset q seq => Sys2Proof.Machine.execQReset q seq s
  | .qNop q seq => Sys2Proof.Machine.execQNop q seq s
  | .dispatchCoreFail d q seq => Sys2Proof.Machine.execDispatchCoreFail d q seq s
  | .memCopy q seq => Sys2Proof.Machine.execMemCopy q seq s
  | .memFill q seq => Sys2Proof.Machine.execMemFill q seq s
  | .memQuery q seq => Sys2Proof.Machine.execMemQuery q seq s
  | .memReserve q seq => Sys2Proof.Machine.execMemReserve q seq s
  | .memRelease q seq => Sys2Proof.Machine.execMemRelease q seq s
  | .jobBegin q seq => Sys2Proof.Machine.execJobBegin q seq s
  | .jobTeardown q seq => Sys2Proof.Machine.execJobTeardown q seq s
  | .teardownLimit j => Sys2Proof.Machine.execTeardownLimit j s
  | .schedLoad q seq => Sys2Proof.Machine.execSchedLoad q seq s
  | .schedUnload q seq => Sys2Proof.Machine.execSchedUnload q seq s
  | .schedRun q seq => Sys2Proof.Machine.execSchedRun q seq s
  | .schedHalt q seq => Sys2Proof.Machine.execSchedHalt q seq s
  | .stepWait q seq => Sys2Proof.Machine.execStepWait q seq s
  | .tallySet q seq => Sys2Proof.Machine.execTallySet q seq s
  | .tallyRead q seq => Sys2Proof.Machine.execTallyRead q seq s
  | .unitIssue l k => Sys2Proof.Machine.execUnitIssue l k s
  | .unitCommit c => Sys2Proof.Machine.execUnitCommit c s
  | .fenceComplete j => Sys2Proof.Machine.execFenceComplete j s
  | .stepTimeout j => Sys2Proof.Machine.execStepTimeout j s
  | .integerAlu c w => Sys2Proof.Machine.execIntegerAlu c w s
  | .addi c w => Sys2Proof.Machine.execAddi c w s
  | .andi c w => Sys2Proof.Machine.execAndi c w s
  | .ori c w => Sys2Proof.Machine.execOri c w s
  | .xori c w => Sys2Proof.Machine.execXori c w s
  | .shiftByImmediate c w => Sys2Proof.Machine.execShiftByImmediate c w s
  | .slti c w => Sys2Proof.Machine.execSlti c w s
  | .lui c w => Sys2Proof.Machine.execLui c w s
  | .compareToPredicate c w => Sys2Proof.Machine.execCompareToPredicate c w s
  | .predicateLogic c w => Sys2Proof.Machine.execPredicateLogic c w s
  | .scalarFp32 c w => Sys2Proof.Machine.execScalarFp32 c w s
  | .nearLoad c w => Sys2Proof.Machine.execNearLoad c w s
  | .nearStore c w => Sys2Proof.Machine.execNearStore c w s
  | .ldf c w => Sys2Proof.Machine.execLdf c w s
  | .stf c w => Sys2Proof.Machine.execStf c w s
  | .globalLoad c w => Sys2Proof.Machine.execGlobalLoad c w s
  | .globalStore c w => Sys2Proof.Machine.execGlobalStore c w s
  | .atomicInteger c w => Sys2Proof.Machine.execAtomicInteger c w s
  | .cas c w => Sys2Proof.Machine.execCas c w s
  | .atomicFadd c w => Sys2Proof.Machine.execAtomicFadd c w s
  | .gadd c w => Sys2Proof.Machine.execGadd c w s
  | .acopy c w => Sys2Proof.Machine.execAcopy c w s
  | .branch c w => Sys2Proof.Machine.execBranch c w s
  | .jal c w => Sys2Proof.Machine.execJal c w s
  | .jalr c w => Sys2Proof.Machine.execJalr c w s
  | .loopStart c w => Sys2Proof.Machine.execLoopStart c w s
  | .csrr c w => Sys2Proof.Machine.execCsrr c w s
  | .csrw c w => Sys2Proof.Machine.execCsrw c w s
  | .csrs c w => Sys2Proof.Machine.execCsrs c w s
  | .csrc c w => Sys2Proof.Machine.execCsrc c w s
  | .fence c w => Sys2Proof.Machine.execFence c w s
  | .end_ c w => Sys2Proof.Machine.execEnd c w s
  | .trapUnit c w => Sys2Proof.Machine.execTrapUnit c w s
  | .twait c w => Sys2Proof.Machine.execTwait c w s
  | .twaitTimeout c => Sys2Proof.Machine.execTwaitTimeout c s
  | .tread c w => Sys2Proof.Machine.execTread c w s
  | .tsig c w => Sys2Proof.Machine.execTsig c w s
  | .twload c w => Sys2Proof.Machine.execTwload c w s
  | .twloadProceed c => Sys2Proof.Machine.execTwloadProceed c s
  | .twloadWaitTimeout c => Sys2Proof.Machine.execTwloadWaitTimeout c s
  | .tstream c w => Sys2Proof.Machine.execTstream c w s
  | .treadacc c w => Sys2Proof.Machine.execTreadacc c w s
  | .tvacq c w => Sys2Proof.Machine.execTvacq c w s
  | .tvrel c w => Sys2Proof.Machine.execTvrel c w s
  | .tvquery c w => Sys2Proof.Machine.execTvquery c w s
  | .tcfg c w => Sys2Proof.Machine.execTcfg c w s
  | .taTflagClear m c t v => Sys2Proof.Machine.execTaTflagClear m c t v s
  | .vectorInteger c w => Sys2Proof.Machine.execVectorInteger c w s
  | .vectorFp32 c w => Sys2Proof.Machine.execVectorFp32 c w s
  | .vectorCompare c w => Sys2Proof.Machine.execVectorCompare c w s
  | .vsplat c w => Sys2Proof.Machine.execVsplat c w s
  | .vext c w => Sys2Proof.Machine.execVext c w s
  | .vredsum c w => Sys2Proof.Machine.execVredsum c w s
  | .vredmax c w => Sys2Proof.Machine.execVredmax c w s
  | .vredfsum c w => Sys2Proof.Machine.execVredfsum c w s
  | .vredfmax c w => Sys2Proof.Machine.execVredfmax c w s
  | .vectorWidening c w => Sys2Proof.Machine.execVectorWidening c w s
  | .vectorDot c w => Sys2Proof.Machine.execVectorDot c w s
  | .fp32Pair c w => Sys2Proof.Machine.execFp32Pair c w s
  | .vld c w => Sys2Proof.Machine.execVld c w s
  | .vst c w => Sys2Proof.Machine.execVst c w s
  | .vlds c w => Sys2Proof.Machine.execVlds c w s
  | .vsts c w => Sys2Proof.Machine.execVsts c w s
  | .vldbc c w => Sys2Proof.Machine.execVldbc c w s
  | .vgather c w => Sys2Proof.Machine.execVgather c w s
  | .vscatter c w => Sys2Proof.Machine.execVscatter c w s
  | .vldStructure c w => Sys2Proof.Machine.execVldStructure c w s
  | .vstStructure c w => Sys2Proof.Machine.execVstStructure c w s
  | .vldD2p c w => Sys2Proof.Machine.execVldD2p c w s
  | .vstP2d c w => Sys2Proof.Machine.execVstP2d c w s
  | .vsetvl c w => Sys2Proof.Machine.execVsetvl c w s
  | .vmov c w => Sys2Proof.Machine.execVmov c w s
  | .checkFault c => Sys2Proof.Machine.execCheckFault c s
  | .qntSetup q seq => Sys2Proof.Machine.execQntSetup q seq s
  | .qntRead q seq => Sys2Proof.Machine.execQntRead q seq s
  | .qntHistorySet q seq => Sys2Proof.Machine.execQntHistorySet q seq s
  | .qntReset q seq => Sys2Proof.Machine.execQntReset q seq s
  | .slvBatch q seq => Sys2Proof.Machine.execSlvBatch q seq s
  | .solverProblem l => Sys2Proof.Machine.execSolverProblem l s
  | .slvDeadlineExpiry q seq progress => Sys2Proof.Machine.execSlvDeadlineExpiry q seq progress s
  | .slvAbort q seq => Sys2Proof.Machine.execSlvAbort q seq s
  | .patrolScrub a => Sys2Proof.Machine.execPatrolScrub a s
  | .ppr pc row => Sys2Proof.Machine.execPpr pc row s
  | .pageRetire pc page => Sys2Proof.Machine.execPageRetire pc page s
  | .mapOutBegin pc => Sys2Proof.Machine.execMapOutBegin pc s
  | .mapOut pc => Sys2Proof.Machine.execMapOut pc s
  | .incrementalRetrain pc => Sys2Proof.Machine.execIncrementalRetrain pc s
  | .fullRetrain pc => Sys2Proof.Machine.execFullRetrain pc s
  | .fullRetrainEnd pc eye => Sys2Proof.Machine.execFullRetrainEnd pc eye s
  | .linkEnable m n v => Sys2Proof.Machine.execLinkEnable m n v s
  | .linkDisable m n v => Sys2Proof.Machine.execLinkDisable m n v s
  | .axlRetrain m n v => Sys2Proof.Machine.execAxlRetrain m n v s
  | .vcAllocWrite m n vc v => Sys2Proof.Machine.execVcAllocWrite m n vc v s
  | .signalDetect n lanes => Sys2Proof.Machine.execSignalDetect n lanes s
  | .trainingTimeout n => Sys2Proof.Machine.execTrainingTimeout n s
  | .trainingRetry n lanes => Sys2Proof.Machine.execTrainingRetry n lanes s
  | .trainingDone n cap lanesKept => Sys2Proof.Machine.execTrainingDone n cap lanesKept s
  | .admissionMessage n a => Sys2Proof.Machine.execAdmissionMessage n a s
  | .admissionVerdict n admitted => Sys2Proof.Machine.execAdmissionVerdict n admitted s
  | .admitTimeout n => Sys2Proof.Machine.execAdmitTimeout n s
  | .flitSend n vc => Sys2Proof.Machine.execFlitSend n vc s
  | .flitReceive n bytes fecCorrected fecBad => Sys2Proof.Machine.execFlitReceive n bytes fecCorrected fecBad s
  | .replayTimeout n => Sys2Proof.Machine.execReplayTimeout n s
  | .fastRetrain n expected => Sys2Proof.Machine.execFastRetrain n expected s
  | .fastRetrainTimeout n => Sys2Proof.Machine.execFastRetrainTimeout n s
  | .laneDrop n lane => Sys2Proof.Machine.execLaneDrop n lane s
  | .linkDown n => Sys2Proof.Machine.execLinkDown n s
  | .linkRateWindow n => Sys2Proof.Machine.execLinkRateWindow n s
  | .routeLoad q seq => Sys2Proof.Machine.execRouteLoad q seq s
  | .linkReset q seq => Sys2Proof.Machine.execLinkReset q seq s
  | .ctxOpen q seq => Sys2Proof.Machine.execCtxOpen q seq s
  | .bindRepeat x => Sys2Proof.Machine.execBindRepeat x s
  | .bindTimeout x => Sys2Proof.Machine.execBindTimeout x s
  | .ctxClose q seq => Sys2Proof.Machine.execCtxClose q seq s
  | .ctxQuery q seq => Sys2Proof.Machine.execCtxQuery q seq s
  | .ctxSelectWrite m v => Sys2Proof.Machine.execCtxSelectWrite m v s
  | .bindPacket n p => Sys2Proof.Machine.execBindPacket n p s
  | .loadPacket n p => Sys2Proof.Machine.execLoadPacket n p s
  | .storePacket n p => Sys2Proof.Machine.execStorePacket n p s
  | .atomicPacket n p => Sys2Proof.Machine.execAtomicPacket n p s
  | .signalPacket n p => Sys2Proof.Machine.execSignalPacket n p s
  | .copyOpen n p => Sys2Proof.Machine.execCopyOpen n p s
  | .piecePacket n p => Sys2Proof.Machine.execPiecePacket n p s
  | .msgPacket n p => Sys2Proof.Machine.execMsgPacket n p s
  | .redPiece n p => Sys2Proof.Machine.execRedPiece n p s
  | .replyPacket n p => Sys2Proof.Machine.execReplyPacket n p s
  | .pieceAck n p => Sys2Proof.Machine.execPieceAck n p s
  | .queryPacket n p => Sys2Proof.Machine.execQueryPacket n p s
  | .queryReply n p => Sys2Proof.Machine.execQueryReply n p s
  | .requestTimeout x seq => Sys2Proof.Machine.execRequestTimeout x seq s
  | .queryTimer x => Sys2Proof.Machine.execQueryTimer x s
  | .rnrResend x seq => Sys2Proof.Machine.execRnrResend x seq s
  | .msgSend q seq => Sys2Proof.Machine.execMsgSend q seq s
  | .msgRecvPost q seq => Sys2Proof.Machine.execMsgRecvPost q seq s
  | .confluenceDelivery j red level child => Sys2Proof.Machine.execConfluenceDelivery j red level child s
  | .snapTake q seq => Sys2Proof.Machine.execSnapTake q seq s
  | .snapTrigger j => Sys2Proof.Machine.execSnapTrigger j s
  | .fenceUp j from_ tok => Sys2Proof.Machine.execFenceUp j from_ tok s
  | .fenceDown j from_ tok => Sys2Proof.Machine.execFenceDown j from_ tok s
  | .snapshotPageCopy j => Sys2Proof.Machine.execSnapshotPageCopy j s
  | .stageFullResume j => Sys2Proof.Machine.execStageFullResume j s
  | .verdictUp j from_ tok => Sys2Proof.Machine.execVerdictUp j from_ tok s
  | .verdictDown j from_ tok => Sys2Proof.Machine.execVerdictDown j from_ tok s
  | .snapAbort q seq => Sys2Proof.Machine.execSnapAbort q seq s
  | .snapStatus q seq => Sys2Proof.Machine.execSnapStatus q seq s
  | .snapRestore q seq => Sys2Proof.Machine.execSnapRestore q seq s
  | .restoreUp j from_ tok => Sys2Proof.Machine.execRestoreUp j from_ tok s
  | .restoreDown j from_ tok => Sys2Proof.Machine.execRestoreDown j from_ tok s
  | .nodeIdWrite m v => Sys2Proof.Machine.execNodeIdWrite m v s
  | .drainDone n tag epoch => Sys2Proof.Machine.execDrainDone n tag epoch s
  | .drainDoneResend n e => Sys2Proof.Machine.execDrainDoneResend n e s
  | .beaconSend => Sys2Proof.Machine.execBeaconSend s
  | .beaconArrival n b => Sys2Proof.Machine.execBeaconArrival n b s
  | .lockLost => Sys2Proof.Machine.execLockLost s
  | .ptpMessage peer p => Sys2Proof.Machine.execPtpMessage peer p s
  | .healthSummary => Sys2Proof.Machine.execHealthSummary s
  | .healthRead q seq => Sys2Proof.Machine.execHealthRead q seq s
  | .ledgerRead q seq => Sys2Proof.Machine.execLedgerRead q seq s
  | .opPoint q seq => Sys2Proof.Machine.execOpPoint q seq s
  | .tilePhaseFail t => Sys2Proof.Machine.execTilePhaseFail t s
  | .graniteTakeover => Sys2Proof.Machine.execGraniteTakeover s
  | .pdieCoreFault k => Sys2Proof.Machine.execPdieCoreFault k s
  | .mbxDbWrite m slot v => Sys2Proof.Machine.execMbxDbWrite m slot v s
  | .powerLimit m => Sys2Proof.Machine.execPowerLimit m s
  | .verifyImage m => Sys2Proof.Machine.execVerifyImage m s
  | .keyImport m => Sys2Proof.Machine.execKeyImport m s
  | .keyClear m => Sys2Proof.Machine.execKeyClear m s
  | .admitRead m => Sys2Proof.Machine.execAdmitRead m s
  | .policyRead m => Sys2Proof.Machine.execPolicyRead m s
  | .configRead m => Sys2Proof.Machine.execConfigRead m s
  | .bundleStage m => Sys2Proof.Machine.execBundleStage m s
  | .sign m => Sys2Proof.Machine.execSign m s
  | .twoPartyNonce q seq => Sys2Proof.Machine.execTwoPartyNonce q seq s
  | .twoPartyPropose q seq => Sys2Proof.Machine.execTwoPartyPropose q seq s
  | .twoPartyStatus q seq => Sys2Proof.Machine.execTwoPartyStatus q seq s
  | .powerOn => Sys2Proof.Machine.execPowerOn s
  | .perstDeassert => Sys2Proof.Machine.execPerstDeassert s
  | .configReady lanes mode => Sys2Proof.Machine.execConfigReady lanes mode s
  | .hbmTrained => Sys2Proof.Machine.execHbmTrained s
  | .memoryActive => Sys2Proof.Machine.execMemoryActive s
  | .warmReset orderly => Sys2Proof.Machine.execWarmReset orderly s
  | .nodeReset q seq => Sys2Proof.Machine.execNodeReset q seq s
  | .clusterReset q seq => Sys2Proof.Machine.execClusterReset q seq s
  | .functionLevelReset => Sys2Proof.Machine.execFunctionLevelReset s
  | .hostSnoop a => Sys2Proof.Machine.execHostSnoop a s
  | .hdmAccess a data cache => Sys2Proof.Machine.execHdmAccess a data cache s
  | .birsp a => Sys2Proof.Machine.execBirsp a s
  | .biTimeout a => Sys2Proof.Machine.execBiTimeout a s
  | .ideKeyLoad m v => Sys2Proof.Machine.execIdeKeyLoad m v s
  | .ideFail stream => Sys2Proof.Machine.execIdeFail stream s
  | .widthDown lanes => Sys2Proof.Machine.execWidthDown lanes s
  | .hostLinkDown => Sys2Proof.Machine.execHostLinkDown s
  | .cxlDetectRetry lanes mode => Sys2Proof.Machine.execCxlDetectRetry lanes mode s
  | .hostAccessTimeout q seq => Sys2Proof.Machine.execHostAccessTimeout q seq s
  | .mgtRegisterRead t off => Sys2Proof.Machine.execMgtRegisterRead t off s
  | .mgtRegisterWrite t off v => Sys2Proof.Machine.execMgtRegisterWrite t off v s
  | .mgtSlotSubmit t slot => Sys2Proof.Machine.execMgtSlotSubmit t slot s
  | .mgtPeerWrite m i3c w v => Sys2Proof.Machine.execMgtPeerWrite m i3c w v s
  | .getVersion t req => Sys2Proof.Machine.execGetVersion t req s
  | .getCapabilities t req => Sys2Proof.Machine.execGetCapabilities t req s
  | .negotiateAlgorithms t req => Sys2Proof.Machine.execNegotiateAlgorithms t req s
  | .getDigests t req => Sys2Proof.Machine.execGetDigests t req s
  | .getCertificate t req => Sys2Proof.Machine.execGetCertificate t req s
  | .challenge t req => Sys2Proof.Machine.execChallenge t req s
  | .getMeasurements t req => Sys2Proof.Machine.execGetMeasurements t req s
  | .undervoltage => Sys2Proof.Machine.execUndervoltage s
  | .overvoltage => Sys2Proof.Machine.execOvervoltage s
  | .refclk156Present => Sys2Proof.Machine.execRefclk156Present s
  | .solverUnitCheckFault l => Sys2Proof.Machine.execSolverUnitCheckFault l s
  | .clusterSchedulerFault l => Sys2Proof.Machine.execClusterSchedulerFault l s
  | .standbyPairFail => Sys2Proof.Machine.execStandbyPairFail s
  | .pageRetireDone entry => Sys2Proof.Machine.execPageRetireDone entry s
  | .chunkOverdue tag epoch lowest grandparent => Sys2Proof.Machine.execChunkOverdue tag epoch lowest grandparent s
  | .componentRegisterWrite w => Sys2Proof.Machine.execComponentRegisterWrite w s

end Sys2Proof.Machine
end

