-- ==== Sys2Proof/Machine/Tick.lean ====
section
/-! DEFINITION. What time does to the node between commands: the reference clock drives the time counter (R55). -/

namespace Sys2Proof.Machine

/-- Nanoseconds that a reference edge adds: five successive edges add 32 in the order 6, 7, 6, 7, 6 (R55). -/
def edgeNs (phase : Nat) : Nat := if phase % 2 = 1 then 7 else 6

/-- One rising edge of REFCLK_156; nothing happens while the node has no power or no reference (R55, R478). -/
def State.tick (s : State) : State :=
  if s.package.power && s.package.refclk then
    { s with clock := { s.clock with
        now := s.clock.now + BitVec.ofNat 64 (edgeNs s.clock.phase), phase := (s.clock.phase + 1) % 5 } }
  else s

end Sys2Proof.Machine
end

