-- ==== Sys2Proof/WellFormed.lean ====
section
/-! DEFINITION. Which commands can be brought at all: a core's row carries a word that belongs to it or to no row
(R117), and lists have the lengths of the records they stand for. -/

namespace Sys2Proof

/-- The core instruction row of a command and its word. -/
def Instr.coreOp : Instr → Option (Machine.CoreOp × W32)
  | .integerAlu _ w => some (Machine.CoreOp.integerAlu, w)
  | .addi _ w => some (Machine.CoreOp.addi, w)
  | .andi _ w => some (Machine.CoreOp.andi, w)
  | .ori _ w => some (Machine.CoreOp.ori, w)
  | .xori _ w => some (Machine.CoreOp.xori, w)
  | .shiftByImmediate _ w => some (Machine.CoreOp.shiftByImmediate, w)
  | .slti _ w => some (Machine.CoreOp.slti, w)
  | .lui _ w => some (Machine.CoreOp.lui, w)
  | .compareToPredicate _ w => some (Machine.CoreOp.compareToPredicate, w)
  | .predicateLogic _ w => some (Machine.CoreOp.predicateLogic, w)
  | .scalarFp32 _ w => some (Machine.CoreOp.scalarFp32, w)
  | .nearLoad _ w => some (Machine.CoreOp.nearLoad, w)
  | .nearStore _ w => some (Machine.CoreOp.nearStore, w)
  | .ldf _ w => some (Machine.CoreOp.ldf, w)
  | .stf _ w => some (Machine.CoreOp.stf, w)
  | .globalLoad _ w => some (Machine.CoreOp.globalLoad, w)
  | .globalStore _ w => some (Machine.CoreOp.globalStore, w)
  | .atomicInteger _ w => some (Machine.CoreOp.atomicInteger, w)
  | .cas _ w => some (Machine.CoreOp.cas, w)
  | .atomicFadd _ w => some (Machine.CoreOp.atomicFadd, w)
  | .gadd _ w => some (Machine.CoreOp.gadd, w)
  | .acopy _ w => some (Machine.CoreOp.acopy, w)
  | .branch _ w => some (Machine.CoreOp.branch, w)
  | .jal _ w => some (Machine.CoreOp.jal, w)
  | .jalr _ w => some (Machine.CoreOp.jalr, w)
  | .loopStart _ w => some (Machine.CoreOp.loopStart, w)
  | .csrr _ w => some (Machine.CoreOp.csrr, w)
  | .csrw _ w => some (Machine.CoreOp.csrw, w)
  | .csrs _ w => some (Machine.CoreOp.csrs, w)
  | .csrc _ w => some (Machine.CoreOp.csrc, w)
  | .fence _ w => some (Machine.CoreOp.fence, w)
  | .end_ _ w => some (Machine.CoreOp.endUnit, w)
  | .trapUnit _ w => some (Machine.CoreOp.trapUnit, w)
  | .twait _ w => some (Machine.CoreOp.twait, w)
  | .tread _ w => some (Machine.CoreOp.tread, w)
  | .tsig _ w => some (Machine.CoreOp.tsig, w)
  | .twload _ w => some (Machine.CoreOp.twload, w)
  | .tstream _ w => some (Machine.CoreOp.tstream, w)
  | .treadacc _ w => some (Machine.CoreOp.treadacc, w)
  | .tvacq _ w => some (Machine.CoreOp.tvacq, w)
  | .tvrel _ w => some (Machine.CoreOp.tvrel, w)
  | .tvquery _ w => some (Machine.CoreOp.tvquery, w)
  | .tcfg _ w => some (Machine.CoreOp.tcfg, w)
  | .vectorInteger _ w => some (Machine.CoreOp.vectorInteger, w)
  | .vectorFp32 _ w => some (Machine.CoreOp.vectorFp32, w)
  | .vectorCompare _ w => some (Machine.CoreOp.vectorCompare, w)
  | .vsplat _ w => some (Machine.CoreOp.vsplat, w)
  | .vext _ w => some (Machine.CoreOp.vext, w)
  | .vredsum _ w => some (Machine.CoreOp.vredsum, w)
  | .vredmax _ w => some (Machine.CoreOp.vredmax, w)
  | .vredfsum _ w => some (Machine.CoreOp.vredfsum, w)
  | .vredfmax _ w => some (Machine.CoreOp.vredfmax, w)
  | .vectorWidening _ w => some (Machine.CoreOp.vectorWidening, w)
  | .vectorDot _ w => some (Machine.CoreOp.vectorDot, w)
  | .fp32Pair _ w => some (Machine.CoreOp.fp32Pair, w)
  | .vld _ w => some (Machine.CoreOp.vld, w)
  | .vst _ w => some (Machine.CoreOp.vst, w)
  | .vlds _ w => some (Machine.CoreOp.vlds, w)
  | .vsts _ w => some (Machine.CoreOp.vsts, w)
  | .vldbc _ w => some (Machine.CoreOp.vldbc, w)
  | .vgather _ w => some (Machine.CoreOp.vgather, w)
  | .vscatter _ w => some (Machine.CoreOp.vscatter, w)
  | .vldStructure _ w => some (Machine.CoreOp.vldStructure, w)
  | .vstStructure _ w => some (Machine.CoreOp.vstStructure, w)
  | .vldD2p _ w => some (Machine.CoreOp.vldD2p, w)
  | .vstP2d _ w => some (Machine.CoreOp.vstP2d, w)
  | .vsetvl _ w => some (Machine.CoreOp.vsetvl, w)
  | .vmov _ w => some (Machine.CoreOp.vmov, w)
  | _ => none

/-- A packet's payload fits LENGTH (R352). A packet row carries its own OP, and a row for a write of one bit a value with
that bit. -/
def Packet.wellFormed (p : Packet) : Bool := p.payload.length < 2 ^ 16

/-- A capability has one entry per VC in each list (R319, R332). -/
def Capability.wellFormed (c : Capability) : Bool :=
  c.alloc.length == 8 && c.contract.length == 8 && c.burst.length == 8

/-- The operands of a command are what the hardware can bring. -/
def Instr.operandsOk : Instr → Bool
  | .componentRegisterWrite (.bar2 _ size _) => size == 4 || size == 8
  | .trainingDone _ cap _ => cap.wellFormed
  | .flitReceive _ bytes _ _ => bytes.length == 256
  | .bindPacket _ p => p.wellFormed && p.op == 0x14
  | .loadPacket _ p => p.wellFormed && p.op == 0x01
  | .storePacket _ p => p.wellFormed && p.op == 0x02
  | .atomicPacket _ p => p.wellFormed && p.op == 0x03
  | .signalPacket _ p => p.wellFormed && p.op == 0x04
  | .copyOpen _ p => p.wellFormed && p.op == 0x05
  | .piecePacket _ p => p.wellFormed && p.op == 0x06
  | .msgPacket _ p => p.wellFormed && p.op == 0x07
  | .redPiece _ p => p.wellFormed && p.op == 0x08
  | .replyPacket _ p => p.wellFormed && p.op == 0x10
  | .pieceAck _ p => p.wellFormed && p.op == 0x11
  | .queryPacket _ p => p.wellFormed && p.op == 0x12
  | .queryReply _ p => p.wellFormed && p.op == 0x13
  | .queue0Enable _ v => v.getLsbD 0
  | .queue0Disable _ v => !v.getLsbD 0
  | .queue0Reset _ v => v.getLsbD 1
  | .linkEnable _ _ v => v.getLsbD 0
  | .linkDisable _ _ v => !v.getLsbD 0
  | .axlRetrain _ _ v => v.getLsbD 7
  | .mgtSlotSubmit _ slot => slot.length == 64
  | .hdmAccess _ data _ => match data with
    | some bs => bs.length == 64
    | none => true
  | _ => true

/-- A command that can be brought. -/
def Instr.wellFormed (i : Instr) : Bool :=
  i.operandsOk && match i.coreOp with
    | some (op, w) => Machine.wordFits op w
    | none => true

end Sys2Proof
end

