-- ==== Sys2Proof/Machine/Step.lean ====
section
/-! DEFINITION. One step: the command at the front of the queue, or one edge of the reference clock. -/

namespace Sys2Proof.Machine

/-- One step: the front command is taken and run with the queue's rest; an empty queue lets the reference clock give one
edge (R55; log entry 1). A command that no hardware could bring stops the machine. -/
def step (s : State) : Host.Outcome State Fault Refusal :=
  match s.pending with
  | [] => .next s.tick
  | c :: rest => if c.wellFormed then exec c { s with pending := rest } else .fault .illFormed

/-- The state with the command that a word spells put at the front of the queue; the table's rows give no bits, so the
state itself. -/
def State.withFetchWord (s : State) (nbits w : Nat) : State :=
  match decodeTableWord nbits w with
  | some c => { s with pending := c :: s.pending }
  | none => s

end Sys2Proof.Machine
end

