-- ==== Sys2Proof/Safety.lean ====
section
/-! DEFINITION. What a safe run is: every waiting command is well-formed, so that no step ends in a fault. -/

namespace Sys2Proof

/-- No waiting command is ill-formed, so that a step from this state never stops with a fault. -/
def Safe (s : Machine.State) : Prop := s.pending.all Instr.wellFormed = true

end Sys2Proof
end

