-- ==== Sys2Proof/Certificates/Slice0/Obligations.lean ====
section
/-! DEFINITION. The statements for the provers, in the order of the manual's chapters. `Claims` holds the premises and the
frames that several statements share. A statement says of a command that `exec` answers a next state, and what that state
holds; `{ t with f := s.f } = s` says that nothing but the field f differs. -/

open Sys2Proof Sys2Proof.Machine

namespace Sys2Proof.Claims

/-- Registers of the control space are unchanged but for those at the listed offsets. -/
def regsBut (s t : State) (os : List Nat) : Prop := ∀ o, o ∉ os → mfind t.regs o = mfind s.regs o

/-- An event has been counted: its flag is 1, and its counter is one more, saturating (R11, R12). -/
def raised (s t : State) (e : Ev) (is : List Nat) : Prop :=
  t.getF e.info.1 is e.info.2.1 e.info.2.1 = 1 ∧
  (t.reg e.info.2.2 (is.take e.info.2.2.info.dims.length)).toNat =
    satInc 64 (s.reg e.info.2.2 (is.take e.info.2.2.info.dims.length)).toNat

/-- A control-space write by a master reaches a register (R30): neither a master enable nor the access policy table refuses
it, and no part of R30 discards it. -/
def reaches (s : State) (m : Master) (t : RegTag) (is : List Nat) : Prop :=
  s.controlAllowed m (t.off is) false true = (s, true) ∧ s.controlReg (t.off is) 8 = some (t, is)

/-- A command that a queue has started and that has not begun (R78): its row runs it. -/
def ready (s : State) (op : Nat) (q : QueueId) (seq : W32) (c : Started) : Prop :=
  s.findStarted q.val seq = some c ∧ c.opcode.toNat = op ∧ c.wait = .ready

/-- A started job command whose job is open (R86). -/
def readyJob (s : State) (op : Nat) (q : QueueId) (seq : W32) (c : Started) (j : Nat) (b : JobSlot) : Prop :=
  ready s op q seq c ∧ s.jobStatus c.tag c.epoch = 0 ∧ s.findJob c.tag c.epoch = some (j, b) ∧ s.job j = some b

end Sys2Proof.Claims

open Sys2Proof.Claims

/-! ## Steps, reset, memory and packets -/

/-- A step with commands waiting takes the one at the front and is `exec` of it on the state with the queue's rest; a
command that no hardware could bring stops the machine (log entry 6). -/
def Obligations.StepRunsFrontCommand : Prop :=
  ∀ (s : State) (c : Instr) (rest : List Instr), s.pending = c :: rest →
    (c.wellFormed = true → step s = exec c { s with pending := rest }) ∧
    (c.wellFormed = false → step s = .fault .illFormed)

/-- R55, as log entry 1 brings it into the model: with no command waiting a step of a node with power and reference is one
reference edge; five edges from phase 0 add 6, 7, 6, 7 and 6 ns, 32 in all, and change nothing else. -/
def Obligations.IdleStepIsReferenceEdge : Prop :=
  (∀ s : State, s.pending = [] → (s.package.power && s.package.refclk) = true →
    ∃ t, step s = .next t ∧ t.clock.now = s.clock.now + (if s.clock.phase % 2 = 1 then 7 else 6) ∧
      t.clock.phase = (s.clock.phase + 1) % 5 ∧ { t with clock := s.clock } = s ∧
      { t.clock with now := s.clock.now, phase := s.clock.phase } = s.clock) ∧
  (∀ s : State, s.pending = [] → (s.package.power && s.package.refclk) = false → step s = .next s) ∧
  (∀ s : State, s.pending = [] → (s.package.power && s.package.refclk) = true → s.clock.phase = 0 →
    ∃ a b c d e, step s = .next a ∧ step a = .next b ∧ step b = .next c ∧ step c = .next d ∧ step d = .next e ∧
      e = { s with clock := { s.clock with now := s.clock.now + 32 } })

/-- What reset leaves of what the manual gives (R9, R25, R64, R73, R317, R349, R395, R398, R403, R457): every register
holds its reset value, every queue is DISABLED, every context and filter entry CLOSED, no job is open, TIME.COUNTER and
every tally are 0, the node has no number; memory is in canonical form and reads 0 (of host memory: log entry 5), and no
command waits. -/
def Obligations.ResetState : Prop :=
  (∀ t is, State.reset.reg t is = t.resetAt is) ∧
  (∀ r, r < 84 → State.reset.getF .telRgTaps [r] 23 16 = 8 ∧ State.reset.getF .telRgTaps [r] 15 8 = 3) ∧
  (∀ q, (State.reset.queue q).st = .disabled) ∧ (∀ x, (State.reset.ctx x).st = .closed) ∧
  (∀ n e, (State.reset.filter n e).st = .closed) ∧ (∀ j, State.reset.job j = none) ∧ State.reset.placement = none ∧
  (∀ l k t, State.reset.tally l k t = 0) ∧ State.reset.clock.now = 0 ∧ State.reset.nodeNo = 0x1FFF ∧
  State.reset.masterOn 0 = true ∧ Memory.wf State.reset.mem = true ∧ (∀ a, mget 0#8 State.reset.mem a = 0) ∧
  State.reset.pending = []

/-- R8, R26, R296, R293: memory is kept in its canonical form, with rising addresses and no zero byte listed, by every
step from every state whose memory is: so equal memories are equal data. -/
def Obligations.MemoryStaysCanonical : Prop :=
  ∀ (s t : State), Memory.wf s.mem = true → step s = .next t → Memory.wf t.mem = true

/-- R352: packets of every OP, with every field at any value and payloads up to the OP's limit, come back from their
bytes, whether the flit's padding follows them or the last of them is cut anywhere. -/
def Obligations.PacketsRoundTrip : Prop :=
  (∀ (ps : List Packet) (pad : Nat), ps.length < 16 →
    (∀ p ∈ ps, (vcOf p.op.toNat).isSome = true ∧ p.payload.length ≤ opMax p.op.toNat) →
    parsePackets 16 (ps.flatMap packetBytes ++ List.replicate pad 0) = (ps, [], false)) ∧
  (∀ (ps : List Packet) (p : Packet) (cut : Nat), ps.length < 15 → 0 < cut → cut < (packetBytes p).length →
    (∀ x ∈ ps ++ [p], (vcOf x.op.toNat).isSome = true ∧ x.payload.length ≤ opMax x.op.toNat) →
    parsePackets 16 (ps.flatMap packetBytes ++ (packetBytes p).take cut) = (ps, (packetBytes p).take cut, false)) ∧
  (∀ p : Packet, p.payload.length ≤ 256 →
    (let b := packetBytes p
     b.length = 32 + p.payload.length ∧ leAt b 0 1 = p.op.toNat ∧ leAt b 1 1 = p.flags.toNat ∧ leAt b 2 2 = p.dstNode.toNat ∧
     leAt b 4 2 = p.srcNode.toNat ∧ leAt b 6 2 = p.dstSpan.toNat ∧ leAt b 8 2 = p.srcSpan.toNat ∧ leAt b 10 2 = p.tag.toNat ∧
     leAt b 12 1 = p.epoch.toNat ∧ leAt b 13 1 = 0 ∧ leAt b 14 2 = p.payload.length ∧ leAt b 16 4 = p.dstCtx.toNat ∧
     leAt b 20 4 = p.seq.toNat ∧ leAt b 24 8 = p.arg.toNat ∧ b.drop 32 = p.payload))

/-! ## Time and power (chapter 2) -/

/-- R58: at the end of a rate window the supply of a rate-loop region moves by 5 mV toward the setpoint, never above the
ceiling and never below 600 mV; in a voltage-loop region it stays. AT_CEILING and BELOW_SET follow (log entry 15). R63,
R64, R69: a report that meets a tap change is discarded; another is kept, and where the margin is below the floor the taps
grow by 4 with FLOOR, else below the guard by 1, else they stay. Taps stay at 255 where a longer setting has no code (log
entry 15). -/
def Obligations.RegionSupplyAndTaps : Prop :=
  (∀ (s : State) (r : RegionId) (rate : BitVec 12), ∃ t, exec (.rateWindowEnd r rate) s = .next t ∧
    t.rate r = rate.toNat ∧
    (s.rateLoop r = true →
      t.volt r = max 600 (if rate.toNat < s.getF .telRgSet [r.val] 23 12 then min (s.volt r + 5) (s.ceiling r)
        else if s.getF .telRgSet [r.val] 23 12 < rate.toNat then s.volt r - 5 else s.volt r)) ∧
    (s.rateLoop r = false → t.volt r = s.volt r) ∧
    (t.atCeiling r = decide (s.ceiling r ≤ t.volt r)) ∧
    (t.getF .telRgStatus [r.val] 0 0 = 1 ↔ s.rateLoop r = true ∧ rate.toNat < s.getF .telRgSet [r.val] 23 12) ∧
    t.temp r = s.temp r ∧
    regsBut s t [RegTag.telRgStatus.off [r.val]] ∧ (∀ x, x ≠ r.val → t.region x = s.region x) ∧
    { t with regs := s.regs, regions := s.regions } = s) ∧
  (∀ (s : State) (r : RegionId) (n : Fin 4) (delay : BitVec 8),
    exec (.telltaleReport r n delay true) s = .next s ∧
    (let s1 := s.setF .telRgTelltale [r.val] (8 * n.val + 7) (8 * n.val) delay.toNat
     let taps := s.getF .telRgTaps [r.val] 7 0
     let floor : Int := s.getF .telRgTaps [r.val] 15 8
     let guard : Int := s.getF .telRgTaps [r.val] 23 16
     ((s.region r).ignored.contains n.val = false → ∃ t, exec (.telltaleReport r n delay false) s = .next t ∧
        t.getF .telRgTelltale [r.val] (8 * n.val + 7) (8 * n.val) = delay.toNat ∧
        t.getF .telRgTaps [r.val] 7 0 =
          (if s1.margin r < floor then min 255 (taps + 4) else if s1.margin r < guard then min 255 (taps + 1) else taps) ∧
        (s1.margin r < floor → raised s t .telFloor []) ∧
        (¬ s1.margin r < floor → t.reg .telEvents = s.reg .telEvents ∧ t.reg .telCntFloor = s.reg .telCntFloor) ∧
        regsBut s t [RegTag.telRgTelltale.off [r.val], RegTag.telRgTaps.off [r.val], RegTag.telEvents.off [],
          RegTag.telCntFloor.off []] ∧
        (∀ x, x ≠ r.val → t.region x = s.region x) ∧ { t with regs := s.regs, regions := s.regions } = s)))

/-- R60: a request is recorded, and applied once no change is in progress; it puts the point in force, lowers rate
setpoints at once, and leaves raises to steps of 50 M/s. R61: above the limit every C-die region whose setpoint lies above
850 M/s is lowered by 50 M/s, not below 850, with THROTTLE; below 97% of it the power setpoints rise by 50 M/s, and one
that reaches the point's value is lifted. -/
def Obligations.OperatingPointAndPowerLimit : Prop :=
  ((∀ (s : State) (m : Master) (v : Word), reaches s m .telOpRequest [] →
    exec (.opRequestWrite m v) s = .next (if fld v 1 0 = 3 then s
      else { s.setReg .telOpRequest [] (BitVec.ofNat 64 (fld v 1 0)) with request := some (fld v 1 0) })) ∧
  (∀ (s : State) (p : Nat), s.request = some p → s.change = none → ∃ t, exec .opPointApply s = .next t ∧
    t.point = p ∧ t.request = none ∧
    (∀ r, r < 84 → (t.region r).point =
      if isCdie r ∧ (s.region r).point < pointSet r p then (s.region r).point else pointSet r p) ∧
    (t.change = none ↔ ∀ r, r < 84 → (t.region r).point = pointSet r p) ∧
    { t with regs := s.regs, regions := s.regions, point := s.point, request := s.request, change := s.change } = s) ∧
  (∀ (s : State) (p q : Nat), s.request = some p → s.change = some q → exec .opPointApply s = .next s) ∧
  (∀ (s : State) (p : Nat), s.change = some p → ∃ t, exec .opRaiseStep s = .next t ∧
    (∀ r, r < 64 → (t.region r).point = min ((s.region r).point + 50) (pointSet r p)) ∧
    (∀ r, 64 ≤ r → t.region r = s.region r) ∧
    (t.change = none ↔ ∀ r, r < 84 → (t.region r).point = pointSet r p) ∧
    { t with regs := s.regs, regions := s.regions, change := s.change } = s)) ∧
  ((∀ (s : State) (w : Nat), s.powerLimit < w → ∃ t, exec (.powerLimitLower w) s = .next t ∧
    (∀ r, r < 64 → (t.region r).power =
      if s.setpoint r ≤ 850 then (s.region r).power else some (max 850 (s.setpoint r - 50))) ∧
    (∀ r, r < 64 → (t.region r).point = (s.region r).point ∧ (t.region r).thermal = (s.region r).thermal) ∧
    (∀ r, r < 64 → t.setpoint r = if s.setpoint r ≤ 850 then s.setpoint r
      else min (min (s.region r).point (max 850 (s.setpoint r - 50))) ((s.region r).thermal.getD 4095)) ∧
    (∀ r, 64 ≤ r → t.region r = s.region r) ∧
    ((∃ r, r < 64 ∧ 850 < s.setpoint r) → raised s t .telThrottle []) ∧
    { t with regs := s.regs, regions := s.regions } = s) ∧
  (∀ (s : State) (w : Nat), w ≤ s.powerLimit → exec (.powerLimitLower w) s = .next s) ∧
  (∀ (s : State) (w : Nat), 100 * w < 97 * s.powerLimit → ∃ t, exec (.powerLimitRaise w) s = .next t ∧
    (∀ r, r < 64 → (t.region r).power =
      (s.region r).power.bind (fun v => if (s.region r).point ≤ v + 50 then none else some (v + 50))) ∧
    (∀ r, 64 ≤ r → t.region r = s.region r) ∧ { t with regs := s.regs, regions := s.regions } = s))

/-- R62: the five rows of the thermal policy. -/
def Obligations.ThermalPolicyActs : Prop :=
  (∀ (s : State) (r : RegionId) (k : BitVec 11), 760 < k.toInt → pointSet r 0 < s.setpoint r →
    ∃ t, exec (.thermalLower r k) s = .next t ∧ t.temp r = k.toInt ∧
      (t.region r).thermal = some (max (pointSet r 0) (s.setpoint r - if isCdie r then 50 else 10)) ∧
      raised s t .telThrottle [] ∧ (∀ x, x ≠ r.val → t.region x = s.region x) ∧
      { t with regs := s.regs, regions := s.regions } = s) ∧
  (∀ (s : State) (r : RegionId) (k : BitVec 11) (v : Nat), k.toInt < 736 → (s.region r).thermal = some v →
    ∃ t, exec (.thermalRaise r k) s = .next t ∧ t.temp r = k.toInt ∧
      (t.region r).thermal = (let v1 := v + if isCdie r then 50 else 10
        if (s.region r).point + (s.region r).bump ≤ v1 then none else some v1) ∧
      (∀ x, x ≠ r.val → t.region x = s.region x) ∧ { t with regs := s.regs, regions := s.regions } = s) ∧
  (∀ (s : State) (r : RegionId) (k : BitVec 11), 840 ≤ k.toInt → (∀ h ∈ s.hold, h.1 ≠ r.val) →
    ∃ t, exec (.thermalHold r k) s = .next t ∧ t.temp r = k.toInt ∧ t.hold = s.hold ++ [(r.val, s.now)] ∧
      raised s t .telHold [] ∧ ((t.region r).thermal = if isCdie r then (s.region r).thermal else some (pointSet r 0)) ∧
      (∀ p, t.heldCluster p = (s.heldCluster p || !isCdie r || r.val / 16 == p / 168)) ∧
      { t with regs := s.regs, regions := s.regions, hold := s.hold } = s) ∧
  (∀ (s : State) (r : RegionId) (k : BitVec 11), ∃ t, exec (.thermalHoldLift r k) s = .next t ∧ t.temp r = k.toInt ∧
    (∀ h, h ∈ t.hold ↔ h ∈ s.hold ∧ ∃ x ∈ holdScope h.1, 800 ≤ t.temp x) ∧
    { t with regs := s.regs, regions := s.regions, hold := s.hold } = s) ∧
  (∀ (s : State) (r : RegionId) (k : BitVec 11),
    (880 ≤ k.toInt ∨ ∃ h ∈ s.hold, h.2 + 1000000000 ≤ s.now) →
    ∃ t, exec (.thermalShutdown r k) s = .next t ∧ t.package.power = false ∧ t.package.lost = true ∧
      t.out = .thermTrip :: s.out ∧ t.flash = s.flash ∧ t.jobs = [] ∧ t.placement = none ∧ t.pending = s.pending)

/-- R65, R66: a re-plan sets every region's taps to the largest logic delay plus the guard, and a rate-loop cluster region
at its ceiling below 1,140 M/s for the third time, under the nominal or peak point, has its good clusters marked weak; no
cluster changes its state otherwise, and the running jobs keep their placement. R70, R92: a periodic entry carries the
next sequence number, the powered hours, the map version, cause 1 and a record of each region, and TEL.LEDGER shows it; a
failed write sets LEDGER_FAIL. LEDGER_READ copies the newest entries, and OP_POINT requests a point. -/
def Obligations.ReplanLedgerAndPointCommands : Prop :=
  (∀ (s : State), ∃ t, exec .graniteReplan s = .next t ∧
    (∀ r, r < 84 → t.getF .telRgTaps [r] 7 0 = min 255 (s.logicDelay r + s.getF .telRgTaps [r] 23 16)) ∧
    (∀ r, r < 64 → isClusterRegion r → s.rateLoop r = true → s.point ≠ 0 → s.atCeiling r = true → s.rate r < 1140 →
      2 ≤ s.getF .telRgMargin [r] 23 16 → (s.region r).weak = false → (t.region r).weak = true ∧
      ∀ p ∈ regionClusters r, s.flash.map.cluster p = .good → t.flash.map.cluster p = .weak) ∧
    (∀ p, t.flash.map.cluster p = s.flash.map.cluster p ∨
      (s.flash.map.cluster p = .good ∧ t.flash.map.cluster p = .weak)) ∧
    t.flash.map.pcs = s.flash.map.pcs ∧ t.cores = s.cores ∧ t.jobs = s.jobs ∧ t.placement = s.placement ∧
    t.tallies = s.tallies) ∧
  ((∀ (s : State), ∃ t e, exec (.ledgerPeriodicWrite true) s = .next t ∧
    (if s.flash.ledgerFirst.isNone then t.flash.ledgerFirst = some e else t.flash.ledger.head? = some e) ∧
    e.seq = BitVec.ofNat 32 (s.getF .telLedger [] 63 32 + 1) ∧ e.cause = 1 ∧ e.mapVersion = s.flash.map.version ∧
    e.hours = BitVec.ofNat 32 (s.getF .telLedger [] 31 0 + (s.now - s.ledgerAt) / 3600000000000) ∧
    e.records = (List.range 84).map s.ledgerRecord ∧
    t.reg .telLedger = BitVec.ofNat 64 (e.seq.toNat * 2 ^ 32 + e.hours.toNat) ∧
    regsBut s t [RegTag.telLedger.off []] ∧
    { t with regs := s.regs, regions := s.regions, flash := s.flash, ledgerAt := s.ledgerAt } = s) ∧
  (∀ (s : State), exec (.ledgerPeriodicWrite false) s = .next (s.raise .telLedgerFail)) ∧
  (∀ (s : State) (q : QueueId) (seq : W32) (c : Started), ready s 0x0902 q seq c →
    s.cmdBad c (c.arg 0) (720 * c.arg 1) false true = false →
    exec (.ledgerRead q seq) s = .next
      ((s.storeOff (ptrOff (c.arg 0)) ((s.ledgerEntries.take (c.arg 1)).flatMap LedgerEntry.bytes)).finishCmd c
        (.ok (min (c.arg 1) s.ledgerEntries.length)))) ∧
  (∀ (s : State) (q : QueueId) (seq : W32) (c : Started), ready s 0x0A04 q seq c →
    exec (.opPoint q seq) s = .next
      (if c.arg 0 % 4 = 3 then s.finishCmd c (.ok s.opState)
       else
        let t := { s.setReg .telOpRequest [] (BitVec.ofNat 64 (c.arg 0 % 4)) with request := some (c.arg 0 % 4) }
        t.finishCmd c (.ok t.opState))))

/-! ## The control space, queues and schedules (chapters 1 and 3) -/

/-- The registers whose writes have no behaviour but that of their access codes. -/
def Sys2Proof.Claims.plainReg (t : RegTag) : Bool :=
  t.info.gw == 0 &&
  !([.telOpRequest, .cqDb, .cqCh, .cqQRing, .cqQCring, .cqQCtrl, .axlCtrl, .axlVc, .axlReplayCfg, .ctxSelect, .snpShare,
     .timeNodeId, .timeTeardownLimit, .timeFilterSel, .grnMbxDb, .hstIdeKey, .hstMgtPeer, .taTflag] : List RegTag).contains t

/-- R10, R30, R431: a write that is let through and reaches a register of no other behaviour replaces its RW bits and
clears the W1C bits written 1; a write of another size or alignment, or at an address of no register, is discarded; a
refused one is counted as POLICY_DENIED and discarded; and one by another master than Granite to a register of GW fields
alone is counted as GW_DENIED and discarded. R11: after a write of 1s to an event-flag register in a handshake in which
hardware sets flags, a flag is 1 where hardware set it or where it stood and no 1 was written; and the counter of a flag
counts hardware's setting alone. -/
def Obligations.RegisterWritesAndEventFlags : Prop :=
  ((∀ (s : State) (m : Master) (t : RegTag) (is : List Nat) (v : Word), reaches s m t is → plainReg t = true →
    exec (.registerWrite m (t.off is) 8 v) s = .next (s.setReg t is
      (((s.reg t is &&& ~~~(BitVec.ofNat 64 t.info.rw)) ||| (v &&& BitVec.ofNat 64 t.info.rw)) &&&
        ~~~(v &&& BitVec.ofNat 64 t.info.w1c)))) ∧
  (∀ (s : State) (m : Master) (off size : Nat) (v : Word), s.controlAllowed m off false true = (s, true) →
    (size ≠ 8 ∨ off % 8 ≠ 0 ∨ regAt off = none) → exec (.registerWrite m off size v) s = .next s) ∧
  (∀ (s : State) (m : Master) (off size : Nat) (v : Word),
    (s.masterOn m.val && s.policy m.val false off false true 0) = false →
    exec (.registerWrite m off size v) s = .next (s.raise .grnPolicyDenied)) ∧
  (∀ (s : State) (m : Master) (t : RegTag) (is : List Nat) (v : Word), reaches s m t is → m ≠ 7 →
    t.info.gw ≠ 0 → t.info.rw = 0 → t.info.w1c = 0 → t.info.wo = 0 →
    (∀ x ∈ [RegTag.telOpRequest, .cqDb, .cqCh, .cqQRing, .cqQCring, .cqQCtrl, .hstMgtPeer, .taTflag], t ≠ x) →
    ∃ u, exec (.registerWrite m (t.off is) 8 v) s = .next u ∧ raised s u .grnGwDenied [] ∧
      (t.off is ≠ RegTag.off .grnEvents [] → t.off is ≠ RegTag.off .grnCntGwDenied [] → u.reg t is = s.reg t is))) ∧
  (∀ (s : State) (m : Master) (t : RegTag) (is : List Nat) (v hw : Word), reaches s m t is → plainReg t = true →
    ∃ u, exec (.eventFlagClear m (t.off is) v hw) s = .next u ∧
      ∀ e ∈ Ev.all, e.info.1 = t →
        (u.reg t is).getLsbD e.info.2.1 =
          (hw.getLsbD e.info.2.1 || ((s.reg t is).getLsbD e.info.2.1 && !v.getLsbD e.info.2.1)) ∧
        ((u.reg e.info.2.2 (is.take e.info.2.2.info.dims.length)).toNat =
          if hw.getLsbD e.info.2.1 then satInc 64 (s.reg e.info.2.2 (is.take e.info.2.2.info.dims.length)).toNat
          else (s.reg e.info.2.2 (is.take e.info.2.2.info.dims.length)).toNat))

/-- No started command waits for a queue's other commands, nor is a reset of queue 0 due (R78). -/
def Sys2Proof.Claims.calm (s : State) : Prop :=
  (∀ c ∈ s.started, (∀ t r, c.wait ≠ .drain t r) ∧ ∀ r, c.wait ≠ .selfDrain r) ∧ (s.queue 0).due = none

/-- R73, R77, R78, R108: queue 0 is set up, enabled, disabled and reset by its registers; a ring of another form or place
is discarded whole; a disabling or reset waits for the commands that have started. R78, R92: the commands that create,
pause, resume, reset and destroy another queue, and Q_NOP. -/
def Obligations.QueueSetupAndCommands : Prop :=
  ((∀ (s : State) (m : Master) (comp : Bool) (v : Word),
    reaches s m (if comp then .cqQCring else .cqQRing) [0] →
    (let w := v &&& (if comp then 0x7FFFFFFFFFFFF else 0x7FFFFFFFFFFDF)
     let size := if comp then 32 else 64
     let base := (if comp then cringBase w else ringBase w)
     let ok := 6 ≤ ringLog2 w ∧ ringLog2 w ≤ 16 ∧ ringPlaced base size (ringLog2 w) = true
     (¬ ok → exec (.queue0RingWrite m comp v) s = .next s) ∧
     (ok → exec (.queue0RingWrite m comp v) s = .next
       (s.setQueue 0 (if comp then { s.queue 0 with cring := w } else { s.queue 0 with ring := w }))))) ∧
  (∀ (s : State) (m : Master) (v : Word), reaches s m .cqQCtrl [0] →
    (let k := s.queue 0
     let ctrl := (k.ctrl &&& ~~~0x1FFE30#64) ||| (v &&& 0x1FFE30#64)
     (k.st = .disabled → v.getLsbD 0 = true → v.getLsbD 1 = false → ringLog2 k.ring ≠ 0 → ringLog2 k.cring ≠ 0 →
       ∃ t, exec (.queue0Enable m v) s = .next t ∧ t.queue 0 = { k with ctrl := ctrl, st := .active } ∧
         (∀ x, x ≠ 0 → t.queue x = s.queue x) ∧ { t with queues := s.queues, waits := s.waits } = s) ∧
     (k.st ≠ .disabled → v.getLsbD 0 = false → v.getLsbD 1 = false → s.started = [] → k.held = [] → calm s →
       ∃ t, exec (.queue0Disable m v) s = .next t ∧
         t.queue 0 = { k with ctrl := ctrl, st := .disabled, stopping := false, held := [], marks := [], due := none } ∧
         (∀ x, x ≠ 0 → t.queue x = s.queue x) ∧ { t with queues := s.queues, waits := s.waits } = s) ∧
     (k.st ≠ .disabled → v.getLsbD 0 = true → v.getLsbD 1 = true → s.started = [] → k.held = [] → calm s →
       ∃ t, exec (.queue0Reset m v) s = .next t ∧
         t.queue 0 = { k with ctrl := ctrl, st := .active, producer := 0, consumer := 0, cproducer := 0, consumed := 0,
                              stopping := false, held := [], marks := [], due := none } ∧
         (∀ x, x ≠ 0 → t.queue x = s.queue x) ∧ { t with queues := s.queues, waits := s.waits } = s) ∧
     (k.st ≠ .disabled → v.getLsbD 0 = false → v.getLsbD 1 = false → (∃ c ∈ s.started, c.q = 0) → calm s →
       ∃ t, exec (.queue0Disable m v) s = .next t ∧
         t.queue 0 = { k with ctrl := ctrl, stopping := true, due := some false } ∧
         (∀ x, x ≠ 0 → t.queue x = s.queue x) ∧ { t with queues := s.queues, waits := s.waits } = s)))) ∧
  ((∀ (s : State) (q : QueueId) (seq : W32) (c : Started), ready s 0x0106 q seq c →
    exec (.qNop q seq) s = .next (s.finishCmd c (.ok))) ∧
  (∀ (s : State) (q : QueueId) (seq : W32) (c : Started), ready s 0x0101 q seq c →
    (s.queue (c.arg 0)).st = .disabled →
    exec (.qCreate q seq) s = .next ((s.setQueue (c.arg 0) { Queue.zero with
      st := .active, ring := BitVec.ofNat 64 (c.arg 5), cring := BitVec.ofNat 64 (c.arg 6), err := (s.queue (c.arg 0)).err
      ctrl := BitVec.ofNat 64 (c.arg 4 * 2 ^ 32 + c.arg 3 * 2 ^ 10 + c.arg 2 * 2 ^ 9 + c.arg 1 * 2 ^ 4) }).finishCmd c (.ok))) ∧
  (∀ (s : State) (q : QueueId) (seq : W32) (c : Started), ready s 0x0103 q seq c → c.arg 0 ≤ 4095 → c.arg 0 ≠ c.q →
    (s.queue (c.arg 0)).st = .active →
    exec (.qPause q seq) s = .next
      ((s.setQueue (c.arg 0) { s.queue (c.arg 0) with st := .paused }).finishCmd c (.ok))) ∧
  (∀ (s : State) (q : QueueId) (seq : W32) (c : Started), ready s 0x0104 q seq c → c.arg 0 ≤ 4095 → c.arg 0 ≠ c.q →
    (s.queue (c.arg 0)).st = .paused →
    exec (.qResume q seq) s = .next
      ((s.setQueue (c.arg 0) { s.queue (c.arg 0) with st := .active }).finishCmd c (.ok))) ∧
  (∀ (s : State) (q : QueueId) (seq : W32) (c : Started), ready s 0x0105 q seq c → c.arg 0 ≤ 4095 → c.arg 0 ≠ c.q →
    (s.queue (c.arg 0)).st ≠ .disabled → (s.queue (c.arg 0)).held = [] → (∀ d ∈ s.started, d.q ≠ c.arg 0) → calm s →
    tbit c.flags.toNat 2 = true → c.arg 0 ≠ 0 →
    ∃ t, exec (.qReset q seq) s = .next t ∧
      t.queue (c.arg 0) = { s.queue (c.arg 0) with
        st := .active, producer := 0, consumer := 0, cproducer := 0, consumed := 0, stopping := false, marks := [], due := none } ∧
      t.started = s.started.filter (fun d => !(d.q == c.q && d.seq == c.seq)) ∧
      (∀ x, x ≠ c.arg 0 → t.queue x = s.queue x) ∧
      { t with queues := s.queues, waits := s.waits, started := s.started } = s) ∧
  (∀ (s : State) (q : QueueId) (seq : W32) (c : Started), ready s 0x0102 q seq c → c.arg 0 ≤ 4095 → c.arg 0 ≠ c.q →
    (s.queue (c.arg 0)).st ≠ .disabled → (s.queue (c.arg 0)).held = [] → (∀ d ∈ s.started, d.q ≠ c.arg 0) → calm s →
    tbit c.flags.toNat 2 = true → c.arg 0 ≠ 0 →
    ∃ t, exec (.qDestroy q seq) s = .next t ∧
      t.queue (c.arg 0) = { s.queue (c.arg 0) with st := .disabled, stopping := false, marks := [], due := none } ∧
      t.started = s.started.filter (fun d => !(d.q == c.q && d.seq == c.seq)) ∧
      (∀ x, x ≠ c.arg 0 → t.queue x = s.queue x) ∧
      { t with queues := s.queues, waits := s.waits, started := s.started } = s) ∧
  (∀ (s : State) (q : QueueId) (seq : W32) (c : Started), ready s 0x0103 q seq c → c.arg 0 = c.q →
    c.arg 0 ≤ 4095 → (s.queue c.q).st = .active →
    exec (.qPause q seq) s = .next (let u := s.finishCmd c (.ok)
      if (u.queue c.q).st = .active then u.setQueue c.q { u.queue c.q with st := .paused } else u)) ∧
  (∀ (s : State) (q : QueueId) (seq : W32) (c : Started) (i : Instr) (op : Nat) (reset : Bool),
    (i, op, reset) ∈ [(Instr.qDestroy q seq, 0x0102, false), (.qReset q seq, 0x0105, true)] →
    ready s op q seq c → c.arg 0 ≤ 4095 → (s.queue (c.arg 0)).st ≠ .disabled →
    exec i s = .next (((s.setQueue (c.arg 0) { s.queue (c.arg 0) with stopping := true }).waitCmd c
      (if c.arg 0 = c.q then .selfDrain reset else .drain (c.arg 0) reset)).settle)) ∧
  (∀ (s : State) (q : QueueId) (seq : W32) (c : Started) (i : Instr) (op : Nat),
    (i, op) ∈ [(Instr.qDestroy q seq, 0x0102), (.qPause q seq, 0x0103), (.qResume q seq, 0x0104), (.qReset q seq, 0x0105)] →
    ready s op q seq c → c.arg 0 ≤ 4095 → (s.queue (c.arg 0)).st = .disabled →
    exec i s = .next (s.finishCmd c (.st 0x010A))))

/-- R76, R78, R81: the doorbell and the consumed count. R80, R81, R84, R87: a command that completes writes its reply at
index CPRODUCER mod 2^LOG2 of the completion ring, with PHASE 1 where floor(CPRODUCER / 2^LOG2) is even, and CPRODUCER
goes up by 1; under QUIET a success writes none. Said of a Q_NOP, for a completion ring with room in HBM3E. -/
def Obligations.DoorbellsAndReplies : Prop :=
  ((∀ (s : State) (m : Master) (q : QueueId) (v : Word), reaches s m .cqDb [q.val] →
    (let k := s.queue q
     let new := BitVec.ofNat 32 v.toNat
     let valid := (new - k.producer).toNat ≤ 2 ^ 31 ∧ (new - k.consumer).toNat ≤ 2 ^ ringLog2 k.ring
     (k.st = .disabled → exec (.doorbellWrite m q v) s = .next (s.raise .cqDbDiscard)) ∧
     (k.st ≠ .disabled → valid → ∃ t, exec (.doorbellWrite m q v) s = .next t ∧
       t.queue q = { k with producer := new, marks := if new = k.producer then k.marks else k.marks ++ [(new, m)] } ∧
       (∀ x, x ≠ q.val → t.queue x = s.queue x) ∧ { t with queues := s.queues, waits := s.waits } = s) ∧
     (k.st = .error → ¬ valid → exec (.doorbellWrite m q v) s = .next (s.raise .cqDbDiscard)) ∧
     (k.st = .active ∨ k.st = .paused → ¬ valid → ∃ t, exec (.doorbellWrite m q v) s = .next t ∧
       t.queue q = { k with st := .error, err := BitVec.ofNat 64 (0x010B * 2 ^ 48 + new.toNat) } ∧
       raised s t .cqQueueError [] ∧ t.reg .cqErrLast = BitVec.ofNat 64 (q.val * 2 ^ 48 + 0x010B * 2 ^ 16) ∧
       (∀ x, x ≠ q.val → t.queue x = s.queue x) ∧
       { t with queues := s.queues, waits := s.waits, regs := s.regs } = s))) ∧
  (∀ (s : State) (m : Master) (q : QueueId) (v : Word), reaches s m .cqCh [q.val] →
    (let k := s.queue q
     let new := BitVec.ofNat 32 v.toNat
     let valid := (new - k.consumed).toNat ≤ (k.cproducer - k.consumed).toNat
     (¬ valid → exec (.chWrite m q v) s = .next (s.raise .cqDbDiscard)) ∧
     (valid → exec (.chWrite m q v) s = .next
       (((s.setQueue q { k with consumed := new }).flushHeld q k.held.length).settle)) ∧
     (valid → k.held = [] → calm s → exec (.chWrite m q v) s = .next (s.setQueue q { k with consumed := new }))))) ∧
  ((∀ (s : State) (q : QueueId) (seq : W32) (c : Started), ready s 0x0106 q seq c → calm s →
    (let k := s.queue q
     let a := cringBase k.cring + k.cproducer.toNat % 2 ^ ringLog2 k.cring * 32
     tbit c.flags.toNat 2 = false → tbit c.flags.toNat 3 = false → k.held = [] → k.cringFull = false →
     inWindow .hbm a 32 = true → s.masterOn c.master.val = true → s.policy c.master.val true a false true 0 = true →
     s.errs = [] → s.pages = [] → s.hostPort.snoop = [] →
     ∃ t, exec (.qNop q seq) s = .next t ∧
       memRead t.mem a 32 =
         leBytes 2 0 ++ leBytes 2 c.opcode.toNat ++ leBytes 4 c.seq.toNat ++
         leBytes 2 ((if k.cproducer.toNat / 2 ^ ringLog2 k.cring % 2 = 0 then 0x8000 else 0) + c.q) ++
         leBytes 2 c.tag.toNat ++ leBytes 1 c.epoch.toNat ++ leBytes 1 0 ++ leBytes 2 0 ++ leBytes 8 0 ++ leBytes 8 0 ∧
       (∀ x, x < a ∨ a + 32 ≤ x → mget 0 t.mem x = mget 0 s.mem x) ∧
       t.queue q = { k with cproducer := k.cproducer + 1 } ∧ (∀ x, x ≠ q.val → t.queue x = s.queue x) ∧
       t.started = s.started.filter (fun d => !(d.q == q.val && d.seq == seq)) ∧
       { t with mem := s.mem, queues := s.queues, waits := s.waits, started := s.started } = s)) ∧
  (∀ (s : State) (q : QueueId) (seq : W32) (c : Started), ready s 0x0106 q seq c → calm s → tbit c.flags.toNat 2 = true →
    exec (.qNop q seq) s = .next { s with started := s.started.filter (fun d => !(d.q == q.val && d.seq == seq)) }))

/-- R75, R79, R83: a start is made on the highest level that has a command, or, where levels starve, on the starving one
of the largest wait count (the higher priority among equals), and within a level on the queue next after the last one
served; the slot is taken and CONSUMER advances. R75, R87, R108: a slot whose SEQ differs from its count is answered
SEQ_MISMATCH with PATH 0, its queue enters ERROR, and CQ.Q_ERR holds the slot count (log entry 14). -/
def Obligations.StartChoosesQueue : Prop :=
  (∀ (s : State) (qs : List Nat) (l : Nat), s.levelChosen qs = some l →
    l < 4 ∧ (∃ q ∈ qs, (s.queue q).priority = l) ∧
    (∀ m, m < 4 → (∃ q ∈ qs, (s.queue q).priority = m) →
      (if nth 0 s.waits l < 64 then nth 0 s.waits m < 64 ∧ l ≤ m
       else nth 0 s.waits m < nth 0 s.waits l ∨ (nth 0 s.waits m = nth 0 s.waits l ∧ l ≤ m)))) ∧
  (∀ (s : State), s.eligible = [] → exec .commandStart s = .next s) ∧
  (∀ (s : State) (l q : Nat) (bs : List Byte), s.levelChosen s.eligible = some l →
    s.queueChosen s.eligible l = some q →
    (let k := s.queue q
     let o := k.slotAt
     inWindow .hbm o 64 = true → s.errs = [] → s.masterOn k.master.val = true → s.policy k.master.val true o true false 0 = true →
     memRead s.view o 64 = bs →
     exec .commandStart s = .next
       (({ s.setQueue q k.taken with waits := s.waitsAfter s.eligible l, lastServed := setNth s.lastServed l q } : State).startSlot
         q k bs) ∧
     k.taken.consumer = k.consumer + 1)) ∧
  (∀ (s : State) (q : Nat) (k : Queue) (bs : List Byte), BitVec.ofNat 32 (leAt bs 4 4) ≠ k.consumer →
    (s.queue q).st = .active → ∃ t, t = s.queueError q 0x0105 (leAt bs 0 2) k.consumer.toNat ∧
    s.startSlot q k bs = t.putReply q { (slotCommand q k.master bs).reply (.st 0x0105) with path := false } ∧
    (t.queue q).st = .error) ∧
  (∀ (s : State) (q : Nat) (k : Queue) (bs : List Byte),
    (let c := slotCommand q k.master bs
     c.seq = k.consumer → s.headCheck k c = 0 → tbit c.flags.toNat 0 = false →
     ({ s with started := s.started ++ [c] } : State).bodyCheck c = 0 → (∀ d ∈ s.started, (d.q == q && d.seq == c.seq) = false) →
     s.startSlot q k bs = { s with started := s.started ++ [c] }))

/-- R20, R92, R399: JOB_BEGIN with its checks passed opens the lowest free slot, makes a placement where none is in force,
clears the tallies of the job's cores, discards the weight versions of the cores that serve them, and makes a filter entry
on every link. R22, R92: the refusals of JOB_BEGIN, in their order, and a placement that fails on some C-die: the job is
not opened, DETAIL is the lowest failed C-die, RESULT0 marks each, and the node is lost. -/
def Obligations.JobBeginAndRefusals : Prop :=
  (∀ (s : State) (q : QueueId) (seq : W32) (c : Started) (j : Nat), ready s 0x0301 q seq c → c.tag ≠ 0 →
    (∀ e ∈ s.jobs, e.2.tag ≠ c.tag ∧ overlaps (c.arg 0) (c.arg 1) e.2.first e.2.count = false) →
    j < 16 → s.job j = none → (∀ i, i < j → s.job i ≠ none) → (∀ n, n < 48 → s.closedFilter n ≠ none) →
    (s.placement.isSome ∨ s.applyDisables.flash.map.failedDies = []) →
    ∃ (t : State) (b : JobSlot) (p : Placement), exec (.jobBegin q seq) s = .next (t.finishCmd c (.ok j p.mapVersion.toNat)) ∧
      t.placement = some p ∧ (∀ p0, s.placement = some p0 → p = p0) ∧
      (s.placement = none → p = s.applyDisables.flash.map.placement) ∧
      t.job j = some b ∧ b.tag = c.tag ∧ b.epoch = c.epoch ∧ b.first = c.arg 0 ∧ b.count = c.arg 1 ∧
      b.ordered = tbit (c.arg 2) 0 ∧ b.teardown = false ∧ b.step = 0 ∧ b.run = none ∧
      (∀ i, i ≠ j → t.job i = s.job i) ∧
      (∀ l k x, k < 16 → x < 256 → t.tally l k x = if c.arg 0 ≤ l ∧ l < c.arg 0 + c.arg 1 then 0 else s.tally l k x) ∧
      (∀ l k x, c.arg 0 ≤ l → l < c.arg 0 + c.arg 1 → k < 16 → t.servingCore l k = some x → (t.core x).versions = []) ∧
      (∀ n, n < 48 → ∃ e, e < 256 ∧ (s.filter n e).st = .closed ∧ (t.filter n e).tag = c.tag ∧
        (t.filter n e).epoch = c.epoch ∧ ((t.filter n e).st = .open ∨ (t.filter n e).st = .waiting)) ∧
      t.mem = s.mem ∧ t.queues = s.queues ∧ t.started = s.started) ∧
  ((∀ (s : State) (q : QueueId) (seq : W32) (c : Started), ready s 0x0301 q seq c → c.tag = 0 →
    exec (.jobBegin q seq) s = .next (s.finishCmd c (.st 0x0103))) ∧
  (∀ (s : State) (q : QueueId) (seq : W32) (c : Started), ready s 0x0301 q seq c → c.tag ≠ 0 →
    (∃ e ∈ s.jobs, e.2.tag = c.tag) →
    exec (.jobBegin q seq) s = .next (s.finishCmd c
      { status := 0x0309, detail := if s.jobs.any (fun e => e.2.tag == c.tag && e.2.epoch == c.epoch) then 1 else 2 })) ∧
  (∀ (s : State) (q : QueueId) (seq : W32) (c : Started), ready s 0x0301 q seq c → c.tag ≠ 0 →
    (∀ e ∈ s.jobs, e.2.tag ≠ c.tag) → (∃ e ∈ s.jobs, overlaps (c.arg 0) (c.arg 1) e.2.first e.2.count = true) →
    exec (.jobBegin q seq) s = .next (s.finishCmd c (.st 0x0304))) ∧
  (∀ (s : State) (q : QueueId) (seq : W32) (c : Started) (d : Nat), ready s 0x0301 q seq c → c.tag ≠ 0 →
    s.jobs = [] → s.placement = none → (∀ n, n < 48 → s.closedFilter n ≠ none) →
    s.applyDisables.flash.map.failedDies.head? = some d →
    ∃ t : State, exec (.jobBegin q seq) s = .next (t.finishCmd c
        { status := 0x0303, detail := d, r0 := ofSetBits s.applyDisables.flash.map.failedDies }) ∧
      t.package.lost = true ∧ t.jobs = [] ∧ t.placement = none))

/-- R17, R18, R21, R22: the placement loop. For each C-die with 160 placeable clusters it chooses 160 of them, so that
none left out comes before a chosen one in (rank, physical number), numbers them by physical number, and lays the logical
cores on the first 16 enabled cores; on a map that marks nothing logical cluster 160d + i is physical cluster 168d + i. -/
def Obligations.PlacementLoopChooses : Prop :=
  (∀ (m : UnitMap) (d : Nat), d < 4 →
    ((m.chosen d).isNone ↔ ((upFrom (168 * d) 168).filter m.placeable).length < 160) ∧
    (∀ cs, m.chosen d = some cs → cs.length = 160 ∧ cs.Pairwise (· < ·) ∧
      (∀ p ∈ cs, 168 * d ≤ p ∧ p < 168 * d + 168 ∧ m.placeable p = true) ∧
      (∀ p q, p ∈ cs → 168 * d ≤ q → q < 168 * d + 168 → m.placeable q = true → q ∉ cs →
        ∃ a b, m.rank p = some a ∧ m.rank q = some b ∧ (a < b ∨ (a = b ∧ p < q))))) ∧
  (∀ (m : UnitMap), m.failedDies = [] → m.placement.mapVersion = m.version ∧
    ∀ d i, d < 4 → i < 160 → ∃ cs p, m.chosen d = some cs ∧ cs[i]? = some p ∧
      mfind m.placement.place (160 * d + i) = some (m.record p) ∧ mfind m.placement.serve (160 * d + i) = some (m.record p) ∧
      (m.record p).phys = p ∧ (m.record p).cores.length = 16 ∧ (m.record p).cores.Pairwise (· < ·) ∧
      (∀ x ∈ (m.record p).cores, x < 17 ∧ (17 * p + x) ∉ m.cores)) ∧
  (∀ (m : UnitMap) (d i : Nat), m.clusters = [] → m.cores = [] → d < 4 → i < 160 →
    mfind m.placement.place (160 * d + i) = some { phys := 168 * d + i, cores := List.range 16, spare := some 16 }) ∧
  (∀ (m n : UnitMap), m.clusters = n.clusters → m.cores = n.cores → m.placement.place = n.placement.place)

/-- R92, R94, R101, R105: tables and runs. -/
def Obligations.ScheduleCommands : Prop :=
  (∀ (s : State) (q : QueueId) (seq : W32) (c : Started) (j : Nat) (b : JobSlot) (img : List Byte) (i : Nat),
    readyJob s 0x0303 q seq c j b → 64 ≤ c.arg 1 → windowOf (ptrOff (c.arg 0)) = .hbm →
    s.jobBad c (c.arg 0) (c.arg 1) true false = none → s.loadOff (ptrOff (c.arg 0)) (c.arg 1) = (s, some (some img)) →
    s.tableCause b (readTable j (ptrOff (c.arg 0)) (c.arg 1) img) img = none →
    i < 16 → mfind s.tables i = none → (∀ x, x < i → mfind s.tables x ≠ none) →
    exec (.schedLoad q seq) s = .next (({ s with
      tables := minsert s.tables i (readTable j (ptrOff (c.arg 0)) (c.arg 1) img) } : State).finishCmd c (.ok i))) ∧
  (∀ (s : State) (q : QueueId) (seq : W32) (c : Started) (j : Nat) (b : JobSlot) (img : List Byte) (d : Nat),
    readyJob s 0x0303 q seq c j b → 64 ≤ c.arg 1 → windowOf (ptrOff (c.arg 0)) = .hbm →
    s.jobBad c (c.arg 0) (c.arg 1) true false = none → s.loadOff (ptrOff (c.arg 0)) (c.arg 1) = (s, some (some img)) →
    s.tableCause b (readTable j (ptrOff (c.arg 0)) (c.arg 1) img) img = some d →
    exec (.schedLoad q seq) s = .next (s.finishCmd c { status := 0x0301, detail := d })) ∧
  (∀ (s : State) (q : QueueId) (seq : W32) (c : Started) (j : Nat) (b : JobSlot), readyJob s 0x0304 q seq c j b →
    (15 < c.arg 0 → exec (.schedUnload q seq) s = .next (s.finishCmd c (.st 0x0103))) ∧
    (c.arg 0 ≤ 15 → (∀ t, mfind s.tables (c.arg 0) = some t → t.job ≠ j) →
      exec (.schedUnload q seq) s = .next (s.finishCmd c (.st 0x030A))) ∧
    (∀ t, c.arg 0 ≤ 15 → mfind s.tables (c.arg 0) = some t → t.job = j → (∃ r, b.run = some r ∧ r.slot = c.arg 0) →
      exec (.schedUnload q seq) s = .next (s.finishCmd c (.st 0x0305))) ∧
    (∀ t, c.arg 0 ≤ 15 → mfind s.tables (c.arg 0) = some t → t.job = j → (∀ r, b.run = some r → r.slot ≠ c.arg 0) →
      exec (.schedUnload q seq) s = .next (({ s with tables := merase s.tables (c.arg 0) } : State).finishCmd c (.ok)))) ∧
  (∀ (s : State) (q : QueueId) (seq : W32) (c : Started) (j : Nat) (b : JobSlot) (t : TableSlot),
    readyJob s 0x0305 q seq c j b → mfind s.tables (c.arg 0) = some t → t.job = j →
    (t.steps < c.arg 1 + c.arg 2 → exec (.schedRun q seq) s = .next (s.finishCmd c (.st 0x0103))) ∧
    (c.arg 1 + c.arg 2 ≤ t.steps → b.run ≠ none → exec (.schedRun q seq) s = .next (s.finishCmd c (.st 0x0305))) ∧
    (c.arg 1 + c.arg 2 ≤ t.steps → b.run = none → c.arg 2 = 0 → exec (.schedRun q seq) s = .next
      ((s.setJob j { b with ran := true }).finishCmd c (.ok 0 b.step.toNat))) ∧
    (c.arg 1 + c.arg 2 ≤ t.steps → b.run = none → 0 < c.arg 2 →
      exec (.schedRun q seq) s = .next (((s.waitCmd c (.sched j)).setJob j { b with ran := true, run := some {
        q := c.q, seq := c.seq, slot := c.arg 0, first := c.arg 1, count := c.arg 2, rep := c.arg 3, timeout := c.arg 4
        cur := c.arg 1, done := 0, fences := 0, stepStart := s.now, units := [], halts := [], ending := none
        haltReq := false, upSent := false } }).loadStep j))) ∧
  (∀ (s : State) (q : QueueId) (seq : W32) (c : Started) (j : Nat) (b : JobSlot), readyJob s 0x0306 q seq c j b →
    (b.run = none → exec (.schedHalt q seq) s = .next (s.finishCmd c (.ok b.step.toNat))) ∧
    (∀ r, b.run = some r → ∃ u, exec (.schedHalt q seq) s = .next u ∧
      u.job j = some { b with run := some { r with haltReq := true, halts := r.halts ++ [(c.q, c.seq)] } } ∧
      u.findStarted q.val seq = some { c with wait := .halt j } ∧
      { u with jobs := s.jobs, started := s.started } = s)) ∧
  (∀ (s : State) (q : QueueId) (seq : W32) (c : Started) (j : Nat) (b : JobSlot), readyJob s 0x0307 q seq c j b →
    exec (.stepWait q seq) s = .next (if c.arg 0 ≤ b.step.toNat then s.finishCmd c (.ok b.step.toNat)
      else s.waitCmd c (.step j (BitVec.ofNat 64 (c.arg 0)))))

/-- R97, R101, R112: a unit issues to its logical core when its waits are satisfied, every earlier unit of that core has
committed and the core is idle; G1 to G6 are set up, every other register is 0 and every tile clear. It does not issue
while a wait of it is not met. R98, R102, R104: a unit whose program has ended commits: its signals are sent in order, the
table's and then those TSIG held, and only after its outputs; VARIES units are counted. Said of a unit without held
conversion records, tracked updates or reducing copies, whose signals go to this node. -/
def Obligations.UnitsIssueAndCommit : Prop :=
  (∀ (s : State) (l : LClusterId) (k : Fin 16) (j c i : Nat) (b : JobSlot) (r : SchedRun) (u : UnitRec),
    s.jobOfCluster l.val = some (j, b) → s.job j = some b → s.servingCore l.val k.val = some c → b.run = some r →
    r.units[i]? = some u → u.lcluster = l.val → u.lcore = k.val → u.st = .waiting →
    (∀ x y, x < i → r.units[x]? = some y → y.lcluster = l.val → y.lcore = k.val → y.st = .committed) →
    r.ending = none → b.teardown = false → s.package.lost = false → s.heldCluster (c / 17) = false →
    (s.core c).phase = .idle → (s.core c).checkDue = false →
    ((∀ w ∈ u.waits, bits w.toNat 23 0 ≤ s.tally l.val k.val (bits w.toNat 31 24)) →
      ∃ t, exec (.unitIssue l k) s = .next t ∧ (t.core c).phase = .running ∧ (t.core c).pc = u.entry ∧
        (t.core c).unit = some ⟨j, i⟩ ∧
        (t.core c).rg 1 = BitVec.ofNat 64 (0x1FFF * 2 ^ 51 + u.param) ∧ (t.core c).rg 2 = BitVec.ofNat 64 u.unit.toNat ∧
        (t.core c).rg 3 = b.step ∧ (t.core c).rg 4 = BitVec.ofNat 64 (l.val * 16 + k.val) ∧
        (t.core c).rg 5 = BitVec.ofNat 64 s.nodeNo ∧
        (t.core c).rg 6 = BitVec.ofNat 64 (b.tag.toNat * 256 + b.epoch.toNat) ∧
        (∀ n, (n = 0 ∨ 7 ≤ n) → (t.core c).rg n = 0) ∧ (∀ n, (t.core c).rf n = 0) ∧ (∀ n, n ≠ 0 → (t.core c).rp n = 0) ∧
        (t.core c).csrs = Csrs.zero ∧ (t.core c).tiles = [] ∧ (t.core c).versions = (s.core c).versions ∧
        (∃ b' r', t.job j = some b' ∧ b'.run = some r' ∧ r'.units[i]? = some { u with st := .issued c }) ∧
        (∀ x, x ≠ c → t.core x = s.core x) ∧ { t with cores := s.cores, jobs := s.jobs } = s) ∧
    ((∃ w ∈ u.waits, s.tally l.val k.val (bits w.toNat 31 24) < bits w.toNat 23 0) → exec (.unitIssue l k) s = .next s)) ∧
  (∀ (s : State) (c : CoreId) (v : UnitRef) (b : JobSlot) (r : SchedRun) (tb : TableSlot) (u : UnitRec),
    (s.core c.val).phase = .ended → s.unitTable (s.core c.val) = some (v, b, r, tb) → r.units[v.idx]? = some u →
    (s.core c.val).recUpdates = [] → (s.core c.val).trackUpdates = [] → u.contribs = [] → u.checks = 0 → r.ending = none →
    (∀ x ∈ u.sigs ++ (s.core c.val).sigq, s.isSelf (bits x.toNat 47 35) = true ∧ b.holds (bits x.toNat 34 25) = true) →
    ∃ t, exec (.unitCommit c) s = .next t ∧
      t = (u.sigs ++ (s.core c.val).sigq).foldl (fun s x =>
          s.addTally (bits x.toNat 34 25) (bits x.toNat 24 21) (bits x.toNat 20 13) (bits x.toNat 12 0))
        ((s.setCore c.val
            { s.core c.val with phase := .idle, unit := none, sigq := [], recUpdates := [], trackUpdates := [], vbuf := [] }).setJob v.job { b with
          run := some { r with units := setNth r.units v.idx { u with st := .committed } }
          varyCur := if u.varies then b.varyCur + 1 else b.varyCur }) ∧
      t.mem = s.mem)

/-- R103, R105, R376: a fence completes once every unit of the step has committed and what they started has completed: the
per-step tallies are cleared and SCH.STEP goes up by 1. The next step is loaded with its units waiting, and after the last
step of the last repeat SCHED_RUN replies with the fences completed and SCH.STEP. Said of a table that is not SPAN,
without a halt request, tracked tensors, waiting commands or batches. A step past its time limit ends the schedule with
STEP_TIMEOUT. -/
def Obligations.FencesAndTimeouts : Prop :=
  (∀ (s : State) (j : JobSlotId) (b : JobSlot) (r : SchedRun) (tb : TableSlot),
    s.job j.val = some b → b.run = some r → mfind s.tables r.slot = some tb → tb.span = false → r.upSent = false →
    s.fenceReady j.val b r = true → r.haltReq = false → r.cur + 1 ≠ r.first + r.count →
    s.tracked = [] → s.batches = [] → (∀ d ∈ s.started, ∀ k x, d.wait ≠ .step k x) →
    ∃ (t : State) (b' : JobSlot) (r' : SchedRun), exec (.fenceComplete j) s = .next (t.loadStep j.val) ∧
      t.job j.val = some b' ∧ b'.run = some r' ∧
      b'.step = b.step + 1 ∧ b'.varyLast = b.varyCur ∧ b'.varyCur = 0 ∧ r' = { r with cur := r.cur + 1, fences := r.fences + 1 } ∧
      (∀ l k x, k < 16 → x < 256 → t.tally l k x =
        if tb.firstCluster ≤ l ∧ l < tb.firstCluster + tb.clusters ∧ x < tb.stepTallies then 0 else s.tally l k x) ∧
      (∀ i, i ≠ j.val → t.job i = s.job i) ∧
      { t with jobs := s.jobs, tallies := s.tallies, snaps := s.snaps } = s) ∧
  (∀ (s : State) (j : JobSlotId) (b : JobSlot) (r : SchedRun) (tb : TableSlot),
    s.job j.val = some b → b.run = some r → mfind s.tables r.slot = some tb → tb.span = false → r.upSent = false →
    s.fenceReady j.val b r = true → r.cur + 1 = r.first + r.count → r.done + 1 = r.rep →
    s.tracked = [] → s.batches = [] → (∀ d ∈ s.started, ∀ k x, d.wait ≠ .step k x) → r.halts = [] →
    ∃ (t : State) (b' : JobSlot), exec (.fenceComplete j) s = .next
        (t.finish r.q r.seq { status := 0, r0 := r.fences + 1, r1 := (b.step + 1).toNat }) ∧
      t.job j.val = some b' ∧ b'.run = none ∧ b'.step = b.step + 1 ∧
      { t with jobs := s.jobs, tallies := s.tallies, snaps := s.snaps } = s) ∧
  (∀ (s : State) (j : Nat) (b : JobSlot) (r : SchedRun) (tb : TableSlot),
    s.job j = some b → b.run = some r → mfind s.tables r.slot = some tb →
    (∀ l, tb.firstCluster ≤ l → l < tb.firstCluster + tb.clusters → ∃ us, s.loadCluster tb r.cur l = (s, some us)) →
    s.loadStep j = s.setJob j { b with run := some { r with
      units := (upFrom tb.firstCluster tb.clusters).flatMap (fun l => ((s.loadCluster tb r.cur l).2).getD [])
      stepStart := s.now, upSent := false } }) ∧
  (∀ (s : State) (j : JobSlotId) (b : JobSlot) (r : SchedRun),
    s.job j.val = some b → b.run = some r → r.ending = none → r.timeout ≠ 0 → r.stepStart + r.timeout ≤ s.now →
    (∃ u ∈ r.units, u.inProgress = true) →
    ∃ t, exec (.stepTimeout j) s = .next t ∧ raised s t .schStepTimeout [] ∧
      t.job j.val = some { b with run := some { r with ending := some 0x0307 } } ∧
      (∀ i, i ≠ j.val → t.job i = s.job i) ∧ { t with jobs := s.jobs, regs := s.regs } = s) ∧
  (∀ (s : State) (j : JobSlotId) (b : JobSlot) (r : SchedRun), s.job j.val = some b → b.run = some r →
    (r.timeout = 0 ∨ s.now < r.stepStart + r.timeout) → exec (.stepTimeout j) s = .next s)

/-! ## Core execution (chapter 4) -/

/-- A core is about to execute a word of a row (R116, R117): it runs a unit, the word at its PC can be fetched and is
delivered, the word belongs to the row, it does not end a loop body where the row may not (R123), and CSR.VSTART is 0 where
the row needs that (R159). -/
def Sys2Proof.Claims.atInstr (s : State) (op : CoreOp) (c : CoreId) (w : W32) : Prop :=
  (s.core c.val).phase = .running ∧ s.fetchable (s.core c.val) = true ∧ s.scan (s.core c.val).pc 4 = (s, true) ∧
  selectOp w = some op ∧ (op.isControl = true → (s.core c.val).atBodyEnd = false) ∧
  (op.needsVstart0 = true → (s.core c.val).csrs.vstart = 0)

/-- What R118 gives each func, less SEL and division. -/
def Sys2Proof.Claims.aluTable (a b : Word) : List (Nat × Word) :=
  [(0x000, a + b), (0x001, a - b), (0x002, a &&& b), (0x003, a ||| b), (0x004, a ^^^ b), (0x005, a <<< (b.toNat % 64)),
   (0x006, a >>> (b.toNat % 64)), (0x007, a.sshiftRight (b.toNat % 64)), (0x008, if a.toInt < b.toInt then 1 else 0),
   (0x009, if a.toNat < b.toNat then 1 else 0), (0x00A, if a.toInt ≤ b.toInt then a else b),
   (0x00B, if a.toInt ≤ b.toInt then b else a), (0x00C, if a.toNat ≤ b.toNat then a else b),
   (0x00D, if a.toNat ≤ b.toNat then b else a), (0x010, a * b)] ++
  [(0x011, ((a.signExtend 128 * b.signExtend 128) >>> 64).setWidth 64),
   (0x012, ((a.setWidth 128 * b.setWidth 128) >>> 64).setWidth 64),
   (0x013, ((a.signExtend 128 * b.setWidth 128) >>> 64).setWidth 64),
   (0x020, BitVec.ofNat 64 (((List.range 64).find? (fun i => a.getLsbD (63 - i))).getD 64)),
   (0x021, BitVec.ofNat 64 (((List.range 64).find? (fun i => a.getLsbD i)).getD 64)),
   (0x022, BitVec.ofNat 64 ((List.range 64).countP (fun i => a.getLsbD i))),
   (0x023, (List.range 8).foldl (fun x i => x ||| (((a >>> (8 * i)) &&& 0xFF) <<< (56 - 8 * i))) 0)] ++
  [(0x030, (a.setWidth 32 + b.setWidth 32).signExtend 64), (0x031, (a.setWidth 32 - b.setWidth 32).signExtend 64),
   (0x032, (a.setWidth 32 <<< (b.toNat % 32)).signExtend 64), (0x033, (a.setWidth 32 >>> (b.toNat % 32)).signExtend 64),
   (0x034, ((a.setWidth 32).sshiftRight (b.toNat % 32)).signExtend 64)]

/-- R111, R118: the integer ALU writes its result to G[rd] and nothing else, SEL chooses by bit 0 of a predicate, and a
write to G0 is discarded. R119: division and the immediate forms. -/
def Obligations.IntegerResults : Prop :=
  ((∀ (s : State) (c : CoreId) (w : W32) (v : Word), atInstr s .integerAlu c w →
    (func w, v) ∈ aluTable ((s.core c.val).rg (fa w)) ((s.core c.val).rg (fb w)) →
    (0x020 ≤ func w → func w ≤ 0x023 → fb w = 0) →
    exec (.integerAlu c w) s = .next (s.setCore c.val ((s.core c.val).wg (fd w) v).advance)) ∧
  (∀ (s : State) (c : CoreId) (w : W32) (p : Nat), atInstr s .integerAlu c w → p < 8 → func w = 0x040 + p →
    exec (.integerAlu c w) s = .next (s.setCore c.val ((s.core c.val).wg (fd w)
      (if ((s.core c.val).rp p).getLsbD 0 then (s.core c.val).rg (fa w) else (s.core c.val).rg (fb w))).advance)) ∧
  (∀ (k : Core) (n m : Nat) (v : Word), k.wg 0 v = k ∧ k.rg 0 = 0 ∧ (n ≠ 0 → (k.wg n v).rg n = v) ∧
    (m ≠ n → (k.wg n v).rg m = k.rg m) ∧ { k.wg n v with g := k.g } = k) ∧
  (∀ (k : Core) (n m : Nat) (v : BitVec 256), k.wp 0 v = k ∧ k.rp 0 = BitVec.allOnes 256 ∧ (n ≠ 0 → (k.wp n v).rp n = v) ∧
    (m ≠ n → (k.wp n v).rp m = k.rp m) ∧ { k.wp n v with p := k.p } = k)) ∧
  ((∀ (s : State) (c : CoreId) (w : W32), atInstr s .integerAlu c w → 0x014 ≤ func w → func w ≤ 0x017 →
    ∃ v, exec (.integerAlu c w) s = .next (s.setCore c.val ((s.core c.val).wg (fd w) v).advance) ∧
      (let a := (s.core c.val).rg (fa w)
       let b := (s.core c.val).rg (fb w)
       (b = 0 → v = if func w ≤ 0x015 then BitVec.allOnes 64 else a) ∧
       (func w = 0x014 → b ≠ 0 → a.toInt = -2 ^ 63 → b.toInt = -1 → v.toInt = -2 ^ 63) ∧
       (func w = 0x016 → b ≠ 0 → a.toInt = -2 ^ 63 → b.toInt = -1 → v = 0) ∧
       (func w = 0x014 → b ≠ 0 → ¬ (a.toInt = -2 ^ 63 ∧ b.toInt = -1) → ∃ r : Int, a.toInt = v.toInt * b.toInt + r ∧
         r.natAbs < b.toInt.natAbs ∧ (0 ≤ a.toInt → 0 ≤ r) ∧ (a.toInt ≤ 0 → r ≤ 0)) ∧
       (func w = 0x016 → b ≠ 0 → ∃ q : Int, a.toInt = q * b.toInt + v.toInt ∧
         v.toInt.natAbs < b.toInt.natAbs ∧ (0 ≤ a.toInt → 0 ≤ v.toInt) ∧ (a.toInt ≤ 0 → v.toInt ≤ 0)) ∧
       (func w = 0x015 → b ≠ 0 → v.toNat = a.toNat / b.toNat) ∧ (func w = 0x017 → b ≠ 0 → v.toNat = a.toNat % b.toNat))) ∧
  (∀ (s : State) (c : CoreId) (w : W32) (i : Instr) (op : CoreOp) (v : Word),
    (let a := (s.core c.val).rg (fa w)
     let imm : BitVec 16 := w.setWidth 16
     (i, op, v) ∈ [(Instr.addi c w, CoreOp.addi, a + imm.signExtend 64), (.andi c w, .andi, a &&& imm.signExtend 64),
       (.ori c w, .ori, a ||| imm.setWidth 64), (.xori c w, .xori, a ^^^ imm.setWidth 64),
       (.slti c w, .slti, if a.toInt < imm.toInt then 1 else 0),
       (.lui c w, .lui, ((w.setWidth 21).signExtend 64) <<< 16)]) → atInstr s op c w →
    exec i s = .next (s.setCore c.val ((s.core c.val).wg (fd w) v).advance)) ∧
  (∀ (s : State) (c : CoreId) (w : W32) (v : Word), atInstr s .shiftByImmediate c w →
    (let a := (s.core c.val).rg (fa w)
     let n := (w.extractLsb' 0 6).toNat
     (w.extractLsb' 8 8, v) ∈ [(0#8, a <<< n), (1#8, a >>> n), (2#8, a.sshiftRight n)]) → w.extractLsb' 6 2 = 0 →
    exec (.shiftByImmediate c w) s = .next (s.setCore c.val ((s.core c.val).wg (fd w) v).advance)) ∧
  (∀ z : Int, -2 ^ 36 ≤ z → z < 2 ^ 36 → ∃ (hi : BitVec 21) (lo : BitVec 16),
    ((hi.signExtend 64 <<< 16) ||| lo.setWidth 64 : BitVec 64).toInt = z))

/-- R120, R121: comparisons set every bit of P[pd], predicate logic works bit by bit, and a scalar FP32 result goes to
F[rd] with bits 511:32 zero, or to G[rd]; the sum, difference, product and quotient of a NaN are 0x7FC0_0000. -/
def Obligations.PredicatesAndScalarFp : Prop :=
  (∀ (s : State) (c : CoreId) (w : W32) (r : Bool), atInstr s .compareToPredicate c w → wf w 25 24 = 0 →
    (let a := (s.core c.val).rg (fa w)
     let b := (s.core c.val).rg (fb w)
     (func w, r) ∈ [(0, decide (a = b)), (1, decide (a ≠ b)), (2, decide (a.toInt < b.toInt)),
       (3, decide (b.toInt ≤ a.toInt)), (4, decide (a.toNat < b.toNat)), (5, decide (b.toNat ≤ a.toNat))]) →
    exec (.compareToPredicate c w) s = .next (s.setCore c.val
      ((s.core c.val).wp (wf w 23 21) (if r then BitVec.allOnes 256 else 0)).advance)) ∧
  (∀ (s : State) (c : CoreId) (w : W32), atInstr s .compareToPredicate c w → wf w 25 24 = 0 →
    0x010 ≤ func w → func w ≤ 0x013 →
    (let r := f32Fmt.compare (func w - 0x010) ((s.core c.val).rs (fa w)) ((s.core c.val).rs (fb w))
     exec (.compareToPredicate c w) s = .next (s.setCore c.val
      (((s.core c.val).wp (wf w 23 21) (if r.1 then BitVec.allOnes 256 else 0)).accrue r.2).advance))) ∧
  (∀ (s : State) (c : CoreId) (w : W32) (v : BitVec 256), atInstr s .predicateLogic c w → wf w 25 24 = 0 →
    fa w < 8 → fb w < 8 →
    (let a := (s.core c.val).rp (fa w)
     let b := (s.core c.val).rp (fb w)
     (func w, v) ∈ [(0, a &&& b), (1, a ||| b), (2, a ^^^ b), (3, a &&& ~~~b), (4, ~~~a)]) →
    exec (.predicateLogic c w) s = .next (s.setCore c.val ((s.core c.val).wp (wf w 23 21) v).advance)) ∧
  (∀ (s : State) (c : CoreId) (w : W32) (v : Nat) (fl : FFlags), atInstr s .scalarFp32 c w → (func w = 4 → fb w = 0) →
    (let k := s.core c.val
     f32Op (func w) k.frm (k.rs (fa w)) (k.rs (fb w)) (k.rs (fd w)) (k.rg (fa w)) = .fres v fl →
     exec (.scalarFp32 c w) s = .next (s.setCore c.val
       ((k.wf (fd w) (BitVec.ofNat 512 (v % 2 ^ 32))).accrue fl).advance))) ∧
  (∀ (s : State) (c : CoreId) (w : W32) (v : Nat) (fl : FFlags), atInstr s .scalarFp32 c w →
    (let k := s.core c.val
     f32Op (func w) k.frm (k.rs (fa w)) (k.rs (fb w)) (k.rs (fd w)) (k.rg (fa w)) = .gres v fl →
     exec (.scalarFp32 c w) s = .next (s.setCore c.val ((k.wg (fd w) (BitVec.ofNat 64 v)).accrue fl).advance))) ∧
  (∀ (frm : Nat) (a b : Nat) (g : Word), a < 2 ^ 32 → (f32Fmt.decode a).isNan = true →
    (∀ fn ∈ [0, 1, 2, 3], ∃ fl, f32Op fn frm a b 0 g = .fres 0x7FC00000 fl) ∧
    (∃ fl, fl.nv = true ∧ f32Op 0x012 frm a b 0 g = .gres (2 ^ 63 - 1) fl) ∧
    (∃ fl, fl.nv = true ∧ f32Op 0x013 frm a b 0 g = .gres (2 ^ 64 - 1) fl))

/-- R122, R123: branches, jumps and LOOP, and what the end of a loop body does. -/
def Obligations.ControlFlowAndLoops : Prop :=
  (∀ (s : State) (c : CoreId) (w : W32) (take : Bool), atInstr s .branch c w →
    (let k := s.core c.val
     let ra := wf w 25 21
     let rb := wf w 20 16
     let a := k.rg ra
     let b := k.rg rb
     ((wf w 15 13, take) ∈ [(0, decide (a = b)), (1, decide (a ≠ b)), (2, decide (a.toInt < b.toInt)),
         (3, decide (b.toInt ≤ a.toInt)), (4, decide (a.toNat < b.toNat)), (5, decide (b.toNat ≤ a.toNat))] ∨
       (ra = 0 ∧ rb < 8 ∧ (wf w 15 13, take) ∈ [(6, (k.rp rb).getLsbD 0), (7, !(k.rp rb).getLsbD 0)])) →
     exec (.branch c w) s = .next (s.setCore c.val
       (if take then k.jump (((k.pc : Int) + 4 * (w.setWidth 13).toInt) % 2 ^ 51).toNat else k.advance)))) ∧
  (∀ (s : State) (c : CoreId) (w : W32), atInstr s .jal c w →
    (let k := s.core c.val
     exec (.jal c w) s = .next (s.setCore c.val ((k.wg (fd w) (BitVec.ofNat 64 (k.pc + 4))).jump
       (((k.pc : Int) + 4 * (w.setWidth 21).toInt) % 2 ^ 51).toNat)))) ∧
  (∀ (s : State) (c : CoreId) (w : W32), atInstr s .jalr c w →
    (let k := s.core c.val
     exec (.jalr c w) s = .next (s.setCore c.val ((k.wg (fd w) (BitVec.ofNat 64 (k.pc + 4))).jump
       ((k.rg (fa w) + (w.setWidth 16).signExtend 64) &&& ~~~3#64).toNat)))) ∧
  (∀ (s : State) (c : CoreId) (w : W32), atInstr s .loopStart c w → fa w = 0 → wf w 15 0 ≠ 0 →
    (let k := s.core c.val
     let n := k.rg (fd w)
     let last := k.pc + 4 * wf w 15 0
     (∀ l, k.csrs.loops.getLast? = some l → last ≤ l.2.2) →
     (n ≠ 0 → k.csrs.loops.length < 2 → exec (.loopStart c w) s = .next (s.setCore c.val
       { k with pc := (k.pc + 4) % 2 ^ 51, csrs := { k.csrs with loops := k.csrs.loops ++ [(n, k.pc + 4, last)] } })) ∧
     (n = 0 → exec (.loopStart c w) s = .next (s.setCore c.val (k.endAt last (last + 4)))) ∧
     (n ≠ 0 → 2 ≤ k.csrs.loops.length → exec (.loopStart c w) s = .next (s.progFault c.val 0x01 0 (w.setWidth 64))))) ∧
  (∀ (k : Core) (t : Nat), t < 2 ^ 51 → (k.jump t).pc = t ∧
    (∀ ls, k.csrs.loops = ls → (∀ x ∈ ls, x.2.1 ≤ t ∧ t ≤ x.2.2) → (k.jump t).csrs.loops = ls) ∧
    (∀ ls l, k.csrs.loops = ls ++ [l] → (t < l.2.1 ∨ l.2.2 < t) →
      (k.jump t).csrs.loops = ({ k with csrs := { k.csrs with loops := ls } }.jump t).csrs.loops)) ∧
  (∀ (k : Core) (a n : Nat), n < 2 ^ 51 →
    ((∀ l, k.csrs.loops.getLast? = some l → l.2.2 ≠ a) → k.endAt a n = { k with pc := n }) ∧
    (∀ ls lc first, k.csrs.loops = ls ++ [(lc, first, a)] → 1 < lc.toNat → first < 2 ^ 51 →
      k.endAt a n = { k with pc := first, csrs := { k.csrs with loops := ls ++ [(lc - 1, first, a)] } }) ∧
    (∀ ls lc first, k.csrs.loops = ls ++ [(lc, first, a)] → lc.toNat ≤ 1 →
      k.endAt a n = { k with csrs := { k.csrs with loops := ls } }.endAt a n))

/-- R124, R137: CSR reads and writes, FENCE, END and TRAP; a write of an RO CSR and any access of an unassigned number are
ILLEGAL. R105, R133, R134: a program fault records its cause, PC and address in the CSRs and the CORE registers, sets
PROG_FAULT and ends the unit without commit and with its held signals discarded; where no other unit of the schedule is in
progress SCHED_RUN replies UNIT_FAULT, else the schedule ends once they have. -/
def Obligations.SystemInstructionsAndFaults : Prop :=
  ((∀ (s : State) (c : CoreId) (w : W32) (v : Word), atInstr s .csrr c w →
    (s.core c.val).csr s.clock.now (wf w 11 0) = some v →
    exec (.csrr c w) s = .next (s.setCore c.val ((s.core c.val).wg (fd w) v).advance)) ∧
  (∀ (s : State) (c : CoreId) (w : W32) (k : Core), atInstr s .csrw c w →
    (s.core c.val).csrWrite (wf w 11 0) ((s.core c.val).rg (fa w)) = some k →
    exec (.csrw c w) s = .next (s.setCore c.val k.advance)) ∧
  (∀ (s : State) (c : CoreId) (w : W32) (v : Word) (k : Core), atInstr s .csrs c w →
    (s.core c.val).csr s.clock.now (wf w 11 0) = some v →
    (s.core c.val).csrWrite (wf w 11 0) (v ||| (s.core c.val).rg (fa w)) = some k →
    exec (.csrs c w) s = .next (s.setCore c.val (k.wg (fd w) v).advance)) ∧
  (∀ (s : State) (c : CoreId) (w : W32) (v : Word) (k : Core), atInstr s .csrc c w →
    (s.core c.val).csr s.clock.now (wf w 11 0) = some v →
    (s.core c.val).csrWrite (wf w 11 0) (v &&& ~~~(s.core c.val).rg (fa w)) = some k →
    exec (.csrc c w) s = .next (s.setCore c.val (k.wg (fd w) v).advance)) ∧
  (∀ (s : State) (c : CoreId) (w : W32) (i : Instr) (op : CoreOp),
    (i, op) ∈ [(Instr.csrw c w, CoreOp.csrw), (.csrs c w, .csrs), (.csrc c w, .csrc)] → atInstr s op c w →
    wf w 11 0 ∉ [0x000, 0x001, 0x008, 0x009, 0x00B, 0x010, 0x011, 0x013] →
    exec i s = .next (s.progFault c.val 0x01 0 (w.setWidth 64))) ∧
  (∀ (k : Core) (now v : Word),
    (∃ k', k.csrWrite 0x000 v = some k' ∧ k'.csr now 0x000 = some (v &&& 0x1F)) ∧
    (∃ k', k.csrWrite 0x001 v = some k' ∧ k'.csr now 0x001 =
      if (v &&& 7).toNat ≤ 4 then some (v &&& 7) else k.csr now 0x001) ∧
    (∀ n ∈ [0x010, 0x011, 0x013], ∃ k', k.csrWrite n v = some k' ∧ k'.csr now n = some v ∧
      ∀ m, m ≠ n → k'.csr now m = k.csr now m)) ∧
  (∀ (s : State) (c : CoreId) (w : W32), atInstr s .fence c w → wf w 11 0 = 0 → fd w = 0 → fa w = 0 →
    exec (.fence c w) s = .next (s.setCore c.val (s.core c.val).advance)) ∧
  (∀ (s : State) (c : CoreId) (w : W32), atInstr s .endUnit c w →
    exec (.end_ c w) s = .next (s.setCore c.val { s.core c.val with phase := .ended })) ∧
  (∀ (s : State) (c : CoreId) (w : W32), atInstr s .trapUnit c w →
    exec (.trapUnit c w) s = .next (s.progFault c.val 0x08 (wf w 11 0) 0))) ∧
  ((∀ (s : State) (c : CoreId) (code aux : Nat) (fa : Word) (u : UnitRef) (b : JobSlot) (r : SchedRun) (x : UnitRec),
    code < 256 → aux < 2 ^ 16 → (s.core c.val).unit = some u → s.job u.job = some b → b.run = some r →
    r.units[u.idx]? = some x → r.ending = none → (∃ (i : Nat) (y : UnitRec), i ≠ u.idx ∧ r.units[i]? = some y ∧ y.inProgress = true) →
    x.lcluster < 1024 → x.lcore < 16 →
    ∃ t, t = s.progFault c.val code aux fa ∧
      (t.core c.val).phase = .idle ∧ (t.core c.val).unit = none ∧ (t.core c.val).sigq = [] ∧
      (t.core c.val).csrs.fcause = BitVec.ofNat 64 (aux * 2 ^ 16 + code) ∧
      (t.core c.val).csrs.fpc = BitVec.ofNat 64 (s.core c.val).pc ∧ (t.core c.val).csrs.faddr = fa ∧
      t.reg .coreFault [c.val / 17, c.val % 17] = BitVec.ofNat 64 (aux * 2 ^ 16 + code) ∧
      t.reg .coreFpc [c.val / 17, c.val % 17] = BitVec.ofNat 64 (s.core c.val).pc ∧
      t.reg .coreFaddr [c.val / 17, c.val % 17] = fa ∧ raised s t .coreProgFault [c.val / 17, c.val % 17] ∧
      raised s t .schUnitFault [] ∧
      t.reg .schFault = BitVec.ofNat 64 (x.lcluster * 2 ^ 54 + x.lcore * 2 ^ 50 + x.unit.toNat * 2 ^ 32 + b.step.toNat % 2 ^ 32) ∧
      t.job u.job = some { b with run := some { r with
        units := setNth r.units u.idx { x with st := .ended }, ending := some 0x0306 } } ∧
      (∀ y, y ≠ c.val → t.core y = s.core y) ∧
      { t with cores := s.cores, regs := s.regs, jobs := s.jobs } = s) ∧
  (∀ (s : State) (c : CoreId) (w : W32) (op : CoreOp) (f : State → Core → State × Step1),
    (s.core c.val).phase = .running → s.fetchable (s.core c.val) = true → s.scan (s.core c.val).pc 4 = (s, true) →
    selectOp w ≠ some op → coreExec op c.val w s f = s.progFault c.val 0x01 0 (w.setWidth 64)) ∧
  (∀ (s : State) (c : CoreId) (w : W32) (op : CoreOp) (f : State → Core → State × Step1),
    (s.core c.val).phase = .running → s.fetchable (s.core c.val) = false →
    coreExec op c.val w s f = (if s.masterOn 5 then s else s.raise .grnPolicyDenied).progFault c.val 0x03 0
      (BitVec.ofNat 64 (s.core c.val).pc)) ∧
  (∀ (s : State) (c : CoreId) (w : W32), (s.core c.val).phase = .running → s.fetchable (s.core c.val) = true →
    s.scan (s.core c.val).pc 4 = (s, true) → selectOp w = none →
    exec (.addi c w) s = .next (s.progFault c.val 0x01 0 (w.setWidth 64))))

/-- R85, R92, R100: TALLY_SET and TALLY_READ of a tally of the job's own logical cores on this node, and their refusal.
R100: a signal adds its amount to a tally, which stays at 0xFFFF_FFFF where the sum is larger, with TALLY_SAT; a TWAIT
that waits for the sum goes on. R125, R126: the tally instructions and the limit of TWAIT. -/
def Obligations.Tallies : Prop :=
  ((∀ (s : State) (q : QueueId) (seq : W32) (c : Started) (j : Nat) (b : JobSlot), readyJob s 0x0308 q seq c j b →
    s.tallyTarget b (c.arg 0) = true →
    ∃ t : State, exec (.tallySet q seq) s = .next (t.finishCmd c (.ok)) ∧
      t.tally (bits (c.arg 0) 34 25) (bits (c.arg 0) 24 21) (bits (c.arg 0) 20 13) = c.arg 1 ∧
      (∀ l k x, k < 16 → x < 256 → (l, k, x) ≠ (bits (c.arg 0) 34 25, bits (c.arg 0) 24 21, bits (c.arg 0) 20 13) →
        t.tally l k x = s.tally l k x) ∧
      { t with tallies := s.tallies, cores := s.cores } = s) ∧
  (∀ (s : State) (q : QueueId) (seq : W32) (c : Started) (j : Nat) (b : JobSlot), readyJob s 0x0309 q seq c j b →
    s.tallyTarget b (c.arg 0) = true →
    exec (.tallyRead q seq) s = .next (s.finishCmd c
      (.ok (s.tally (bits (c.arg 0) 34 25) (bits (c.arg 0) 24 21) (bits (c.arg 0) 20 13))))) ∧
  (∀ (s : State) (q : QueueId) (seq : W32) (c : Started) (j : Nat) (b : JobSlot) (i : Instr) (op : Nat),
    (i, op) ∈ [(Instr.tallySet q seq, 0x0308), (.tallyRead q seq, 0x0309)] → readyJob s op q seq c j b →
    (tbit (c.arg 0) 63 = false ∨ bits (c.arg 0) 62 48 ≠ 0 ∨ bits (c.arg 0) 12 0 ≠ 0 ∨
      s.isSelf (bits (c.arg 0) 47 35) = false ∨ bits (c.arg 0) 34 25 < b.first ∨
      b.first + b.count ≤ bits (c.arg 0) 34 25) →
    exec i s = .next (s.finishCmd c (.st 0x0103)))) ∧
  (∀ (s : State) (l k t n : Nat), k < 16 → t < 256 → s.tally l k t < 2 ^ 32 →
    (s.addTally l k t n).tally l k t = min (s.tally l k t + n) 0xFFFFFFFF ∧
    (∀ l' k' t', k' < 16 → t' < 256 → (l', k', t') ≠ (l, k, t) → (s.addTally l k t n).tally l' k' t' = s.tally l' k' t') ∧
    (0xFFFFFFFF < s.tally l k t + n → raised s (s.addTally l k t n) .schTallySat []) ∧
    (s.tally l k t + n ≤ 0xFFFFFFFF → (s.addTally l k t n).regs = s.regs) ∧
    (∀ c thr t0, s.servingCore l k = some c → (s.core c).phase = .waitTally t thr t0 → (s.core c).whereId = 16 * l + k →
      ((s.addTally l k t n).core c).phase =
        if thr ≤ min (s.tally l k t + n) 0xFFFFFFFF then .running else .waitTally t thr t0) ∧
    { s.addTally l k t n with tallies := s.tallies, cores := s.cores, regs := s.regs } = s) ∧
  ((∀ (s : State) (c : CoreId) (w : W32), atInstr s .twait c w → wf w 9 0 = 0 →
    (let k := s.core c.val
     let t := (k.csrs.tallyBase.toNat + wf w 20 13) % 256
     let thr := (k.rg (fd w)).toNat % 2 ^ 32
     let v := s.tally (k.whereId / 16) (k.whereId % 16) t
     exec (.twait c w) s = .next (s.setCore c.val
       (if thr ≤ v then k.advance else { k with phase := .waitTally t thr s.now })))) ∧
  (∀ (s : State) (c : CoreId) (t thr t0 : Nat), (s.core c.val).phase = .waitTally t thr t0 →
    (let lim := (s.core c.val).csrs.twaitLimit
     (lim ≠ 0 → t0 + lim.toNat ≤ s.now → exec (.twaitTimeout c) s = .next (s.progFault c.val 0x05 0 (BitVec.ofNat 64 t))) ∧
     (lim = 0 ∨ s.now < t0 + lim.toNat → exec (.twaitTimeout c) s = .next s))) ∧
  (∀ (s : State) (c : CoreId) (w : W32), atInstr s .tread c w → wf w 9 0 = 0 →
    (let k := s.core c.val
     exec (.tread c w) s = .next (s.setCore c.val (k.wg (fd w) (BitVec.ofNat 64
       (s.tally (k.whereId / 16) (k.whereId % 16) ((k.csrs.tallyBase.toNat + wf w 20 13) % 256)))).advance))) ∧
  (∀ (s : State) (c : CoreId) (w : W32) (u : UnitRef) (b : JobSlot) (r : SchedRun) (tb : TableSlot),
    atInstr s .tsig c w → s.unitTable (s.core c.val) = some (u, b, r, tb) → wf w 20 13 = 0 → wf w 9 0 = 0 →
    (let k := s.core c.val
     let x := (k.rg (fd w)).toNat % 2 ^ 48
     let node := bits x 47 35
     let bad := bits x 12 0 = 0 ∨ (4096 ≤ node ∧ node ≤ 8190) ∨
       (s.isSelf node = true ∧ ¬ (b.first ≤ bits x 34 25 ∧ bits x 34 25 < b.first + b.count)) ∨
       (s.isSelf node = false ∧ 639 < bits x 34 25)
     (bad → exec (.tsig c w) s = .next (s.progFault c.val 0x01 0 (w.setWidth 64))) ∧
     (¬ bad → s.isSelf node = false → s.tableCtx k node = none →
       exec (.tsig c w) s = .next (s.progFault c.val 0x06 0 (BitVec.ofNat 64 x))) ∧
     (¬ bad → (s.isSelf node = true ∨ s.tableCtx k node ≠ none) → 16 ≤ k.sigq.length →
       exec (.tsig c w) s = .next (s.progFault c.val 0x04 0 0)) ∧
     (¬ bad → (s.isSelf node = true ∨ s.tableCtx k node ≠ none) → k.sigq.length < 16 →
       exec (.tsig c w) s = .next (s.setCore c.val { k with sigq := k.sigq ++ [BitVec.ofNat 48 x] }.advance)))))

/-- The views of a core's near accesses (R113): Pool of the physical core, its own Shale, and the cluster's Shale. -/
def Sys2Proof.Claims.nearView (s : State) (c : CoreId) (ea a : Nat) : Prop :=
  (ea < 0x10000 ∧ a = 2 ^ 42 + c.val * 2 ^ 16 + ea) ∨
  (0x100000 ≤ ea ∧ ea < 0x180000 ∧ ∃ p, s.placedCore ((s.core c.val).whereId / 16) ((s.core c.val).whereId % 16) = some p ∧
    a = 2 ^ 41 + p * 2 ^ 19 + (ea - 0x100000)) ∨
  (0x1000000 ≤ ea ∧ ea < 0x1800000 ∧
    ∃ p, s.placedCore ((s.core c.val).whereId / 16) ((ea - 0x1000000) / 2 ^ 19) = some p ∧
    a = 2 ^ 41 + p * 2 ^ 19 + (ea - 0x1000000) % 2 ^ 19)

/-- A global access of n bytes that the node performs itself (R114, R127, R433): the pointer names this node and a part of
its address space that a unit may reach, the access policy allows it, and it is naturally aligned. -/
def Sys2Proof.Claims.globalHere (s : State) (k : Core) (p n : Nat) (rd wr : Bool) (a : Nat) : Prop :=
  reservedNode (p / 2 ^ 51 % 2 ^ 13) = false ∧ s.isSelf (p / 2 ^ 51 % 2 ^ 13) = true ∧ s.jobReach (p % 2 ^ 51) 1 = true ∧
  s.allowed 5 true (p % 2 ^ 51) rd wr k.jobTag = (s, true) ∧ s.phys (p % 2 ^ 51) = some a ∧ p % 2 ^ 51 % n = 0

/-- R113, R117, R127, R133: near and global loads and stores of the node's own memory read and write the bytes at the
address that their view gives, little-endian; an address in no view gives ADDR and one that is not naturally aligned
MISALIGNED; a global access of another node is sent on its context and blocks the core. -/
def Obligations.LoadsAndStores : Prop :=
  (∀ (s s' : State) (c : CoreId) (w : W32) (a : Nat) (bs : List Byte) (n : Nat) (signed : Bool),
    (major w, n, signed) ∈ [(0x10, 1, true), (0x11, 1, false), (0x12, 2, true), (0x13, 2, false), (0x14, 4, true),
      (0x15, 4, false), (0x16, 8, true)] → atInstr s .nearLoad c w →
    (let ea := ((s.core c.val).rg (fa w) + (w.setWidth 16).signExtend 64).toNat
     nearView s c ea a → ea % n = 0 → s.load a n = (s', some bs) →
     exec (.nearLoad c w) s = .next (s'.setCore c.val ((s.core c.val).wg (fd w)
       (if signed then BitVec.ofInt 64 (sext (8 * n) (leNat bs)) else BitVec.ofNat 64 (leNat bs))).advance))) ∧
  (∀ (s s' : State) (c : CoreId) (w : W32) (a : Nat) (bs : List Byte), atInstr s .ldf c w →
    (let ea := ((s.core c.val).rg (fa w) + (w.setWidth 16).signExtend 64).toNat
     nearView s c ea a → ea % 4 = 0 → s.load a 4 = (s', some bs) →
     exec (.ldf c w) s = .next (s'.setCore c.val ((s.core c.val).wf (fd w) (BitVec.ofNat 512 (leNat bs % 2 ^ 32))).advance))) ∧
  (∀ (s : State) (c : CoreId) (w : W32) (a : Nat) (i : Instr) (op : CoreOp) (n v : Nat),
    (let k := s.core c.val
     ((i, op, v) = (Instr.nearStore c w, CoreOp.nearStore, (k.rg (fd w)).toNat) ∧
       (major w, n) ∈ [(0x17, 1), (0x18, 2), (0x19, 4), (0x1A, 8)]) ∨
     ((i, op, v) = (Instr.stf c w, CoreOp.stf, (k.rf (fd w)).toNat) ∧ n = 4)) → atInstr s op c w →
    (let ea := ((s.core c.val).rg (fa w) + (w.setWidth 16).signExtend 64).toNat
     nearView s c ea a → ea % n = 0 →
     exec i s = .next ((s.store a ((List.range n).map (fun j => BitVec.ofNat 8 (v / 256 ^ j)))).setCore c.val
       (s.core c.val).advance))) ∧
  (∀ (s : State) (c : CoreId) (w : W32) (i : Instr) (op : CoreOp), atInstr s op c w →
    (i, op) ∈ [(Instr.nearLoad c w, CoreOp.nearLoad), (.nearStore c w, .nearStore), (.ldf c w, .ldf), (.stf c w, .stf)] →
    (let ea := ((s.core c.val).rg (fa w) + (w.setWidth 16).signExtend 64).toNat
     ((¬ ∃ a, nearView s c ea a) → exec i s = .next (s.progFault c.val 0x03 0 (BitVec.ofNat 64 ea))) ∧
     (∀ a n, nearView s c ea a → (major w, n) ∈ [(0x12, 2), (0x13, 2), (0x14, 4), (0x15, 4), (0x16, 8), (0x18, 2), (0x19, 4),
        (0x1A, 8), (0x1B, 4), (0x1C, 4)] → ea % n ≠ 0 →
       exec i s = .next (s.progFault c.val 0x02 0 (BitVec.ofNat 64 ea))))) ∧
  (∀ (s s' : State) (c : CoreId) (w : W32) (a : Nat) (bs : List Byte) (n : Nat) (signed : Bool),
    (func w, n, signed) ∈ [(0, 1, true), (1, 2, true), (2, 4, true), (3, 8, true), (4, 1, false), (5, 2, false),
      (6, 4, false)] → atInstr s .globalLoad c w → fb w = 0 →
    globalHere s (s.core c.val) ((s.core c.val).rg (fa w)).toNat n true false a → s.load a n = (s', some bs) →
    exec (.globalLoad c w) s = .next (s'.setCore c.val ((s.core c.val).wg (fd w)
      (if signed then BitVec.ofInt 64 (sext (8 * n) (leNat bs)) else BitVec.ofNat 64 (leNat bs))).advance)) ∧
  (∀ (s : State) (c : CoreId) (w : W32) (a n : Nat), (func w, n) ∈ [(8, 1), (9, 2), (10, 4), (11, 8)] →
    atInstr s .globalStore c w → fd w = 0 →
    globalHere s (s.core c.val) ((s.core c.val).rg (fa w)).toNat n false true a →
    exec (.globalStore c w) s = .next ((s.store a ((List.range n).map (fun j =>
      BitVec.ofNat 8 (((s.core c.val).rg (fb w)).toNat / 256 ^ j)))).setCore c.val (s.core c.val).advance)) ∧
  (∀ (s : State) (c : CoreId) (w : W32) (x e : Nat) (i : Instr) (op : CoreOp) (kind opc : Nat) (n : Nat) (bs : List Byte),
    (let k := s.core c.val
     let p := (k.rg (fa w)).toNat
     let node := p / 2 ^ 51 % 2 ^ 13
     ((i, op, kind, opc, bs) = (Instr.globalLoad c w, CoreOp.globalLoad, 0, Op.load, []) ∧ fb w = 0 ∨
      (i, op, kind, opc, bs) = (Instr.globalStore c w, CoreOp.globalStore, 1, Op.store,
        leBytes (2 ^ n) (k.rg (fb w)).toNat) ∧ fd w = 0) → n = func w % 4 → atInstr s op c w →
     reservedNode node = false → s.isSelf node = false → p % 2 ^ 51 % 2 ^ n = 0 → s.tableCtx k node = some e →
     x = e % 2 ^ 20 → s.ctxUsable x k.jobTag k.jobEpoch node s.spanNo = true →
     (((s.ctx x).canSend = true ∧ (s.ctx x).queue = [] →
       exec i s = .next ((s.ctxRequest x opc n (p % 2 ^ 51) bs (.core c.val)).setCore c.val
        { k with phase := .blocked ⟨x, (s.ctx x).sendSeq, w, kind, BitVec.ofNat 64 p, 0⟩ })) ∧
      ((s.ctx x).canSend = false ∨ (s.ctx x).queue ≠ [] → exec i s = .next (s.setCore c.val k)))))

/-- R129, R359, R416: an atomic of the node's own memory returns the old value in G[rd] and stores what its func computes;
GADD adds 128 bits and saturates, setting CTX.EVENTS.GADD_SAT. -/
def Obligations.Atomics : Prop :=
  (∀ (s s' : State) (c : CoreId) (w : W32) (i : Instr) (op : CoreOp) (a n : Nat) (bs : List Byte),
    (i, op) ∈ [(Instr.atomicInteger c w, CoreOp.atomicInteger), (.cas c w, .cas), (.atomicFadd c w, .atomicFadd)] →
    atInstr s op c w → func w < 32 → func w ≠ 26 → n = (if func w < 16 then 4 else 8) →
    globalHere s (s.core c.val) ((s.core c.val).rg (fa w)).toNat n true true a →
    s.journalNext (s.core c.val) (func w) ((s.core c.val).rg (fa w)).toNat (atomicOperand w (s.core c.val)) = .perform →
    s.load a n = (s', some bs) →
    ∃ (v : Nat) (r : Word), exec i s = .next (((s'.store a (leBytes n v)).journalAdd (s.core c.val) (func w)
          ((s.core c.val).rg (fa w)).toNat (atomicOperand w (s.core c.val)) (leNat bs) none).setCore c.val
        (({ s.core c.val with journalPos := (s.core c.val).journalPos + 1 } : Core).wg (fd w) r).advance) ∧
      r = (if func w = 1 ∨ func w = 2 then (BitVec.ofNat 32 (leNat bs)).signExtend 64 else BitVec.ofNat 64 (leNat bs)) ∧
      (let old := leNat bs
       let b := ((s.core c.val).rg (fb w)).toNat % 2 ^ (8 * n)
       let d := ((s.core c.val).rg (fd w)).toNat % 2 ^ (8 * n)
       (func w % 16 = 0 → v = (old + b) % 2 ^ (8 * n)) ∧
       (func w % 16 = 1 → (v = old ∨ v = b) ∧ sext (8 * n) v ≤ sext (8 * n) old ∧ sext (8 * n) v ≤ sext (8 * n) b) ∧
       (func w % 16 = 2 → (v = old ∨ v = b) ∧ sext (8 * n) old ≤ sext (8 * n) v ∧ sext (8 * n) b ≤ sext (8 * n) v) ∧
       (func w % 16 = 3 → v = min old b) ∧ (func w % 16 = 4 → v = max old b) ∧
       (func w % 16 = 5 → v = old &&& b) ∧ (func w % 16 = 6 → v = old ||| b) ∧ (func w % 16 = 7 → v = old ^^^ b) ∧
       (func w % 16 = 8 → v = b) ∧ (func w % 16 = 9 → v = if old = d then b else old) ∧
       (func w % 16 = 10 → v = (f32Fmt.add 0 old b).1))) ∧
  (∀ (s s' : State) (c : CoreId) (w : W32) (a : Nat) (bs : List Byte), atInstr s .gadd c w → func w = 27 →
    fb w % 2 = 0 → fd w % 2 = 0 →
    globalHere s (s.core c.val) ((s.core c.val).rg (fa w)).toNat 16 true true a →
    (let k := s.core c.val
     let p := (k.rg (fa w)).toNat
     let x := (k.rg (fb w)).toNat + (k.rg (fb w + 1)).toNat * 2 ^ 64
     let sum := (BitVec.ofNat 128 (leNat bs)).toInt + (BitVec.ofNat 128 x).toInt
     let v := if sum < -2 ^ 127 then BitVec.ofInt 128 (-2 ^ 127) else if 2 ^ 127 ≤ sum then BitVec.ofInt 128 (2 ^ 127 - 1)
       else BitVec.ofInt 128 sum
     let t := s'.store a (leBytes 16 v.toNat)
     let u := if sum < -2 ^ 127 ∨ 2 ^ 127 ≤ sum then t.raise .ctxGaddSat else t
     s.journalNext k 27 p x = .perform → s.load a 16 = (s', some bs) →
     exec (.gadd c w) s = .next ((u.journalAdd k 27 p x (leNat bs) none).setCore c.val
       ((({ k with journalPos := k.journalPos + 1 } : Core).wg (fd w) (BitVec.ofNat 64 (leNat bs))).wg (fd w + 1)
         (BitVec.ofNat 64 (leNat bs / 2 ^ 64))).advance))) ∧
  (∀ (s : State) (c : CoreId) (w : W32) (i : Instr) (op : CoreOp),
    (i, op) ∈ [(Instr.atomicInteger c w, CoreOp.atomicInteger), (.cas c w, .cas), (.atomicFadd c w, .atomicFadd),
      (.gadd c w, .gadd)] → atInstr s op c w →
    (32 ≤ func w ∨ func w = 26 ∨ (func w % 16 = 11 ∧ (func w ≠ 27 ∨ fb w % 2 ≠ 0 ∨ fd w % 2 ≠ 0))) →
    exec i s = .next (s.progFault c.val 0x01 0 (w.setWidth 64))) ∧
  (∀ (s : State) (k : Core) (u : UnitRef) (r : UnitRec) (f p x old : Nat), s.runUnit k = some (u, r) →
    (∀ e, r.journal[k.journalPos]? = some e → e.pend = none → s.journalNext k f p x =
      if e.op = f ∧ e.addr = BitVec.ofNat 64 p ∧ e.operand = BitVec.ofNat 128 x then .take e.result.toNat else .mismatch) ∧
    (r.journal.length ≤ k.journalPos → s.journalNext k f p x = .perform) ∧
    (∃ r', (s.journalAdd k f p x old none).runUnit k = some (u, r') ∧
      (r.journal.length < 256 → r' = { r with
        journal := r.journal ++ [⟨f, BitVec.ofNat 64 p, BitVec.ofNat 128 x, BitVec.ofNat 128 old, none⟩] }) ∧
      (256 ≤ r.journal.length → r' = { r with unreplayable := true }))) ∧
  (∀ (s : State) (c : CoreId) (w : W32) (i : Instr) (op : CoreOp) (a n old : Nat),
    (i, op) ∈ [(Instr.atomicInteger c w, CoreOp.atomicInteger), (.cas c w, .cas)] → atInstr s op c w → func w < 32 →
    n = (if func w < 16 then 4 else 8) →
    globalHere s (s.core c.val) ((s.core c.val).rg (fa w)).toNat n true true a →
    s.journalNext (s.core c.val) (func w) ((s.core c.val).rg (fa w)).toNat (atomicOperand w (s.core c.val)) = .take old →
    exec i s = .next (s.setCore c.val (({ s.core c.val with journalPos := (s.core c.val).journalPos + 1 } : Core).wg (fd w)
      (if func w = 1 ∨ func w = 2 then (BitVec.ofNat 32 old).signExtend 64 else BitVec.ofNat 64 old)).advance))

/-! ## Vectors (chapter 5) -/

/-- What R146 gives each func on lanes of b bits. -/
def Sys2Proof.Claims.intLaneTable (b x y : Nat) : List (Nat × Nat) :=
  [(0, (x + y) % 2 ^ b), (1, ((x : Int) - y) % (2 ^ b : Nat) |>.toNat), (2, x * y % 2 ^ b),
   (3, (sext b x * sext b y / (2 ^ b : Nat)) % (2 ^ b : Nat) |>.toNat), (4, x * y / 2 ^ b),
   (5, if sext b x ≤ sext b y then x else y), (6, if sext b x ≤ sext b y then y else x), (7, min x y), (8, max x y),
   (9, x &&& y), (10, x ||| y), (11, x ^^^ y), (12, x * 2 ^ (y % b) % 2 ^ b), (13, x / 2 ^ (y % b)),
   (14, (sext b x / (2 ^ (y % b) : Nat)) % (2 ^ b : Nat) |>.toNat), (15, max x y - min x y)]

/-- Lane i of w bytes of a vector operand at Fv of R registers (R140, R143). -/
def Sys2Proof.Claims.lane (k : Core) (word : W32) (v w i : Nat) : Nat := laneOf (k.vget v (vR word k)) w i

/-- Lane i of w bytes of an instruction is active (R143): the bit of P[pg] at its first byte is 1. -/
def Sys2Proof.Claims.laneActive (k : Core) (word : W32) (w i : Nat) : Bool := (k.rp (vpg word)).getLsbD (i * w)

/-- R140, R143, R144: what a vector instruction writes. An active lane takes its result, an inactive one keeps its
contents or becomes 0 with Z, the lanes of a long destination beyond VL and every other register keep theirs, bits 511:128
of a short destination become 0; a predicate result is 0 where a lane is not active or not within VL. R146, R147, R150 to
R153: the results of the lane instructions. Lane i of the result is a function of lane i of the operands (of the widths
R150 names where they differ), and FP32 lanes add their flags to CSR.FFLAGS when active. -/
def Obligations.VectorLaneInstructions : Prop :=
  ((∀ (k : Core) (w : W32) (v wd n : Nat) (on : List Bool) (res : List Nat), wd ∈ [1, 2, 4, 8] → on.length = n →
    n * wd ≤ vBytes w k → vBytes w k ≤ 64 * vR w k →
    (let t := k.wlanes w v wd on res
     (∀ i < n, (t.vget v (vR w k) >>> (8 * wd * i)) % 2 ^ (8 * wd) =
       if nth false on i then nth 0 res i % 2 ^ (8 * wd) else if vz w then 0 else lane k w v wd i) ∧
     (vsh w = false → ∀ i, n ≤ i → (i + 1) * wd ≤ 64 * vR w k → lane t w v wd i = lane k w v wd i) ∧
     (vsh w = true → (t.rf v).toNat < 2 ^ (8 * wd * n)) ∧
     (∀ x, x < v ∨ v + vR w k ≤ x → t.rf x = k.rf x) ∧ { t with f := k.f } = k)) ∧
  (∀ (wd n b : Nat) (on res : List Bool), 0 < wd → n * wd ≤ 256 → on.length = n → res.length = n → b < 256 →
    (predOf wd on res).getLsbD b = (decide (b / wd < n) && nth false on (b / wd) && nth false res (b / wd))) ∧
  (∀ (k : Core) (n r x : Nat), 0 < r → n + r ≤ 32 → x < 2 ^ (512 * r) → (k.vput n r x).vget n r = x)) ∧
  ((∀ (s : State) (c : CoreId) (w : W32), atInstr s .vectorInteger c w →
    (let k := s.core c.val
     let r := vR w k
     let n := vBytes w k / vwidth w
     fd w % r = 0 → fa w % r = 0 → fb w % r = 0 → fd w + r ≤ 32 → fa w + r ≤ 32 → fb w + r ≤ 32 →
     ∃ res : List Nat, exec (.vectorInteger c w) s = .next (s.setCore c.val (k.wlanes w (fd w) (vwidth w)
         ((List.range n).map (laneActive k w (vwidth w))) res).advance) ∧
       ∀ i < n, (vfunc w, nth 0 res i) ∈ intLaneTable (8 * vwidth w) (lane k w (fa w) (vwidth w) i) (lane k w (fb w) (vwidth w) i))) ∧
  (∀ (s : State) (c : CoreId) (w : W32) (i : Instr) (op : CoreOp) (f : Nat → Nat → Nat → Nat × FFlags),
    ((i, op) = (Instr.vectorFp32 c w, CoreOp.vectorFp32) ∧ f = vfpOp (vfunc w) (s.core c.val).frm ∧
      (vfunc w = 4 ∨ 9 ≤ vfunc w → fb w = 0)) ∨
    ((i, op) = (Instr.vectorDot c w, CoreOp.vectorDot) ∧ f = dotOp (vfunc w)) → atInstr s op c w → vew w = 2 →
    (let k := s.core c.val
     let r := vR w k
     let n := vBytes w k / 4
     fd w % r = 0 → fa w % r = 0 → fb w % r = 0 → fd w + r ≤ 32 → fa w + r ≤ 32 → fb w + r ≤ 32 →
     ∃ (res : List Nat) (fl : FFlags), exec i s = .next (s.setCore c.val ((k.wlanes w (fd w) 4
         ((List.range n).map (laneActive k w 4)) res).accrue fl).advance) ∧
       (∀ j < n, nth 0 res j = (f (lane k w (fa w) 4 j) (lane k w (fb w) 4 j) (lane k w (fd w) 4 j)).1) ∧
       (∀ g ∈ [FFlags.nv, FFlags.dz, FFlags.of, FFlags.uf, FFlags.nx], g fl = true ↔
         ∃ j < n, laneActive k w 4 j = true ∧
           g (f (lane k w (fa w) 4 j) (lane k w (fb w) 4 j) (lane k w (fd w) 4 j)).2 = true))) ∧
  (∀ (s : State) (c : CoreId) (w : W32), atInstr s .vectorWidening c w → vew w < 2 →
    (let k := s.core c.val
     let r := vR w k
     let wd := vwidth w
     let n := vBytes w k / (2 * wd)
     fd w % r = 0 → fa w % r = 0 → fb w % r = 0 → fd w + r ≤ 32 → fa w + r ≤ 32 → fb w + r ≤ 32 →
     ∃ res : List Nat, exec (.vectorWidening c w) s = .next (s.setCore c.val (k.wlanes w (fd w) (2 * wd)
         ((List.range n).map (laneActive k w (2 * wd))) res).advance) ∧
       ∀ i < n, (let a := lane k w (fa w) wd (if vfunc w % 2 = 1 then n + i else i)
         let b := lane k w (fb w) wd (if vfunc w % 2 = 1 then n + i else i)
         let p := sext (8 * wd) a * sext (8 * wd) b
         (vfunc w ≤ 1 → sext (16 * wd) (nth 0 res i) = p) ∧ (2 ≤ vfunc w → vfunc w ≤ 3 → nth 0 res i = a * b) ∧
         (4 ≤ vfunc w → (nth 0 res i : Int) = (lane k w (fd w) (2 * wd) i + p) % (2 ^ (16 * wd) : Nat))))) ∧
  (∀ (a b d : Nat), d < 2 ^ 32 →
    (∃ v, dotOp 6 a b d = (v, {}) ∧ (v : Int) = (d + (sext 8 (a % 256) * sext 8 (b % 256) +
      sext 8 (a / 2 ^ 8 % 256) * sext 8 (b / 2 ^ 8 % 256) + sext 8 (a / 2 ^ 16 % 256) * sext 8 (b / 2 ^ 16 % 256) +
      sext 8 (a / 2 ^ 24 % 256) * sext 8 (b / 2 ^ 24 % 256))) % 2 ^ 32) ∧
    dotOp 7 a b d = ((d + (a % 256 * (b % 256) + a / 2 ^ 8 % 256 * (b / 2 ^ 8 % 256) + a / 2 ^ 16 % 256 * (b / 2 ^ 16 % 256) +
      a / 2 ^ 24 % 256 * (b / 2 ^ 24 % 256))) % 2 ^ 32, {}) ∧
    (∀ fn ∈ [9, 10, 11, 12], (f32Fmt.decode d).isNan = true → (dotOp fn a b d).1 = 0x7FC00000)) ∧
  (∀ (s : State) (c : CoreId) (w : W32), atInstr s .fp32Pair c w → vew w = 2 → (6 ≤ vfunc w → fb w = 0) →
    (let k := s.core c.val
     let r := vR w k
     let n := vBytes w k / 4
     let fn := vfunc w
     (∀ p ∈ [(fd w, decide (fn ≠ 8)), (fa w, pairA fn), (fb w, pairB fn)],
       p.1 % (if p.2 then 2 * r else r) = 0 ∧ p.1 + (if p.2 then 2 * r else r) ≤ 32) →
     ∃ (his los : List Nat) (fl : FFlags),
       exec (.fp32Pair c w) s = .next (s.setCore c.val
         ((if fn = 8 then k.wlanes w (fd w) 4 ((List.range n).map (laneActive k w 4)) his
           else (k.wlanes w (fd w) 4 ((List.range n).map (laneActive k w 4)) his).wlanes w (fd w + r) 4
             ((List.range n).map (laneActive k w 4)) los).accrue fl).advance) ∧
       fl.dz = false ∧ fl.uf = false ∧ fl.nx = false ∧
       ∀ i < n, (nth 0 his i, nth 0 los i) =
         (let x := pairOp fn (lane k w (fa w) 4 i, if pairA fn then lane k w (fa w + r) 4 i else 0)
            (lane k w (fb w) 4 i, if pairB fn then lane k w (fb w + r) 4 i else 0)
            (lane k w (fd w) 4 i, if fn = 5 then lane k w (fd w + r) 4 i else 0)
          (x.1, x.2.1)))) ∧
  (∀ (fn : Nat) (a b d : Nat × Nat), fn ≤ 7 →
    (let x := pairOp fn a b d
     ((f32Fmt.decode x.1).isNan = true ∨ (f32Fmt.decode x.1).isInf = true → x.2.1 = 0) ∧
     x.2.2.dz = false ∧ x.2.2.uf = false ∧ x.2.2.nx = false)))

/-- A tree sum as R149 draws it: level 0 is the lanes, and each level adds neighbours. -/
def Sys2Proof.Claims.treeAt (frm : Nat) (x : Nat → Nat) : Nat → Nat → Nat
  | 0, i => x i
  | l + 1, i => (f32Fmt.add frm (treeAt frm x l (2 * i)) (treeAt frm x l (2 * i + 1))).1

/-- R141, R148, R149, R163: compares, moves and reductions, and CSR.VL. -/
def Obligations.VectorMovesAndReductions : Prop :=
  (∀ (s : State) (c : CoreId) (w : W32), atInstr s .vectorCompare c w → fd w < 8 → vz w = false → (6 ≤ vfunc w → vew w = 2) →
    (let k := s.core c.val
     let r := vR w k
     let wd := vwidth w
     let n := vBytes w k / wd
     fa w % r = 0 → fb w % r = 0 → fa w + r ≤ 32 → fb w + r ≤ 32 →
     ∃ (res : List Bool) (fl : FFlags), exec (.vectorCompare c w) s = .next (s.setCore c.val
         ((k.wp (fd w) (predOf wd ((List.range n).map (laneActive k w wd)) res)).accrue fl).advance) ∧ res.length = n ∧
       ∀ i < n, (let a := lane k w (fa w) wd i
         let b := lane k w (fb w) wd i
         (6 ≤ vfunc w → nth false res i = (f32Fmt.compare (vfunc w - 6) a b).1) ∧
         (vfunc w < 6 → fl = {} ∧ (vfunc w, nth false res i) ∈ [(0, decide (a = b)), (1, decide (a ≠ b)),
           (2, decide (sext (8 * wd) a < sext (8 * wd) b)), (3, decide (sext (8 * wd) b ≤ sext (8 * wd) a)),
           (4, decide (a < b)), (5, decide (b ≤ a))])))) ∧
  (∀ (s : State) (c : CoreId) (w : W32) (i : Instr) (op : CoreOp),
    (i, op) ∈ [(Instr.vsplat c w, CoreOp.vsplat), (.vmov c w, .vmov)] → atInstr s op c w → fb w = 0 →
    (let k := s.core c.val
     let r := vR w k
     let n := vBytes w k / vwidth w
     fd w % r = 0 → fd w + r ≤ 32 → (op = .vmov → fa w % r = 0 ∧ fa w + r ≤ 32) →
     ∃ res : List Nat, exec i s = .next (s.setCore c.val (k.wlanes w (fd w) (vwidth w)
         ((List.range n).map (laneActive k w (vwidth w))) res).advance) ∧
       ∀ j < n, nth 0 res j = if op = .vsplat then (k.rg (fa w)).toNat % 2 ^ (8 * vwidth w) else lane k w (fa w) (vwidth w) j)) ∧
  (∀ (s : State) (c : CoreId) (w : W32) (i : Instr) (op : CoreOp) (v : Word),
    (let k := s.core c.val
     let wd := vwidth w
     let n := vBytes w k / wd
     let on := (List.range n).filter (laneActive k w wd)
     fa w % vR w k = 0 → fa w + vR w k ≤ 32 → vz w = false →
     ((i, op, v) = (Instr.vext c w, CoreOp.vext, if (k.rg (fb w)).toNat % 256 < n then
         BitVec.ofNat 64 (lane k w (fa w) wd ((k.rg (fb w)).toNat % 256)) else 0) ∧ vpg w = 0) ∨
     ((i, op, v) = (Instr.vredsum c w, CoreOp.vredsum,
         (on.map (fun j => BitVec.ofInt 64 (sext (8 * wd) (lane k w (fa w) wd j)))).foldr (· + ·) 0) ∧ fb w = 0) ∨
     ((i, op) = (Instr.vredmax c w, CoreOp.vredmax) ∧ fb w = 0 ∧
       (∀ j ∈ on, sext (8 * wd) (lane k w (fa w) wd j) ≤ v.toInt) ∧
       (on ≠ [] → ∃ j ∈ on, v.toInt = sext (8 * wd) (lane k w (fa w) wd j)) ∧
       (on = [] → v.toInt = -(2 ^ (8 * wd - 1) : Nat))) →
     atInstr s op c w → exec i s = .next (s.setCore c.val (k.wg (fd w) v).advance))) ∧
  (∀ (s : State) (c : CoreId) (w : W32), atInstr s .vredfsum c w → vew w = 2 → fb w = 0 → vz w = false →
    (let k := s.core c.val
     let n := vBytes w k / 4
     fa w % vR w k = 0 → fa w + vR w k ≤ 32 →
     ∀ l, n ≤ 2 ^ l → (∀ m, n ≤ 2 ^ m → l ≤ m) →
     ∃ fl : FFlags, exec (.vredfsum c w) s = .next (s.setCore c.val ((k.wf (fd w) (BitVec.ofNat 512
       (treeAt k.frm (fun i => if i < n ∧ laneActive k w 4 i = true then lane k w (fa w) 4 i else 0) l 0 % 2 ^ 32))).accrue fl).advance))) ∧
  (∀ (s : State) (c : CoreId) (w : W32), atInstr s .vredfmax c w → vew w = 2 → fb w = 0 → vz w = false →
    (let k := s.core c.val
     let n := vBytes w k / 4
     let on := (List.range n).filter (laneActive k w 4)
     fa w % vR w k = 0 → fa w + vR w k ≤ 32 →
     ∃ (v : Nat) (fl : FFlags), exec (.vredfmax c w) s = .next (s.setCore c.val
         ((k.wf (fd w) (BitVec.ofNat 512 v)).accrue fl).advance) ∧
       (on = [] → v = 0xFF800000 ∧ fl = {}) ∧
       (on ≠ [] → (∀ j ∈ on, (f32Fmt.decode (lane k w (fa w) 4 j)).isNan = false) → ∃ j ∈ on, v = lane k w (fa w) 4 j))) ∧
  (∀ (s : State) (c : CoreId) (w : W32), atInstr s .vsetvl c w → fb w ≤ 2 → vsh w = false → vz w = false → vpg w = 0 →
    (let k := s.core c.val
     let n := min (k.rg (fa w)).toNat (64 * 2 ^ fb w / vwidth w)
     exec (.vsetvl c w) s = .next (s.setCore c.val (({ k with
       csrs := { k.csrs with vlGroup := BitVec.ofNat 2 (fb w), vlBytes := n * vwidth w } } : Core).wg (fd w)
         (BitVec.ofNat 64 n)).advance))) ∧
  (∀ (k : Core) (now v : Word), (k.csrs.vlGroup.toNat < 3) →
    ∃ k', k.csrWrite 0x008 v = some k' ∧
      (let g := if (v.toNat / 2 ^ 10) % 4 = 3 then k.csrs.vlGroup.toNat else (v.toNat / 2 ^ 10) % 4
       k'.csr now 0x00A = some (BitVec.ofNat 64 (64 * 2 ^ g)) ∧
       k'.csr now 0x008 = some (BitVec.ofNat 64 (g * 2 ^ 10 + min (v.toNat % 2 ^ 9 / 4 * 4) (64 * 2 ^ g)))))

/-- The rows of the element-ordered loads and stores (R156). -/
def Sys2Proof.Claims.vmLoads (c : CoreId) (w : W32) : List (Instr × CoreOp) :=
  [(.vld c w, .vld), (.vlds c w, .vlds), (.vldbc c w, .vldbc), (.vgather c w, .vgather), (.vldStructure c w, .vldStructure),
   (.vldD2p c w, .vldD2p)]
def Sys2Proof.Claims.vmStores (c : CoreId) (w : W32) : List (Instr × CoreOp) :=
  [(.vst c w, .vst), (.vsts c w, .vsts), (.vscatter c w, .vscatter), (.vstStructure c w, .vstStructure),
   (.vstP2d c w, .vstP2d)]

/-- Lanes within VL of an element-ordered instruction (R143, R154), and the width at which its lanes lie. -/
def Sys2Proof.Claims.vmLanes (k : Core) (w : W32) : Nat := vBytes w k / vmLane w

/-- Byte offset of field j of element e from the base, as R154, R156, R157 and R158 give it. -/
def Sys2Proof.Claims.vmPlace (k : Core) (w : W32) (e j : Nat) (z : Int) : Prop :=
  (major w = 0x2D → (vmop w ≤ 1 → z = e * vwidth w) ∧ (vmop w = 2 ∨ vmop w = 3 → z = e * (k.rg (fb w)).toInt) ∧
    (vmop w = 4 → z = 0) ∧ (5 ≤ vmop w → z = laneOf (k.vget (fb w) (vR w k)) 4 e)) ∧
  (major w = 0x2E → (vmop w ≤ 5 → z = (e * vmFields w + j) * vwidth w) ∧ (6 ≤ vmop w → z = e * 8))

/-- A word, core and state in which an element-ordered instruction meets no word with an error, no frozen page and no line
that the host holds, has a legal CSR.VL, starts at no element part way through, and, for a gather, does not overwrite its own indices. -/
def Sys2Proof.Claims.vmCalm (s : State) (k : Core) (w : W32) : Prop :=
  vmOk w k = true ∧ vBytes w k ≤ 64 * vR w k ∧ k.vbuf = [] ∧ s.errs = [] ∧ s.pages = [] ∧ s.hostPort.snoop = [] ∧
  (major w = 0x2D → vmop w = 5 → fb w + vR w k ≤ fd w ∨ fd w + vR w k ≤ fb w)

/-- R154 to R161: an element-ordered load. Every active element from CSR.VSTART on that its address lets it reach lands in
its lane, in ascending order; inactive lanes keep their contents or become 0 with Z; elements before CSR.VSTART keep
theirs. At the end CSR.VSTART is 0. An element that faults is recorded in CSR.VSTART with its address, the elements before
it done and the later ones not. R154, R156 to R159: an element-ordered store writes the lanes of its active elements from
CSR.VSTART on, in ascending order, each at its own address, and leaves the core's registers but CSR.VSTART and the PC. -/
def Obligations.ElementOrderedAccesses : Prop :=
  ((∀ (s : State) (c : CoreId) (w : W32) (i : Instr) (op : CoreOp) (a : Nat → Nat → Nat), (i, op) ∈ vmLoads c w →
    atInstr s op c w → vmCalm s (s.core c.val) w →
    (let k := s.core c.val
     let n := vmLanes k w
     let on := fun e => laneActive k w (vmLane w) e
     (∀ e < n, k.csrs.vstart.toNat ≤ e → on e = true → ∀ j < vmFields w, ∃ ad, s.vmTarget c.val k w e j = (s, .local_ (a e j), ad)) →
     ∃ k' : Core, exec i s = .next (s.setCore c.val k'.advance) ∧ k'.csrs.vstart = 0 ∧ k'.pc = k.pc ∧ k'.g = k.g ∧ k'.p = k.p ∧
       (op ≠ .vldD2p → k'.csrs = { k.csrs with vstart := 0 } ∧ ∀ e < n, ∀ j < vmFields w,
         lane k' w (fd w + j * vR w k) (vwidth w) e =
           if e < k.csrs.vstart.toNat then lane k w (fd w + j * vR w k) (vwidth w) e
           else if on e then leNat (memRead s.view (a e j) (vwidth w))
           else if vz w then 0 else lane k w (fd w + j * vR w k) (vwidth w) e) ∧
       (op = .vldD2p → ∀ e < n, k.csrs.vstart.toNat ≤ e → on e = true →
         (let x := d2p (leNat (memRead s.view (a e 0) 8))
          lane k' w (fd w) 4 e = x.1 % 2 ^ 32 ∧ lane k' w (fd w + vR w k) 4 e = x.2.1 % 2 ^ 32 ∧
          k'.csrs.vcvt ||| BitVec.ofNat 4 x.2.2.1.bits = k'.csrs.vcvt)) ∧
       (vsh w = true → ∀ j < (if op = .vldD2p then 2 else vmFields w), (k'.rf (fd w + j)).toNat < 2 ^ 128))) ∧
  (∀ (s : State) (c : CoreId) (w : W32) (i : Instr) (op : CoreOp) (a : Nat → Nat → Nat) (m code ad : Nat),
    (i, op) ∈ vmLoads c w → op ≠ .vldbc → atInstr s op c w → vmCalm s (s.core c.val) w →
    (let k := s.core c.val
     let n := vmLanes k w
     let on := fun e => laneActive k w (vmLane w) e
     (∀ e < m, k.csrs.vstart.toNat ≤ e → on e = true → ∀ j < vmFields w, ∃ x, s.vmTarget c.val k w e j = (s, .local_ (a e j), x)) →
     k.csrs.vstart.toNat ≤ m → m < n → on m = true → s.vmTarget c.val k w m 0 = (s, .fault code, ad) →
     ∃ k' : Core, exec i s = .next ((s.setCore c.val k').progFault c.val code 0 (BitVec.ofNat 64 ad)) ∧
       k'.csrs.vstart = BitVec.ofNat 8 m ∧ k'.pc = k.pc ∧ k'.g = k.g ∧ k'.p = k.p ∧
       (op ≠ .vldD2p → ∀ e < n, ∀ j < vmFields w, lane k' w (fd w + j * vR w k) (vwidth w) e =
         if k.csrs.vstart.toNat ≤ e ∧ e < m then
           if on e then leNat (memRead s.view (a e j) (vwidth w))
           else if vz w then 0 else lane k w (fd w + j * vR w k) (vwidth w) e
         else lane k w (fd w + j * vR w k) (vwidth w) e))) ∧
  (∀ (s s' : State) (c : Nat) (k : Core) (w : W32) (e j : Nat) (t : Target) (ad : Nat), vgl w = false →
    s.vmTarget c k w e j = (s', t, ad) → s' = s ∧ ∃ z, vmPlace k w e j z ∧
      ((ad : Int) = ((k.rg (fa w)).toNat + z) % (2 ^ 64 : Nat)) ∧ t = s.nearTarget c k ad (vmBytes w)) ∧
  (∀ (s s' : State) (c : Nat) (k : Core) (w : W32) (e j : Nat) (t : Target) (ad : Nat), vgl w = true →
    s.vmTarget c k w e j = (s', t, ad) → ∃ z, vmPlace k w e j z ∧
      (let sum := ((k.rg (fa w)).toNat % 2 ^ 51 : Nat) + z
       (sum < 0 ∨ (2 ^ 51 : Nat) ≤ sum → s' = s ∧ t = .fault 0x03) ∧
       (0 ≤ sum → sum < (2 ^ 51 : Nat) → (ad : Int) = (k.rg (fa w)).toNat + z ∧
         (s', t) = s.globalTarget k ad (vmBytes w) (!vmStore w) (vmStore w))))) ∧
  ((∀ (s : State) (c : CoreId) (w : W32) (i : Instr) (op : CoreOp) (a : Nat → Nat → Nat), (i, op) ∈ vmStores c w →
    atInstr s op c w → vmCalm s (s.core c.val) w →
    (let k := s.core c.val
     let n := vmLanes k w
     let els := (List.range n).filter (fun e => decide (k.csrs.vstart.toNat ≤ e) && laneActive k w (vmLane w) e)
     (∀ e ∈ els, ∀ j < vmFields w, ∃ ad, s.vmTarget c.val k w e j = (s, .local_ (a e j), ad)) →
     (let writes := els.flatMap (fun e => (List.range (vmFields w)).map (fun j =>
        (a e j, leBytes (vmBytes w) (if op = .vstP2d then p2d (lane k w (fd w) 4 e) (lane k w (fd w + vR w k) 4 e)
          else lane k w (fd w + j * vR w k) (vwidth w) e))))
      exec i s = .next (({ s with mem := writes.foldl (fun m x => memWrite m x.1 x.2) s.mem } : State).setCore c.val
        ({ k with csrs := { k.csrs with vstart := 0 } } : Core).advance)))) ∧
  (∀ (s : State) (c : CoreId) (w : W32) (i : Instr) (op : CoreOp) (a : Nat → Nat → Nat) (m code ad : Nat),
    (i, op) ∈ vmStores c w → op ≠ .vstStructure → atInstr s op c w → vmCalm s (s.core c.val) w →
    (let k := s.core c.val
     let n := vmLanes k w
     let els := (List.range m).filter (fun e => decide (k.csrs.vstart.toNat ≤ e) && laneActive k w (vmLane w) e)
     (∀ e ∈ els, ∃ x, s.vmTarget c.val k w e 0 = (s, .local_ (a e 0), x)) →
     k.csrs.vstart.toNat ≤ m → m < n → laneActive k w (vmLane w) m = true → s.vmTarget c.val k w m 0 = (s, .fault code, ad) →
     (let writes := els.map (fun e => (a e 0, leBytes (vmBytes w)
        (if op = .vstP2d then p2d (lane k w (fd w) 4 e) (lane k w (fd w + vR w k) 4 e) else lane k w (fd w) (vwidth w) e)))
      exec i s = .next ((({ s with mem := writes.foldl (fun m x => memWrite m x.1 x.2) s.mem } : State).setCore c.val
        { k with csrs := { k.csrs with vstart := BitVec.ofNat 8 m } }).progFault c.val code 0 (BitVec.ofNat 64 ad))))))

/-! ## Formats (chapter 6) -/

/-- R166, R169 to R174, R178, R183: encoding the value of a code gives the code again, in every format, in both modes and
under both roundings: no bit of an encoding is dropped, a value on the grid is never moved, and no event but CONVERTED
(and INF_IN for an infinity that the format has) is counted. -/
def Obligations.FormatsRoundTrip : Prop :=
  ∀ (f c : Nat) (strict mx : Bool) (u : Option Nat), f ≤ 10 → c < 2 ^ fmtBits f → (∀ x, u = some x → x < 2 ^ 32) →
    (∀ (n : Bool) (m : Nat) (e : Int), decodeElem f mx c = .fin n m e →
      encodeElem f strict mx u (decodeElem f mx c) = (c, { converted := 1 })) ∧
    (∀ n : Bool, decodeElem f mx c = .inf n → encodeElem f strict mx u (.inf n) = (c, { converted := 1, inf := 1 })) ∧
    ((decodeElem f mx c).isNan = true → 6 ≤ f ∧ encodeElem f strict mx u (decodeElem f mx c) = (fmtNan f, { converted := 1, nan := 1 }) ∧
      (decodeElem f mx (fmtNan f)).isNan = true)

/-- R168, R178, R179, R181 to R183: which format words are valid; a conversion rounds to the nearest point of the grid, a
tie to the even one, or stochastically up for exactly F of the 2^32 random words; what lies beyond the format saturates or
becomes special as the mode says; and the scale of an MX block, which is 0xFF where an element is a NaN. -/
def Obligations.ConversionRounds : Prop :=
  (∀ (m : Nat) (e q : Int), e < q →
    (let d := 2 ^ (q - e).toNat
     (let r := gridRound none m e q
      2 * r * d ≤ 2 * m + d ∧ 2 * m ≤ 2 * r * d + d ∧ (2 * r * d = 2 * m + d ∨ 2 * m = 2 * r * d + d → r % 2 = 0)) ∧
     (∀ u < 2 ^ 32, gridRound (some u) m e q = if 2 ^ 32 - m % d * 2 ^ 32 / d ≤ u then m / d + 1 else m / d))) ∧
  (∀ (f m : Nat) (n strict : Bool) (e : Int) (u : Option Nat), 3 ≤ f → f ≤ 10 → m ≠ 0 →
    (let (_, mb, bias) := fmtShape f
     let r := gridRound u m e (max ((log2 m : Int) + e - mb) (1 - bias - mb))
     let c := fmtCode f r (max ((log2 m : Int) + e - mb) (1 - bias - mb))
     let sign := if n then 2 ^ (fmtBits f - 1) else 0
     encodeElem f strict false u (.fin n m e) =
       if r = 0 then (sign, { converted := 1, under := 1 })
       else if c ≤ fmtMax f then (sign + c, { converted := 1 })
       else if f = 10 ∨ (7 ≤ f ∧ strict = true) then (sign + fmtInf f, { converted := 1, ovf := 1 })
       else if f = 6 ∧ strict = true then (0x7F, { converted := 1, ovf := 1 })
       else (sign + fmtMax f, { converted := 1, sat := 1 }))) ∧
  (∀ (strict : Bool) (u : Option Nat) (m : Nat) (neg : Bool) (e : Int),
    (let z : Int := if neg then -(gridRound u m e 0 : Int) else gridRound u m e 0
     encodeElem 0 strict false u (.fin neg m e) =
       if z < -128 then (0x80, { converted := 1, sat := 1 }) else if 127 < z then (0x7F, { converted := 1, sat := 1 })
       else ((BitVec.ofInt 8 z).toNat, { converted := 1, under := if m ≠ 0 ∧ z = 0 then 1 else 0 }))) ∧
  (∀ (w : Nat) (t : Option Int) (us : List (Option Nat)) (xs : List FVal), fwOutOk w = true → fwBlock w ≠ 0 →
    us.length = xs.length →
    (xs.any FVal.isNan = true ∨ (xs.any FVal.isInf = true ∧ fwFmt w ≠ 7 ∧ fwStrict w = true) →
      (encodeBlock w t us xs).1 = 0xFF ∧ (encodeBlock w t us xs).2.1 = xs.map (fun _ => 0) ∧
      (encodeBlock w t us xs).2.2.nanBlocks = 1) ∧
    (∀ l, xs.all (fun x => !x.isNan && !x.isInf) = true → t = none → (∃ x ∈ xs, x.log2? = some l) →
      (∀ x ∈ xs, ∀ l', x.log2? = some l' → l' ≤ l) → -127 ≤ l - fmtEmax (fwFmt w) → l - fmtEmax (fwFmt w) ≤ 127 →
      ((encodeBlock w t us xs).1 : Int) = l - fmtEmax (fwFmt w) + 127) ∧
    ((∀ x ∈ xs, x.log2? = none) → xs.all (fun x => !x.isNan && !x.isInf) = true → t = none → (encodeBlock w t us xs).1 = 127)) ∧
  (∀ w < 2 ^ 16, (fwInOk w = true ↔ w < 2 ^ 9 ∧ w / 2 ^ 7 % 4 < 2 ∧ w / 2 ^ 4 % 8 < 6 ∧ w % 16 < 10 ∧
      (w / 2 ^ 4 % 8 ≠ 0 → w % 16 ∈ [0, 3, 4, 5, 6, 7])) ∧
    (fwOutOk w = true ↔ w < 2 ^ 12 ∧ w / 2 ^ 10 < 2 ∧ w / 2 ^ 7 % 4 = 0 ∧ w / 2 ^ 4 % 8 < 6 ∧ w % 16 ≤ 10 ∧
      (w / 2 ^ 4 % 8 ≠ 0 → w % 16 ∈ [0, 3, 4, 5, 6, 7]) ∧ (w % 16 = 10 → w = 10)))

/-! ## The tensor array (chapter 7) -/

/-- A tensor instruction's word and descriptor pass the checks every one has (R131, R191): the unused fields are 0, G[ga] is
a Pool address aligned to 64 bytes, and the 64 bytes there have the instruction's KIND. -/
def Sys2Proof.Claims.descAt (s : State) (c : CoreId) (w : W32) (kind : Nat) (d : List Byte) : Prop :=
  wf w 3 0 = 0 ∧ (if kind = 2 then wf w 10 6 ≤ 1 else wf w 10 6 = 0 ∧ wf w 5 4 = 0) ∧
  (let a := ((s.core c.val).rg (fd w)).toNat
   a < 0x10000 ∧ a % 64 = 0 ∧ s.load (2 ^ 42 + c.val * 2 ^ 16 + a) 64 = (s, some d) ∧ leAt d 0 1 = kind)

/-- TENSOR of a core with a cause, KIND and FIELD in TA.TERR (R213, R216). -/
def Sys2Proof.Claims.tensorTrap (s : State) (c : CoreId) (cause kind field : Nat) (fa : Word) : State :=
  (s.setReg .taTerr [c.val / 17, c.val % 17] (BitVec.ofNat 64 (cause * 2 ^ 56 + kind * 2 ^ 48 + field))).progFault c.val 0x09 0 fa

/-- R199 to R201, R204: a unit is placed on the grid within half a step, ties to the even integer, and exactly where it
lies on the grid; the sum, state and mark of an element do not depend on how its products are split between streams at
unit boundaries, nor on the order of the streams. -/
def Obligations.GridSumsSplitExactly : Prop :=
  (∀ (e : Elem) (anchor : Int) (ps qs : List Prod), (∀ p ∈ ps, ∀ q ∈ qs, p.unit ≠ q.unit) →
    (addGrid anchor (addGrid anchor e ps).1 qs).1 = (addGrid anchor e (ps ++ qs)).1 ∧
    (addGrid anchor (addGrid anchor e ps).1 qs).1 = (addGrid anchor (addGrid anchor e qs).1 ps).1) ∧
  (∀ (anchor z x : Int), anchor ≤ x → z.natAbs * 2 ^ (x - anchor).toNat ≤ 2 ^ 127 →
    placeGrid anchor z x = (z * 2 ^ (x - anchor).toNat, false)) ∧
  (∀ (anchor z x : Int), x < anchor → z.natAbs ≤ 2 ^ 127 →
    (let d := (2 : Int) ^ (anchor - x).toNat
     let v := (placeGrid anchor z x).1
     (placeGrid anchor z x).2 = false ∧ 2 * (v * d - z).natAbs ≤ d ∧ (2 * (v * d - z).natAbs = d → v % 2 = 0))) ∧
  (∀ (anchor z x : Int), -2 ^ 127 ≤ (placeGrid anchor z x).1 ∧ (placeGrid anchor z x).1 ≤ 2 ^ 127) ∧
  (∀ (anchor : Int) (e : Elem) (u : List Prod), u ≠ [] → (∀ p ∈ u, ∀ q ∈ u, p.unit = q.unit) →
    (let t := (addGrid anchor e u).1
     t.placements = e.placements + 1 ∧ t.fp = e.fp ∧
     ((∃ p ∈ u, p.state ≠ 0) → t.sum = e.sum ∧ t.sat = e.sat ∧
       ∀ i, t.special.getLsbD i = true ↔ e.special.getLsbD i = true ∨ (i < 2 ∧ ∃ p ∈ u, p.state.testBit i = true)) ∧
     ((∀ p ∈ u, p.state = 0) → t.special = e.special))) ∧
  (∀ p : Prod, (p.state = 3 ↔ p.a.isNan = true ∨ p.b.isNan = true ∨ (p.a.isInf = true ∧ p.b.isZero = true) ∨
      (p.b.isInf = true ∧ p.a.isZero = true)) ∧ p.state ≤ 3)

/-- R132, R207 to R209: weight versions. TVACQ and TVREL take and release a reference of the version they name, TVQUERY
reports both, TWLOAD makes a newer version in place of the older of two once that has no reference, and waits until then,
at most for CSR.TWAIT_LIMIT. -/
def Obligations.WeightVersions : Prop :=
  (∀ (s : State) (c : CoreId) (w : W32) (i : Nat) (v : Version), atInstr s .tvacq c w → wf w 3 0 = 0 →
    (let k := s.core c.val
     k.versions[i]? = some v →
     (wf w 5 4 = 0 ∧ i = 0) ∨ (wf w 5 4 = 1 ∧ i + 1 = k.versions.length) ∨
       (wf w 5 4 = 2 ∧ v.number.toNat = (k.rg (fb w)).toNat % 2 ^ 16 ∧
        ∀ j < i, ∀ u, k.versions[j]? = some u → u.number ≠ v.number) →
     (v.refs ≠ 0xFFFF → exec (.tvacq c w) s = .next (s.setCore c.val (({ k with
       versions := k.versions.set i { v with refs := v.refs + 1 } } : Core).wg (fa w) (v.number.setWidth 64)).advance)) ∧
     (v.refs = 0xFFFF → exec (.tvacq c w) s = .next (tensorTrap s c 9 0 0 (w.setWidth 64))))) ∧
  (∀ (s : State) (c : CoreId) (w : W32), atInstr s .tvacq c w → wf w 3 0 = 0 → (s.core c.val).versions = [] →
    exec (.tvacq c w) s = .next (tensorTrap s c 6 0 0 (w.setWidth 64))) ∧
  (∀ (s : State) (c : CoreId) (w : W32) (i : Nat) (v : Version), atInstr s .tvrel c w → wf w 3 0 = 0 → wf w 5 4 = 0 →
    (let k := s.core c.val
     k.versions[i]? = some v → v.number.toNat = (k.rg (fa w)).toNat % 2 ^ 16 →
     (∀ j < i, ∀ u, k.versions[j]? = some u → u.number ≠ v.number) →
     (v.refs ≠ 0 → exec (.tvrel c w) s = .next (s.setCore c.val ({ k with
       versions := k.versions.set i { v with refs := v.refs - 1 } } : Core).advance)) ∧
     (v.refs = 0 → exec (.tvrel c w) s = .next (tensorTrap s c 10 0 0 (w.setWidth 64))))) ∧
  (∀ (s : State) (c : CoreId) (w : W32), atInstr s .tvrel c w → wf w 3 0 = 0 → wf w 5 4 = 0 →
    (∀ v ∈ (s.core c.val).versions, v.number.toNat ≠ ((s.core c.val).rg (fa w)).toNat % 2 ^ 16) →
    exec (.tvrel c w) s = .next (tensorTrap s c 10 0 0 (w.setWidth 64))) ∧
  (∀ (s : State) (c : CoreId) (w : W32) (r : Word), atInstr s .tvquery c w → wf w 3 0 = 0 → wf w 5 4 = 0 →
    (let vs := (s.core c.val).versions
     (vs = [] ∧ r = 0) ∨ (∃ v, vs = [v] ∧ r.toNat = v.number.toNat * 2 ^ 32 + v.number.toNat * 2 ^ 16 + 1) ∨
     (∃ v u, vs = [v, u] ∧ r.toNat = v.number.toNat * 2 ^ 32 + u.number.toNat * 2 ^ 16 + 2)) →
    exec (.tvquery c w) s = .next (s.setCore c.val ((s.core c.val).wg (fa w) r).advance)) ∧
  (∀ (s s' : State) (c : CoreId) (w : W32) (d : List Byte) (v : Version) (start : Nat),
    (let k := s.core c.val
     let t := s'.setCore c.val ({ k with
       phase := .running, versions := { v with number := k.nextVersion } :: k.versions.take 1,
       nextVersion := if k.nextVersion = 0xFFFF then 1 else k.nextVersion + 1 } : Core).advance
     descAt s c w 1 d → s.wdescErr d = none → s.readVersion k.jobTag d = (s', .ok v) →
     (k.versions.length ≤ 1 ∨ ∃ a b, k.versions = [a, b] ∧ b.refs = 0) →
     v.refs = 0 ∧ v.bad = none ∧ v.desc = d ∧
     (atInstr s .twload c w → exec (.twload c w) s = .next t) ∧
     (k.phase = .waitVersion start w → exec (.twloadProceed c) s = .next t))) ∧
  (∀ (s : State) (c : CoreId) (w : W32) (d : List Byte) (a b : Version) (start : Nat),
    (let k := s.core c.val
     k.versions = [a, b] → b.refs ≠ 0 →
     (atInstr s .twload c w → descAt s c w 1 d → s.wdescErr d = none →
       exec (.twload c w) s = .next (s.setCore c.val { k with phase := .waitVersion s.now w })) ∧
     (k.phase = .waitVersion start w → exec (.twloadProceed c) s = .next s ∧
       (k.csrs.twaitLimit ≠ 0 ∧ start + k.csrs.twaitLimit.toNat ≤ s.now →
         exec (.twloadWaitTimeout c) s = .next (tensorTrap s c 11 1 0 (k.rg (fd w)))) ∧
       (k.csrs.twaitLimit = 0 ∨ s.now < start + k.csrs.twaitLimit.toNat → exec (.twloadWaitTimeout c) s = .next s)))) ∧
  (∀ (s : State) (c : CoreId) (w : W32) (i : Instr) (op : CoreOp),
    (i, op) ∈ [(Instr.twload c w, CoreOp.twload), (.treadacc c w, .treadacc), (.tcfg c w, .tcfg)] → atInstr s op c w →
    wf w 3 0 = 0 → wf w 10 6 = 0 → wf w 5 4 = 0 →
    (let a := ((s.core c.val).rg (fd w)).toNat
     ((0x10000 ≤ a ∧ a < 0x100000 ∨ 0x180000 ≤ a ∧ a < 0x1000000 ∨ 0x1800000 ≤ a) →
       exec i s = .next (s.progFault c.val 0x03 0 (BitVec.ofNat 64 a))) ∧
     ((0x100000 ≤ a ∧ a < 0x180000 ∨ 0x1000000 ≤ a ∧ a < 0x1800000 ∨ (a < 0x10000 ∧ a % 64 ≠ 0)) →
       exec i s = .next (tensorTrap s c 1 0 0 (BitVec.ofNat 64 a)))))

/-- The products of one output element of a stream: left row i and right column j, reduction index by reduction index. -/
def Sys2Proof.Claims.products (x : SDesc) (h : Shape) (l r : List FVal) : List Prod :=
  (List.range (min l.length r.length)).map (fun n =>
    { a := nth (.fin false 0 0) l n, b := nth (.fin false 0 0) r n, g := h.base + n, unit := x.unitOf h n })

/-- R189, R190, R196, R202, R207: a stream in weight mode multiplies A by the version that VSEL selects, by rows or by
columns, and one in outer mode X by Y; each output element of a grid tile is added to exactly, one of an FP32 tile is
rounded once, and every other element, tile, register and byte of memory keeps its value. Clearing TA.TFLAGt returns its
indices. R173, R190, R192, R197, R200: TCFG clears the tiles it names and sets their mode and anchor; TREADACC writes the
rows of a tile, RAW as 16-byte integers with state bytes or converted and packed, and leaves the tile's elements. -/
def Obligations.TensorStreamsAndReadout : Prop :=
  ((∀ (s : State) (c : CoreId) (w : W32) (d : List Byte) (i : Nat) (v : Version) (a : List (List FVal)),
    (let k := s.core c.val
     let x := readSDesc d
     let y := readWDesc v.desc
     let cols := decide (wf w 10 6 = 1)
     let h := x.shape cols y
     atInstr s .tstream c w → descAt s c w 2 d → x.outer = false → sdescErr1 x d = none →
     k.selectVersion (wf w 5 4) (k.rg (fb w)).toNat = .ok i → k.versions[i]? = some v → v.reread = false → v.bad = none →
     s.sdescErr2 k x h v.zeros = none →
     s.readOperand k.jobTag x.fa x.srcA x.strA x.scA x.scStrA x.m h.cols (if fwShare x.fa = 0 then h.base else 0)
       (decide (fwShare x.fa = 1)) (if cols then 0 else x.zpa) = (s, .ok a) →
     ∃ (t : State) (k' : Core), exec (.tstream c w) s = .next (t.setCore c.val k'.advance) ∧
       (t, k') = s.streamInto c.val k x h a (if cols then v.values else transposed y.kt y.nt v.values))) ∧
  (∀ (s : State) (c : CoreId) (w : W32) (d : List Byte) (a b : List (List FVal)),
    (let k := s.core c.val
     let x := readSDesc d
     let h : Shape := ⟨x.m, x.kx, x.ny, x.rbase, x.kx, x.fb, false⟩
     atInstr s .tstream c w → descAt s c w 2 d → x.outer = true → wf w 10 6 = 0 → wf w 5 4 = 0 → sdescErr1 x d = none →
     s.sdescErr2 k x h [] = none →
     s.readOperand k.jobTag x.fa x.srcA x.strA x.scA x.scStrA x.m x.kx (if fwShare x.fa = 0 then x.rbase else 0)
       (decide (fwShare x.fa = 0)) 0 = (s, .ok a) →
     s.readOperand k.jobTag x.fb x.srcB x.strB x.scB x.scStrB x.m x.ny (if fwShare x.fb = 0 then x.rbase else 0)
       (decide (fwShare x.fb = 0)) 0 = (s, .ok b) →
     ∃ (t : State) (k' : Core), exec (.tstream c w) s = .next (t.setCore c.val k'.advance) ∧
       (t, k') = s.streamInto c.val k x h (transposed x.m x.kx a) (transposed x.m x.ny b))) ∧
  (∀ (s : State) (c : Nat) (k : Core) (x : SDesc) (h : Shape) (l r : List (List FVal)), h.oi ≤ 32 → h.oj ≤ 32 →
    (let z := s.streamInto c k x h l r
     { z.1 with regs := s.regs } = s ∧ { z.2 with tiles := k.tiles } = k ∧
     (∀ n, n ≠ x.tile → z.2.tile n = k.tile n) ∧
     (z.2.tile x.tile).fp32 = (k.tile x.tile).fp32 ∧ (z.2.tile x.tile).anchor = (k.tile x.tile).anchor ∧
     (∀ i < h.oi, ∀ j < h.oj,
       (let e := mget Elem.zero (k.tile x.tile).elems (32 * i + j)
        let ps := products x h (nth [] l i) (nth [] r j)
        mget Elem.zero (z.2.tile x.tile).elems (32 * i + j) =
          if (k.tile x.tile).fp32 then { e with fp := BitVec.ofNat 32 (sumToF32 (ps.map Prod.value ++ [f32Fmt.decode e.fp.toNat])).1 }
          else (addGrid (k.tile x.tile).anchor e ps).1)) ∧
     (∀ n, n / 32 ≥ h.oi ∨ n % 32 ≥ h.oj →
       mget Elem.zero (z.2.tile x.tile).elems n = mget Elem.zero (k.tile x.tile).elems n) ∧
     (z.2.tile x.tile).firstKblk ≤ (k.tile x.tile).firstKblk ∧ (z.2.tile x.tile).firstElem ≤ (k.tile x.tile).firstElem)) ∧
  (∀ (s : State) (m : Master) (c : CoreId) (t : Fin 4) (v : Word), reaches s m .taTflag [c.val / 17, c.val % 17, t.val] →
    (let old := s.reg .taTflag [c.val / 17, c.val % 17, t.val]
     exec (.taTflagClear m c t v) s = .next (s.setReg .taTflag [c.val / 17, c.val % 17, t.val]
       (if ∀ i < 5, old.getLsbD i = true → v.getLsbD i = true then 0xFFFFFF00FFFF0000 else old &&& ~~~(v &&& 0x1F)))))) ∧
  ((∀ (s : State) (c : CoreId) (w : W32) (d : List Byte), atInstr s .tcfg c w → descAt s c w 4 d → leAt d 1 1 < 16 →
    leAt d 2 2 = 0 → (∀ t < 4, leAt d (4 + 2 * t) 2 / 2 ^ 10 % 2 ^ 5 = 0) → leAt d 16 8 % 32 = 0 →
    allZero (slice d 24 40) = true → (leAt d 16 8 ≠ 0 → s.recordOk (s.core c.val).jobTag (leAt d 16 8) = true) →
    ∃ k' : Core, exec (.tcfg c w) s = .next (s.setCore c.val k'.advance) ∧
      (∀ t < 4, k'.tile t = if (leAt d 1 1).testBit t then { Tile.zero with
          fp32 := (leAt d (4 + 2 * t) 2).testBit 15, anchor := (BitVec.ofNat 10 (leAt d (4 + 2 * t) 2)).toInt }
        else (s.core c.val).tile t) ∧
      k'.stream = BitVec.ofNat 32 (leAt d 12 4) ∧ k'.record = BitVec.ofNat 64 (leAt d 16 8) ∧
      { k' with tiles := (s.core c.val).tiles, stream := (s.core c.val).stream, record := (s.core c.val).record } = s.core c.val) ∧
  (∀ (s : State) (c : CoreId) (w : W32) (d : List Byte),
    (let k := s.core c.val
     let x := readRDesc d
     let t := k.tile x.tile
     let el := fun r c => mget Elem.zero t.elems (32 * r + c)
     let rows := (List.range x.rows).map (fun r => (x.dst + r * x.stride, (List.range x.cols).flatMap (fun c =>
       leBytes 16 (BitVec.ofInt 128 (clampInt (-2 ^ 127) (2 ^ 127 - 1) (el r c).sum)).toNat)))
     let states := (List.range x.rows).map (fun r => (x.aux + 32 * r, (List.range x.cols).map (fun c =>
       BitVec.ofNat 8 ((el r c).special.toNat + if (el r c).sat then 4 else 0))))
     atInstr s .treadacc c w → descAt s c w 3 d → s.rdescErr k x d = none → x.raw = true → x.flagrec = 0 →
     (∀ r < x.rows, ∀ c < x.cols, -2 ^ 127 ≤ (el r c).sum ∧ (el r c).sum < 2 ^ 127) →
     s.writesBad k.jobTag 128 rows = none → s.writesBad k.jobTag 8 states = none → x.track = 0 →
     exec (.treadacc c w) s = .next (((rows ++ states).foldl (fun s p => s.storeOff (ptrOff p.1) p.2) s).setCore c.val
       (k.setTile x.tile t).advance))) ∧
  (∀ (fmt : Nat) (xs : List ConvIn) (u : TrackUpdate), fwBlock fmt = 0 →
    (convRow fmt none u xs).bytes = packRow (fmtBits (fwFmt fmt))
      (xs.map (fun e => (encodeElem (fwFmt fmt) (fwStrict fmt) false e.rnd e.src).1)) ∧ (convRow fmt none u xs).scales = []) ∧
  (∀ (b : Nat) (cs : List Nat), 0 < b → (∀ x ∈ cs, x < 2 ^ b) →
    unpackRow b cs.length (packRow b cs) = cs ∧ (packRow b cs).length = (cs.length * b + 7) / 8 ∧
    leNat (packRow b cs) < 2 ^ (cs.length * b)) ∧
  (∀ (t : Tile) (e : Elem), t.fp32 = false → e.special = 0 → -2 ^ 127 ≤ e.sum → e.sum < 2 ^ 127 →
    t.source e = .fin (decide (e.sum < 0)) e.sum.natAbs t.anchor))

/-! ## Scale tracking (chapter 8) -/

/-- R217, R228 to R232: the QNT commands with their checks passed, and their refusals in order. R221, R223, R224: at a
fence a touched tensor's channels shift their histories and take the largest exponent that keeps hmax × 2^(e + m) at or
below the format's largest code; one not touched keeps everything. The combination of Span-scope records does not depend
on its order. -/
def Obligations.TrackedTensors : Prop :=
  ((∀ (s : State) (q : QueueId) (seq : W32) (c : Started) (j : Nat) (b : JobSlot) (x : Nat), readyJob s 0x0401 q seq c j b →
    (let n := c.arg 3
     let span := tbit (c.arg 1) 7
     let fresh : Nat → Tracked := fun x =>
       { job := j, fmt := BitVec.ofNat 16 (c.arg 2), len := if c.arg 1 % 32 = 0 then 4 else c.arg 1 % 32,
         margin := c.arg 1 / 32 % 4, span := span, firstCh := x, div := c.arg 4, initExp := sext 8 (c.arg 5),
         channels := List.replicate n ⟨[], 0, sext 8 (c.arg 5), .new⟩, touched := false, errSum := 0, errInf := false,
         errCount := 0, sqerrLast := 0, countLast := 0, fences := 0 }
     (b.run ≠ none → exec (.qntSetup q seq) s = .next (s.finishCmd c (.st 0x0443))) ∧
     (b.run = none → mfind s.tracked (c.arg 0) ≠ none → exec (.qntSetup q seq) s = .next (s.finishCmd c (.st 0x0441))) ∧
     (b.run = none → mfind s.tracked (c.arg 0) = none → span = true →
       4096 < (((s.tracked.filter (fun e => e.2.job == j && e.2.span)).map (fun e => e.2.channels.length)).sum + n) →
       exec (.qntSetup q seq) s = .next (s.finishCmd c (.st 0x0444))) ∧
     (b.run = none → mfind s.tracked (c.arg 0) = none →
       (span = true → (((s.tracked.filter (fun e => e.2.job == j && e.2.span)).map (fun e => e.2.channels.length)).sum + n) ≤ 4096) →
       ((s.findChannels n = none → exec (.qntSetup q seq) s = .next (s.finishCmd c (.st 0x0442))) ∧
        (s.findChannels n = some x →
          exec (.qntSetup q seq) s = .next (({ s with tracked := minsert s.tracked (c.arg 0) (fresh x) } : State).finishCmd c (.ok x))))))) ∧
  (∀ (s : State) (n x : Nat), 0 < n →
    (s.findChannels n = some x → x + n ≤ 65536 ∧
      ∀ e ∈ s.tracked, e.2.firstCh + e.2.channels.length ≤ x ∨ x + n ≤ e.2.firstCh) ∧
    (s.findChannels n = none → (∀ e ∈ s.tracked, 0 < e.2.channels.length) → ¬ (x + n ≤ 65536 ∧
      ∀ e ∈ s.tracked, e.2.firstCh + e.2.channels.length ≤ x ∨ x + n ≤ e.2.firstCh))) ∧
  (∀ (s : State) (q : QueueId) (seq : W32) (c : Started) (j : Nat) (b : JobSlot) (t : Tracked), readyJob s 0x0402 q seq c j b →
    mfind s.tracked (c.arg 0) = some t → t.job = j → c.arg 1 + c.arg 2 ≤ t.channels.length →
    s.jobBad c (c.arg 3) (80 * c.arg 2) false true = none →
    (let cs := (t.channels.drop (c.arg 1)).take (c.arg 2)
     exec (.qntRead q seq) s = .next ((s.storeOff (c.arg 3 % 2 ^ 51) (cs.flatMap Channel.bytes)).finishCmd c
       { status := 0, detail := cs.countP (fun ch => ch.status == .flat), r0 := t.countLast.toNat,
         r1 := t.fences % 2 ^ 32 * 2 ^ 32 + t.sqerrLast.toNat }))) ∧
  (∀ (s s' : State) (q : QueueId) (seq : W32) (c : Started) (j : Nat) (b : JobSlot) (t : Tracked) (bs : List Byte),
    readyJob s 0x0403 q seq c j b → b.run = none → mfind s.tracked (c.arg 0) = some t → t.job = j →
    c.arg 1 + c.arg 2 ≤ t.channels.length → s.jobBad c (c.arg 3) (80 * c.arg 2) true false = none →
    s.loadOff (c.arg 3 % 2 ^ 51) (80 * c.arg 2) = (s', some (some bs)) →
    (let recs := fun i => slice bs (80 * i) 80
     ((∃ i < c.arg 2, recordOk t.len (recs i) = false) → exec (.qntHistorySet q seq) s = .next (s'.finishCmd c (.st 0x0445))) ∧
     ((∀ i < c.arg 2, recordOk t.len (recs i) = true) → ∃ (u : State) (t' : Tracked),
       exec (.qntHistorySet q seq) s = .next (u.finishCmd c (.ok)) ∧ { u with tracked := s'.tracked, regs := s'.regs } = s' ∧
       u.tracked = minsert s'.tracked (c.arg 0) t' ∧ { t' with channels := t.channels } = t ∧
       t'.channels.length = t.channels.length ∧
       ∀ i < t.channels.length, ∀ ch ch', t.channels[i]? = some ch → t'.channels[i]? = some ch' →
         (i < c.arg 1 ∨ c.arg 1 + c.arg 2 ≤ i → ch' = ch) ∧
         (∀ m < c.arg 2, i = c.arg 1 + m → ch'.h = (List.range (leAt (recs m) 70 1)).map (fun z => BitVec.ofNat 32 (leAt (recs m) (4 * z) 4)) ∧
           ch'.amaxCur = BitVec.ofNat 32 (leAt (recs m) 64 4) ∧ (t.setExponent ch').1 = ch')))) ∧
  (∀ (s : State) (q : QueueId) (seq : W32) (c : Started) (j : Nat) (b : JobSlot) (t : Tracked), readyJob s 0x0404 q seq c j b →
    b.run = none → mfind s.tracked (c.arg 0) = some t → t.job = j →
    (tbit (c.arg 1) 0 = true → exec (.qntReset q seq) s = .next (({ s with tracked := merase s.tracked (c.arg 0) } : State).finishCmd c (.ok))) ∧
    (let t' : Tracked :=
       { t with
         channels := t.channels.map (fun _ => ⟨[], 0, t.initExp, .new⟩), touched := false, errSum := 0, errInf := false,
         errCount := 0, sqerrLast := 0, countLast := 0, fences := 0 }
     tbit (c.arg 1) 0 = false →
       exec (.qntReset q seq) s = .next (({ s with tracked := minsert s.tracked (c.arg 0) t' } : State).finishCmd c (.ok)))) ∧
  (∀ (s : State) (q : QueueId) (seq : W32) (c : Started) (j : Nat) (b : JobSlot) (i : Instr) (op : Nat),
    (i, op) ∈ [(Instr.qntRead q seq, 0x0402), (.qntHistorySet q seq, 0x0403), (.qntReset q seq, 0x0404)] → readyJob s op q seq c j b →
    (op ≠ 0x0402 → b.run = none) →
    (∀ t, mfind s.tracked (c.arg 0) = some t → t.job ≠ j ∨ (op ≠ 0x0404 ∧ t.channels.length < c.arg 1 + c.arg 2)) →
    exec i s = .next (s.finishCmd c (.st 0x0440)))) ∧
  ((∀ (s : State) (n : Nat) (t : Tracked), mfind s.tracked n = some t →
    (t.touched = false → s.fenceUpdate n = s) ∧
    (t.touched = true → ∃ t', mfind (s.fenceUpdate n).tracked n = some t' ∧ t'.touched = false ∧ t'.errSum = 0 ∧
      t'.errCount = 0 ∧ t'.errInf = false ∧ t'.fences = t.fences + 1 ∧ t'.countLast = BitVec.ofNat 64 t.errCount ∧
      t'.sqerrLast = (if t.errInf then 0x7F800000 else BitVec.ofNat 32 (f32Fmt.roundInt 0 false t.errSum (-149)).1) ∧
      t'.channels = t.channels.map (fun ch => (t.setExponent { ch with h := (ch.amaxCur :: ch.h).take t.len, amaxCur := 0 }).1) ∧
      (∀ x, x ≠ n → mfind (s.fenceUpdate n).tracked x = mfind s.tracked x) ∧
      { s.fenceUpdate n with tracked := s.tracked, regs := s.regs } = s ∧
      (s.fenceUpdate n).reg .qntCntClamp = BitVec.ofNat 64 (min ((s.reg .qntCntClamp).toNat + t.channels.countP (fun ch =>
        (t.setExponent { ch with h := (ch.amaxCur :: ch.h).take t.len, amaxCur := 0 }).2)) (2 ^ 64 - 1)))) ∧
  (∀ (t : Tracked) (ch : Channel), ch.h = [] → t.setExponent ch = ({ ch with e := t.initExp, status := .new }, false)) ∧
  (∀ (t : Tracked) (ch : Channel) (n m : Nat) (b b' : Bool) (x y : Int) (h : W32), ch.h ≠ [] → h ∈ ch.h →
    (∀ z ∈ ch.h, z.toNat ≤ h.toNat) → f32Fmt.decode h.toNat = .fin b m x → maxCodeVal t.fmt.toNat = .fin b' n y → n ≠ 0 →
    (let r := t.setExponent ch
     { r.1 with e := ch.e, status := ch.status } = ch ∧
     (m = 0 → r.1.e = 0 ∧ r.1.status = .flat ∧ r.2 = false) ∧
     (m ≠ 0 → ∃ e : Int, (m : ℚ) * 2 ^ (x + e + t.margin) ≤ (n : ℚ) * 2 ^ y ∧ (n : ℚ) * 2 ^ y < (m : ℚ) * 2 ^ (x + e + 1 + t.margin) ∧
       (-127 ≤ e → e ≤ 127 → r.1.e = e ∧ r.1.status = .normal ∧ r.2 = false) ∧
       (e < -127 → r.1.e = -127 ∧ r.1.status = .clamped ∧ r.2 = true) ∧
       (127 < e → r.1.e = 127 ∧ r.1.status = .clamped ∧ r.2 = true)))) ∧
  (∀ (a b c : FenceRec), a.track = b.track → b.track = c.track → a.amax.length = b.amax.length → b.amax.length = c.amax.length →
    joinRec a b = joinRec b a ∧ joinRec (joinRec a b) c = joinRec a (joinRec b c)) ∧
  (∀ (s : State) (u : TrackUpdate) (t : Tracked), mfind s.tracked u.track = some t → u.amax = [] → u.nonfinite = 0 →
    (let t' : Tracked :=
       { t with
         touched := true, errSum := t.errSum + u.errSum, errInf := t.errInf || u.errInf, errCount := t.errCount + u.errCount }
     s.applyTrack u = { s with tracked := minsert s.tracked u.track t' })))

/-! ## Solver units (chapter 10) -/

/-- R251, R252: the primitives round once, to the nearest with ties to even, saturate, and raise OVERFLOW exactly where a
saturation changes a value; a pivot below EPS is replaced, counted and flagged, so that no division is by zero. R252 to
R255: the pivot of a column is the lowest row of largest magnitude, LU permutes the rows and leaves no pivot 0, neither
does LDLᵀ, and the steps of a problem run one after another, a fixed number of them. -/
def Obligations.SolverArithmetic : Prop :=
  ((∀ (a : Int) (f : Nat) (fl : SlvFlags), 0 < f →
    ∃ v : Int, 2 * (v * 2 ^ f - a).natAbs ≤ 2 ^ f ∧ (2 * (v * 2 ^ f - a).natAbs = 2 ^ f → v % 2 = 0) ∧
      (rsS a f).run fl = (max (-2 ^ 31) (min (2 ^ 31 - 1) v), { fl with ovf := fl.ovf || decide (v < -2 ^ 31 ∨ 2 ^ 31 ≤ v) })) ∧
  (∀ (n d : Int) (f : Nat) (fl : SlvFlags), d ≠ 0 →
    ∃ v : Int, 2 * (v * d - n * 2 ^ f).natAbs ≤ d.natAbs ∧ (2 * (v * d - n * 2 ^ f).natAbs = d.natAbs → v % 2 = 0) ∧
      (divS n d f).run fl = (max (-2 ^ 31) (min (2 ^ 31 - 1) v), { fl with ovf := fl.ovf || decide (v < -2 ^ 31 ∨ 2 ^ 31 ≤ v) })) ∧
  (∀ (init : Int) (ts : List Int) (fl : SlvFlags), (∀ k ≤ ts.length, -2 ^ 63 ≤ init + (ts.take k).sum ∧ init + (ts.take k).sum < 2 ^ 63) →
    (accS init ts).run fl = (init + ts.sum, fl)) ∧
  (∀ (a t : Int) (fl : SlvFlags), (accS a [t]).run fl =
    (max (-2 ^ 63) (min (2 ^ 63 - 1) (a + t)), { fl with ovf := fl.ovf || decide (a + t < -2 ^ 63 ∨ 2 ^ 63 ≤ a + t) })) ∧
  (∀ (eps k : Nat) (p : Int) (fl : SlvFlags), 0 < eps →
    (eps ≤ p.natAbs → (regulariseS eps k p).run fl = (p, fl)) ∧
    (p.natAbs < eps → (regulariseS eps k p).run fl =
      (if 0 ≤ p then (eps : Int) else -eps, { fl with regs := fl.regs + 1, first := min fl.first k }))) ∧
  (∀ fl : SlvFlags, fl.status.testBit 0 = true ↔ 0 < fl.regs)) ∧
  ((∀ (a : List (List Int)) (k n : Nat), k < n →
    (let p := pivotRow a k n
     k ≤ p ∧ p < n ∧ (∀ i, k ≤ i → i < n → (ent a i k).natAbs ≤ (ent a p k).natAbs) ∧
     (∀ i, k ≤ i → i < p → (ent a i k).natAbs < (ent a p k).natAbs))) ∧
  (∀ (n fm eps : Nat) (a : List (List Int)) (fl : SlvFlags), a.length = n → (∀ r ∈ a, r.length = n) →
    (let r := (luS n fm eps a).run fl
     r.1.1.length = n ∧ (∀ x ∈ r.1.1, x.length = n) ∧ r.1.2.Perm (List.range n) ∧
     (0 < eps → ∀ k < n, ent r.1.1 k k ≠ 0))) ∧
  (∀ (n fm eps : Nat) (a : List (List Int)) (fl : SlvFlags), 0 < eps → a.length = n → (∀ r ∈ a, r.length = n) →
    (let r := (ldlS n fm eps a).run fl
     r.1.1.length = n ∧ r.1.2.length = n ∧ ∀ d ∈ r.1.2, d ≠ 0)) ∧
  (∀ (p : Problem) (f : Factor) (t : Iterate) (fl : SlvFlags), (stepsS (p.iterate f) 0 t).run fl = (t, fl) ∧
    ∀ k, (stepsS (p.iterate f) (k + 1) t).run fl =
      (stepsS (p.iterate f) k ((p.iterate f t).run fl).1).run ((p.iterate f t).run fl).2))

/-- R258, R260 to R263, R265: SLV_BATCH begins a batch, the solver unit of a logical cluster takes its problems in rising
order and runs the fixed steps of each, a batch whose last problem has ended writes its records and replies, and SLV_ABORT
stops batches with their unfinished problems NOT_RUN. -/
def Obligations.SolverBatches : Prop :=
  (∀ (s : State) (q : QueueId) (seq : W32) (c : Started) (j : Nat) (b : JobSlot), readyJob s 0x0501 q seq c j b →
    (let inRange := b.first ≤ c.arg 10 ∧ c.arg 10 + c.arg 11 ≤ b.first + b.count
     let good := inRange ∧ s.slvPtr (c.arg 0) = true ∧ s.slvPtr (c.arg 1) = true
     let reach := s.jobBad c (c.arg 0) ((c.arg 2 - 1) * c.arg 3 + 64) true false = none ∧
       s.jobBad c (c.arg 1) (32 * c.arg 2) false true = none
     (¬ good → exec (.slvBatch q seq) s = .next (s.finishCmd c (.st 0x0103))) ∧
     (good → c.arg 4 ≠ 0 → b.ordered = true → exec (.slvBatch q seq) s = .next (s.finishCmd c (.st 0x0501))) ∧
     (good → (c.arg 4 = 0 ∨ b.ordered = false) → reach → 64 ≤ s.batches.length →
       exec (.slvBatch q seq) s = .next (s.finishCmd c (.st 0x0541))) ∧
     (good → (c.arg 4 = 0 ∨ b.ordered = false) → reach → s.batches.length < 64 →
       ∃ (t : State) (x : Batch), exec (.slvBatch q seq) s = .next t ∧ t.batches.getLast? = some x ∧
         t.batches.length = s.batches.length + 1 ∧
         x.q = c.q ∧ x.seq = c.seq ∧ x.job = j ∧ x.probs.toNat = c.arg 0 % 2 ^ 64 ∧ x.results.toNat = c.arg 1 % 2 ^ 64 ∧
         x.count = c.arg 2 ∧ x.pstride = c.arg 3 ∧ x.deadline = c.arg 4 ∧ x.kind = c.arg 7 ∧ x.first = c.arg 10 ∧
         x.nclusters = c.arg 11 ∧ x.ended = [] ∧
         x.start = (if c.arg 6 % 2 ^ 64 ≤ b.step.toNat then some s.now else none) ∧
         t.findStarted c.q c.seq = some { c with wait := .batch } ∧ { t with batches := s.batches, started := s.started } = s))) ∧
  (∀ (x : Batch) (l i : Nat), x.nextOn l = some i → i < x.count ∧ x.first + i % x.nclusters = l ∧ mfind x.ended i = none ∧
    ∀ k < i, x.first + k % x.nclusters = l → mfind x.ended k ≠ none) ∧
  (∀ (s s' : State) (l : LClusterId) (x : Batch) (i : Nat) (b : JobSlot),
    s.batches.find? (fun y => y.start.isSome && (y.nextOn l.val).isSome) = some x → x.nextOn l.val = some i →
    s.job x.job = some b →
    (∀ p out warm, s.loadProblem b x i = (s', .ok p out warm) →
      exec (.solverProblem l) s = .next ((s'.runProblem x i p.iters false p out).settleBatch x.q x.seq)) ∧
    (s.loadProblem b x i = (s', .bad) →
      exec (.solverProblem l) s = .next ((s'.problemEnd x i (leBytes 2 32 ++ leBytes 4 0 ++ leBytes 2 0xFFFF ++ leBytes 24 0)).settleBatch
        x.q x.seq))) ∧
  (∀ (s : State) (x : Batch) (i k out : Nat) (p : Problem), s.findBatch x.q x.seq = some x →
    ∃ (t : State) (rec : List Byte), s.runProblem x i k false p out = t ∧
      t.findBatch x.q x.seq = some { x with ended := minsert x.ended i rec } ∧ rec.length = 32 ∧ leAt rec 2 2 = k % 2 ^ 16 ∧
      leAt rec 0 2 < 4 ∧ ((leAt rec 0 2).testBit 0 = true ↔ leAt rec 4 2 ≠ 0)) ∧
  (∀ (s : State) (x : Batch), s.findBatch x.q x.seq = some x → x.ended.length = x.count → x.unread = false →
    (let bad := (List.range x.count).countP (fun i => x.statusOf i ≠ 0)
     s.settleBatch x.q x.seq = s.endBatch x
       { status := if bad = 0 then 0 else 0x0001, detail := min bad 0xFFFF,
         r0 := (List.range x.count).countP (fun i => x.statusOf i / 4 % 16 = 0),
         r1 := (List.range x.count).countP (fun i => x.statusOf i / 4 % 4 ≠ 0) } true)) ∧
  (∀ (s : State) (q : QueueId) (seq : W32) (c : Started) (j : Nat) (b : JobSlot), readyJob s 0x0502 q seq c j b →
    (let xs := s.batches.filter (fun x => x.job == j && (c.arg 1 = 1 || (x.q == c.arg 0 && x.seq.toNat == c.arg 2)))
     (c.arg 1 ≠ 1 → xs = [] → exec (.slvAbort q seq) s = .next (s.finishCmd c (.st 0x0542))) ∧
     (c.arg 1 = 1 ∨ xs ≠ [] → exec (.slvAbort q seq) s =
       .next ((xs.foldl (fun s x => s.stopBatch x 0x0540 true) s).finishCmd c (.ok xs.length))))) ∧
  (∀ (s : State) (q : QueueId) (seq : W32) (pr : List (Nat × Option Nat)) (x : Batch) (t : Nat) (b : JobSlot),
    s.findBatch q.val seq = some x → x.start = some t → s.job x.job = some b →
    (x.deadline = 0 ∨ s.now < t + x.deadline → exec (.slvDeadlineExpiry q seq pr) s = .next s) ∧
    (∀ (s' : State) (p : Problem) (out : Nat) (warm : List Int), x.deadline ≠ 0 → t + x.deadline ≤ s.now → x.count = 1 →
      x.ended = [] → s.loadProblem b x 0 = (s', .ok p out warm) →
      (pr = [] → exec (.slvDeadlineExpiry q seq pr) s =
        .next ((({ s' with free := s'.free + 1 } : State).writeOut out warm |>.problemEnd x 0 (resultRecord 8 0 {}
          ((p.residuals { v := warm, last := [] }).run {}).1.1 ((p.residuals { v := warm, last := [] }).run {}).1.2)).settleBatch q.val seq)) ∧
      (∀ k, pr = [(0, some k)] → k < p.iters → exec (.slvDeadlineExpiry q seq pr) s =
        .next ((s'.runProblem x 0 k true p out).settleBatch q.val seq)) ∧
      (∀ k, pr = [(0, some k)] → p.iters ≤ k → exec (.slvDeadlineExpiry q seq pr) s =
        .next ((s'.runProblem x 0 p.iters false p out).settleBatch q.val seq))))

/-! ## Reductions (chapter 11) -/

/-- A child's partial waits for delivery to its Confluence (R279): the job is open and not in teardown, the reduction is one
of those combined at once, and the partial is there. -/
def Sys2Proof.Claims.deliverable (s : State) (j : Nat) (id : W16) (level child : Nat) (b : JobSlot) (r : Reduction)
    (p : Partial) : Prop :=
  s.job j = some b ∧ b.teardown = false ∧ s.findRed j id = some r ∧ r.job = j ∧ r.id = id ∧
  ((s.reductions.filter (fun (r : Reduction) => !r.done)).take 256).find? (fun r => r.job == j && r.id == id) = some r ∧
  level < 4 ∧ p.level = level ∧ p.child = child ∧ r.waiting.find? (fun p => p.level == level && p.child == child) = some p

/-- R276, R277, R279, R280, R365: in ordered mode a Confluence of an FP32 reduction holds its children until every
contributing one has delivered, and then folds them in rising order of their numbers; in fast mode, and for a grid
reduction in either mode, it adds each as it arrives; the node's total lands at DST, clamped with SAT, and its tally
counts one for each 256 bytes. Grid partials combine to the same total in any order. -/
def Obligations.ReductionsFold : Prop :=
  (∀ (s : State) (j : JobSlotId) (id : W16) (level child : Nat) (b : JobSlot) (r : Reduction) (p : Partial),
    deliverable s j.val id level child b r p → b.ordered = true → r.key.kind = 1 →
    (let sibs := b.siblings r.key level child
     let held := r.running ++ [p]
     let left := r.waiting.erase p
     let here := fun c => held.find? (fun q => q.level == level && q.child == c)
     ((∃ c ∈ sibs, here c = none) → exec (.confluenceDelivery j id level child) s =
       .next (s.updRed j.val id (fun _ => { r with waiting := left, running := held }))) ∧
     (∀ (m : Partial) (ms : List Partial), sibs.map here = (m :: ms).map some →
       (let f := ms.foldl (Partial.add 1) m
        let kept := held.filter (fun q => !(q.level == level && sibs.contains q.child))
        (level < 3 → exec (.confluenceDelivery j id level child) s = .next (s.updRed j.val id (fun _ => { r with
          waiting := left ++ [{ f with level := level + 1, child := b.parentOf level child }], running := kept }))) ∧
        (level = 3 → r.key.rflags = 0 → exec (.confluenceDelivery j id level child) s =
          .next ((s.updRed j.val id (fun _ => { r with waiting := left, running := kept })).landReduction j.val b
            { r with waiting := left } (f.result 1))))))) ∧
  (∀ (s : State) (j : JobSlotId) (id : W16) (level child : Nat) (b : JobSlot) (r : Reduction) (p : Partial),
    deliverable s j.val id level child b r p → b.ordered = false ∨ r.key.kind ≠ 1 →
    (let up := if level = 3 then 0 else b.parentOf level child
     let mine := fun (q : Partial) => q.level == level + 1 && q.child == up
     let sum : Partial := match r.running.find? mine with
       | some q => Partial.add r.key.kind q p
       | none => { p with level := level + 1, child := up }
     let folded := r.folded ++ [(level + 1, up, child)]
     let kept := r.running.filter (fun q => !mine q)
     let left := r.waiting.erase p
     let all := folded.countP (fun e => e.1 == level + 1 && e.2.1 == up) = (b.siblings r.key level child).length
     (¬ all → exec (.confluenceDelivery j id level child) s =
       .next (s.updRed j.val id (fun _ => { r with waiting := left, running := kept ++ [sum], folded := folded }))) ∧
     (all → level < 3 → exec (.confluenceDelivery j id level child) s =
       .next (s.updRed j.val id (fun _ => { r with waiting := left ++ [sum], running := kept, folded := folded }))) ∧
     (all → level = 3 → r.key.rflags = 0 → exec (.confluenceDelivery j id level child) s =
       .next ((s.updRed j.val id (fun _ => { r with waiting := left, running := kept, folded := folded })).landReduction j.val b
         { r with waiting := left } (sum.result r.key.kind))))) ∧
  (∀ (b : JobSlot) (k : RedKey) (level child : Nat), level < 4 → (b.siblings k level child).Pairwise (· < ·) ∧
    ∀ c, c ∈ b.siblings k level child ↔ b.parentOf level c = b.parentOf level child ∧ ∃ lc ∈ k.members, b.placeAt lc level = c) ∧
  (∀ (p q r : Partial) (kind : Nat), kind ≠ 1 → p.vals.length = q.vals.length → q.vals.length = r.vals.length →
    p.states.length = q.states.length → q.states.length = r.states.length →
    (Partial.add kind p q).vals = (Partial.add kind q p).vals ∧ (Partial.add kind p q).states = (Partial.add kind q p).states ∧
    Partial.add kind (Partial.add kind p q) r = Partial.add kind p (Partial.add kind q r)) ∧
  (∀ (p : Partial), p.states.length = p.vals.length →
    p.result 2 = p.vals.flatMap (fun v => leBytes 16 (BitVec.ofInt 128 (clampInt (-2 ^ 127) (2 ^ 127 - 1) v)).toNat) ++
      (p.vals.zip p.states).map (fun e => if e.1 < -2 ^ 127 ∨ 2 ^ 127 ≤ e.1 then e.2 ||| 4 else e.2)) ∧
  (∀ (s : State) (j : Nat) (b : JobSlot) (r : Reduction) (bs : List Byte),
    (let dst := r.key.dst.toNat
     reservedNode (ptrNode dst) = false → s.isSelf (ptrNode dst) = true →
     (s.firstBad 5 b.tag false (ptrOff dst) bs.length false true = none →
       s.landReduction j b r bs = (({ s with reductions := s.reductions.filter (fun y => !(y.job == j && y.id == r.id)) } : State).storeOff
         (dst % 2 ^ 51) bs).tallyHit b.tag b.epoch r.key.tally ((bs.length + 255) / 256)) ∧
     (s.firstBad 5 b.tag false (ptrOff dst) bs.length false true ≠ none → s.landReduction j b r bs = s.failReduction j r.id)))

/-! ## Memory (chapter 12) -/

namespace Sys2Proof.Claims

/-- Bytes lo to hi − 1 of job space are free of reservations (R301). -/
def free (s : State) (lo n : Nat) : Prop := ∀ r ∈ s.reservations, lo + n ≤ r.base ∨ r.base + r.size ≤ lo

/-- Nothing that software sees in memory has changed: stored bytes, held writes and frozen pages. -/
def sameBytes (s t : State) : Prop := t.mem = s.mem ∧ t.heldWrites = s.heldWrites ∧ t.pages = s.pages

end Sys2Proof.Claims

/-- R301, R302, R310: reservations, queries and fills. R294, R296, R298, R382: the interleave is one to one; a store
changes the bytes it names and no other; a load answers the bytes unless a word or codeword it touches cannot be
corrected; a store of a whole word makes it readable. -/
def Obligations.MemoryCommandsAndAccesses : Prop :=
  ((∀ s : State, let u := s.refill
    ((∃ r ∈ s.reservations, s.allocTop < r.base + r.size) → u = s) ∧
    ((∀ r ∈ s.reservations, r.base + r.size ≤ s.allocTop) → u.reg .memReserveBase = BitVec.ofNat 64 s.allocTop ∧
      u.mapPending = 0 ∧ { u with regs := s.regs, mapPending := s.mapPending } = s ∧
      ∀ t is, t ≠ .memReserveBase → u.reg t is = s.reg t is)) ∧
  (∀ (s : State) (q : QueueId) (seq : W32) (c : Started) (j : Nat) (b : JobSlot), readyJob s 0x0204 q seq c j b → c.arg 0 ≠ 0 →
    (let u := s.refill
     let size := (c.arg 0 + (2 ^ 21 - 1)) / 2 ^ 21 * 2 ^ 21
     (4096 ≤ s.reservations.length → exec (.memReserve q seq) s = .next (u.finishCmd c (.st 0x0241))) ∧
     (s.reservations.length < 4096 → ∀ base, free s base size → (∀ x < base, ¬ free s x size) →
       (s.allocTop < base + size → exec (.memReserve q seq) s = .next (u.finishCmd c (.st 0x0202))) ∧
       (base + size ≤ s.allocTop → exec (.memReserve q seq) s =
         .next ((State.zeroOff { u with reservations := u.reservations ++ [⟨base, size, c.tag⟩] } base size).finishCmd c (.ok base)))))) ∧
  (∀ (s : State) (q : QueueId) (seq : W32) (c : Started) (j : Nat) (b : JobSlot), readyJob s 0x0205 q seq c j b →
    (let mine : Reservation → Bool := fun r => r.base == c.arg 0 && r.tag == c.tag
     let u : State := { s with reservations := s.reservations.filter (fun r => !mine r) }
     ((∃ r ∈ s.reservations, mine r = true) → exec (.memRelease q seq) s = .next (u.refill.finishCmd c (.ok))) ∧
     ((∀ r ∈ s.reservations, mine r = false) → exec (.memRelease q seq) s = .next (s.refill.finishCmd c (.st 0x0240))))) ∧
  (∀ (s : State) (q : QueueId) (seq : W32) (c : Started), ready s 0x0203 q seq c →
    (∀ r ∈ s.reservations, r.base + r.size ≤ s.allocTop) →
    exec (.memQuery q seq) s = .next (s.finishCmd c
      (.ok (s.allocTop - (s.reservations.map (·.size)).sum) (s.reservations.map (·.size)).sum))) ∧
  (∀ (s : State) (q : QueueId) (seq : W32) (c : Started) (j : Nat) (b : JobSlot), readyJob s 0x0202 q seq c j b →
    (let p := c.arg 0
     let o := p % 2 ^ 51
     let n := c.arg 1
     let placed := (p / 2 ^ 51 = 0x1FFF ∨ (p / 2 ^ 51 = s.nodeNo ∧ s.nodeNo < 4096)) ∧
       ((windowOf o = .hbm ∧ windowOf (o + n - 1) = .hbm) ∨ (windowOf o = .shale ∧ windowOf (o + n - 1) = .shale) ∨
         (windowOf o = .pool ∧ windowOf (o + n - 1) = .pool))
     p < 2 ^ 64 →
     (¬ placed → exec (.memFill q seq) s = .next (s.finishCmd c (.st 0x0242))) ∧
     (placed → s.jobBad c p n false true = none →
       exec (.memFill q seq) s = .next ((s.storeOff o (List.replicate (n / 8) (leBytes 8 (c.arg 2))).flatten).finishCmd c (.ok n))) ∧
     (placed → ∀ a, s.jobBad c p n false true = some a →
       exec (.memFill q seq) s = .next (s.finishCmd c { status := 0x0201, r0 := a }))))) ∧
  ((∀ o o' : Nat, o < hbmTop → o' < hbmTop → (hbmMap o).1 < 384 ∧ (hbmMap o).2 < 6291456 ∧
    (hbmMap o = hbmMap o' → o % 256 = o' % 256 → o = o')) ∧
  (∀ (s : State) (a : Nat) (bs : List Byte), (∀ w ∈ s.heldWrites, w.1 + w.2.length ≤ a ∨ a + bs.length ≤ w.1) → ∀ x,
    mget 0#8 (s.store a bs).view x = if a ≤ x ∧ x < a + bs.length then nth 0#8 bs (x - a) else mget 0#8 s.view x) ∧
  (∀ (s : State) (a n : Nat),
    (let bad : Prop := ∃ e ∈ s.errs, e.1 < a + n ∧ a < e.1 + eccUnit e.1 ∧ (e.2 = .uncorrectable ∨ e.2 = .poison)
     (bad → (s.load a n).2 = none) ∧
     (¬ bad → ∃ bs, (s.load a n).2 = some bs ∧ bs.length = n ∧ ∀ i < n, bs[i]? = some (mget 0#8 s.view (a + i))) ∧
     sameBytes s (s.load a n).1)) ∧
  (∀ (s : State) (a : Nat) (bs : List Byte) (u : Nat), a ≤ u → u + eccUnit u ≤ a + bs.length → mfind (s.put a bs).errs u = none) ∧
  (∀ (s : State) (a : Nat) (bs : List Byte), s.quiet a bs.length = true → s.heldWrites = [] → (s.store a bs).heldWrites = []))

/-- R305 to R314: repair, retirement, map-out and retraining of HBM3E, each under its condition, leave every stored byte
as it is (R315). A patrol read corrects what it can. -/
def Obligations.MemoryRepair : Prop :=
  (∀ (s : State) (pc : PcId) (row : Nat), s.repairable pc.val = true → row ∈ (s.pc pc.val).failing →
    (pc.val, row) ∉ s.flash.repairLog →
    ∃ t, exec (.ppr pc row) s = .next t ∧ sameBytes s t ∧ t.getF .memEvents [] 4 4 = 1 ∧ t.flash.repairLog = s.flash.repairLog ++ [(pc.val, row)] ∧
      (t.pc pc.val).failing = (s.pc pc.val).failing.filter (· ≠ row) ∧
      { t with regs := s.regs, flash := s.flash, pcs := s.pcs, errs := s.errs } = s) ∧
  (∀ (s : State) (pc : PcId) (row : Nat), (pc.val, row) ∈ s.flash.repairLog → exec (.ppr pc row) s = .next s) ∧
  (∀ (s : State) (pc : PcId) (page i : Nat), s.repairable pc.val = true → (∃ r ∈ (s.pc pc.val).failing, r / 4 = page) →
    (∀ e ∈ s.flash.retire, ¬ (e.2.pc = pc.val ∧ e.2.page = page)) → pc.val ∉ s.mapOutQueue →
    (s.flash.retire.countP (fun e => e.2.pc == pc.val) < 64 → i < 4096 → mfind s.flash.retire i = none →
      (∀ k < i, mfind s.flash.retire k ≠ none) →
      exec (.pageRetire pc page) s =
        .next { s with flash := { s.flash with retire := minsert s.flash.retire i ⟨pc.val, page, .copying⟩ } }) ∧
    (64 ≤ s.flash.retire.countP (fun e => e.2.pc == pc.val) → s.mapPending + s.mapOutQueue.length < 4 →
      exec (.pageRetire pc page) s = .next { s with mapOutQueue := s.mapOutQueue ++ [pc.val] }) ∧
    (s.flash.retire.countP (fun e => e.2.pc == pc.val) < 64 → (∀ k < 4096, mfind s.flash.retire k ≠ none) →
      exec (.pageRetire pc page) s = .next (s.raise .memRepairLimit))) ∧
  (∀ (s : State) (i : Fin 4096) (e : RetireEntry), mfind s.flash.retire i.val = some e → e.st = .copying →
    ∃ t, exec (.pageRetireDone i) s = .next t ∧ sameBytes s t ∧ t.getF .memEvents [] 5 5 = 1 ∧
      mfind t.flash.retire i.val = some { e with st := .served } ∧
      (t.pc e.pc).failing = (s.pc e.pc).failing.filter (fun r => r / 4 ≠ e.page) ∧
      { t with regs := s.regs, flash := s.flash, pcs := s.pcs, errs := s.errs } = s) ∧
  (∀ (s : State) (pc : PcId), s.mapOutQueue.head? = some pc.val → (s.pc pc.val).mode = .inService →
    exec (.mapOutBegin pc) s = .next (s.setPc pc.val { s.pc pc.val with mode := .migrating })) ∧
  (∀ (s : State) (pc : PcId), (s.pc pc.val).mode = .migrating →
    ∃ t, exec (.mapOut pc) s = .next t ∧ sameBytes s t ∧ t.getF .memEvents [] 6 6 = 1 ∧
      (t.pc pc.val).mode = .mappedOut ∧ t.mapPending = s.mapPending + 1 ∧
      t.reg .memAllocTop = BitVec.ofNat 64 (s.allocTop - 0x60000000) ∧
      (∀ e ∈ t.flash.retire, e.2.pc ≠ pc.val) ∧ pc.val ∈ t.flash.map.pcs ∧
      t.flash.map.version.toNat = min (s.flash.map.version.toNat + 1) (2 ^ 32 - 1) ∧
      { t with regs := s.regs, flash := s.flash, pcs := s.pcs, errs := s.errs, mapOutQueue := s.mapOutQueue,
               mapPending := s.mapPending } = s) ∧
  (∀ (s : State) (pc : PcId), exec (.incrementalRetrain pc) s = .next s) ∧
  (∀ (s : State) (pc : PcId), (s.pc pc.val).mode = .inService ∨ (s.pc pc.val).mode = .migrating →
    exec (.fullRetrain pc) s = .next ((s.setPc pc.val
      { s.pc pc.val with mode := .retraining, retrainStart := some s.now, retrainBack := (s.pc pc.val).mode }).raise .memRetrain)) ∧
  (∀ (s : State) (pc : PcId) (eye : Bool) (t0 : Nat), (s.pc pc.val).retrainStart = some t0 →
    ∃ t, exec (.fullRetrainEnd pc eye) s = .next t ∧ sameBytes s t ∧
      t.getF .memRetrainLast [] 40 32 = pc.val ∧ t.getF .memRetrainLast [] 31 0 = (s.now - t0) % 2 ^ 32 ∧
      (t.pc pc.val).mode = (s.pc pc.val).retrainBack ∧ (t.pc pc.val).retrainStart = none ∧
      (t.pc pc.val).failing = (if eye then (s.pc pc.val).failing else List.range 1572864) ∧
      (eye = false → s.mapPending + s.mapOutQueue.length < 4 → pc.val ∈ t.mapOutQueue)) ∧
  (∀ (s : State) (a : Nat), ∃ t, exec (.patrolScrub a) s = .next t ∧ sameBytes s t ∧
    (∀ e, (a, e) ∈ s.errs → s.errs.countP (fun x => x.1 < a + 1 && a < x.1 + eccUnit x.1) = 1 →
      (e = .correctable ∨ e = .recorrect → mfind t.errs a = none) ∧ (e = .uncorrectable ∨ e = .poison → t.errs = s.errs)))

/-! ## Links (chapter 13) -/

namespace Sys2Proof.Claims

/-- One link's state is l, and the other links are as they were. -/
def linkIs (s t : State) (n : Nat) (l : Link) : Prop := t.link n = l ∧ ∀ m, m ≠ n → t.link m = s.link m

/-- No LINK_RESET waits for a link (R344). -/
def noWaiter (s : State) (n : Nat) : Prop := ∀ c ∈ s.started, c.wait ≠ .link n

/-- What a link keeps when it goes down: its last cause and its lanes' eye record. -/
def downLink (l : Link) : Link := { Link.zero with qcause := l.qcause, eyeBelow := l.eyeBelow }

/-- A kept flit as it goes on the link again (R324, R327). -/
def resent (n : Nat) (f : EddyFlit) : Out := .flit n (f.bytes ++ leBytes 8 (crc64 f.bytes))

/-- The highest-numbered common generations from R319's target down. -/
def gensTried (s : State) (n : Nat) (cap : Capability) : List Nat :=
  [3, 2, 1].filter (fun g => decide (g ≤ s.getF .axlCtrl [n] 5 4) && decide (g ≤ cap.maxGen) && tbit cap.gens.toNat (g - 1))

end Sys2Proof.Claims

/-- R319, R320: when a link trains, and what training leaves. R334 to R337, R339: the verdict takes the first cause that
applies, both verdicts ADMIT make the link ACTIVE, and every refusal, a refusing partner or the limit ends in QUARANTINE
with its cause. -/
def Obligations.LinkTrainingAndAdmission : Prop :=
  ((∀ (s : State) (n : LinkId) (lanes : BitVec 2), (s.link n).st = .down → s.axlIdle = false → s.linkEnabled n = true →
    lanes.toNat &&& s.enabledLanes n ≠ 0 →
    (let sum := ((List.range 8).map (fun m => s.getF .axlVc [n.val, m] 51 40)).sum
     let on := s.setLink n { s.link n with st := .training, trainStart := s.now, retryFrom := none }
     (sum ≤ 2048 → (s.link n).retryFrom = none → exec (.signalDetect n lanes) s = .next on) ∧
     (sum ≤ 2048 → ∀ t0, (s.link n).retryFrom = some t0 →
       exec (.signalDetect n lanes) s = .next s ∧
       (t0 + 1000000000 ≤ s.now → exec (.trainingRetry n lanes) s = .next on) ∧
       (s.now < t0 + 1000000000 → exec (.trainingRetry n lanes) s = .next s)) ∧
     (2048 < sum → exec (.signalDetect n lanes) s = .next s ∧ exec (.trainingRetry n lanes) s = .next s))) ∧
  (∀ (s : State) (n : LinkId) (lanes : BitVec 2), s.linkEnabled n = false ∨ s.enabledLanes n = 0 ∨ s.axlIdle = true →
    exec (.signalDetect n lanes) s = .next s) ∧
  (∀ (s : State) (n : LinkId), (s.link n).st = .training → noWaiter s n →
    (s.now < (s.link n).trainStart + 100000000 → exec (.trainingTimeout n) s = .next s) ∧
    ((s.link n).trainStart + 100000000 ≤ s.now → ∃ t, exec (.trainingTimeout n) s = .next t ∧
      linkIs s t n { downLink (s.link n) with retryFrom := some s.now } ∧ { t with links := s.links } = s)) ∧
  (∀ (s : State) (n : LinkId) (cap : Capability) (kept : List (BitVec 2)) (k : Nat) (g : Nat) (ls : BitVec 2),
    (s.link n).st = .training → s.axlIdle = false → (gensTried s n cap)[k]? = some g → kept[k]? = some ls →
    (∀ i < k, ∀ x, kept[i]? = some x → x.toNat &&& s.enabledLanes n = 0) → ls.toNat &&& s.enabledLanes n ≠ 0 →
    ∃ t, exec (.trainingDone n cap kept) s = .next t ∧ (t.link n).st = .admitting ∧ (t.link n).gen = g ∧
      (t.link n).lanes.toNat = ls.toNat &&& s.enabledLanes n ∧ (t.link n).partner = some cap ∧
      (t.link n).avail = cap.alloc ∧ (t.link n).sendSeq = 0 ∧ (t.link n).expect = 0 ∧ (t.link n).eddy = [] ∧
      (t.link n).admission = some ⟨s.now, Config.random s.free, none, [], none, none, none⟩ ∧
      t.reg .axlAnom [n.val] = 0 ∧ t.out = .admission n 1 :: s.out ∧ t.free = s.free + 1 ∧
      (∀ m, m ≠ n.val → t.link m = s.link m) ∧
      { t with links := s.links, regs := s.regs, out := s.out, free := s.free } = s)) ∧
  ((∀ (s : State) (n : Nat) (a : Admission) (cap : Capability),
    (let listed := s.flash.protection.admitted.find? (fun e => e.digest == Config.leafDigest a.partnerChain)
     (listed = none → s.verdictOf n a cap = some 1) ∧
     (∀ e, listed = some e →
       (let crypto := e.encrypt = true ∨ s.getF .axlCtrl [n] 2 2 = 1
        (Config.chainVerifies a.partnerChain = false → s.verdictOf n a cap = some 2) ∧
        (Config.chainVerifies a.partnerChain = true → a.sigOk ≠ some true → s.verdictOf n a cap = some 3) ∧
        (Config.chainVerifies a.partnerChain = true → a.sigOk = some true →
          (crypto → cap.encrypt = false → s.verdictOf n a cap = some 4) ∧
          (¬ crypto ∨ cap.encrypt = true → s.verdictOf n a cap = none)))))) ∧
  (∀ (s : State) (n : LinkId) (a : Admission) (cap : Capability) (chain : List Byte) (nonce : Digest), (s.link n).up = true →
    (s.link n).admission = some a → (s.link n).partner = some cap → a.sigOk = none → s.axlIdle = false →
    exec (.admissionMessage n (.hello chain nonce)) s =
      .next ((s.setLink n { s.link n with admission := some { a with partnerNonce := some nonce, partnerChain := chain } }).emit
        (.admission n 2))) ∧
  (∀ (s : State) (n : LinkId) (a : Admission) (cap : Capability) (eph : List Byte) (sig : BitVec 512) (nonce : Digest),
    (s.link n).up = true → (s.link n).admission = some a → (s.link n).partner = some cap → s.axlIdle = false →
    a.partnerNonce = some nonce → a.verdict = none → a.partnerVerdict = none → noWaiter s n →
    (let text := leBytes 32 a.ownNonce.toNat ++ leBytes 32 nonce.toNat ++ leBytes 2 cap.node.toNat ++ leBytes 2 s.nodeNo ++
       leBytes 1 cap.link.toNat ++ leBytes 1 n.val ++ eph
     let a' := { a with sigOk := some (Config.sm2Verify a.partnerChain [] (Config.sm3 text) (leBytes 64 sig.toNat)) }
     ∃ t, exec (.admissionMessage n (.signature eph sig)) s = .next t ∧ t.out = .admission n 5 :: s.out ∧
       (t.link n).partnerLeaf = Config.leafDigest a.partnerChain ∧
       (∀ cause, s.verdictOf n a' cap = some cause → (t.link n).st = .quarantine ∧ (t.link n).qcause = BitVec.ofNat 8 cause ∧
         raised s t .axlQuarantine [n.val]) ∧
       (s.verdictOf n a' cap = none → (t.link n).st = (s.link n).st ∧
         (t.link n).admission = some { a' with verdict := some none }) ∧
       { t with links := s.links, filters := s.filters, regs := s.regs, out := s.out } = s)) ∧
  (∀ (s : State) (n : LinkId) (a : Admission), (s.link n).admission = some a → noWaiter s n →
    (a.verdict = some none →
      (∀ e, s.flash.protection.admitted.find? (fun e => e.digest == Config.leafDigest a.partnerChain) = some e →
        ∃ t, exec (.admissionVerdict n true) s = .next t ∧ (t.link n).st = .active ∧
          ((t.link n).encrypted = true ↔ e.encrypt = true ∨ s.getF .axlCtrl [n.val] 2 2 = 1) ∧
          (t.link n).ivCount = 0 ∧ (t.link n).ivRx = 0 ∧ (∀ m, m ≠ n.val → t.link m = s.link m) ∧ { t with links := s.links } = s) ∧
      (∃ t, exec (.admissionVerdict n false) s = .next t ∧ (t.link n).st = .quarantine ∧ (t.link n).qcause = 6 ∧
        raised s t .axlQuarantine [n.val])) ∧
    (a.start + 100000000 ≤ s.now → ∃ t, exec (.admitTimeout n) s = .next t ∧ (t.link n).st = .quarantine ∧
      (t.link n).qcause = 5 ∧ raised s t .axlQuarantine [n.val]) ∧
    (s.now < a.start + 100000000 → exec (.admitTimeout n) s = .next s)) ∧
  (∀ (s : State) (n : Nat), n < 48 → (s.link n).st = .active → (s.admitEntry (s.link n).partnerLeaf) = none →
    (∀ m < 48, m ≠ n → (s.link m).st = .down) → noWaiter s n →
    (s.admitListChanged.link n).st = .quarantine ∧ (s.admitListChanged.link n).qcause = 7))

/-- R324, R325, R327, R331: a flit sent carries header, payload and CRC and is kept; a flit received is accepted once, in
order; after the first discard one NAK goes out. -/
def Obligations.LinkFlits : Prop :=
  (∀ (s : State) (n : LinkId) (vc : Fin 8) (cap : Capability) (p : Packet), (s.link n).st = .active → vc ≠ 7 →
    (s.link n).fastRetrain = none → (s.link n).eddy.length < 1024 → (s.link n).encrypted = false → s.axlIdle = false →
    (s.link n).partner = some cap → 0 < nth 0 (s.link n).avail vc → nth 0 (s.link n).sentCount vc < nth 0 cap.contract vc →
    s.tx = [p] → vcOf p.op.toNat = some vc.val → s.wayOf p = some n.val → (packetBytes p).length ≤ 240 →
    (s.link n).txBytes = [[], [], [], [], [], [], [], []] → (s.link n).rxReturn = [0, 0, 0, 0, 0, 0, 0, 0] →
    (s.link n).avail.length = 8 →
    (let l := s.link n
     let head := vc.val * 2 ^ 61 + 2 * 2 ^ 58 + l.sendSeq.toNat * 2 ^ 46 + (l.expect - 1).toNat * 2 ^ 34
     let body := leBytes 8 head ++ packetBytes p ++ List.replicate (240 - (packetBytes p).length) 0
     ∃ t, exec (.flitSend n vc) s = .next t ∧ t.out = .flit n (body ++ leBytes 8 (crc64 body)) :: s.out ∧ t.tx = [] ∧
       (t.link n).eddy = l.eddy ++ [⟨l.sendSeq, vc, 2, body⟩] ∧ (t.link n).sendSeq = l.sendSeq + 1 ∧
       nth 0 (t.link n).avail vc = nth 0 l.avail vc - 1 ∧ (t.link n).st = .active ∧ (∀ m, m ≠ n.val → t.link m = s.link m) ∧
       { t with links := s.links, out := s.out, tx := s.tx } = s)) ∧
  (∀ (s : State) (n : LinkId) (vc : Fin 8), (s.link n).st ≠ .active ∨ vc = 7 ∨ 1024 ≤ (s.link n).eddy.length ∨
    ((s.link n).encrypted = false ∧ nth 0 (s.link n).avail vc = 0) → exec (.flitSend n vc) s = .next s) ∧
  (∀ (s : State) (n : LinkId) (bytes : List Byte) (fixed bad : Nat), (s.link n).up = true → bytes.length = 256 →
    bad ≠ 0 ∨ crc64 (bytes.take 248) ≠ leAt bytes 248 8 → s.axlIdle = false →
    ∃ t, exec (.flitReceive n bytes fixed bad) s = .next t ∧ t.rx = s.rx ∧ (t.link n).expect = (s.link n).expect ∧
      t.getF .axlFec [n.val] 63 32 = min (s.getF .axlFec [n.val] 63 32 + fixed) (2 ^ 32 - 1) ∧
      t.getF .axlFec [n.val] 31 0 = min (s.getF .axlFec [n.val] 31 0 + bad) (2 ^ 32 - 1) ∧
      (t.link n).nakSent = true ∧ ((s.link n).nakSent = true → t.out = s.out ∧ t.links = s.links) ∧
      ((s.link n).nakSent = false → ∃ body, t.out = .flit n (body ++ leBytes 8 (crc64 body)) :: s.out ∧
        bits (leAt body 0 8) 60 58 = 3 ∧ bits (leAt body 0 8) 45 34 = ((s.link n).expect - 1).toNat ∧
        bits (leAt body 0 8) 33 33 = 1) ∧
      { t with links := s.links, regs := s.regs, out := s.out } = s) ∧
  (∀ (s : State) (n : LinkId) (bytes : List Byte), (s.link n).st = .active → (s.link n).encrypted = false →
    bytes.length = 256 → crc64 (bytes.take 248) = leAt bytes 248 8 → (s.link n).eddy = [] →
    (let h := leAt bytes 0 8
     let vc := bits h 63 61
     let r := parsePackets 16 (nth [] (s.link n).rxBytes vc ++ slice bytes 8 240)
     bits h 60 58 = 1 ∨ bits h 60 58 = 2 → vc < 4 → bits h 33 0 = 0 → r.2.2 = false →
     (s.link n).rxBytes.length = 8 →
     (bits h 57 46 = (s.link n).expect.toNat → nth 0 (s.link n).rxUsed vc < s.getF .axlVc [n.val, vc] 51 40 →
       ∃ t, exec (.flitReceive n bytes 0 0) s = .next t ∧ (t.link n).expect = (s.link n).expect + 1 ∧
         t.rx = s.rx ++ r.1.map (fun p => (n.val, p)) ∧ nth [] (t.link n).rxBytes vc = r.2.1 ∧ (t.link n).nakSent = false) ∧
     (bits h 57 46 ≠ (s.link n).expect.toNat →
       ∃ t, exec (.flitReceive n bytes 0 0) s = .next t ∧ (t.link n).expect = (s.link n).expect ∧ t.rx = s.rx)))

/-- R321, R327 to R330, R332, R338 to R340: what takes a link out of service or resends its flits, and the writes of its
control registers. -/
def Obligations.LinkEventsAct : Prop :=
  (∀ (s : State) (n : LinkId), noWaiter s n →
    (let down : State → Prop := fun t => linkIs s t n (downLink (s.link n)) ∧ ((s.link n).st ≠ .training → raised s t .axlLinkDown [n.val]) ∧
       { t with links := s.links, filters := s.filters, regs := s.regs } = s
     ((s.link n).up = true ∨ (s.link n).st = .training → ∃ t, exec (.linkDown n) s = .next t ∧ down t) ∧
     (∀ t0, (s.link n).up = true → (s.link n).fastRetrain = some t0 → t0 + 1000000 ≤ s.now →
       ∃ t, exec (.fastRetrainTimeout n) s = .next t ∧ down t) ∧
     (∀ lane : Fin 2, (s.link n).up = true → (s.link n).lanes.toNat = 2 ^ lane.val →
       ∃ t, exec (.laneDrop n lane) s = .next t ∧ down t))) ∧
  (∀ (s : State) (n : LinkId) (lane : Fin 2), (s.link n).up = true → (s.link n).lanes = 3 →
    ∃ t, exec (.laneDrop n lane) s = .next t ∧
      linkIs s t n { s.link n with lanes := BitVec.ofNat 2 (3 - 2 ^ lane.val), fastRetrain := some s.now, resends := 0 } ∧
      raised s t .axlLaneDrop [n.val] ∧ raised s t .axlRetrain [n.val] ∧ { t with links := s.links, regs := s.regs } = s) ∧
  (∀ (s : State) (n : LinkId) (t0 : Nat) (i : Nat) (ex : BitVec 12), (s.link n).up = true → (s.link n).fastRetrain = some t0 →
    s.axlIdle = false → (s.link n).eddy.findIdx? (fun f => f.seq == ex - 1) = some i →
    (let rest := (s.link n).eddy.drop (i + 1)
     ∃ t, exec (.fastRetrain n ex) s = .next t ∧ (t.link n).fastRetrain = none ∧ (t.link n).eddy = rest ∧
       t.out = (rest.map (resent n.val)).reverse ++ s.out ∧ (rest ≠ [] → raised s t .axlReplay [n.val]) ∧
       { t with links := s.links, regs := s.regs, out := s.out } = s)) ∧
  (∀ (s : State) (n : LinkId), (s.link n).up = true → (s.link n).fastRetrain = none → (s.link n).eddy ≠ [] →
    s.axlIdle = false → (s.link n).ackTime + s.getF .axlReplayCfg [n.val] 31 0 ≤ s.now →
    ∃ t, exec (.replayTimeout n) s = .next t ∧ t.out = ((s.link n).eddy.map (resent n.val)).reverse ++ s.out ∧
      raised s t .axlReplay [n.val] ∧ (t.link n).eddy = (s.link n).eddy ∧
      ((s.link n).resends + 1 < s.getF .axlReplayCfg [n.val] 39 32 →
        linkIs s t n { s.link n with ackTime := s.now, resends := (s.link n).resends + 1 }) ∧
      (s.getF .axlReplayCfg [n.val] 39 32 ≤ (s.link n).resends + 1 →
        (t.link n).fastRetrain = some s.now ∧ raised s t .axlRetrain [n.val])) ∧
  (∀ (s : State) (n : LinkId), (let l := s.link n
    let high : Nat → Prop := fun m => s.getF .axlVc [n.val, m] 27 16 + s.getF .axlVc [n.val, m] 15 8 < nth 0 l.windowCount m
    let l' := { l with windowCount := [0, 0, 0, 0, 0, 0, 0, 0], sentCount := [0, 0, 0, 0, 0, 0, 0, 0] }
    let c := min (s.getF .axlAnom [n.val] 31 16 + 1) 65535
    let lim := s.getF .axlAnomLimit [n.val] 31 16
    ((∀ m < 8, ¬ high m) → exec (.linkRateWindow n) s = .next (s.setLink n l')) ∧
    (∀ k < 8, (∀ m < 8, high m ↔ m = k) → ∃ t, exec (.linkRateWindow n) s = .next t ∧ t.getF .axlAnom [n.val] 31 16 = c ∧
      (lim = 0 ∨ c < lim → linkIs s t n l' ∧ { t with links := s.links, regs := s.regs } = s) ∧
      (lim ≠ 0 → lim ≤ c → l.up = true → (t.link n).st = .isolated ∧ (t.link n).qcause = 18 ∧ raised s t .axlIsolate [n.val] ∧
        (l.st = .active → (t.link n).eddy = l.eddy.filter (fun f => f.vc == 4)))))) ∧
  (∀ (s : State) (m : Master) (n : LinkId) (v : Word), reaches s m .axlCtrl [n.val] → m ≠ 7 →
    fld v 2 2 = s.getF .axlCtrl [n.val] 2 2 →
    (let gen := if fld v 5 4 = 0 then s.getF .axlCtrl [n.val] 5 4 else fld v 5 4
     let l := s.link n
     (fld v 0 0 = 1 → l.st = .disabled → s.enabledLanes n ≠ 0 → ∃ t, exec (.linkEnable m n v) s = .next t ∧
       t.getF .axlCtrl [n.val] 0 0 = 1 ∧ t.getF .axlCtrl [n.val] 5 4 = gen ∧ linkIs s t n { l with st := .down } ∧
       { t with links := s.links, regs := s.regs } = s) ∧
     (fld v 0 0 = 0 → l.st ≠ .disabled → noWaiter s n → ∃ t, exec (.linkDisable m n v) s = .next t ∧
       t.getF .axlCtrl [n.val] 0 0 = 0 ∧ t.getF .axlCtrl [n.val] 5 4 = gen ∧
       linkIs s t n { downLink l with st := .disabled } ∧
       { t with links := s.links, regs := s.regs, filters := s.filters } = s) ∧
     (fld v 0 0 = 1 → fld v 7 7 = 1 → l.st = .active ∨ l.st = .quarantine → l.fastRetrain = none →
       ∃ t, exec (.axlRetrain m n v) s = .next t ∧ linkIs s t n { l with fastRetrain := some s.now, resends := 0 } ∧
         raised s t .axlRetrain [n.val] ∧ { t with links := s.links, regs := s.regs } = s))) ∧
  (∀ (s : State) (m : Master) (n : LinkId) (vc : Fin 8) (v : Word), reaches s m .axlVc [n.val, vc.val] →
    ∃ t, exec (.vcAllocWrite m n vc v) s = .next t ∧ t.getF .axlVc [n.val, vc.val] 27 16 = fld v 27 16 ∧
      t.getF .axlVc [n.val, vc.val] 15 8 = fld v 15 8 ∧
      t.getF .axlVc [n.val, vc.val] 51 40 = (if (s.link n).st = .down ∨ (s.link n).st = .disabled then fld v 51 40
        else s.getF .axlVc [n.val, vc.val] 51 40) ∧ { t with regs := s.regs } = s ∧
      regsBut s t [RegTag.axlVc.off [n.val, vc.val]])

/-- R341 to R344: ROUTE_LOAD with its checks, the way a packet takes, and LINK_RESET. -/
def Obligations.RoutesAndLinkReset : Prop :=
  (∀ (s s' : State) (q : QueueId) (seq : W32) (c : Started) (j : Nat) (b : JobSlot) (img : List Byte), readyJob s 0x0604 q seq c j b →
    windowOf (c.arg 0 % 2 ^ 51) = .hbm → c.arg 1 = 32832 → s.jobBad c (c.arg 0) 32832 true false = none →
    s.loadOff (c.arg 0 % 2 ^ 51) 32832 = (s', some (some img)) →
    (let good := routeFault img = 32832
     (¬ good → routeFault img < 32832 →
       exec (.routeLoad q seq) s = .next (s'.finishCmd c { status := 0x0680, detail := routeFault img })) ∧
     (good → leAt img 4 2 % 2 = 0 →
       exec (.routeLoad q seq) s = .next ((s'.setJob j { b with routes := some (readWays img) }).finishCmd c (.ok))) ∧
     (good → leAt img 4 2 % 2 = 1 →
       (let tree : Tree := ⟨leAt img 8 2, (List.range (leAt img 6 2)).map (fun i => leAt img (16 + 2 * i) 2), slice img 0 64⟩
        (∀ u, b.tree = some u → (u.parent = tree.parent ∧ u.children = tree.children →
           exec (.routeLoad q seq) s = .next ((s'.setJob j { b with routes := some (readWays img) }).finishCmd c (.ok))) ∧
          (¬ (u.parent = tree.parent ∧ u.children = tree.children) →
            exec (.routeLoad q seq) s = .next (s'.finishCmd c (.st 0x0681)))) ∧
        (b.tree = none → b.ran = true → exec (.routeLoad q seq) s = .next (s'.finishCmd c (.st 0x0682))) ∧
        (b.tree = none → b.ran = false → exec (.routeLoad q seq) s =
          .next ((s'.setJob j { b with routes := some (readWays img), tree := some tree }).finishCmd c (.ok))))))) ∧
  (∀ (img : List Byte) (d : Nat), img.length = 32832 → d < 4096 →
    ∀ w, w ∈ (readWays img).waysTo d ↔ ∃ i < 4, ∃ v, v = leAt img (64 + 8 * d + 2 * i) 2 ∧ tbit v 15 = true ∧
      w = (v % 64, tbit v 14)) ∧
  (∀ (s : State) (p : Packet) (j : Nat) (b : JobSlot) (r : RouteTable), s.findJob p.tag p.epoch = some (j, b) →
    b.routes = some r →
    (let usable : Nat × Bool → Prop := fun w => (s.link w.1).st = .active ∧
       (w.2 = true ∨ ∃ c, (s.link w.1).partner = some c ∧ c.node.toNat = p.dstNode.toNat) ∧
       ∃ e f, s.filterOf w.1 p.tag p.epoch = some (e, f) ∧ filterSends f.st p = true
     (∀ n, s.wayOf p = some n ↔ ∃ (i : Nat) (w : Nat × Bool), (r.waysTo p.dstNode.toNat)[i]? = some w ∧ w.1 = n ∧ usable w ∧
       ∀ k < i, ∀ x, (r.waysTo p.dstNode.toNat)[k]? = some x → ¬ usable x))) ∧
  (∀ (s : State) (q : QueueId) (seq : W32) (c : Started), ready s 0x0A03 q seq c → c.arg 0 < 48 →
    (s.enabledLanes (c.arg 0) = 0 → exec (.linkReset q seq) s = .next (s.finishCmd c (.st 0x0901))) ∧
    (s.enabledLanes (c.arg 0) ≠ 0 → (s.link (c.arg 0)).st ≠ .disabled → noWaiter s (c.arg 0) →
      ∃ t, exec (.linkReset q seq) s = .next t ∧ t.reg .axlAnom [c.arg 0] = 0 ∧
        linkIs s t (c.arg 0) { downLink (s.link (c.arg 0)) with trainStart := s.now } ∧
        { t with links := s.links, regs := s.regs, filters := s.filters, started := s.started } = s ∧
        t.findStarted q.val seq = some { c with wait := .link (c.arg 0) } ∧
        (∀ q' seq', (q', seq') ≠ (q.val, seq) → t.findStarted q' seq' = s.findStarted q' seq'))) ∧
  (∀ (s : State) (n : Nat) (c : Started), s.started.filter (fun c => c.wait == .link n) = [c] →
    s.linkSettled n = s.finishCmd c (.ok (s.link n).stateWord.toNat))

/-! ## Remote operations (chapter 14) -/

namespace Sys2Proof.Claims

/-- A well-formed packet has arrived on an ACTIVE link whose job filter lets it in, and its context entry takes it (R352,
R398). -/
def arrives (s : State) (n : LinkId) (p : Packet) (answer : Bool) : Prop :=
  (s.link n).st = .active ∧ (n.val, p) ∉ s.rx ∧ s.packetOk p = true ∧ payloadOk p = true ∧
  (∃ e f, s.filterOf n p.tag p.epoch = some (e, f) ∧ filterAccepts f.st p.op.toNat = true) ∧
  (s.ctx p.dstCtx.toNat).admits p answer = true

/-- No job is in teardown, and no snapshot or restore is under way. -/
def quietJobs (s : State) : Prop :=
  (∀ j b, s.job j = some b → b.teardown = false) ∧ (∀ j, (s.snap j).phase = .idle ∧ (s.snap j).restore = none)

/-- What an answered request leaves of a context entry (R354). -/
def without (c : Ctx) (q : W32) : Ctx :=
  { c with reqs := c.reqs.filter (fun r => r.seq != q),
           lowUnack := ({ c with reqs := c.reqs.filter (fun r => r.seq != q) } : Ctx).lowest }

/-- Only context x may differ, and it is c. -/
def ctxIs (s t : State) (x : Nat) (c : Ctx) : Prop := t.ctx x = c ∧ ∀ y, y ≠ x → t.ctx y = s.ctx y

end Sys2Proof.Claims

/-- R349 to R351, R373: contexts are opened, bound, closed, shown and given up. -/
def Obligations.ContextCommands : Prop :=
  (∀ (s : State) (q : QueueId) (seq : W32) (c : Started) (j : Nat) (b : JobSlot), readyJob s 0x0601 q seq c j b → c.arg 0 < 4096 →
    (let same : Nat → Prop := fun x => (s.ctx x).st = .binding ∧ (s.ctx x).tag = c.tag ∧ (s.ctx x).epoch = c.epoch ∧
       (s.ctx x).key.toNat = c.arg 4 ∧ (s.ctx x).peerNode.toNat = c.arg 0 ∧ (s.ctx x).peerSpan.toNat = c.arg 1
     let peer := ¬ (c.arg 0 = s.nodeNo ∧ c.arg 1 = s.spanNo)
     (¬ peer → exec (.ctxOpen q seq) s = .next (s.finishCmd c (.st 0x0103))) ∧
     (peer → (∃ x, same x) → exec (.ctxOpen q seq) s = .next (s.finishCmd c (.st 0x0643))) ∧
     (peer → (∀ e ∈ s.ctxs, ¬ (e.2.st = .binding ∧ e.2.key.toNat = c.arg 4)) → (∀ x < 2 ^ 20, (s.ctx x).st ≠ .closed) →
       exec (.ctxOpen q seq) s = .next (s.finishCmd c (.st 0x0641))) ∧
     (peer → (∀ e ∈ s.ctxs, ¬ (e.2.st = .binding ∧ e.2.key.toNat = c.arg 4)) → ∀ x < 2 ^ 20, (s.ctx x).st = .closed →
       (∀ y < x, (s.ctx y).st ≠ .closed) →
       (let e : Ctx :=
          { Ctx.zero with
            peerNode := BitVec.ofNat 13 (c.arg 0), peerSpan := BitVec.ofNat 16 (c.arg 1), tag := c.tag, epoch := c.epoch
            st := .binding, timeoutUs := BitVec.ofNat 32 (if c.arg 5 = 0 then 50000 else c.arg 5), sendSeq := 1
            lowUnack := 1, retries := BitVec.ofNat 4 (if c.arg 3 = 0xFF then 3 else c.arg 3)
            tally := BitVec.ofNat 64 (c.arg 6), key := BitVec.ofNat 32 (c.arg 4), bindStart := s.now, bindLast := s.now
            cmd := some (c.q, c.seq) }
        ∃ t, exec (.ctxOpen q seq) s = .next t ∧ ctxIs s t x e ∧
          t.findStarted q.val seq = some { c with wait := .bind x } ∧
          t.tx = s.tx ++ [s.ctxPacket e 0x14 0 0 e.key.toNat (leBytes 4 x)] ∧
          { t with ctxs := s.ctxs, started := s.started, tx := s.tx } = s)))) ∧
  (∀ (s : State) (x : CtxId), (s.ctx x).st = .binding →
    (let e := s.ctx x
     (e.bindLast + 10000000 ≤ s.now → exec (.bindRepeat x) s = .next ((s.setCtx x { e with bindLast := s.now }).transmit
       (s.ctxPacket e 0x14 0 0 e.key.toNat (leBytes 4 x)))) ∧
     (s.now < e.bindLast + 10000000 → exec (.bindRepeat x) s = .next s) ∧
     (s.now < e.bindStart + 1000000000 → exec (.bindTimeout x) s = .next s) ∧
     (∀ q seq d, e.bindStart + 1000000000 ≤ s.now → e.cmd = some (q, seq) → s.findStarted q seq = some d →
       exec (.bindTimeout x) s = .next ((s.setCtx x Ctx.zero).finishCmd d (.st 0x0642))))) ∧
  (∀ (s : State) (n : LinkId) (p : Packet) (x : Nat) (e : Ctx), (s.link n).st = .active → (n.val, p) ∉ s.rx →
    s.packetOk p = true → payloadOk p = true → (∃ i f, s.filterOf n p.tag p.epoch = some (i, f) ∧ filterAccepts f.st p.op.toNat = true) →
    s.ctxs.find? (fun y => y.2.st == .binding && (y.2.tag == p.tag && y.2.epoch == p.epoch && y.2.key.toNat == p.arg.toNat &&
      y.2.peerNode.toNat == p.srcNode.toNat && y.2.peerSpan == p.srcSpan)) = some (x, e) →
    (let peer := leAt p.payload 0 4 % 2 ^ 20
     let s1 := s.setCtx x { e with st := .open, peerCtx := BitVec.ofNat 20 peer, cmd := none }
     (e.cmd = none → exec (.bindPacket n p) s = .next s1) ∧
     (∀ q seq d, e.cmd = some (q, seq) → s.findStarted q seq = some d →
       exec (.bindPacket n p) s = .next (s1.finishCmd d (.ok x peer))))) ∧
  (∀ (s : State) (q : QueueId) (seq : W32) (c : Started) (j : Nat) (b : JobSlot), readyJob s 0x0602 q seq c j b →
    (let x := c.arg 0
     let e := s.ctx x
     (2 ^ 20 ≤ x ∨ e.st = .closed ∨ e.tag ≠ c.tag ∨ e.epoch ≠ c.epoch → exec (.ctxClose q seq) s = .next (s.finishCmd c (.st 0x0640))) ∧
     (x < 2 ^ 20 → e.tag = c.tag → e.epoch = c.epoch →
       (e.st = .resolve → exec (.ctxClose q seq) s = .next (s.finishCmd c (.st 0x0644))) ∧
       (e.st = .open → e.outstanding ≠ 0 → exec (.ctxClose q seq) s = .next ((s.waitCmd c (.close x)).setCtx x { e with st := .closing })) ∧
       (e.st = .open → e.outstanding = 0 → e.queue = [] → e.recvs = [] → (∀ y ∈ s.copies, y.ctx ≠ x) →
         (∀ d ∈ s.started, d.wait ≠ .close x) →
         exec (.ctxClose q seq) s = .next ((((s.waitCmd c (.close x)).setCtx x { e with st := .closing }).setCtx x Ctx.zero).finishCmd
           { c with wait := .close x } (.ok)))))) ∧
  (∀ (s : State) (q : QueueId) (seq : W32) (c : Started) (j : Nat) (b : JobSlot), readyJob s 0x0603 q seq c j b →
    (let e := s.ctx (c.arg 0)
     (2 ^ 20 ≤ c.arg 0 ∨ e.st = .closed ∨ e.tag ≠ c.tag ∨ e.epoch ≠ c.epoch → exec (.ctxQuery q seq) s = .next (s.finishCmd c (.st 0x0640))) ∧
     (c.arg 0 < 2 ^ 20 → e.st ≠ .closed → e.tag = c.tag → e.epoch = c.epoch → s.jobBad c (c.arg 1) 64 false true = none →
       exec (.ctxQuery q seq) s = .next ((s.storeOff (c.arg 1 % 2 ^ 51) e.bytes).finishCmd c (.ok))))) ∧
  (∀ (s : State) (m : Master) (v : Word), reaches s m .ctxSelect [] → ∃ t, exec (.ctxSelectWrite m v) s = .next t ∧
    t.reg .ctxSelect = BitVec.ofNat 64 (fld v 19 0) ∧
    (∀ w < 8, t.reg .ctxEntry [w] = BitVec.ofNat 64 (leAt (s.ctx (fld v 19 0)).bytes (8 * w) 8)) ∧ { t with regs := s.regs } = s) ∧
  (∀ c : Ctx, c.bytes.length = 64 ∧ leAt c.bytes 0 2 = c.peerNode.toNat ∧ leAt c.bytes 2 2 = c.peerSpan.toNat ∧
    leAt c.bytes 4 2 = c.tag.toNat ∧ leAt c.bytes 6 1 = c.epoch.toNat ∧ leAt c.bytes 7 1 = c.st.code ∧
    leAt c.bytes 8 4 = c.peerCtx.toNat ∧ leAt c.bytes 12 4 = c.timeoutUs.toNat ∧ leAt c.bytes 16 4 = c.sendSeq.toNat ∧
    leAt c.bytes 20 4 = c.lowUnack.toNat ∧ leAt c.bytes 24 4 = c.exec.toNat ∧ leAt c.bytes 28 2 = c.execMap.toNat ∧
    leAt c.bytes 30 1 = c.retries.toNat ∧ leAt c.bytes 31 1 = (c.reqs.countP (fun r => !r.answered)) % 256 ∧
    leAt c.bytes 32 8 = c.tally.toNat ∧ leAt c.bytes 40 4 = c.key.toNat ∧ leAt c.bytes 44 2 = c.late.toNat ∧
    leAt c.bytes 46 2 = c.resends.toNat)

/-- R352, R353, R355, R357, R358: the responder's window, and what each request does when it is new, a duplicate or not
admitted. -/
def Obligations.RequestsExecuteOnce : Prop :=
  (∀ (c : Ctx) (q : W32), c.execMap.getLsbD 15 = false →
    (let d := (q - c.exec).toNat
     (d = 0 ∨ 2 ^ 32 - 15 ≤ d → c.seqSt q = .done) ∧ (2 ^ 31 ≤ d → d ≤ 2 ^ 32 - 16 → c.seqSt q = .stale) ∧
     (16 < d → d < 2 ^ 31 → c.seqSt q = .outside) ∧ (d = 1 → c.seqSt q = .fresh) ∧
     (2 ≤ d → d ≤ 16 → c.seqSt q = if c.execMap.getLsbD (d - 2) then .done else .fresh) ∧
     (c.seqSt q = .fresh → (c.markDone q).seqSt q = .done ∧ (c.markDone q).execMap.getLsbD 15 = false ∧ ∀ r, r ≠ q →
       (c.seqSt r = .fresh → (c.markDone q).seqSt r = .fresh) ∧
       (c.seqSt r = .done → (c.markDone q).seqSt r = .done ∨ (c.markDone q).seqSt r = .stale)))) ∧
  (∀ (s : State) (n : LinkId) (p : Packet), arrives s n p false →
    (let x := p.dstCtx.toNat
     let e := s.ctx x
     let o := p.arg.toNat % 2 ^ 51
     let reply : Nat → List Byte → Packet := fun st data => s.ctxPacket e 0x10 0 p.seq st data
     let ran : State → State → Nat → List Byte → List Byte → Prop := fun u t st kept data =>
       ctxIs s t x { e.markDone p.seq with slots := minsert (e.markDone p.seq).slots (p.seq.toNat % 16) ⟨p.seq, BitVec.ofNat 8 st, kept, false⟩ } ∧
         t.tx = s.tx ++ [reply st data] ∧ t.tallies = u.tallies
     e.seqSt p.seq = .fresh →
     (∀ u bs, p.op = 0x01 → s.remoteCheck p.tag o (2 ^ bits p.flags.toNat 2 0) true false = (s, 0) →
       s.loadOff o (2 ^ bits p.flags.toNat 2 0) = (u, some (some bs)) →
       ∃ t, exec (.loadPacket n p) s = .next t ∧ ran u t 0 [] bs ∧ t.mem = s.mem) ∧
     (p.op = 0x02 → s.remoteCheck p.tag o p.payload.length false true = (s, 0) →
       ∃ t, exec (.storePacket n p) s = .next t ∧ ran (s.storeOff o p.payload) t 0 [] [] ∧
         t.mem = memWrite (s.storeOff o p.payload).mem (0x8F80000000 + 256 * x + 16 * (p.seq.toNat % 16)) (leBytes 16 0)) ∧
     (∀ a u bs, p.op = 0x03 → (let f := leAt p.payload 0 1
       let w := atomicBytes f
       s.remoteCheck p.tag o w true true = (s, 0) → o % w = 0 → s.phys o = some a → s.load a w = (u, some bs) →
       (let r := atomicNew f (leNat bs) (if f % 16 = 9 then leAt p.payload 8 8 else leAt p.payload 8 16) (leAt p.payload 16 8)
        ∃ t, exec (.atomicPacket n p) s = .next t ∧ ran u t 0 (leBytes w (leNat bs)) (leBytes w (leNat bs)) ∧
          t.mem = memWrite (u.store a (leBytes w r.1)).mem (0x8F80000000 + 256 * x + 16 * (p.seq.toNat % 16)) (leBytes 16 (leNat bs)) ∧
          (r.2 = true → t.getF .ctxEvents [] 4 4 = 1)))) ∧
     (∀ j b, p.op = 0x04 → s.findJob p.tag p.epoch = some (j, b) → (let v := p.arg.toNat
       (s.isSelf (sigNode v) = true ∧ b.holds (sigCluster v) = true →
         ∃ t, exec (.signalPacket n p) s = .next t ∧ ran (s.addTally (sigCluster v) (sigCore v) (sigTally v) (sigAdd v)) t 0 [] []) ∧
       (s.isSelf (sigNode v) = false ∨ b.holds (sigCluster v) = false →
         ∃ t, exec (.signalPacket n p) s = .next t ∧ ran s t 1 [] []))) ∧
     (p.op = 0x05 → (let len := leAt p.payload 0 8
       let tally := BitVec.ofNat 64 (leAt p.payload 8 8)
       1 ≤ len → len ≤ 16777216 →
       (bits p.flags.toNat 4 4 = 0 → s.remoteCheck p.tag o len false true = (s, 0) →
         ∃ t, exec (.copyOpen n p) s = .next t ∧ t.tx = s.tx ++ [reply 0 (leBytes 8 0 ++ leBytes 8 len)] ∧
           (t.ctx x).findRx p.seq false = some ⟨p.seq, o, len, 0, if tally.getLsbD 63 then tally else e.tally, none, 0, none⟩ ∧
           (t.ctx x).seqSt p.seq = .done) ∧
       (∀ u bs, bits p.flags.toNat 4 4 = 1 → s.remoteCheck p.tag o len true false = (s, 0) →
         s.loadOff o len = (u, some (some bs)) → u = s → s.served x p.seq = none → s.jTop ≤ 0x8A00000000 →
         ∃ t, exec (.copyOpen n p) s = .next t ∧ (t.ctx x).seqSt p.seq = .done ∧ t.nextCopy = s.nextCopy + 1 ∧
           t.tx = s.tx ++ [reply 0 (leBytes 8 0 ++ leBytes 8 len)] ++ s.piecesOf x p.seq true false 0 len 0 bs (bs.length / 256 + 1)))) ∧
     (p.op = 0x07 → (let len := leAt p.payload 0 8
       (p.seq = e.exec + 1 → ∀ r, e.recvs.find? (fun r => (p.arg ^^^ r.tag) &&& r.mask == 0) = some r → 0 < min len r.len →
         ∃ t, exec (.msgPacket n p) s = .next t ∧ (t.ctx x).seqSt p.seq = .done ∧ (t.ctx x).recvs = e.recvs.erase r ∧
           t.tx = s.tx ++ [reply 0 (leBytes 8 0 ++ leBytes 8 (min len r.len))] ∧
           (t.ctx x).findRx p.seq false = some ⟨p.seq, r.dst, min len r.len, 0, if r.tally.getLsbD 63 then r.tally else e.tally,
             some (r.q, r.seq, r.len, len), p.arg, none⟩) ∧
       (p.seq ≠ e.exec + 1 ∨ e.recvs.find? (fun r => (p.arg ^^^ r.tag) &&& r.mask == 0) = none →
         exec (.msgPacket n p) s = .next ((s.transmit (reply 4 [])).raise .ctxRnr)))))) ∧
  (∀ (s : State) (n : LinkId) (p : Packet), arrives s n p false → p.op = 0x12 →
    (let x := p.dstCtx.toNat
     let e := s.ctx x
     let asked : W32 := BitVec.ofNat 32 p.arg.toNat
     let r := e.slot asked
     (e.seqSt asked = .fresh → ∃ t, exec (.queryPacket n p) s = .next t ∧
       t.tx = s.tx ++ [s.ctxPacket e 0x13 0 asked asked.toNat []] ∧
       ctxIs s t x { e.markDone asked with slots := minsert (e.markDone asked).slots (asked.toNat % 16) ⟨asked, 0, [], true⟩ }) ∧
     (e.seqSt asked = .done → r.notApplied = false → r.status = 0 →
       exec (.queryPacket n p) s = .next (s.transmit (s.ctxPacket e 0x13 0 asked (2 ^ 32 + asked.toNat) r.data))))) ∧
  (∀ (s : State) (n : LinkId) (p : Packet) (i : Instr) (op : Byte), arrives s n p false → p.op = op →
    (i, op) ∈ [(Instr.storePacket n p, 2), (.atomicPacket n p, 3), (.signalPacket n p, 4), (.copyOpen n p, 5), (.msgPacket n p, 7)] →
    (let e := s.ctx p.dstCtx.toNat
     (e.seqSt p.seq = .done → (e.slot p.seq).notApplied = false →
       exec i s = .next (s.transmit (s.ctxPacket e 0x10 0 p.seq (e.slot p.seq).status.toNat
         (if (e.slot p.seq).status = 0 then (e.slot p.seq).data else [])))) ∧
     (e.seqSt p.seq = .stale → exec i s = .next ((s.setCtx p.dstCtx.toNat
       { e with late := BitVec.ofNat 16 (min (e.late.toNat + 1) 65535) }).raise .ctxLate)) ∧
     (e.seqSt p.seq = .outside → exec i s = .next (s.anomaly n .malformed)))) ∧
  (∀ (s : State) (n : LinkId) (p : Packet) (i : Instr),
    i ∈ [Instr.loadPacket n p, .storePacket n p, .atomicPacket n p, .signalPacket n p, .copyOpen n p, .msgPacket n p, .redPiece n p,
      .queryPacket n p] → (s.link n).st = .active → (n.val, p) ∉ s.rx →
    (s.packetOk p = false ∨ payloadOk p = false → exec i s = .next (s.anomaly n .malformed)) ∧
    (s.packetOk p = true → payloadOk p = true →
      (s.filterOf n p.tag p.epoch = none → exec i s = .next (s.raise .timeFilterDrop)) ∧
      (∀ e f, s.filterOf n p.tag p.epoch = some (e, f) →
        (filterAccepts f.st p.op.toNat = false → exec i s = .next (s.raise .timeFilterDrop)) ∧
        (filterAccepts f.st p.op.toNat = true → (s.ctx p.dstCtx.toNat).admits p false = false →
          exec i s = .next (s.raise .ctxNoContext)))))

/-- R353, R354, R356 to R358, R368: answers, resends, resolution and late arrivals at the requester. -/
def Obligations.RequestsEnd : Prop :=
  (∀ (s : State) (n : LinkId) (p : Packet) (r : Req), arrives s n p true → quietJobs s →
    (let x := p.dstCtx.toNat
     let e := s.ctx x
     e.reqs.find? (fun r => r.seq == p.seq && !r.answered) = some r → e.st = .open → e.queue = [] →
     (p.arg.toNat % 256 = 4 → exec (.replyPacket n p) s = .next (s.setCtx x
       { e with reqs := updFirst (fun r => r.seq == p.seq) (fun r => { r with rnr := some s.now }) e.reqs })) ∧
     (∀ j lc u, r.origin = .signal j lc u → p.arg.toNat % 256 = 0 →
       ∃ t, exec (.replyPacket n p) s = .next t ∧ ctxIs s t x (without e p.seq) ∧ { t with ctxs := s.ctxs } = s) ∧
     (∀ c c' w, r.origin = .core c' → p.arg.toNat % 256 = 0 → r.unresolved = false → s.coreAwaiting x p.seq = some (c, w) →
       (w.kind = 0 ∨ w.kind = 1) →
       ∃ t, exec (.replyPacket n p) s = .next t ∧ ctxIs s t x (without e p.seq) ∧
         t.core c = ((if w.kind = 0 then
           ({ s.core c with phase := .running } : Core).wg (fd w.word) (gload (func w.word) (leNat p.payload))
           else { s.core c with phase := .running }) : Core).advance))) ∧
  (∀ (s : State) (n : LinkId) (p : Packet), arrives s n p true → quietJobs s →
    (let x := p.dstCtx.toNat
     let e := s.ctx x
     let late : State := (s.setCtx x { e with late := BitVec.ofNat 16 (min (e.late.toNat + 1) 65535) }).raise .ctxLate
     ((∀ r ∈ e.reqs, r.seq = p.seq → r.answered = true) → exec (.replyPacket n p) s = .next late) ∧
     ((∀ r ∈ e.reqs, r.seq.toNat = p.arg.toNat % 2 ^ 32 → r.answered = true ∧ r.unresolved = false) →
       exec (.queryReply n p) s = .next late))) ∧
  (∀ (s : State) (n : LinkId) (p : Packet) (r : Req), arrives s n p true → quietJobs s →
    (let x := p.dstCtx.toNat
     let e := s.ctx x
     let q : W32 := BitVec.ofNat 32 p.arg.toNat
     let applied := p.arg.getLsbD 32
     e.reqs.find? (fun r => r.seq == q && r.unresolved) = some r → r.seq = q → e.st = .resolve → e.queue = [] →
     (∀ y ∈ e.reqs, y.unresolved = true → y.seq = q) →
     (∀ j lc u, r.origin = .signal j lc u → applied = true → p.payload.length ≠ 1 →
       ∃ t, exec (.queryReply n p) s = .next t ∧
         t.reg .ctxResolveLast = BitVec.ofNat 64 (2 ^ 63 + x * 2 ^ 32 + q.toNat) ∧
         ctxIs s t x { without e q with st := .open } ∧ { t with ctxs := s.ctxs, regs := s.regs } = s) ∧
     (∀ c c' w, r.origin = .core c' → applied = false → s.coreAwaiting x q = some (c, w) → w.kind = 0 ∨ w.kind = 1 →
       ∃ t, exec (.queryReply n p) s = .next t ∧ t.reg .ctxResolveLast = BitVec.ofNat 64 (x * 2 ^ 32 + q.toNat) ∧
         (t.core c).phase = .running ∧ (t.core c).pc = (s.core c).pc ∧ (t.ctx x).st = .open ∧
         t.getF .coreEvents [c / 17, c % 17] 1 1 = 1))) ∧
  (∀ (s : State) (x : CtxId) (seq : W32) (r : Req), quietJobs s →
    (let e := s.ctx x
     e.reqs.find? (fun r => r.seq == seq && !r.unresolved) = some r → r.answered = false →
     (s.now < r.t0 + e.timeoutUs.toNat * 1000 → exec (.requestTimeout x seq) s = .next s) ∧
     (r.t0 + e.timeoutUs.toNat * 1000 ≤ s.now → r.rnr = none →
       (r.tries < e.retries.toNat → ∃ t, exec (.requestTimeout x seq) s = .next t ∧
         t.tx = s.tx ++ [{ r.pkt with flags := r.pkt.flags ||| 0x80 }] ∧
         (t.ctx x).resends = BitVec.ofNat 16 (min (e.resends.toNat + 1) 65535) ∧ raised s t .ctxRetry [] ∧
         (t.ctx x).sendSeq = e.sendSeq ∧ { t with ctxs := s.ctxs, regs := s.regs, tx := s.tx } = s) ∧
       (e.retries.toNat ≤ r.tries → e.st = .open → s.coreAwaiting x seq = none →
         ∃ t, exec (.requestTimeout x seq) s = .next t ∧ raised s t .ctxUnresolved [] ∧ t.tx = s.tx ∧
           ctxIs s t x { e with st := .resolve, queryLast := s.now,
                                reqs := updFirst (fun r => r.seq == seq) (fun r => { r with unresolved := true }) e.reqs }) ∧
       (e.retries.toNat ≤ r.tries → e.st = .open → ∀ c w, s.coreAwaiting x seq = some (c, w) →
         ∃ t, exec (.requestTimeout x seq) s = .next t ∧ (t.ctx x).st = .resolve ∧ (t.core c).phase = .held w)))) ∧
  (∀ (s : State) (x : CtxId), (s.ctx x).st = .resolve →
    (s.now < (s.ctx x).queryLast + (s.ctx x).timeoutUs.toNat * 1000 → exec (.queryTimer x) s = .next s) ∧
    ((s.ctx x).queryLast + (s.ctx x).timeoutUs.toNat * 1000 ≤ s.now → ∃ t, exec (.queryTimer x) s = .next t ∧
      ctxIs s t x { s.ctx x with queryLast := s.now } ∧ { t with ctxs := s.ctxs, tx := s.tx } = s ∧
      t.tx = s.tx ++ ((s.ctx x).reqs.filter (fun r => r.unresolved)).map (fun r => s.ctxPacket (s.ctx x) 0x12 0 r.seq r.seq.toNat []))) ∧
  (∀ (s : State) (x : CtxId) (seq : W32) (r : Req) (t0 : Nat),
    (s.ctx x).reqs.find? (fun r => r.seq == seq && !r.unresolved && !r.answered) = some r → r.rnr = some t0 →
    (s.now < t0 + (s.ctx x).timeoutUs.toNat * 1000 / 16 → exec (.rnrResend x seq) s = .next s) ∧
    (t0 + (s.ctx x).timeoutUs.toNat * 1000 / 16 ≤ s.now → exec (.rnrResend x seq) s = .next ((s.setCtx x
      { s.ctx x with reqs := updFirst (fun r => r.seq == seq) (fun r => { r with rnr := none, t0 := s.now }) (s.ctx x).reqs }).transmit r.pkt)))

/-- R130, R360 to R362, R365 to R367: copies within the node and to a peer, their pieces, ACOPY's status, and messages. -/
def Obligations.CopiesAndMessages : Prop :=
  (∀ (s : State) (q : QueueId) (seq : W32) (c : Started) (j : Nat) (b : JobSlot), readyJob s 0x0201 q seq c j b →
    (let o := c.arg 0 % 2 ^ 51
     let d := c.arg 1 % 2 ^ 51
     let n := c.arg 2
     c.arg 0 / 2 ^ 51 = 0x1FFF → c.arg 1 / 2 ^ 51 = 0x1FFF → 1 ≤ n → n ≤ 16777216 → c.arg 4 ≤ 2 → c.arg 5 = 0 →
     windowOf o = .hbm → windowOf d = .hbm → s.copyBad c.tag true (c.arg 0) (c.arg 1) n = none → s.jTop ≤ 0x8A00000000 →
     o + n ≤ d ∨ d + n ≤ o → s.errs = [] → s.heldWrites = [] → s.pages = [] → s.hostPort.snoop = [] →
     ∃ u : State, exec (.memCopy q seq) s = .next (u.finishCmd c (.ok n)) ∧
       (∀ a, mget 0#8 u.mem a = if d ≤ a ∧ a < d + n then mget 0#8 s.mem (o + (a - d)) else mget 0#8 s.mem a) ∧
       { u with mem := s.mem, copies := s.copies } = s)) ∧
  (∀ (s : State) (q : QueueId) (seq : W32) (c : Started) (j : Nat) (b : JobSlot), readyJob s 0x0201 q seq c j b →
    (let x := c.arg 3
     let far := c.arg 1 / 2 ^ 51
     let e := s.ctx x
     c.arg 0 / 2 ^ 51 = 0x1FFF → far < 4096 → far ≠ s.nodeNo → 1 ≤ c.arg 2 → c.arg 2 ≤ 16777216 → c.arg 4 ≤ 2 → c.arg 5 = 0 →
     windowOf (c.arg 1 % 2 ^ 51) ≠ .host → windowOf (c.arg 0 % 2 ^ 51) = .hbm →
     (2 ^ 20 ≤ x ∨ s.ctxUsable x c.tag c.epoch far s.spanNo = false → exec (.memCopy q seq) s = .next (s.finishCmd c (.st 0x0640))) ∧
     (x < 2 ^ 20 → s.ctxUsable x c.tag c.epoch far s.spanNo = true → e.canSend = true → e.queue = [] →
       s.copyBad c.tag true (c.arg 0) (c.arg 1) (c.arg 2) = none → (∀ y ∈ s.copies, y.id < s.nextCopy) →
       ∃ t, exec (.memCopy q seq) s = .next t ∧ t.findStarted q.val seq = some { c with wait := .copy s.nextCopy } ∧
         t.tx = s.tx ++ [s.ctxPacket e 0x05 0 e.sendSeq (c.arg 1 % 2 ^ 51) (leBytes 8 (c.arg 2) ++ leBytes 8 0)] ∧
         (t.ctx x).sendSeq = e.sendSeq + 1 ∧ (t.ctx x).outstanding = e.outstanding + 1 ∧ t.nextCopy = s.nextCopy + 1 ∧
         { t with started := s.started, tx := s.tx, ctxs := s.ctxs, copies := s.copies, nextCopy := s.nextCopy } = s))) ∧
  (∀ (s : State) (q : QueueId) (seq : W32) (c : Started) (j : Nat) (b : JobSlot), readyJob s 0x0201 q seq c j b →
    c.arg 2 = 0 ∨ 16777216 < c.arg 2 ∨ 2 < c.arg 4 → exec (.memCopy q seq) s = .next (s.finishCmd c (.st 0x0645))) ∧
  (∀ (s s' : State) (c : CoreId) (w : W32) (a : Nat) (desc : List Byte), atInstr s .acopy c w → fb w = 0 → func w = 0 →
    globalHere s (s.core c.val) ((s.core c.val).rg (fa w)).toNat 64 true false a → s.load a 64 = (s', some desc) →
    (let k := s.core c.val
     let off := ((s.core c.val).rg (fa w)).toNat % 2 ^ 51
     let r := s'.acopy k desc
     s.namesOther (k.rg (fa w)).toNat = false → s'.journalNext k 0xFF off (leAt desc 0 16) = .perform →
     exec (.acopy c w) s = .next ((r.1.journalAdd k 0xFF off (leAt desc 0 16) r.2 none).setCore c.val
       (({ k with journalPos := k.journalPos + 1 } : Core).wg (fd w) (BitVec.ofNat 64 r.2)).advance))) ∧
  (∀ (s : State) (k : Core) (desc : List Byte) (u : UnitRef) (b : JobSlot) (z : SchedRun × TableSlot) (r : UnitRec),
    s.unitTable k = some (u, b, z) → s.unitRec u = some r →
    (2 < leAt desc 25 1 → s.acopy k desc = (s, 0x0645)) ∧
    (leAt desc 25 1 ≤ 2 → (∃ i, 43 ≤ i ∧ i < 64 ∧ nth 0#8 desc i ≠ 0) → s.acopy k desc = (s, 0x0645)) ∧
    (leAt desc 25 1 = 0 → slice desc 26 4 = [0, 0, 0, 0] → slice desc 30 2 = [0, 0] → slice desc 40 24 = List.replicate 24 0 →
      (let d := readCopyDesc desc
       1 ≤ d.len → d.len ≤ 16777216 → d.cls ≤ 2 → d.tally = 0 → s.namesOther d.src = false → s.namesOther d.dst = false →
       bits d.context 30 20 = 0 →
       (s.copyBad k.jobTag false d.src d.dst d.len ≠ none → s.acopy k desc = (s, 0x0201)) ∧
       (s.copyBad k.jobTag false d.src d.dst d.len = none → s.acopy k desc =
         (s.startCopy (.unit u.job (16 * r.lcluster + r.lcore) r.unit) k.jobTag k.jobEpoch d.src d.dst d.len (d.context % 2 ^ 20) 0, 0))))) ∧
  (∀ (s : State) (n : LinkId) (p : Packet) (r : RxCopy), arrives s n p true → quietJobs s →
    (let x := p.dstCtx.toNat
     let e := s.ctx x
     let k := min 256 (r.len - r.next)
     bits p.flags.toNat 4 4 = 0 → e.findRx p.seq false = some r →
     (p.arg.toNat % 2 ^ 51 ≠ (if r.recv.isSome ∨ r.getId.isSome then r.next else r.dst + r.next) ∨ p.payload.length ≠ k →
       exec (.piecePacket n p) s = .next s) ∧
     (r.recv = none → r.getId = none → p.arg.toNat % 2 ^ 51 = r.dst + r.next → p.payload.length = k → r.next < r.len →
       (let u := (s.storeOff (r.dst + r.next) p.payload).tallyHit e.tag e.epoch r.tally 1
        ∃ t, exec (.piecePacket n p) s = .next t ∧ t.mem = u.mem ∧ t.tallies = u.tallies ∧
          t.tx = s.tx ++ [s.ctxPacket e 0x11 0 p.seq (r.next + k) []] ∧
          (t.ctx x).findRx p.seq false = (if r.next + k < r.len then some { r with next := r.next + k } else none) ∧
          (t.ctx x).slot p.seq = ⟨p.seq, 0, leBytes 8 (r.next + k) ++ leBytes 8 r.len, false⟩)))) ∧
  (∀ (s : State) (n : LinkId) (p : Packet), arrives s n p true → quietJobs s → bits p.flags.toNat 4 4 = 0 →
    (s.ctx p.dstCtx.toNat).findRx p.seq false = none → exec (.piecePacket n p) s = .next s) ∧
  (∀ (s : State) (n : LinkId) (p : Packet) (y : Copy), arrives s n p true → quietJobs s →
    bits p.flags.toNat 4 4 = 0 →
    s.copies.find? (fun y => y.ctx == p.dstCtx.toNat && y.seq == p.seq && y.opened && y.origin != .responder) = some y →
    (p.arg.toNat ≤ y.acked ∨ y.limit < p.arg.toNat → exec (.pieceAck n p) s = .next s) ∧
    (y.acked < p.arg.toNat → p.arg.toNat < y.limit → exec (.pieceAck n p) s =
      .next { s with copies := updFirst (fun z => z.id == y.id) (fun _ => { y with acked := p.arg.toNat, t0 := s.now, tries := 0 }) s.copies }) ∧
    (∀ q seq d, y.acked < p.arg.toNat → p.arg.toNat = y.limit → y.limit = y.len → y.origin = .command q seq →
      s.findStarted q seq = some d → (s.ctx y.ctx).st = .open → (s.ctx y.ctx).queue = [] →
      ∃ t, exec (.pieceAck n p) s = .next t ∧ t.queues = (s.finishCmd d (.ok y.len)).queues ∧
        t.started = (s.finishCmd d (.ok y.len)).started ∧ t.mem = (s.finishCmd d (.ok y.len)).mem ∧
        (∀ z ∈ t.copies, z.id ≠ y.id))) ∧
  (∀ (s : State) (q : QueueId) (seq : W32) (c : Started) (j : Nat) (b : JobSlot), readyJob s 0x0605 q seq c j b →
    (let x := c.arg 3
     let e := s.ctx x
     let usable := x < 2 ^ 20 ∧ e.tag = c.tag ∧ e.epoch = c.epoch ∧ (e.st = .open ∨ e.st = .resolve)
     (¬ usable → exec (.msgSend q seq) s = .next (s.finishCmd c (.st 0x0640))) ∧
     (usable → e.canSend = true → e.queue = [] → s.jobBad c (c.arg 0) (c.arg 2) true false = none →
       ∃ t, exec (.msgSend q seq) s = .next t ∧ t.findStarted q.val seq = some { c with wait := .msg x } ∧
         t.tx = s.tx ++ [s.ctxPacket e 0x07 0 e.sendSeq (c.arg 1) (leBytes 8 (c.arg 2))] ∧
         (t.ctx x).sendSeq = e.sendSeq + 1 ∧
         { t with started := s.started, tx := s.tx, ctxs := s.ctxs, copies := s.copies, nextCopy := s.nextCopy } = s))) ∧
  (∀ (s : State) (q : QueueId) (seq : W32) (c : Started) (j : Nat) (b : JobSlot), readyJob s 0x0606 q seq c j b →
    (let x := c.arg 4
     let e := s.ctx x
     x < 2 ^ 20 → e.tag = c.tag → e.epoch = c.epoch → e.st = .open ∨ e.st = .resolve → s.jobBad c (c.arg 0) (c.arg 3) false true = none →
     (64 ≤ e.recvs.length → exec (.msgRecvPost q seq) s = .next (s.finishCmd c (.st 0x0647))) ∧
     (e.recvs.length < 64 → exec (.msgRecvPost q seq) s = .next ((s.waitCmd c (.recv x)).setCtx x { e with recvs := e.recvs ++
       [⟨c.q, c.seq, c.arg 0 % 2 ^ 51, BitVec.ofNat 64 (c.arg 1), BitVec.ofNat 64 (c.arg 2), c.arg 3, BitVec.ofNat 64 (c.arg 5)⟩] })))) ∧
  (∀ (s : State) (n : LinkId) (p : Packet) (j : Nat) (b : JobSlot) (tr : Tree), arrives s n p false →
    s.findJob p.tag p.epoch = some (j, b) → b.tree = some tr → p.srcNode.toNat ∈ tr.children → p.arg.toNat / 2 ^ 48 < 0xFF00 →
    (let id := BitVec.ofNat 16 (p.arg.toNat / 2 ^ 48)
     let mine : RedIn → Bool := fun e => e.job == j && e.id == id && e.node == p.srcNode.toNat
     (s.redIn.find? mine = none → p.arg.toNat % 2 ^ 32 = 0 → exec (.redPiece n p) s =
       .next { s with redIn := s.redIn.filter (fun e => !mine e) ++ [⟨j, id, p.srcNode.toNat, p.payload, p.flags.getLsbD 5⟩] }) ∧
     (∀ e, s.redIn.find? mine = some e → e.full = false → p.arg.toNat % 2 ^ 32 = e.bytes.length → exec (.redPiece n p) s =
       .next { s with redIn := s.redIn.filter (fun e => !mine e) ++ [{ e with bytes := e.bytes ++ p.payload, full := p.flags.getLsbD 5 }] }) ∧
     (∀ e, s.redIn.find? mine = some e → e.full = true ∨ p.arg.toNat % 2 ^ 32 ≠ e.bytes.length → exec (.redPiece n p) s = .next s)))

/-! ## Snapshots and restores (chapter 15) -/

/-- R374 to R376, R384, R386, R389: how tokens are laid out and combined, and what each of the six does at a node. -/
def Obligations.TokenExchanges : Prop :=
  (∀ a b : Token, (joinToken a b).want = (a.want || b.want) ∧ (joinToken a b).fail = (a.fail || b.fail) ∧
    (joinToken a b).cands = a.cands &&& b.cands ∧
    (∀ v : W32, (a.verdict.map (·.shard)).Nodup → (b.verdict.map (·.shard)).Nodup →
      (let x := a.verdict.find? (fun r => r.shard == v)
       let y := b.verdict.find? (fun r => r.shard == v)
       let z := (joinToken a b).verdict.find? (fun r => r.shard == v)
       (y = none → z = x) ∧ (x = none → z = y) ∧
       (∀ p q, x = some p → y = some q → ∃ r, z = some r ∧ r.largest.toNat = max p.largest.toNat q.largest.toNat ∧
         r.smallest.toNat = min p.smallest.toNat q.smallest.toNat)))) ∧
  (∀ (k : TokenKind) (t : Token), t.fence.length + t.verdict.length < 2 ^ 32 →
    (let b := tokenBytes k t
     leAt b 0 1 = k.code ∧ leAt b 1 1 = b2n t.want + 2 * b2n t.cut + 4 * b2n t.fail ∧
     leAt b 2 2 = (if k = .restoreUp ∨ k = .restoreDown then t.cands.toNat else 0) ∧
     leAt b 4 4 = t.fence.length + t.verdict.length ∧ leAt b 8 8 = t.step.toNat ∧ allZero (slice b 16 48) = true ∧
     (t.fence = [] → b.length = 64 + 72 * t.verdict.length))) ∧
  (∀ (s : State) (j : JobSlotId) (b : JobSlot) (from_ : Nat) (tok : Token), s.job j.val = some b → b.run = none →
    from_ ∈ b.treeChildren → (∀ r ∈ (s.snap j.val).tokens.fence, r.1 ≠ from_) →
    (let n := s.snap j.val
     let got := n.tokens.fence ++ [(from_, tok)]
     (n.rest ≠ 1 → exec (.fenceUp j from_ tok) s = .next (s.setSnap j.val { n with tokens := { n.tokens with fence := got } })) ∧
     (n.rest = 1 → s.busyClasses b = false → (∀ c ∈ b.treeChildren, ∃ r ∈ got, r.1 = c) → ∀ p, b.treeParent = some p →
       (let own := { blankToken b.step with want := n.phase == .want }
        exec (.fenceUp j from_ tok) s = .next (((s.setSnap j.val { n with tokens := { n.tokens with fence := got } }).setSnap j.val
          { n with tokens := { n.tokens with fence := [] }, rest := 2 }).sendToken j.val .fenceUp p
          (got.foldl (fun t r => joinToken t r.2) own)))))) ∧
  (∀ (s : State) (j : JobSlotId) (b : JobSlot) (from_ : Nat) (tok : Token), s.job j.val = some b → b.run = none →
    (b.treeParent ≠ some from_ ∨ (s.snap j.val).rest ≠ 2 → exec (.fenceDown j from_ tok) s = .next s) ∧
    (b.treeParent = some from_ → (s.snap j.val).rest = 2 → b.treeChildren = [] →
      (let u := s.setSnap j.val { s.snap j.val with rest := 0 }
       exec (.fenceDown j from_ tok) s = .next (if tok.cut then u.takeCut j.val else u)))) ∧
  (∀ (s : State) (j : JobSlotId) (b : JobSlot) (from_ : Nat) (tok : Token), s.job j.val = some b → from_ ∈ b.treeChildren →
    (s.snap j.val).phase = .verdict → (s.snap j.val).fail = 0 → (∀ p ∈ (s.snap j.val).pages, p.digest.isSome) →
    (∀ r ∈ (s.snap j.val).tokens.verdict, r.1 ≠ from_) → (s.snap j.val).verdictSent = false →
    (let n := s.snap j.val
     let got := n.tokens.verdict ++ [(from_, tok)]
     ((∃ c ∈ b.treeChildren, ∀ r ∈ got, r.1 ≠ c) → ∃ t, exec (.verdictUp j from_ tok) s = .next t ∧
       t.snap j.val = { n with tokens := { n.tokens with verdict := got } } ∧ { t with snaps := s.snaps } = s) ∧
     ((∀ c ∈ b.treeChildren, ∃ r ∈ got, r.1 = c) → ∀ p, b.treeParent = some p → ∃ t u,
       exec (.verdictUp j from_ tok) s = .next (State.sendToken u j.val .verdictUp p t) ∧ t = got.foldl (fun t r => joinToken t r.2) n.ownVerdict ∧
       u.snap j.val = { n with tokens := { n.tokens with verdict := [] }, verdictSent := true } ∧ { u with snaps := s.snaps } = s))) ∧
  (∀ (s : State) (j : JobSlotId) (b : JobSlot) (from_ : Nat) (tok : Token), s.job j.val = some b → b.treeParent = some from_ →
    b.treeChildren = [] → (s.snap j.val).phase = .verdict → (s.snap j.val).verdictSent = true →
    ((s.snap j.val).fail ≠ 0 → exec (.verdictDown j from_ tok) s = .next (s.snapFail j.val (s.snap j.val).fail)) ∧
    ((s.snap j.val).fail = 0 → tok.fail = true → ∃ st ∈ [0x0742, 0x0743, 0x0744],
      exec (.verdictDown j from_ tok) s = .next (s.bump.snapFail j.val st))) ∧
  (∀ (s : State) (j : JobSlotId) (b : JobSlot) (from_ : Nat) (tok : Token) (r : Restore), s.job j.val = some b →
    from_ ∈ b.treeChildren → (s.snap j.val).restore = some r → r.st = .vote → r.upSent = false →
    (∀ x ∈ (s.snap j.val).tokens.restore, x.1 ≠ from_) →
    (let n := s.snap j.val
     let got := n.tokens.restore ++ [(from_, tok)]
     ((∃ c ∈ b.treeChildren, ∀ x ∈ got, x.1 ≠ c) →
       exec (.restoreUp j from_ tok) s = .next (s.setSnap j.val { n with tokens := { n.tokens with restore := got } })) ∧
     ((∀ c ∈ b.treeChildren, ∃ x ∈ got, x.1 = c) → ∀ p, b.treeParent = some p → ∃ t u,
       exec (.restoreUp j from_ tok) s = .next (State.sendToken u j.val .restoreUp p t) ∧
       t.cands = got.foldl (fun a x => a &&& x.2.cands) (BitVec.ofNat 16 r.cands) ∧
       u.snap j.val = { n with tokens := { n.tokens with restore := [] }, restore := some { r with upSent := true } } ∧
       { u with snaps := s.snaps } = s))) ∧
  (∀ (s : State) (j : JobSlotId) (b : JobSlot) (from_ : Nat) (tok : Token) (r : Restore), s.job j.val = some b →
    (s.snap j.val).restore = some r → r.upSent = true → b.treeParent = some from_ → b.treeChildren = [] →
    (r.st = .vote → r.status = 0 → tok.cands = 0 →
      exec (.restoreDown j from_ tok) s = .next (s.restoreEnd j.val r (.st 0x0704))) ∧
    (∀ c, r.st = .confirm → r.chosen = some c → tok.fail = false →
      exec (.restoreDown j from_ tok) s = .next (s.restoreCommit j.val b r c)))

/-- R377 to R387, R394: SNAP_TAKE, triggers, SNAP_ABORT, SNAP_STATUS, the page engine and copy-on-write. -/
def Obligations.SnapshotsAtTheCut : Prop :=
  (∀ (s s' : State) (q : QueueId) (seq : W32) (c : Started) (j : Nat) (b : JobSlot) (bs : List Byte),
    readyJob s 0x0701 q seq c j b → (s.jobKey (c.arg 9) 3 b).isSome = true →
    (c.arg 2 = 1 → s.namesOther (c.arg 5) = false ∧ reservedNode (ptrNode (c.arg 5)) = false) →
    (c.arg 2 ≠ 1 → s.namesOther (c.arg 5) = true) → s.jobBad c (c.arg 0) (128 * c.arg 1) true false = none →
    s.loadOff (c.arg 0 % 2 ^ 51) (128 * c.arg 1) = (s', some (some bs)) →
    (let regions := chunksOf (c.arg 1) 128 bs
     let n := s.snap j
     ((∃ d ∈ regions, descOk d = false ∨ s'.srcOk d = false) → exec (.snapTake q seq) s = .next (s'.finishCmd c (.st 0x0103))) ∧
     ((∀ d ∈ regions, descOk d = true ∧ s'.srcOk d = true) → s'.snapBad c regions = none →
       (n.cmd.isSome ∨ n.restore.isSome ∨ n.phase ∉ [.idle, .want] → exec (.snapTake q seq) s = .next (s'.finishCmd c (.st 0x0740))) ∧
       (n.cmd = none → n.restore = none → n.phase ∈ [.idle, .want] →
         (2 ^ 32 < ((regions.filter inSram).map dLen).sum ∨ c.arg 6 < s'.imageSize j b regions (c.arg 8) →
           exec (.snapTake q seq) s = .next (s'.finishCmd c (.st 0x0741))) ∧
         (((regions.filter inSram).map dLen).sum ≤ 2 ^ 32 → s'.imageSize j b regions (c.arg 8) ≤ c.arg 6 → b.run.isSome = true →
           ∃ t, exec (.snapTake q seq) s = .next t ∧ t.findStarted q.val seq = some { c with wait := .snap j } ∧
             t.snap j = { n with phase := .want, cmd := some (c.q, c.seq), block := slice c.params 0 64, step := b.step, rest := 0,
                                 standing := if tbit (c.arg 3) 0 then some c.block else n.standing } ∧
             { t with snaps := s'.snaps, started := s'.started } = s'))))) ∧
  (∀ (s : State) (j : JobSlotId) (b : JobSlot), s.job j.val = some b →
    (let n := s.snap j.val
     let ms := s.getF .snpTrigger [j.val] 63 32
     let steps := s.getF .snpTrigger [j.val] 31 0
     let due := n.standing.isSome = true ∧ ((ms ≠ 0 ∧ n.lastCut + 1000000 * ms ≤ s.now) ∨ (steps ≠ 0 ∧ steps ≤ n.fencesSince + 1))
     (¬ due → exec (.snapTrigger j) s = .next s) ∧
     (due → n.phase = .idle → n.restore = none → exec (.snapTrigger j) s = .next (s.setSnap j.val { n with phase := .want })) ∧
     (due → n.phase ∉ [.idle, .want] → exec (.snapTrigger j) s = .next (s.setSnap j.val { n with trigger := true })))) ∧
  (∀ (s : State) (q : QueueId) (seq : W32) (c : Started) (j : Nat) (b : JobSlot), readyJob s 0x0702 q seq c j b →
    ((s.snap j).phase = .idle ∨ ((s.snap j).phase = .want ∧ (s.snap j).cmd = none) →
      exec (.snapAbort q seq) s = .next (s.finishCmd c (.st 0x0745))) ∧
    ((s.snap j).restore = none → (s.snap j).phase = .want → (s.snap j).cmd ≠ none →
      exec (.snapAbort q seq) s = .next ((s.snapFail j 0x0744).finishCmd c (.ok)))) ∧
  (∀ (s : State) (q : QueueId) (seq : W32) (c : Started) (j : Nat) (b : JobSlot), readyJob s 0x0703 q seq c j b →
    exec (.snapStatus q seq) s = .next (s.finishCmd c (.ok (s.regValue .snpJobState [j]) (s.regValue .snpLast [j])))) ∧
  (∀ (s : State) (j : JobSlotId) (b : JobSlot) (i : Nat) (p : StreamPage) (bs : List Byte), s.job j.val = some b →
    (s.snap j.val).phase = .copying → (s.snap j.val).fail = 0 → (s.snap j.val).pages[i]? = some p → p.digest = none →
    (∀ k < i, ∀ x, (s.snap j.val).pages[k]? = some x → x.digest.isSome = true) →
    (∃ k > i, ∃ x, (s.snap j.val).pages[k]? = some x ∧ x.digest = none) → p.staged = some bs → bs.length = 65536 → p.page = none →
    (let n := s.snap j.val
     let at_ := n.dest % 2 ^ 51 + n.stream + i * 65536
     (p.send = false → ∃ t, exec (.snapshotPageCopy j) s = .next t ∧ { t with snaps := s.snaps } = s ∧
       (t.snap j.val).pages = n.pages.set i { p with digest := some (Config.sm3 bs) }) ∧
     (p.send = true → n.toHost = true → s.firstBad 5 b.tag true at_ 65536 false true = none → s.unreachable at_ 65536 = false →
       ∃ t, exec (.snapshotPageCopy j) s = .next t ∧ t.mem = (s.storeOff at_ bs).mem ∧
         (t.snap j.val).pages = n.pages.set i { p with digest := some (Config.sm3 bs), sent := true } ∧
         t.stageUsed = (s.storeOff at_ bs).stageUsed - 1))) ∧
  (∀ (s : State) (j : JobSlotId), (131072 ≤ s.stageUsed → exec (.stageFullResume j) s = .next s) ∧
    (∀ (a : Nat) (bs : List Byte) (r : PageRec), s.stageUsed < 131072 → s.heldWrites = [(a, bs)] → a < 2 ^ 40 →
      mfind s.pages (a / 65536) = some r → r.st = .frozen → r.job = j.val → s.hostPort.snoop = [] →
      ∃ t, exec (.stageFullResume j) s = .next t ∧ t.heldWrites = [] ∧ t.mem = memWrite s.mem a bs ∧
        (∃ r', mfind t.pages (a / 65536) = some r' ∧ r'.st = .staged ∧ r'.job = j.val ∧
          ∀ x < 65536, mget 0#8 r'.copy x = mget 0#8 s.mem (a / 65536 * 65536 + x)) ∧ t.stageUsed = s.stageUsed + 1)) ∧
  (∀ (s : State) (a : Nat) (bs : List Byte) (g : Nat) (x : StreamPage), (∀ k r, mfind s.pages k = some r → r.st = .frozen ∨ r.st = .staged) →
    s.hostPort.snoop = [] → s.heldWrites = [] → s.errs = [] → s.stageUsed + s.pages.length < 131072 → x.staged = none → x.page = some g →
    (∃ r, mfind s.pages g = some r) → x.len ≤ 65536 → a + bs.length ≤ 2 ^ 40 →
    ((s.store a bs).pageBytes x).2 = (s.pageBytes x).2 ∧ (s.store a bs).heldWrites = [])

/-- R388 to R390: SNAP_RESTORE begins a restore by fetching the manifests on other nodes, and the chosen candidate takes
effect at once. -/
def Obligations.RestoresAgreeAndLoad : Prop :=
  (∀ (s : State) (q : QueueId) (seq : W32) (c : Started) (j : Nat) (b : JobSlot), readyJob s 0x0704 q seq c j b →
    (let cs := (List.range (c.arg 1)).map (fun i => s.peek (c.arg 0 % 2 ^ 51 + 32 * i) 32)
     let lists := ∀ i < c.arg 1, s.jobBad c (leAt (nth [] cs i) 16 8) (16 * leAt (nth [] cs i) 8 4) true false = none
     let n := s.snap j
     (s.jobKey (c.arg 3) 4 b = none → exec (.snapRestore q seq) s = .next (s.finishCmd c (.st 0x0103))) ∧
     ((s.jobKey (c.arg 3) 4 b).isSome = true → s.jobBad c (c.arg 0) (32 * c.arg 1) true false = none → c.arg 7 = 0 → lists →
       tbit (c.arg 2) 1 = false →
       (candsOk cs = false → exec (.snapRestore q seq) s = .next (s.finishCmd c (.st 0x0103))) ∧
       (candsOk cs = true → b.ran = true → exec (.snapRestore q seq) s = .next (s.finishCmd c (.st 0x0740))) ∧
       (candsOk cs = true → b.ran = false → n.cmd = none → n.restore = none → n.phase = .idle →
         (let r : Restore := ⟨c.q, c.seq, slice c.params 0 64, .heads, 0, none, [], false, 0, false⟩
          let far := (List.range (c.arg 1)).flatMap (fun i => (s.farEntries r i).map (fun e => (i, e)))
          r.count = c.arg 1 → leAt r.block 0 8 = c.arg 0 → far ≠ [] →
          (∀ x ∈ far, s.ctxUsable (s.entry r x.1 x.2).2 b.tag b.epoch (ptrNode (s.entry r x.1 x.2).1) s.spanNo = true) →
          (∀ y ∈ s.copies, y.id < s.nextCopy) →
          ∃ t, exec (.snapRestore q seq) s = .next t ∧ t.findStarted q.val seq = some { c with wait := .restore j } ∧
            t.snap j = { n with phase := .restoring, restore := some r } ∧ t.nextCopy = s.nextCopy + far.length ∧
            (∀ y ∈ t.copies, y ∈ s.copies ∨ ∃ x ∈ far, y.origin = .restore j (4096 * x.1 + x.2) ∧ y.len = 256) ∧
            { t with started := s.started, snaps := s.snaps, copies := s.copies, nextCopy := s.nextCopy, ctxs := s.ctxs, tx := s.tx } = s))))) ∧
  (∀ (s s' : State) (j : Nat) (b : JobSlot) (r : Restore) (c : Nat) (ms : List (List Byte)), s.job j = some b →
    s.manifests j b r c = (s', some ms) → ∃ u : State, s.restoreCommit j b r c = u.restoreEnd j r
      { status := if c = 0 then 0 else 0x0703, detail := c + 2 ^ 15 * b2n r.reslice, r0 := leAt (s.cand r c) 0 8 } ∧
      (leAt r.block 32 8 = 0 → ∃ b', u.job j = some b' ∧ b'.step = BitVec.ofNat 64 (leAt (s.cand r c) 0 8))) ∧
  (∀ (s : State) (j : Nat) (r : Restore) (a : Answer) (d : Started), s.findStarted r.q r.seq = some d →
    (s.snap j).trigger = false → ∃ u : State, s.restoreEnd j r a = u.finishCmd d a ∧ (u.snap j).restore = none ∧
      (u.snap j).phase = .idle ∧ (∀ x, x < 2 ^ 51 → mget 0#8 u.mem x = mget 0#8 s.mem x) ∧ (∀ y ∈ u.copies, y.fetches j = false))

/-! ## Jobs across a Span, and time (chapter 16) -/

/-- R398, R400, R401: the steps of JOB_TEARDOWN, the limit of its wait, and the exchange of DRAIN_DONE that closes a
filter entry and lets one that waits for it open. The command's first part is said of a job that runs nothing. -/
def Obligations.TeardownAndDrain : Prop :=
  (∀ (s : State) (q : QueueId) (seq : W32) (c : Started) (j : Nat) (b : JobSlot), readyJob s 0x0302 q seq c j b →
    b.run = none → (∀ e ∈ s.cores, ∀ u, e.2.unit = some u → u.job ≠ j) → (∀ x ∈ s.batches, x.job ≠ j) →
    (s.snap j).phase = .idle → (s.snap j).restore = none → (∀ d ∈ s.started, d = c) →
    ∃ u : State, u.job j = some { b with teardown := true } ∧
      u.findStarted q seq = some { c with wait := .teardown j s.now } ∧
      (∀ n < 48, ∀ e f, s.filterOf n b.tag b.epoch = some (e, f) → u.filter n e = { f with st := .teardown }) ∧
      (∀ x, (s.ctx x).ofJob b.tag b.epoch = true → u.ctx x = { s.ctx x with queue := [] }) ∧
      { u with jobs := s.jobs, filters := s.filters, started := s.started, ctxs := s.ctxs } = s ∧
      exec (.jobTeardown q seq) s = .next (if u.drainedReqs b.tag b.epoch then u.teardownEnd j else u)) ∧
  (∀ (s : State) (j : Nat) (b : JobSlot) (d : Started), s.job j = some b →
    s.started.find? (fun c => c.wait.teardownFor j) = some d →
    (∀ x ∈ s.started, x.ofJob b.tag b.epoch = true → x.wait = .ready ∨ x.wait.teardownFor j = true) →
    ∃ u : State, s.teardownEnd j = u.finishCmd d (.ok) ∧ u.job j = none ∧ (∀ k, k ≠ j → u.job k = s.job k) ∧
      u.snap j = SnapJob.zero ∧ (∀ x, (s.ctx x).ofJob b.tag b.epoch = true → u.ctx x = Ctx.zero) ∧
      (∀ n < 48, ∀ e f, s.filterOf n b.tag b.epoch = some (e, f) →
        ((s.link n).st = .active → f.remembered = false → u.filter n e = { f with st := .draining } ∧
          (s.axlIdle = false → .drainDone n b.tag b.epoch ∈ u.out)) ∧
        ((s.link n).st ≠ .active ∨ f.remembered = true → u.filter n e = FilterEntry.zero)) ∧
      (∀ t ∈ u.tracked, t.2.job ≠ j) ∧ (∀ r ∈ u.reservations, r.tag ≠ b.tag) ∧ (∀ t ∈ u.tables, t.2.job ≠ j) ∧
      (∀ k ∈ u.granite.keys, 2 ≤ k.1 → ¬ (k.2.tag = b.tag ∧ k.2.epoch = b.epoch)) ∧
      (u.placement = if u.jobs = [] then none else s.placement) ∧ u.started = s.started ∧ u.queues = s.queues ∧
      u.regs = s.regs ∧ u.flash = s.flash ∧ u.cores = s.cores ∧ u.mem = s.mem) ∧
  (∀ (s : State) (j : JobSlotId) (b : JobSlot), s.job j.val = some b → b.teardown = true →
    (∀ d ∈ s.started, ∀ l t, d.wait ≠ .nodeReset l t) →
    ((∃ d ∈ s.started, ∃ t, d.wait = .teardown j.val t ∧ t + 1000000 * s.getF .timeTeardownLimit [] 31 0 ≤ s.now) →
      exec (.teardownLimit j) s = .next ((s.raise .timeTeardownLimit).teardownEnd j.val)) ∧
    ((∀ d ∈ s.started, ∀ t, d.wait = .teardown j.val t → s.now < t + 1000000 * s.getF .timeTeardownLimit [] 31 0) →
      exec (.teardownLimit j) s = .next s)) ∧
  (∀ (s : State) (n : LinkId) (tag : W16) (epoch : Byte), (s.link n).up = true →
    (s.filterOf n tag epoch = none ∨ (∃ e f, s.filterOf n tag epoch = some (e, f) ∧ f.st = .waiting) →
      exec (.drainDone n tag epoch) s = .next (s.emit (.drainDone n tag epoch))) ∧
    (∀ e f, s.filterOf n tag epoch = some (e, f) →
      (f.st = .open ∨ f.st = .teardown →
        exec (.drainDone n tag epoch) s = .next (s.setFilter n e { f with remembered := true })) ∧
      (f.st = .draining → ∃ t, exec (.drainDone n tag epoch) s = .next t ∧ { t with filters := s.filters } = s ∧
        t.filter n e = FilterEntry.zero ∧
        (∀ d < 256, d ≠ e →
          ((s.filter n d).st = .waiting → (∀ x < 256, x ≠ e → (s.filter n x).st = .draining → (s.filter n x).tag ≠ (s.filter n d).tag) →
            t.filter n d = { s.filter n d with st := .open }) ∧
          ((s.filter n d).st ≠ .waiting ∨ (∃ x < 256, x ≠ e ∧ (s.filter n x).st = .draining ∧ (s.filter n x).tag = (s.filter n d).tag) →
            t.filter n d = s.filter n d))))) ∧
  (∀ (s : State) (n : LinkId) (e : Fin 256), ((s.filter n e).st = .draining → (s.link n).st = .active →
      exec (.drainDoneResend n e) s = .next (s.emit (.drainDone n (s.filter n e).tag (s.filter n e).epoch))) ∧
    ((s.filter n e).st ≠ .draining ∨ (s.link n).st ≠ .active → exec (.drainDoneResend n e) s = .next s))

/-- R395, R403, R404, R454: TIME.NODE_ID, and Span time: the servo, beacons, PTP messages and the loss of lock. -/
def Obligations.NodeIdentityAndSpanTime : Prop :=
  (∀ (s : State) (m : Master) (v : Word), reaches s m .timeNodeId [] →
    (s.jobs ≠ [] → exec (.nodeIdWrite m v) s = .next (s.raise .timeIdRefused)) ∧
    (s.jobs = [] → ∃ t, exec (.nodeIdWrite m v) s = .next t ∧ t.spanNo = bits v.toNat 47 32 ∧
      t.nodeNo = (if 4096 ≤ bits v.toNat 12 0 ∧ bits v.toNat 12 0 ≤ 8190 then s.nodeNo else bits v.toNat 12 0) ∧
      regsBut s t [RegTag.timeNodeId.off []] ∧ { t with regs := s.regs } = s)) ∧
  (∀ (s : State) (err : Int), ∃ t, s.servo err = t ∧
    t.getF .timeStatus [] 31 0 = min err.natAbs (2 ^ 32 - 1) ∧ t.clock.now = s.clock.now ∧ t.clock.slewFrom = s.now ∧
    (s.jobs = [] → 1000000 < err.natAbs → t.spanNow = s.spanNow + BitVec.ofInt 64 err) ∧
    (∃ d : Int, t.spanNow = s.spanNow + BitVec.ofInt 64 d ∧ d.natAbs ≤ err.natAbs ∧ 0 ≤ d * err ∧
      (s.jobs ≠ [] → d.natAbs ≤ (s.now - s.clock.slewFrom) / 10000)) ∧
    regsBut s t [RegTag.timeStatus.off [], RegTag.timeOffset.off []] ∧
    { t with regs := s.regs, clock := s.clock, free := s.free } = s) ∧
  (∀ s : State, (s.getF .timeCtrl [] 4 4 = 0 ∨ s.getF .timeCtrl [] 1 1 = 0 → exec .beaconSend s = .next s) ∧
    (s.getF .timeCtrl [] 4 4 = 1 → s.getF .timeCtrl [] 1 1 = 1 → s.axlIdle = false → ∃ t, exec .beaconSend s = .next t ∧
      { t with out := s.out } = s ∧ (∀ n < 48, (s.link n).st = .active → ∃ m, Out.beacon n m ∈ t.out ∧
        m.spanTime = s.clock.now + s.reg .timeOffset ∧ m.echoTx = (s.link n).beaconTx ∧ m.echoRx = (s.link n).beaconRx ∧
        m.hops = 0 ∧ m.root = BitVec.ofNat 16 s.nodeNo))) ∧
  (∀ (s : State) (n : LinkId) (m : BeaconMsg),
    (let l : Link := { s.link n with beaconTx := m.spanTime, beaconRx := s.spanNow }
     let hops := min (m.hops.toNat + 1) 63
     ((s.link n).st ≠ .active ∨ s.getF .timeCtrl [] 1 1 = 0 → exec (.beaconArrival n m) s = .next s) ∧
     ((s.link n).st = .active → s.getF .timeCtrl [] 1 1 = 1 →
       (s.getF .timeCtrl [] 4 4 = 1 ∨ s.follows n hops = false →
         exec (.beaconArrival n m) s = .next (s.setLink n l)) ∧
       (s.getF .timeCtrl [] 4 4 = 0 → s.follows n hops = true → m.echoTx = 0 → m.echoRx = 0 → s.axlIdle = false →
         ∃ t, exec (.beaconArrival n m) s = .next t ∧ t.link n = l ∧ t.getF .timeStatus [] 63 62 = 2 ∧
           t.getF .timeStatus [] 61 56 = hops ∧ t.getF .timeStatus [] 44 32 = m.root.toNat % 2 ^ 13 ∧
           t.clock = { s.clock with beaconLink := n, beaconLast := some s.now } ∧ t.reg .timeOffset = s.reg .timeOffset ∧
           (∀ k < 48, (t.link k).st = .active → ∃ x, Out.beacon k x ∈ t.out ∧ x.hops.toNat = min (m.hops.toNat + 1) 255 ∧
             x.root.toNat = m.root.toNat) ∧
           { t with links := s.links, regs := s.regs, clock := s.clock, out := s.out } = s)))) ∧
  (∀ s : State, (∀ t0, s.clock.beaconLast = some t0 → s.getF .timeStatus [] 63 62 = 2 → t0 + 10000000 ≤ s.now →
      ∃ t, exec .lockLost s = .next t ∧ t.getF .timeStatus [] 63 62 = s.getF .timeCtrl [] 0 0 ∧ raised s t .timeLockLost [] ∧
        { t with regs := s.regs } = s) ∧
    (s.getF .timeStatus [] 63 62 ≠ 2 ∨ (∀ t0, s.clock.beaconLast = some t0 → s.now < t0 + 10000000) →
      exec .lockLost s = .next s)) ∧
  (∀ (s : State) (peer : BitVec 128) (p : PtpMsg),
    (peer ≠ s.mgtPeer → exec (.ptpMessage peer p) s = .next (s.raise .hstMgtDrop)) ∧
    (peer = s.mgtPeer → s.getF .timeCtrl [] 0 0 = 1 →
      (s.getF .timeCtrl [] 4 4 = 1 → exec (.ptpMessage peer p) s = .next (s.servo p.error)) ∧
      (s.getF .timeCtrl [] 4 4 = 0 → s.getF .timeStatus [] 63 62 = 2 → exec (.ptpMessage peer p) s = .next s) ∧
      (s.getF .timeCtrl [] 4 4 = 0 → s.getF .timeStatus [] 63 62 ≠ 2 → ∃ t, exec (.ptpMessage peer p) s = .next (State.servo t p.error) ∧
        t.getF .timeStatus [] 63 62 = 1 ∧ t.spanNow = s.spanNow ∧ { t with regs := s.regs } = s)))

/-! ## Faults and continuity (chapter 17) -/

/-- R416 to R419, R426: a check fault ends the attempt without commit and issues the unit again from its start state; the
second one makes the fault permanent; with no unit in progress it is charged to the core's next one. A lost cluster
scheduler moves the logical cluster to the spare of its C-die, and a solver unit's fault disables its cluster in the map.
-/
def Obligations.CheckFaultsReplayAndRemap : Prop :=
  (∀ (s : State) (c : CoreId),
    ((s.core c.val).unit = none → exec (.checkFault c) s = .next (s.setCore c.val { s.core c.val with checkDue := true })) ∧
    (∀ (u : UnitRef) (b : JobSlot) (r : UnitRec), (s.core c.val).unit = some u → s.job u.job = some b →
      s.unitRec u = some r → r.unreplayable = false →
      (r.checks = 0 → s.servingCore r.lcluster r.lcore = some c.val → ∃ t, exec (.checkFault c) s = .next t ∧
        (t.core c.val).phase = .running ∧ (t.core c.val).unit = some u ∧ (t.core c.val).pc = r.entry ∧
        (t.core c.val).sigq = [] ∧ (t.core c.val).recUpdates = [] ∧ (t.core c.val).trackUpdates = [] ∧
        (t.core c.val).journalPos = 0 ∧ (t.core c.val).csrs = Csrs.zero ∧
        (t.core c.val).versions.map (·.number) = (s.core c.val).versionsAtIssue.map (·.number) ∧
        (t.core c.val).nextVersion = (s.core c.val).nextVersionAtIssue ∧
        t.unitRec u = some { r with checks := 1, st := .issued c.val } ∧
        t.reg .coreFault [c.val / 17, c.val % 17] = 0x220 ∧ raised s t .coreHwCheck [c.val / 17, c.val % 17] ∧
        raised s t .schReplay [] ∧ raised s t .clsReplay [c.val / 17] ∧ (∀ x, x ≠ c.val → t.core x = s.core x) ∧
        { t with cores := s.cores, regs := s.regs, jobs := s.jobs } = s) ∧
      (r.checks ≠ 0 → c.val ∉ s.flash.map.cores → ∃ t, exec (.checkFault c) s = .next t ∧ c.val ∈ t.flash.map.cores ∧
        t.health.coreRemaps = BitVec.ofNat 32 (min (s.health.coreRemaps.toNat + 1) (2 ^ 32 - 1))))) ∧
  (∀ (s : State) (l : LClusterId) (p q : Nat) (pl : Placement),
    (let s1 := s.changeMap (fun m => m.disableCluster p)
     s.placement = some pl → s.servingCluster l.val = some p → (∀ c, (s.core c).unit = none) →
     s1.spareCluster (l.val / 160) = some q → ∃ t, exec (.clusterSchedulerFault l) s = .next t ∧
       t.placement = some { pl with serve := minsert pl.serve l.val (s1.flash.map.record q) } ∧ t.flash = s1.flash ∧
       t.flash.map.cluster p = .disabled ∧ q ≠ p ∧ q / 168 = l.val / 160 ∧
       t.health.clusterRemaps = BitVec.ofNat 32 (min (s.health.clusterRemaps.toNat + 1) (2 ^ 32 - 1)) ∧
       t.health.lastEvent = s.clock.now ∧
       { t with placement := s.placement, flash := s.flash, health := s.health, cores := s.cores, mem := s.mem, errs := s.errs } = s)) ∧
  (∀ (s : State) (l : LClusterId) (p : Nat) (x : Batch), s.servingCluster l.val = some p → x ∈ s.batches → x.start.isSome = true →
    x.first ≤ l.val → l.val < x.first + x.nclusters → (∀ y ∈ s.batches, y.nclusters ≠ 1) →
    ∃ t, exec (.solverUnitCheckFault l) s = .next t ∧ t.flash.map.cluster p = .disabled ∧
      t.flash.map.version = BitVec.ofNat 32 (min (s.flash.map.version.toNat + 1) (2 ^ 32 - 1)) ∧
      t.health.lastEvent = s.clock.now ∧ { t with flash := s.flash, health := s.health } = s)

/-- R90, R421: a dispatch core that fails gets its map bit; the firmware command it ran is counted as restarted and stays
started, so that it is answered once; with no dispatch core left the node is lost. R412, R421 to R423, R429: power-tile
phases, P-die cores and the Granite pairs: what each loss changes, and when the node is lost. -/
def Obligations.ElementLosses : Prop :=
  (∀ (s : State) (d : Fin 8) (q : QueueId) (seq : W32) (c : Started),
    s.flash.map.dispatch.contains d.val = false → s.package.dispatchFailed.contains d.val = false →
    s.findStarted q.val seq = some c → hwOpcodes.contains c.opcode.toNat = false →
    (∃ e, e < 8 ∧ e ≠ d.val ∧ s.flash.map.dispatch.contains e = false ∧ s.package.dispatchFailed.contains e = false) →
    ∃ t, exec (.dispatchCoreFail d q seq) s = .next t ∧ raised s t .cqFwRestart [] ∧ t.started = s.started ∧
      t.flash.map.dispatch.contains d.val = true ∧
      t.flash.map.version.toNat = satInc 32 s.flash.map.version.toNat ∧ t.package.lost = s.package.lost ∧
      regsBut s t [RegTag.cqEvents.off [], RegTag.cqCntFwRestart.off []] ∧
      { t with regs := s.regs, flash := s.flash, package := s.package, health := s.health } = s) ∧
  ((∀ (s : State) (i : Fin 12), ∃ t, exec (.tilePhaseFail i) s = .next t ∧
    (let n := mget 0 s.package.phases i.val + 1
     mget 0 t.package.phases i.val = min n 8 ∧ (∀ k, k ≠ i.val → mget 0 t.package.phases k = mget 0 s.package.phases k) ∧
     t.getF .grnPowerLimit [] 12 0 = s.getF .grnPowerLimit [] 12 0 ∧
     t.getF .grnPowerLimit [] 28 16 = s.getF .grnPowerLimit [] 12 0 - 333 * (t.package.phases.filter (fun e => 2 ≤ e.2)).length ∧
     t.package.lost = (s.package.lost || decide (3 ≤ n)) ∧ t.health.lastEvent = s.clock.now ∧
     regsBut s t [RegTag.grnPowerLimit.off []] ∧ { t with package := s.package, regs := s.regs, health := s.health } = s)) ∧
  (∀ (s : State) (k : Fin 64), (k.val ∈ s.flash.map.pdie ∨ k.val ∈ s.package.pdieFailed → exec (.pdieCoreFault k) s = .next s) ∧
    (k.val ∉ s.flash.map.pdie → k.val ∉ s.package.pdieFailed → ∃ t, exec (.pdieCoreFault k) s = .next t ∧
      (∀ x, x ∈ t.flash.map.pdie ↔ x = k.val ∨ x ∈ s.flash.map.pdie) ∧
      (∀ x, x ∈ t.package.pdieFailed ↔ x = k.val ∨ x ∈ s.package.pdieFailed) ∧
      t.flash.map.version = BitVec.ofNat 32 (min (s.flash.map.version.toNat + 1) (2 ^ 32 - 1)) ∧
      t.package.lost = (s.package.lost || decide (t.pdieOn < 8)) ∧ t.pdieOn + 1 = s.pdieOn ∧
      { t with flash := s.flash, package := s.package, health := s.health } = s)) ∧
  (∀ s : State, (s.standbyReady = true → (∃ t, exec .graniteTakeover s = .next t ∧
      t.granite = { s.granite with pairs := { s.granite.pairs with lockstep := false, standbyServing := true } } ∧
      raised s t .grnTakeover [] ∧ 0 ∈ t.flash.map.granite ∧ t.graniteByte = 4 ∧
      { t with granite := s.granite, flash := s.flash, regs := s.regs, health := s.health } = s) ∧
     ∃ t, exec .standbyPairFail s = .next t ∧
      t.granite = { s.granite with pairs := { s.granite.pairs with standby := false } } ∧ 1 ∈ t.flash.map.granite ∧
      t.graniteByte = 1 ∧ { t with granite := s.granite, flash := s.flash, health := s.health } = s) ∧
    (s.standbyReady = false → exec .standbyPairFail s = .next s ∧ ∃ t, exec .graniteTakeover s = .next t ∧
      t.package.lost = true ∧ t.graniteByte = 0 ∧ { t with granite := s.granite, package := s.package } = s)))

/-- R397, R406: the overdue chunks of a broadcast image, and the health summary to the tray. R427, R428: HEALTH_READ
writes the health record of the moment and replies with its bytes 0 to 7 and STATE. -/
def Obligations.HealthAndBroadcastRecords : Prop :=
  ((∀ (s : State) (tag : W16) (epoch : Byte) (lowest : Nat) (grandparent : Bool) (b : Broadcast),
    s.broadcasts.find? (fun x => x.tag == tag && x.epoch == epoch) = some b →
    (∃ t, exec (.chunkOverdue tag epoch lowest grandparent) s = .next t ∧ { t with broadcasts := s.broadcasts, out := s.out } = s ∧
      (let now := t.broadcasts.find? (fun x => x.tag == tag && x.epoch == epoch)
       (b.chunks ≤ lowest → now = none ∧ t.out = s.out) ∧
       (lowest < b.chunks → lowest ≠ b.lowest → now = some { b with lowest := lowest, since := s.now } ∧ t.out = s.out) ∧
       (lowest < b.chunks → lowest = b.lowest → grandparent = true → b.since + 20000000 ≤ s.now →
         now = some { b with since := s.now } ∧ t.out = .chunkRequest lowest :: s.out) ∧
       (lowest < b.chunks → lowest = b.lowest → grandparent = false ∨ s.now < b.since + 20000000 → t = s)))) ∧
  (∀ s : State, ∃ h, exec .healthSummary s = .next { s with out := .health h :: s.out } ∧
    h.node = s.getF .timeNodeId [] 12 0 ∧ h.span = s.getF .timeNodeId [] 47 32 ∧
    (∀ j b, (j, b) ∈ s.jobs → (j, b.tag, b.epoch) ∈ h.jobs) ∧ h.mapVersion = s.flash.map.version ∧
    h.hops = s.getF .timeStatus [] 61 56 ∧
    h.source = (if s.getF .timeCtrl [] 4 4 = 1 then 3 else s.getF .timeStatus [] 63 62) ∧
    (∀ o v t is e, (o, v) ∈ s.regs → regAt o = some (t, is) → e ∈ Ev.all → e.info.1 = t → tbit v.toNat e.info.2.1 = true →
      o / 2 ^ 24 ∈ h.events) ∧ (s.package.lost = true → h.state = 3))) ∧
  ((∀ (s : State) (q : QueueId) (seq : W32) (c : Started), ready s 0x0901 q seq c →
    (s.cmdBad c (c.arg 0) 64 false true = true → exec (.healthRead q seq) s = .next (s.finishCmd c (.st 0x0104))) ∧
    (s.cmdBad c (c.arg 0) 64 false true = false → ∃ bs : List Byte, bs.length = 64 ∧
      exec (.healthRead q seq) s = .next ((s.storeOff (c.arg 0 % 2 ^ 51) bs).finishCmd c
        { status := 0, detail := leAt bs 8 1, r0 := leAt bs 0 8 }) ∧
      leAt bs 0 4 = 0x00010000 ∧ leAt bs 4 4 = s.flash.map.version.toNat ∧ leAt bs 8 1 = s.healthState ∧
      leAt bs 9 1 = s.graniteByte ∧
      leAt bs 10 1 = ((List.range 8).filter (fun d => d ∉ s.flash.map.dispatch ∧ d ∉ s.package.dispatchFailed)).length ∧
      leAt bs 11 1 = ((List.range 64).filter (fun k => k ∉ s.flash.map.pdie ∧ k ∉ s.package.pdieFailed)).length ∧
      (s.placement = none → leAt bs 12 4 = 0xFFFFFFFF ∧ leAt bs 16 2 = 0) ∧
      leAt bs 32 4 = s.health.transient.toNat ∧ leAt bs 36 4 = s.health.coreRemaps.toNat ∧
      leAt bs 40 4 = s.health.clusterRemaps.toNat ∧ leAt bs 44 4 = s.health.noSpareEnds.toNat ∧
      leAt bs 48 8 = s.health.lastEvent.toNat ∧ leAt bs 56 8 = 0)) ∧
  (∀ s : State, (s.package.lost = true ↔ s.healthState = 3) ∧
    (s.package.lost = false → (s.healthState = 2 ↔ s.standbyReady = false ∨ s.dispatchOn = 1 ∨ s.pdieOn = 8 ∨
      (∃ p, s.placement = some p ∧ ∃ d < 4, ∀ q ∈ s.flash.map.candidates d, ∃ r ∈ p.serve, r.2.phys = q)))))

/-! ## Granite (chapter 18) -/

namespace Sys2Proof.Claims

/-- A master's request stands at the front of the arbiter's order, with a code (R435). -/
def served (s : State) (m : Master) (req : Nat) (r : MbxReq) : Prop :=
  s.granite.mbxOrder.head? = some m.val ∧ mfind s.granite.mbx m.val = some r ∧ leAt r.block 0 2 = req

/-- The masters that the table of R435 lists for a code. -/
def mayAsk (req m : Nat) : Prop :=
  (req ∈ [1, 3, 4] ∧ m ∈ [0, 1, 3]) ∨ (req = 2 ∧ m ∈ [1, 2]) ∨ (req ∈ [5, 6, 7] ∧ m < 8) ∨ (req = 8 ∧ m ∈ [0, 3]) ∨
  (req = 9 ∧ m = 2)

/-- A step ends a request with an answer, from a state that the request has left (R435). -/
def answers (o : Host.Outcome State Fault Refusal) (u : State) (m : Master) (r : MbxReq) (a : Answer) : Prop :=
  o = .next ((u.mbxEnd m r a).mbxSettle 9)

end Sys2Proof.Claims

/-- R435: a mailbox doorbell takes a request in, refuses another master's offset, ignores a busy master's write, and
answers a request that no service takes; a request's end writes the response and GRN.MBX_STATUS. R396, R430, R435, R437,
R439, R443: what each mailbox service does: the power limit, image manifests, job keys, the reads of the protection
set-up, bundles and signatures. -/
def Obligations.MailboxServices : Prop :=
  ((∀ (s : State) (m : Master) (slot : Fin 8) (v : Word), reaches s m .grnMbxDb [slot.val] →
    (let o := bits v.toNat 50 6 * 64
     (m ≠ slot → exec (.mbxDbWrite m slot v) s = .next (s.raise .grnPolicyDenied)) ∧
     (m = slot → mfind s.granite.mbx m.val ≠ none → exec (.mbxDbWrite m slot v) s = .next (s.raise .grnGwDenied)) ∧
     (∀ bs, m = slot → mfind s.granite.mbx m.val = none → s.granite.mbxOrder = [] → s.masterReach m o 64 true false = true →
       s.loadOff o 64 = (s, some (some bs)) → s.masterReach m (leAt bs 8 8) 32 false true = true →
       (mayAsk (leAt bs 0 2) m.val → exec (.mbxDbWrite m slot v) s = .next { s with granite := { s.granite with
         mbx := minsert s.granite.mbx m.val ⟨bs⟩, mbxOrder := [m.val] } }) ∧
       (¬ mayAsk (leAt bs 0 2) m.val → ∃ t, exec (.mbxDbWrite m slot v) s = .next t ∧
         (let st := if 1 ≤ leAt bs 0 2 ∧ leAt bs 0 2 ≤ 9 then 0x0106 else 0x0848
          mfind t.granite.mbx m.val = none ∧ t.granite.mbxOrder = [] ∧
          mfind t.granite.mbxLast m.val = some (BitVec.ofNat 64 (st * 2 ^ 32 + leAt bs 0 2)) ∧
          t.mem = (s.storeOff (leAt bs 8 8) (leBytes 2 st ++ leBytes 2 (leAt bs 0 2) ++ leBytes 28 0)).mem))))) ∧
  (∀ (s : State) (m : Master) (r : MbxReq) (a : Answer), s.masterReach m (leAt r.block 8 8) 32 false true = true →
    ∃ bs : List Byte, bs.length = 32 ∧ leAt bs 0 2 = a.status % 2 ^ 16 ∧ leAt bs 2 2 = leAt r.block 0 2 ∧ leAt bs 4 4 = 0 ∧
      leAt bs 8 8 = a.r0 % 2 ^ 64 ∧ leAt bs 16 8 = a.r1 % 2 ^ 64 ∧ leAt bs 24 8 = 0 ∧
      (let t := s.mbxEnd m r a
       t.mem = (s.storeOff (leAt r.block 8 8) bs).mem ∧ mfind t.granite.mbx m.val = none ∧ m.val ∉ t.granite.mbxOrder ∧
       (∀ k, k ≠ m.val → mfind t.granite.mbx k = mfind s.granite.mbx k) ∧ t.granite.keys = s.granite.keys ∧
       t.flash.protection = s.flash.protection))) ∧
  ((∀ (s : State) (m : Master) (r : MbxReq), served s m 1 r → r.clean 2 = true →
    (let w := leAt r.block 28 2
     (w < 1000 ∨ 4000 < w → answers (exec (.powerLimit m) s) s m r (.st 0x0103)) ∧
     (1000 ≤ w → w ≤ 4000 → ∃ u, answers (exec (.powerLimit m) s) u m r (.ok (u.reg .grnPowerLimit).toNat) ∧
       u.getF .grnPowerLimit [] 12 0 = w ∧ regsBut s u [RegTag.grnPowerLimit.off []] ∧
       u.getF .grnPowerLimit [] 28 16 = w - 333 * (s.package.phases.filter (fun e => 2 ≤ e.2)).length ∧
       { u with regs := s.regs } = s))) ∧
  (∀ (s s' : State) (m : Master) (r : MbxReq) (bs : List Byte) (k : KeySlot), served s m 2 r → r.clean 1 = true →
    s.mbxData m (leAt r.block 16 8) (leAt r.block 24 4) = (s', .inr bs) → mfind s'.granite.keys (leAt r.block 28 1) = some k →
    (let own := 2 ≤ leAt r.block 28 1 ∧ k.loaded = true ∧ k.usage = 4 ∧ k.tag.toNat = leAt bs 16 2 ∧ k.epoch.toNat = leAt bs 18 1
     let good := imageManifestOk bs = true ∧
       Config.sm2Verify k.key k.ident (Config.sm3 (bs.take (bs.length - 64))) (bs.drop (bs.length - 64)) = true
     (¬ own → answers (exec (.verifyImage m) s) s' m r (.st 0x0103)) ∧
     (own → ¬ good → answers (exec (.verifyImage m) s) s' m r (.st 0x0840)) ∧
     (own → good → ∃ u, answers (exec (.verifyImage m) s) u m r (.ok) ∧ { u with broadcasts := s'.broadcasts } = s' ∧
       (⟨k.tag, k.epoch, leAt bs 4 4, 0, s'.now⟩ : Broadcast) ∈ u.broadcasts))) ∧
  (∀ (s s' : State) (m : Master) (r : MbxReq) (bs : List Byte), served s m 3 r → r.clean 0 = true → leAt r.block 24 4 = 272 →
    s.mbxData m (leAt r.block 16 8) 272 = (s', .inr bs) →
    (let slot := leAt bs 4 1
     let usage := leAt bs 5 1
     let form := leAt bs 0 4 = 0x00010000 ∧ 2 ≤ slot ∧ slot ≤ 63 ∧ (usage = 3 ∨ usage = 4) ∧ allZero (slice bs 9 7) = true ∧
       (usage = 4 → allZero (slice bs 16 32) = true ∧ allZero (slice bs 112 96) = true)
     let fits := mget 0 s'.flash.protection.usages slot = usage ∧ (usage = 3 → s'.granite.debug = 0)
     let here := usage = 3 → slice bs 16 32 = digestBytes s'.identity
     let signed := ∃ k, mfind s'.flash.protection.authority 0 = some k ∧
       Config.sm2Verify k.key k.ident (Config.sm3 (slice bs 0 208)) (slice bs 208 64) = true
     (¬ form → answers (exec (.keyImport m) s) s' m r (.st 0x0103)) ∧
     (form → ¬ fits → answers (exec (.keyImport m) s) s' m r (.st 0x0841)) ∧
     (form → fits → ¬ here → answers (exec (.keyImport m) s) s' m r (.st 0x0843)) ∧
     (form → fits → here → ¬ signed → answers (exec (.keyImport m) s) s' m r (.st 0x0802)) ∧
     (∀ key, form → fits → here → signed →
       (if usage = 4 then some (slice bs 48 64) else Config.sm2Decrypt s'.flash.identityKey (slice bs 48 160)) = some key →
       (let k : KeySlot := ⟨usage, true, BitVec.ofNat 16 (leAt bs 6 2), BitVec.ofNat 8 (leAt bs 8 1), key, []⟩
        answers (exec (.keyImport m) s) { s' with granite := { s'.granite with keys := minsert s'.granite.keys slot k } } m r (.ok))))) ∧
  (∀ (s : State) (m : Master) (r : MbxReq), served s m 4 r → r.clean 1 = true → 2 ≤ leAt r.block 28 1 → leAt r.block 28 1 ≤ 63 →
    answers (exec (.keyClear m) s) { s with granite := { s.granite with
      keys := merase s.granite.keys (leAt r.block 28 1) } } m r (.ok)) ∧
  (∀ (s : State) (m : Master) (r : MbxReq), served s m 5 r → r.clean 4 = true →
    (let first := leAt r.block 28 2
     let n := leAt r.block 30 2
     0 < n → first + n ≤ s.flash.protection.admitted.length → first + n ≤ 16384 → 36 * n ≤ leAt r.block 24 4 →
     s.masterReach m (leAt r.block 16 8) (36 * n) false true = true → ∃ bs : List Byte, bs.length = 36 * n ∧
       (∀ i < n, ∀ e, s.flash.protection.admitted[first + i]? = some e →
         leAt bs (36 * i) 32 = e.digest.toNat ∧ leAt bs (36 * i + 32) 4 = b2n e.encrypt) ∧
       answers (exec (.admitRead m) s) (s.storeOff (leAt r.block 16 8) bs) m r (.ok))) ∧
  (∀ (s : State) (m : Master) (r : MbxReq), served s m 6 r → r.clean 0 = true → 2049 ≤ leAt r.block 24 4 →
    s.masterReach m (leAt r.block 16 8) 2049 false true = true → ∃ bs : List Byte, bs.length = 2049 ∧
      leAt bs 2048 1 = s.flash.protection.enables.toNat ∧
      (∀ i < 64, (mfind s.flash.protection.policy i = none → leAt bs (32 * i) 32 = 0) ∧
        (∀ e, mfind s.flash.protection.policy i = some e → leAt bs (32 * i) 8 = e.base % 2 ^ 64 ∧
          leAt bs (32 * i + 8) 8 = e.limit % 2 ^ 64 ∧ leAt bs (32 * i + 16) 1 = b2n e.node ∧
          leAt bs (32 * i + 17) 1 = e.read.toNat ∧ leAt bs (32 * i + 18) 1 = e.write.toNat ∧ leAt bs (32 * i + 19) 1 = 1 ∧
          leAt bs (32 * i + 20) 2 = e.tag.toNat)) ∧
      answers (exec (.policyRead m) s) (s.storeOff (leAt r.block 16 8) bs) m r (.ok)) ∧
  (∀ (s : State) (m : Master) (r : MbxReq), served s m 7 r → r.clean 0 = true → s.serviceSection ≠ [] →
    s.serviceSection.length ≤ leAt r.block 24 4 →
    s.masterReach m (leAt r.block 16 8) s.serviceSection.length false true = true →
    answers (exec (.configRead m) s) (s.storeOff (leAt r.block 16 8) s.serviceSection) m r (.ok)) ∧
  (∀ (s s' : State) (m : Master) (r : MbxReq) (bs : List Byte), served s m 8 r → r.clean 0 = true →
    s.mbxData m (leAt r.block 16 8) (leAt r.block 24 4) = (s', .inr bs) →
    (checkBundle s'.flash.svn bs = .bad → answers (exec (.bundleStage m) s) (s'.raise .grnVerifyFail) m r (.st 0x0840)) ∧
    (∀ b, checkBundle s'.flash.svn bs = .good b →
      (s'.runningBundle.map (·.granite) ≠ some b.granite → answers (exec (.bundleStage m) s) s' m r (.st 0x0847)) ∧
      (s'.runningBundle.map (·.granite) = some b.granite → ∃ u, answers (exec (.bundleStage m) s) u m r (.ok) ∧
        u.flash.bootSel = !s'.granite.bootSet ∧ u.flash.set u.flash.bootSel = bs ∧
        u.flash.set s'.granite.bootSet = s'.flash.set s'.granite.bootSet ∧ { u with flash := s'.flash } = s'))) ∧
  (∀ (s s' : State) (m : Master) (r : MbxReq) (bs : List Byte), served s m 9 r →
    allZero (slice r.block 2 6) = true → allZero (slice r.block 29 7) = true → allZero (r.block.drop 44) = true →
    leAt r.block 24 4 = 32 → leAt r.block 36 8 % 64 = 0 → s.mbxData m (leAt r.block 16 8) 32 = (s', .inr bs) →
    ((∀ k, mfind s'.granite.keys (leAt r.block 28 1) = some k → k.usage ≠ 3 ∨ k.loaded = false) →
      answers (exec (.sign m) s) s' m r (.st 0x0841)) ∧
    (∀ k, mfind s'.granite.keys (leAt r.block 28 1) = some k → 2 ≤ leAt r.block 28 1 → k.usage = 3 → k.loaded = true →
      s'.masterReach m (leAt r.block 36 8) 64 false true = true → ∃ u,
        answers (exec (.sign m) s) (State.storeOff u (leAt r.block 36 8) (slice (Config.sm2Sign k.key (BitVec.ofNat 256 (leNat bs)) s'.free) 0 64))
          m r (.ok (leAt r.block 36 8)) ∧ { u with free := s'.free } = s')))

/-- R440 to R443: nonces, and the order of TWO_PARTY_PROPOSE's checks; a change applies wholly, raises PROT by 1 and uses
its nonce, and a record that fails leaves the set-up as it is. -/
def Obligations.TwoPartyChange : Prop :=
  (∀ (s : State) (q : QueueId) (seq : W32) (c : Started), ready s 0x0801 q seq c → s.cmdBad c (c.arg 0) 32 false true = false →
    s.granite.nonces.length ≤ 4 → ∃ (u : State) (n : Digest),
      exec (.twoPartyNonce q seq) s = .next ((State.storeOff u (c.arg 0 % 2 ^ 51) (digestBytes n)).finishCmd c (.ok s.flash.protection.prot.toNat)) ∧
      u.granite.nonces = (if s.granite.nonces.length = 4 then s.granite.nonces.drop 1 else s.granite.nonces) ++ [n] ∧
      { u with granite := s.granite, free := s.free } = s ∧ { u.granite with nonces := s.granite.nonces } = s.granite) ∧
  (∀ (s : State) (q : QueueId) (seq : W32) (c : Started), ready s 0x0803 q seq c →
    exec (.twoPartyStatus q seq) s = .next (s.finishCmd c
      { status := 0, detail := b2n s.factory, r0 := s.flash.protection.prot.toNat, r1 := s.flash.protDigest.toNat % 2 ^ 64 })) ∧
  (∀ (s : State) (q : QueueId) (seq : W32) (c : Started), ready s 0x0802 q seq c →
    (let refused (u : State) (st d : Nat) : Prop :=
       exec (.twoPartyPropose q seq) s = .next ((u.raise .grnChangeRefused).finishCmd c { status := st, detail := d })
     let p := c.params.take (leAt c.params 4 4)
     let base := p.length - 136
     let nonce := BitVec.ofNat 256 (leAt p 8 32)
     let u := { s with granite := { s.granite with nonces := s.granite.nonces.erase nonce } }
     let a := leAt p base 1
     let b := leAt p (base + 1) 1
     let good (i sig : Nat) : Bool := match s.authority i with
       | some k => Config.sm2Verify k.key k.ident (Config.sm3 (p.take base)) (slice p sig 64)
       | none => false
     let signed := good a (base + 8) = true ∧ good b (base + 72) = true
     (s.factory = true → c.master ≠ 3 → refused s 0x0845 0) ∧
     (s.factory = false → tpLayout c.params = none → refused s 0x0842 0) ∧
     (∀ xs, s.factory = false → tpLayout c.params = some xs →
       (nonce ∉ s.granite.nonces → refused s 0x0801 0) ∧
       (nonce ∈ s.granite.nonces →
         (slice p 40 32 ≠ digestBytes s.identity → refused u 0x0843 0) ∧
         (slice p 40 32 = digestBytes s.identity →
           (leAt p 72 4 ≠ s.flash.protection.prot.toNat → refused u 0x0844 0) ∧
           (leAt p 72 4 = s.flash.protection.prot.toNat →
             (a = b → refused u 0x0803 0) ∧
             (a ≠ b → (1 < a ∨ 1 < b) → refused u 0x0842 0) ∧
             (a ≠ b → a ≤ 1 → b ≤ 1 →
               (¬ signed → refused u 0x0802 0) ∧
               (∀ i, signed → u.tpAll ⟨u.flash.protection, none, none, false, []⟩ 1 xs = .inr i → refused u 0x0842 i) ∧
               (∀ w, signed → u.tpAll ⟨u.flash.protection, none, none, false, []⟩ 1 xs = .inl w → ∃ t : State,
                 exec (.twoPartyPropose q seq) s = .next (t.finishCmd c (.ok (s.flash.protection.prot + 1).toNat)) ∧
                 t.flash.protection = { w.prot with prot := w.prot.prot + 1 } ∧ w.prot.prot = s.flash.protection.prot ∧
                 t.granite.nonces = s.granite.nonces.erase nonce ∧ t.flash.protDigest = Config.sm3 p ∧
                 t.getF .grnEvents [] 3 3 = 1 ∧
                 (∀ d, w.debug = some d → t.granite.debug = s.granite.debug ||| d ∧
                   (∀ k ∈ t.granite.keys, k.2.usage ≠ 3) ∧ t.getF .grnEvents [] 6 6 = 1))))))))) ∧
  (∀ (s : State) (w : TpWork) (body : List Byte),
    (leAt body 0 1 ≤ 127 → s.tpApply w ⟨2, body⟩ = some { w with prot := { w.prot with enables := BitVec.ofNat 8 (leAt body 0 1) } }) ∧
    ((∃ e ∈ w.prot.admitted, e.digest.toNat = leAt body 0 32) → ∃ w', s.tpApply w ⟨4, body⟩ = some w' ∧
      { w' with prot := w.prot, admits := w.admits } = w ∧ w'.admits = true ∧
      ∀ e, e ∈ w'.prot.admitted ↔ e ∈ w.prot.admitted ∧ e.digest.toNat ≠ leAt body 0 32) ∧
    ((∀ e ∈ w.prot.admitted, e.digest.toNat ≠ leAt body 0 32) → s.tpApply w ⟨4, body⟩ = none) ∧
    (2 ≤ leAt body 0 1 → leAt body 0 1 ≤ 63 → leAt body 1 1 ∈ [0, 3, 4] → ∃ w', s.tpApply w ⟨5, body⟩ = some w' ∧
      mget 0 w'.prot.usages (leAt body 0 1) = leAt body 1 1 ∧
      ∀ k, k ≠ leAt body 0 1 → mget 0 w'.prot.usages k = mget 0 w.prot.usages k) ∧
    (leAt body 0 1 ≤ 31 → s.tpApply w ⟨7, body⟩ = some { w with debug := some (BitVec.ofNat 8 (leAt body 0 1)) }))

/-- R444: the node answers the seven SPDM requests while Granite serves, with its chain, its seven measurements and
signatures by the device identity key (over a digest that log entry 3 leaves free). -/
def Obligations.Attestation : Prop :=
  ∀ (s : State) (t : SpdmPath) (req : List Byte),
    (s.getF .hstBoot [] 63 61 < 2 ∨ (t = .doe ∧ s.hostPort.mode = .down) →
      ∀ i ∈ [Instr.getVersion t req, .getCapabilities t req, .negotiateAlgorithms t req, .getDigests t req,
             .getCertificate t req, .challenge t req, .getMeasurements t req], exec i s = .next s) ∧
    (2 ≤ s.getF .hstBoot [] 63 61 → (t = .mctp ∨ s.hostPort.mode ≠ .down) →
      (let tells (r : SpdmResponse) : Host.Outcome State Fault Refusal := .next { s with out := .spdm t r :: s.out }
       let chain := Config.sm3 s.flash.chain
       exec (.getVersion t req) s = tells (.version 1 3) ∧ exec (.getCapabilities t req) s = tells (.capabilities true true true) ∧
       exec (.negotiateAlgorithms t req) s = tells (.algorithms true true) ∧ exec (.getDigests t req) s = tells (.digests chain) ∧
       exec (.getCertificate t req) s = tells (.certificate s.flash.chain) ∧
       (∃ ms : List Digest, ms.length = 7 ∧ nth 0 ms 6 = Config.sm3 (leBytes 1 (BitVec.toNat s.granite.debug)) ∧
         (∀ b, s.runningBundle = some b → nth 0 ms 0 = Config.sm3 b.granite ∧ nth 0 ms 1 = Config.sm3 b.dispatch ∧
           nth 0 ms 2 = Config.sm3 b.pdie ∧ nth 0 ms 3 = Config.sm3 b.manifest) ∧
         (∃ d n, exec (.getMeasurements t req) s = .next { s with
           free := s.free + 2, out := .spdm t (.measurements ms (Config.sm2Sign s.flash.identityKey d n)) :: s.out }) ∧
         (∃ x d n, exec (.challenge t req) s = .next { s with
           free := s.free + 2, out := .spdm t (.challengeAuth chain x (Config.sm2Sign s.flash.identityKey d n)) :: s.out }))))

/-! ## The host port, boot, reset and the package (chapters 19 and 20) -/

namespace Sys2Proof.Claims

/-- What a cold or warm reset leaves, whatever the boot finds (R395, R403, R438, R461): no job, queue, context, core or placement,
the time counter at 0, memory of the node zero and host memory as it was, the flashes as `f` has them. -/
def restarted (s t : State) (f : Flash) : Prop :=
  t.jobs = [] ∧ t.queues = [] ∧ t.started = [] ∧ t.ctxs = [] ∧ t.cores = [] ∧ t.placement = none ∧ t.tracked = [] ∧
  t.reservations = [] ∧ t.filters = [] ∧ t.clock.now = 0 ∧ t.nodeNo = 0x1FFF ∧ t.spanNo = 0 ∧ t.granite.nonces = [] ∧
  t.granite.keys = [] ∧ t.granite.debug = 0 ∧ t.flash = f ∧ t.pending = s.pending ∧
  (∀ a < 2 ^ 50, mget 0#8 t.mem a = 0) ∧ (∀ a, 2 ^ 50 ≤ a → mget 0#8 t.mem a = mget 0#8 s.mem a)

/-- What the boot of Granite finds (R437, R457, R459): the set that runs, or node loss where neither set verifies. -/
def booted (t : State) (f : Flash) : Prop :=
  let good (b : Bool) (x : Bundle) : Prop := checkBundle f.svn (f.set b) = .good x
  let runs (b : Bool) (x : Bundle) : Prop := t.getF .hstBoot [] 63 61 = 2 ∧ t.granite.bootSet = b ∧
    t.granite.bundleDigest = Config.sm3 x.manifest
  (∀ x, good f.bootSel x → runs f.bootSel x ∧ t.getF .grnEvents [] 5 5 = 0) ∧
  (∀ x, (∀ y, ¬ good f.bootSel y) → good (!f.bootSel) x → runs (!f.bootSel) x ∧ t.getF .grnEvents [] 5 5 = 1) ∧
  ((∀ y, ¬ good f.bootSel y) → (∀ y, ¬ good (!f.bootSel) y) → t.getF .hstBoot [] 63 61 = 1 ∧ t.package.lost = true ∧
    t.getF .grnEvents [] 5 5 = 1)

end Sys2Proof.Claims

/-- R437, R457, R458, R460, R461, R474, R475, R478: power-on, warm reset, the steps of boot and the loss of the input.
R449, R460 to R463: NODE_RESET once nothing else runs, CLUSTER_RESET, and a Function Level Reset. -/
def Obligations.BootRestartsAndResets : Prop :=
  ((∀ s : State, (s.package.power = true → exec .powerOn s = .next s) ∧
    (s.package.power = false → ∃ t, exec .powerOn s = .next t ∧ restarted s t s.flash ∧ booted t s.flash ∧
      t.package.power = true ∧ t.package.perst = true ∧ t.getF .hstReset [] 34 32 = 0)) ∧
  (∀ (s : State) (orderly : Bool), (s.package.power = false ∨ s.package.perst = true → exec (.warmReset orderly) s = .next s) ∧
    (s.package.power = true → s.package.perst = false →
      (let f := if orderly then (s.ledgerWrite 3).flash else s.flash
       ∃ t, exec (.warmReset orderly) s = .next t ∧ restarted s t f ∧ booted t f ∧ t.package.perst = true ∧
         t.getF .hstReset [] 34 32 = 1 ∧ f.map = s.flash.map ∧ f.protection = s.flash.protection ∧
         (orderly = true → (f.ledger ++ f.ledgerFirst.toList).length ≥ 1)))) ∧
  (∀ s : State, (s.package.power = false ∨ s.package.perst = false ∨ s.getF .hstBoot [] 63 61 < 2 →
      exec .perstDeassert s = .next s) ∧
    (∀ b, s.package.power = true → s.package.perst = true → s.getF .hstBoot [] 63 61 = 2 → s.package.refclk = true →
      s.package.lost = false → s.runningBundle = some b → s.flash.svn.length = 4 → ∃ t, exec .perstDeassert s = .next t ∧
        t.getF .hstBoot [] 63 61 = 3 ∧ t.package = { s.package with perst := false, perstAt := s.now } ∧
        (∀ i < 4, (nth 0 t.flash.svn i).toNat = max (nth 0 s.flash.svn i).toNat (leAt (nth [] b.images i) 14 2)) ∧
        { t with package := s.package, regs := s.regs, flash := s.flash } = s)) ∧
  (∀ (s : State) (lanes : BitVec 16) (mode : HostMode), 3 ≤ s.getF .hstBoot [] 63 61 → s.package.lost = false →
    s.getF .hstBoot [] 33 33 = 0 → mode ≠ .down → lanes ∈ [0xFFFF#16, 0x00FF#16, 0xFF00#16, 0x000F#16, 0xF000#16] →
    ∃ t, exec (.configReady lanes mode) s = .next t ∧
      t.hostPort = { s.hostPort with
        mode := mode, width := if lanes = 0xFFFF#16 then 16 else if lanes ∈ [0x00FF#16, 0xFF00#16] then 8 else 4 } ∧
      t.getF .hstBoot [] 33 33 = 1 ∧ t.getF .hstBoot [] 31 16 = min ((s.now - s.package.perstAt) / 1000000) 65535 ∧
      t.getF .hstBoot [] 63 61 = s.getF .hstBoot [] 63 61 ∧ { t with hostPort := s.hostPort, regs := s.regs } = s) ∧
  (∀ s : State, (s.getF .hstBoot [] 63 61 ≠ 3 → exec .hbmTrained s = .next s) ∧
    (s.getF .hstBoot [] 63 61 = 3 → ∃ t, exec .hbmTrained s = .next t ∧ t.getF .hstBoot [] 63 61 = 4 ∧
      (∀ p ∈ s.flash.map.pcs, (t.pc p).mode = .mappedOut) ∧ (∀ p, p ∉ s.flash.map.pcs → t.pc p = s.pc p) ∧
      (∀ e, e ∈ t.flash.retire ↔ e ∈ s.flash.retire ∧ e.2.st = .served) ∧
      { t with regs := s.regs, pcs := s.pcs, flash := s.flash } = s)) ∧
  (∀ s : State, (s.getF .hstBoot [] 63 61 ≠ 4 → exec .memoryActive s = .next s) ∧
    (s.getF .hstBoot [] 63 61 = 4 → ∃ t, exec .memoryActive s = .next t ∧ t.getF .hstBoot [] 63 61 = 5 ∧
      t.getF .hstBoot [] 32 32 = 1 ∧ t.getF .hstBoot [] 15 0 = min ((s.now - s.package.perstAt) / 1000000) 65535 ∧
      (∀ a < 2 ^ 40, mget 0#8 t.mem a = 0) ∧ (∀ a, 2 ^ 40 ≤ a → mget 0#8 t.mem a = mget 0#8 s.mem a) ∧
      (∀ e ∈ t.errs, e ∈ s.errs ∧ 2 ^ 40 ≤ e.1) ∧ { t with regs := s.regs, mem := s.mem, errs := s.errs } = s)) ∧
  (∀ (s : State) (i : Instr), i ∈ [Instr.undervoltage, .overvoltage] →
    (s.package.power = false → exec i s = .next s) ∧
    (s.package.power = true → ∃ t, exec i s = .next t ∧ t.package.power = false ∧ restarted s t s.flash ∧ t.regs = [])) ∧
  (∀ s : State,
    (let u := { s with package := { s.package with refclk := true } }
     (s.package.perst = true ∨ s.package.lost = true ∨ s.getF .hstBoot [] 63 61 ≠ 2 → exec .refclk156Present s = .next u) ∧
     (s.package.perst = false → s.package.lost = false → s.getF .hstBoot [] 63 61 = 2 →
       ∃ t, exec .refclk156Present s = .next t ∧ t.getF .hstBoot [] 63 61 = 3 ∧ t.package = u.package ∧
         { t with package := s.package, regs := s.regs, flash := s.flash } = s)))) ∧
  ((∀ (s : State) (q : QueueId) (seq : W32) (c : Started), ready s 0x0A01 q seq c → s.jobs = [] → s.started = [c] →
    (s.queue c.q).cringFull = false → (s.queue c.q).held = [] →
    (let links := tbit (c.arg 0) 0
     ∃ u : State, u = (s.waitCmd c (.nodeReset links s.now)).answer c (.ok) ∧
       exec (.nodeReset q seq) s = .next (u.nodeResetApply links))) ∧
  (∀ u : State,
    (let t := u.nodeResetApply false
     t.queues = [] ∧ t.started = [] ∧ t.jobs = [] ∧ t.placement = none ∧ t.cores = [] ∧ t.tallies = [] ∧ t.tracked = [] ∧
     t.ctxs = [] ∧ t.reservations = [] ∧ t.snaps = [] ∧
     (∀ o, 2 ^ 28 ≤ o ∨ o / 2 ^ 24 ∈ [1, 2, 5, 6, 7] → mfind t.regs o = none) ∧
     (∀ o, o < 2 ^ 28 → o / 2 ^ 24 ∉ [1, 2, 5, 6, 7] → o ≠ RegTag.hstReset.off [] → mfind t.regs o = mfind u.regs o) ∧
     t.getF .hstReset [] 34 32 = 2 ∧ t.getF .hstReset [] 31 0 = min (u.getF .hstReset [] 31 0 + 1) (2 ^ 32 - 1) ∧
     (∀ a, mget 0#8 t.mem a = if 2 ^ 50 ≤ a ∨ (a < 2 ^ 40 ∧ (u.jTop ≤ a ∨ (u.hostPort.hdmCommitted = true ∧ a < 2 ^ 36))) then
       mget 0#8 u.mem a else 0) ∧
     t.clock = u.clock ∧ t.links = u.links ∧ t.filters = u.filters ∧ t.flash = u.flash ∧ t.granite = u.granite ∧
     t.hostPort = u.hostPort ∧ t.package = u.package)) ∧
  (∀ (s : State) (q : QueueId) (seq : W32) (c : Started), ready s 0x0A02 q seq c →
    (let p := c.arg 0
     let serves := ∃ pl, s.placement = some pl ∧ ∃ r ∈ pl.serve, r.2.phys = p
     (s.flash.map.clusterOff p = true → exec (.clusterReset q seq) s = .next (s.finishCmd c (.st 0x0901))) ∧
     (s.flash.map.clusterOff p = false → serves → exec (.clusterReset q seq) s = .next (s.finishCmd c (.st 0x0A40))) ∧
     (s.flash.map.clusterOff p = false → ¬ serves → ∃ u : State, exec (.clusterReset q seq) s = .next (u.finishCmd c (.ok)) ∧
       (∀ x, u.core x = if x / 17 = p then Core.zero else s.core x) ∧
       (∀ a, mget 0#8 u.mem a = if (2 ^ 41 ≤ a ∧ (a - 2 ^ 41) / 2 ^ 19 / 17 = p) ∨
         (2 ^ 42 ≤ a ∧ (a - 2 ^ 42) / 2 ^ 16 / 17 = p) then 0 else mget 0#8 s.mem a) ∧
       (∀ o, mfind u.regs o = if 2 ^ 28 ≤ o ∧ (o - 2 ^ 28) / 0x40000 = p then none else mfind s.regs o) ∧
       { u with cores := s.cores, mem := s.mem, errs := s.errs, regs := s.regs } = s))) ∧
  (∀ s : State, ∃ t, exec .functionLevelReset s = .next t ∧ t.hostPort = { s.hostPort with msixEnabled := false } ∧
    (∀ q, t.queue q = if (s.queue q).st ≠ .disabled ∧ fld (s.queue q).ctrl 9 9 = 0 then
      { s.queue q with st := .disabled, stopping := false } else s.queue q) ∧
    { t with hostPort := s.hostPort, queues := s.queues, waits := s.waits } = s))

/-- R449 to R453, R465: snoops, the HDM range and its snoop filter, IDE streams, and the width and loss of the host link.
R449, R451, R452, R454, R455: configuration and BAR2 writes of the host, and the messages of the management port. -/
def Obligations.HostPort : Prop :=
  ((∀ (s : State) (a : Nat), (s.hostPort.mode ∈ [.cxl11, .cxl20, .cxl31] →
      exec (.hostSnoop a) s = .next { s with out := .cxl none :: s.out }) ∧
    (s.hostPort.mode ∉ [.cxl11, .cxl20, .cxl31] → exec (.hostSnoop a) s = .next s)) ∧
  (∀ (s : State) (a : Nat) (cache : Bool), s.hostPort.mode = .cxl31 → s.getF .hstBoot [] 32 32 = 1 → a < 2 ^ 36 →
    s.masterOn 0 = true →
    (let o := a / 64 * 64
     (s.policy 0 true o true false 0 = false → exec (.hdmAccess a none cache) s = .next { s with out := .cxl none :: s.out }) ∧
     (s.policy 0 true o true false 0 = true → s.errs = [] →
       (∀ l ∈ s.hostPort.snoop, l.line ≠ a / 64) → s.hostPort.snoop.length < 262144 →
       (let h := { s.hostPort with snoop := s.hostPort.snoop ++ [⟨a / 64, none⟩] }
        exec (.hdmAccess a none cache) s = .next { s with
          hostPort := if cache then h else s.hostPort, out := .cxl (some (memRead s.view o 64)) :: s.out })) ∧
     (∀ bs, bs.length = 64 → s.policy 0 true o false true 0 = false → exec (.hdmAccess a (some bs) cache) s = .next s) ∧
     (∀ bs, bs.length = 64 → s.policy 0 true o false true 0 = true → s.errs = [] → s.pages = [] →
       exec (.hdmAccess a (some bs) cache) s = .next { s with mem := memWrite s.mem o bs }))) ∧
  (∀ (s : State) (a : Nat), (∀ l ∈ s.hostPort.snoop, l.line = a / 64 → l.snooped = none) → exec (.birsp a) s = .next s) ∧
  (∀ (s : State) (a : Nat) (bs : List Byte) (t0 : Nat), s.hostPort.snoop = [⟨a / 64, some t0⟩] → s.heldWrites = [(a, bs)] →
    a < 2 ^ 36 → a % 64 + bs.length ≤ 64 → s.errs = [] → s.pages = [] →
    (let u := { s with hostPort := { s.hostPort with snoop := [] }, heldWrites := [], mem := memWrite s.mem a bs }
     exec (.birsp a) s = .next u ∧ (s.now < t0 + 10000000 → exec (.biTimeout a) s = .next s) ∧
     (t0 + 10000000 ≤ s.now → exec (.biTimeout a) s = .next (u.raise .hstBiTimeout)))) ∧
  (∀ (s : State) (a : Nat) (bs : List Byte), s.hostPort.snoop = [⟨a / 64, none⟩] → s.heldWrites = [] → s.pages = [] → a < 2 ^ 36 →
    bs ≠ [] → a % 64 + bs.length ≤ 64 →
    s.store a bs = { s with hostPort := { s.hostPort with snoop := [⟨a / 64, some s.now⟩] }, heldWrites := [(a, bs)],
                            out := .biSnp (a / 64) :: s.out }) ∧
  (∀ (s s' : State) (m : Master) (v : Word) (bs : List Byte), reaches s m .hstIdeKey [] →
    (let o := bits v.toNat 50 6 * 64
     let u := s.setF .hstIdeKey [] 50 6 (bits v.toNat 50 6)
     (tbit v.toNat 0 = false → exec (.ideKeyLoad m v) s = .next u) ∧
     (tbit v.toNat 0 = true → u.masterReach m o 232 true false = true → u.loadOff o 232 = (s', some (some bs)) →
       (s'.ideLoad bs ≠ 0 → ∃ t, exec (.ideKeyLoad m v) s = .next t ∧ t.getF .hstIdeState [] 31 16 = s'.ideLoad bs ∧
         t.hostPort = s'.hostPort) ∧
       (s'.ideLoad bs = 0 → ∃ t, exec (.ideKeyLoad m v) s = .next t ∧ t.getF .hstIdeState [] 31 16 = 0 ∧
         (leAt bs 4 1, leAt bs 5 1, leAt bs 6 1) ∈ t.hostPort.ideKeys ∧
         { t.hostPort with ideKeys := s'.hostPort.ideKeys } = s'.hostPort ∧
         { t with hostPort := s'.hostPort, regs := s'.regs } = s')))) ∧
  (∀ (s : State) (k : Fin 2), (s.getF .hstIdeState [] (4 * k.val + 3) (4 * k.val) ≠ 2 → exec (.ideFail k) s = .next s) ∧
    (s.getF .hstIdeState [] (4 * k.val + 3) (4 * k.val) = 2 → ∃ t, exec (.ideFail k) s = .next t ∧
      t.getF .hstIdeState [] (4 * k.val + 3) (4 * k.val) = 3 ∧ raised s t .hstIdeFail [] ∧
      (∀ x, x ∈ t.hostPort.ideKeys ↔ x ∈ s.hostPort.ideKeys ∧ x.1 ≠ k.val) ∧
      { t with hostPort := s.hostPort, regs := s.regs } = s)) ∧
  (∀ (s : State) (lanes : BitVec 16), s.hostPort.mode ≠ .down → lanes ∈ [0x00FF#16, 0xFF00#16, 0x000F#16, 0xF000#16, 0x00F0#16, 0#16] →
    (let w := if lanes ∈ [0x00FF#16, 0xFF00#16] then 8 else if lanes ∈ [0x000F#16, 0xF000#16] then 4 else 0
     (s.hostPort.width ≤ w → exec (.widthDown lanes) s = .next s) ∧
     (w < s.hostPort.width → 0 < w → exec (.widthDown lanes) s = .next (State.raise { s with
       hostPort := { s.hostPort with width := w } } .hstWidthDown)) ∧
     (w < s.hostPort.width → w = 0 → exec (.widthDown lanes) s = exec .hostLinkDown s))) ∧
  (∀ s : State, (s.hostPort.mode = .down → exec .hostLinkDown s = .next s) ∧
    (s.hostPort.mode ≠ .down → ∃ t, exec .hostLinkDown s = .next t ∧ raised s t .hstLinkDown [] ∧
      t.hostPort = { s.hostPort with mode := .down, width := 0, ideEnabled := [false, false], detectLast := s.now } ∧
      { t with hostPort := s.hostPort, regs := s.regs } = s)) ∧
  (∀ (s : State) (lanes : BitVec 16) (mode : HostMode), s.hostPort.mode = .down → s.getF .hstBoot [] 33 33 = 1 →
    s.package.lost = false → mode ≠ .down →
    (s.now < s.hostPort.detectLast + 1000000000 → exec (.cxlDetectRetry lanes mode) s = .next s) ∧
    (s.hostPort.detectLast + 1000000000 ≤ s.now → exec (.cxlDetectRetry 0xFFFF#16 mode) s = .next { s with
      hostPort := { s.hostPort with mode := mode, width := 16, detectLast := s.now } })) ∧
  (∀ (s : State) (q : QueueId) (seq : W32) (c : Started) (t0 : Nat), s.findStarted q seq = some c → c.wait = .hostDown t0 →
    (s.now < t0 + 10000000 → exec (.hostAccessTimeout q seq) s = .next s) ∧
    (t0 + 10000000 ≤ s.now → ∃ o, exec (.hostAccessTimeout q seq) s = .next (s.finishCmd c { status := 0x0201, r0 := o })))) ∧
  ((∀ s : State, s.hostPort.mode ≠ .down →
    (∀ on, exec (.componentRegisterWrite (.hdm on)) s = .next { s with hostPort := { s.hostPort with hdmCommitted := on } }) ∧
    (exec (.componentRegisterWrite (.msix false)) s = .next { s with hostPort := { s.hostPort with msixEnabled := false } }) ∧
    (∃ t, exec (.componentRegisterWrite (.msix true)) s = .next t ∧
      t.hostPort = { s.hostPort with msixEnabled := true, pba := [] } ∧ (∀ v ∈ s.hostPort.pba, Out.msix v ∈ t.out) ∧
      { t with hostPort := s.hostPort, out := s.out } = s) ∧
    (∀ (k : Fin 2) (on : Bool), s.hostPort.ideEnabled.length = 2 → s.getF .hstIdeState [] (4 * k.val + 3) (4 * k.val) ≠ 3 →
      ∃ t, exec (.componentRegisterWrite (.ide k on)) s = .next t ∧ nth (!on) t.hostPort.ideEnabled k.val = on ∧
        t.getF .hstIdeState [] (4 * k.val + 3) (4 * k.val) =
          (if ((k.val, 0, 0) ∈ s.hostPort.ideKeys ∧ (k.val, 1, 0) ∈ s.hostPort.ideKeys) ∨
            ((k.val, 0, 1) ∈ s.hostPort.ideKeys ∧ (k.val, 1, 1) ∈ s.hostPort.ideKeys) then (if on then 2 else 1) else 0) ∧
        { t with hostPort := s.hostPort, regs := s.regs } = s) ∧
    (∀ (off size : Nat) (v : Word), size ∈ [1, 2, 4, 8] → off % size = 0 →
      (0x18000 ≤ off → exec (.componentRegisterWrite (.bar2 off size v)) s = .next s) ∧
      (off < 0x18000 → ∃ t, exec (.componentRegisterWrite (.bar2 off size v)) s = .next t ∧
        (∀ i < size, bits (mget 0 t.hostPort.bar2 (off / 8 * 8)).toNat (8 * (off % 8 + i) + 7) (8 * (off % 8 + i)) =
          bits v.toNat (8 * i + 7) (8 * i)) ∧
        (∀ o, o ≠ off / 8 * 8 → mget 0 t.hostPort.bar2 o = mget 0 s.hostPort.bar2 o) ∧
        { t.hostPort with bar2 := s.hostPort.bar2 } = s.hostPort ∧ { t with hostPort := s.hostPort } = s))) ∧
  (∀ (s : State) (p : MgtPath) (off : Nat) (v : Word) (slot : List Byte),
    (s.getF .hstBoot [] 63 61 < 2 → exec (.mgtRegisterRead p off) s = .next s ∧ exec (.mgtRegisterWrite p off v) s = .next s ∧
      exec (.mgtSlotSubmit p slot) s = .next s) ∧
    (2 ≤ s.getF .hstBoot [] 63 61 → p.i3c = false → p.peer ≠ s.mgtPeer →
      exec (.mgtRegisterRead p off) s = .next (s.raise .hstMgtDrop) ∧
      exec (.mgtRegisterWrite p off v) s = .next (s.raise .hstMgtDrop) ∧
      exec (.mgtSlotSubmit p slot) s = .next (s.raise .hstMgtDrop)) ∧
    (2 ≤ s.getF .hstBoot [] 63 61 → p.i3c = true ∨ p.peer = s.mgtPeer →
      (∃ x, s.controlRead 3 off 8 = x ∧ exec (.mgtRegisterRead p off) s = .next { x.1 with
        free := x.1.free + 1, out := .mgtRead off x.2 :: x.1.out }) ∧
      ((∀ w < 2, off ≠ RegTag.hstMgtPeer.off [w]) →
        ∃ u, exec (.mgtRegisterWrite p off v) s = .next u ∧ exec (.registerWrite 3 off 8 v) s = .next u) ∧
      (let k := s.queue 0
       (k.st = .disabled → exec (.mgtSlotSubmit p slot) s = .next (s.raise .cqDbDiscard)) ∧
       (k.st ≠ .disabled → (k.producer - k.consumer).toNat = 2 ^ bits k.ring.toNat 4 0 →
         exec (.mgtSlotSubmit p slot) s = .next s) ∧
       (∀ a, k.st ≠ .disabled → (k.producer - k.consumer).toNat ≠ 2 ^ bits k.ring.toNat 4 0 →
         a = ringBase k.ring + k.producer.toNat % 2 ^ bits k.ring.toNat 4 0 * 64 → s.masterReach 3 a 64 false true = true →
         ∃ u, exec (.mgtSlotSubmit p slot) s = .next u ∧
           exec (.doorbellWrite 3 0 ((k.producer + 1).zeroExtend 64)) (s.storeOff a slot) = .next u)))) ∧
  (∀ (s : State) (m : Master) (w : Fin 2) (v : Word), reaches s m .hstMgtPeer [w.val] →
    exec (.mgtPeerWrite m true w v) s = .next (s.setReg .hstMgtPeer [w.val] v) ∧
    exec (.mgtPeerWrite m false w v) s = .next (s.raise .grnPolicyDenied)))
end

