-- ==== Sys2Proof/Laws/Collections.lean ====
section
/-! SUPPORT. What the sparse collections answer after each operation, and that each keeps the canonical form. -/

namespace Sys2Proof.Machine

variable {α : Type}

/-! ## Reads after writes -/

theorem mget_eq_mfind (d : α) (m : List (Nat × α)) (i : Nat) : mget d m i = (mfind m i).getD d := by
  induction m with
  | nil => rfl
  | cons e m ih => obtain ⟨k, v⟩ := e; by_cases h : k = i <;> simp [mget, mfind, h, ih]

@[simp] theorem mfind_minsert_same (m : List (Nat × α)) (i : Nat) (v : α) : mfind (minsert m i v) i = some v := by
  induction m with
  | nil => simp [minsert, mfind]
  | cons e m ih =>
    obtain ⟨k, u⟩ := e
    by_cases h : i < k
    · simp [minsert, mfind, h]
    · by_cases h' : i = k
      · simp [minsert, mfind, h']
      · simp [minsert, mfind, h, h', Ne.symm h', ih]

theorem mfind_minsert_ne (m : List (Nat × α)) {i j : Nat} (v : α) (h : j ≠ i) :
    mfind (minsert m i v) j = mfind m j := by
  induction m with
  | nil => simp [minsert, mfind, Ne.symm h]
  | cons e m ih =>
    obtain ⟨k, u⟩ := e
    by_cases h1 : i < k
    · simp [minsert, mfind, h1, Ne.symm h]
    · by_cases h2 : i = k
      · subst h2; simp [minsert, mfind, Ne.symm h]
      · simp [minsert, mfind, h1, h2, ih]

@[simp] theorem mfind_merase_same (m : List (Nat × α)) (i : Nat) : mfind (merase m i) i = none := by
  induction m with
  | nil => rfl
  | cons e m ih => obtain ⟨k, u⟩ := e; by_cases h : k = i <;> simp [merase, mfind, h, ih]

theorem mfind_merase_ne (m : List (Nat × α)) {i j : Nat} (h : j ≠ i) : mfind (merase m i) j = mfind m j := by
  induction m with
  | nil => rfl
  | cons e m ih =>
    obtain ⟨k, u⟩ := e
    by_cases h1 : k = i
    · subst h1; simp [merase, mfind, Ne.symm h, ih]
    · simp [merase, mfind, h1, ih]

theorem mget_minsert_same (d : α) (m : List (Nat × α)) (i : Nat) (v : α) : mget d (minsert m i v) i = v := by
  simp [mget_eq_mfind]

theorem mget_minsert_ne (d : α) (m : List (Nat × α)) {i j : Nat} (v : α) (h : j ≠ i) :
    mget d (minsert m i v) j = mget d m j := by simp [mget_eq_mfind, mfind_minsert_ne m v h]

@[simp] theorem mget_mset_same [DecidableEq α] (d : α) (m : List (Nat × α)) (i : Nat) (v : α) :
    mget d (mset d m i v) i = v := by
  by_cases h : v = d <;> simp [mset, h, mget_eq_mfind]

theorem mget_mset_ne [DecidableEq α] (d : α) (m : List (Nat × α)) {i j : Nat} (v : α) (h : j ≠ i) :
    mget d (mset d m i v) j = mget d m j := by
  by_cases h' : v = d <;> simp [mset, h', mget_eq_mfind, mfind_minsert_ne m v h, mfind_merase_ne m h]

theorem mget_mset [DecidableEq α] (d : α) (m : List (Nat × α)) (i j : Nat) (v : α) :
    mget d (mset d m i v) j = if j = i then v else mget d m j := by
  by_cases h : j = i
  · subst h; simp
  · simp [h, mget_mset_ne d m v h]

/-! ## Writes after writes -/

theorem minsert_minsert (m : List (Nat × α)) (i : Nat) (u v : α) : minsert (minsert m i u) i v = minsert m i v := by
  induction m with
  | nil => simp [minsert]
  | cons e m ih =>
    obtain ⟨k, w⟩ := e
    by_cases h : i < k
    · simp [minsert, h]
    · by_cases h' : i = k
      · simp [minsert, h']
      · simp [minsert, h, h', ih]

theorem merase_minsert (m : List (Nat × α)) (i : Nat) (u : α) : merase (minsert m i u) i = merase m i := by
  induction m with
  | nil => simp [minsert, merase]
  | cons e m ih =>
    obtain ⟨k, w⟩ := e
    by_cases h : i < k
    · simp [minsert, merase, h]
    · by_cases h' : i = k
      · simp [minsert, merase, h']
      · simp [minsert, merase, h, h', Ne.symm h', ih]

/-! ## The canonical form -/

theorem mwfFrom_mono [DecidableEq α] {d : α} {m : List (Nat × α)} {lo lo' : Nat} (h : lo' ≤ lo)
    (w : mwfFrom d lo m = true) : mwfFrom d lo' m = true := by
  cases m with
  | nil => rfl
  | cons e m =>
    obtain ⟨k, v⟩ := e
    simp only [mwfFrom, Bool.and_eq_true, decide_eq_true_eq] at w ⊢
    exact ⟨⟨by omega, w.1.2⟩, w.2⟩

theorem mwfFrom_merase [DecidableEq α] {d : α} {m : List (Nat × α)} {lo : Nat} (i : Nat)
    (w : mwfFrom d lo m = true) : mwfFrom d lo (merase m i) = true := by
  induction m generalizing lo with
  | nil => rfl
  | cons e m ih =>
    obtain ⟨k, v⟩ := e
    simp only [mwfFrom, Bool.and_eq_true, decide_eq_true_eq] at w
    by_cases h : k = i
    · simp only [merase, h, if_true]
      exact ih (mwfFrom_mono (by omega) w.2)
    · simp only [merase, h, if_false, mwfFrom, Bool.and_eq_true, decide_eq_true_eq]
      exact ⟨w.1, ih w.2⟩

theorem mwfFrom_minsert [DecidableEq α] {d : α} {m : List (Nat × α)} {lo i : Nat} {v : α} (hv : v ≠ d) (hi : lo ≤ i)
    (w : mwfFrom d lo m = true) : mwfFrom d lo (minsert m i v) = true := by
  induction m generalizing lo with
  | nil => simp [minsert, mwfFrom, hi, hv]
  | cons e m ih =>
    obtain ⟨k, u⟩ := e
    simp only [mwfFrom, Bool.and_eq_true, decide_eq_true_eq] at w
    by_cases h : i < k
    · have := w.1.1
      simp only [minsert, h, if_true, mwfFrom, Bool.and_eq_true, decide_eq_true_eq]
      exact ⟨⟨hi, by simp [hv]⟩, ⟨by omega, w.1.2⟩, w.2⟩
    · by_cases h' : i = k
      · subst h'
        simp only [minsert, h, if_false, if_true, mwfFrom, Bool.and_eq_true, decide_eq_true_eq]
        exact ⟨⟨hi, by simp [hv]⟩, w.2⟩
      · simp only [minsert, h, h', if_false, mwfFrom, Bool.and_eq_true, decide_eq_true_eq]
        exact ⟨w.1, ih (by omega) w.2⟩

theorem mwf_mset [DecidableEq α] {d : α} {m : List (Nat × α)} (i : Nat) (v : α) (w : mwf d m = true) :
    mwf d (mset d m i v) = true := by
  by_cases h : v = d
  · simp only [mset, h, if_true]; exact mwfFrom_merase i w
  · simp only [mset, h, if_false]; exact mwfFrom_minsert h (Nat.zero_le _) w

theorem mwfFrom_filter [DecidableEq α] {d : α} {m : List (Nat × α)} {lo : Nat} (p : Nat × α → Bool)
    (w : mwfFrom d lo m = true) : mwfFrom d lo (m.filter p) = true := by
  induction m generalizing lo with
  | nil => rfl
  | cons e m ih =>
    obtain ⟨k, v⟩ := e
    simp only [mwfFrom, Bool.and_eq_true, decide_eq_true_eq] at w
    cases h : p (k, v) with
    | true =>
      simp only [List.filter, h, mwfFrom, Bool.and_eq_true, decide_eq_true_eq]
      exact ⟨w.1, ih w.2⟩
    | false =>
      simp only [List.filter, h]
      exact ih (mwfFrom_mono (by omega) w.2)

theorem mwf_filter [DecidableEq α] {d : α} {m : List (Nat × α)} (p : Nat × α → Bool) (w : mwf d m = true) :
    mwf d (m.filter p) = true := mwfFrom_filter p w

theorem mget_filter (d : α) (m : List (Nat × α)) (p : Nat → Bool) (i : Nat) :
    mget d (m.filter (fun e => p e.1)) i = if p i then mget d m i else d := by
  induction m with
  | nil => simp [mget]
  | cons e m ih =>
    obtain ⟨k, v⟩ := e
    by_cases h : k = i
    · subst h
      cases hp : p k with
      | true => simp [List.filter, hp, mget]
      | false => simp [List.filter, hp, ih]
    · cases hp : p k with
      | true => simp [List.filter, hp, mget, h, ih]
      | false => simp [List.filter, hp, mget, h, ih]

/-! ## Lists -/

@[simp] theorem upFrom_length (lo n : Nat) : (upFrom lo n).length = n := by
  induction n generalizing lo with
  | zero => rfl
  | succ n ih => simp [upFrom, ih]

theorem getElem?_upFrom (lo n i : Nat) : (upFrom lo n)[i]? = if i < n then some (lo + i) else none := by
  induction n generalizing lo i with
  | zero => simp [upFrom]
  | succ n ih =>
    cases i with
    | zero => simp [upFrom]
    | succ i => simp [upFrom, ih]; split <;> simp; omega

@[simp] theorem slice_length (bs : List Byte) (i n : Nat) : (slice bs i n).length = n := by
  simp only [slice, List.length_append, List.length_replicate, List.length_take, List.length_drop]; omega

@[simp] theorem leBytes_length (n v : Nat) : (leBytes n v).length = n := by
  induction n generalizing v with
  | zero => rfl
  | succ n ih => simp [leBytes, ih]

theorem leNat_leBytes (n v : Nat) : leNat (leBytes n v) = v % 256 ^ n := by
  induction n generalizing v with
  | zero => simp [leBytes, leNat, Nat.mod_one]
  | succ n ih =>
    rw [leBytes, leNat, ih, BitVec.toNat_ofNat, pow_succ' 256 n, Nat.mod_mul (a := 256)]

theorem leNat_lt (bs : List Byte) : leNat bs < 256 ^ bs.length := by
  induction bs with
  | nil => simp [leNat]
  | cons b bs ih =>
    have := b.isLt
    rw [leNat, List.length_cons, Nat.pow_succ]
    omega

@[simp] theorem setNth_length (xs : List α) (i : Nat) (v : α) : (setNth xs i v).length = xs.length := by
  induction xs generalizing i with
  | nil => rfl
  | cons x xs ih => cases i <;> simp [setNth, ih]

theorem nth_setNth (d : α) (xs : List α) (i j : Nat) (v : α) :
    nth d (setNth xs i v) j = if j = i ∧ i < xs.length then v else nth d xs j := by
  induction xs generalizing i j with
  | nil => simp [setNth, nth]
  | cons x xs ih =>
    cases i <;> cases j <;> simp [setNth, nth]; simpa [nth] using ih _ _

end Sys2Proof.Machine
end

