-- ==== Sys2Proof/Laws/Flits.lean ====
section
/-! SUPPORT. The CRC of a flit is a number of 64 bits, and reads back from its bytes (R324). -/

namespace Sys2Proof.Machine

theorem crcBit_lt (c : Nat) (b : Bool) : crcBit c b < 2 ^ 64 := by
  unfold crcBit
  dsimp only
  split
  · exact Nat.xor_lt_two_pow (Nat.mod_lt _ (by decide)) (by decide)
  · exact Nat.mod_lt _ (by decide)

theorem crc64_lt (bs : List Byte) : crc64 bs < 2 ^ 64 := by
  unfold crc64
  refine Nat.xor_lt_two_pow (by decide) ?_
  suffices h : ∀ (bs : List Byte) (c : Nat), c < 2 ^ 64 →
      bs.foldl (fun c b => [7, 6, 5, 4, 3, 2, 1, 0].foldl (fun c i => crcBit c (tbit b.toNat i)) c) c < 2 ^ 64 from h _ _ (by decide)
  intro bs
  induction bs with
  | nil => exact fun c h => h
  | cons b bs ih => exact fun c _ => ih _ (crcBit_lt _ _)

theorem leAt_append (b : List Byte) (n v : Nat) (h : v < 256 ^ n) : leAt (b ++ leBytes n v) b.length n = v := by
  have e : slice (b ++ leBytes n v) b.length n = leBytes n v := by
    simp only [slice, List.drop_left, List.take_of_length_le (Nat.le_of_eq (leBytes_length n v)), leBytes_length, Nat.sub_self,
      List.replicate_zero, List.append_nil]
  rw [leAt, e, leNat_leBytes, Nat.mod_eq_of_lt h]

/-- A flit's bytes with its CRC behind them pass the receiver's check. -/
theorem crc64_flit {body : List Byte} (h : body.length = 248) :
    crc64 ((body ++ leBytes 8 (crc64 body)).take 248) = leAt (body ++ leBytes 8 (crc64 body)) 248 8 := by
  have e := leAt_append body 8 (crc64 body) (crc64_lt body)
  rw [h] at e
  rw [e, List.take_left' h]

end Sys2Proof.Machine
end

