-- ==== Sys2Proof/Laws/State.lean ====
section
/-! SUPPORT. What each update of the state leaves of each field: one lemma per field per update, so that no proof unfolds a
record update. -/

namespace Sys2Proof.Machine

variable (s : State)

/-! ## setReg -/

@[simp] theorem State.setReg_pending (t : RegTag) (is : List Nat) (v : Word) : (s.setReg t is v).pending = s.pending := rfl
@[simp] theorem State.setReg_free (t : RegTag) (is : List Nat) (v : Word) : (s.setReg t is v).free = s.free := rfl
@[simp] theorem State.setReg_regs (t : RegTag) (is : List Nat) (v : Word) : (s.setReg t is v).regs = mset (t.resetAt is) s.regs (t.off is) v := rfl
@[simp] theorem State.setReg_mem (t : RegTag) (is : List Nat) (v : Word) : (s.setReg t is v).mem = s.mem := rfl
@[simp] theorem State.setReg_errs (t : RegTag) (is : List Nat) (v : Word) : (s.setReg t is v).errs = s.errs := rfl
@[simp] theorem State.setReg_tallies (t : RegTag) (is : List Nat) (v : Word) : (s.setReg t is v).tallies = s.tallies := rfl
@[simp] theorem State.setReg_queues (t : RegTag) (is : List Nat) (v : Word) : (s.setReg t is v).queues = s.queues := rfl
@[simp] theorem State.setReg_started (t : RegTag) (is : List Nat) (v : Word) : (s.setReg t is v).started = s.started := rfl
@[simp] theorem State.setReg_waits (t : RegTag) (is : List Nat) (v : Word) : (s.setReg t is v).waits = s.waits := rfl
@[simp] theorem State.setReg_lastServed (t : RegTag) (is : List Nat) (v : Word) : (s.setReg t is v).lastServed = s.lastServed := rfl
@[simp] theorem State.setReg_jobs (t : RegTag) (is : List Nat) (v : Word) : (s.setReg t is v).jobs = s.jobs := rfl
@[simp] theorem State.setReg_tables (t : RegTag) (is : List Nat) (v : Word) : (s.setReg t is v).tables = s.tables := rfl
@[simp] theorem State.setReg_placement (t : RegTag) (is : List Nat) (v : Word) : (s.setReg t is v).placement = s.placement := rfl
@[simp] theorem State.setReg_cores (t : RegTag) (is : List Nat) (v : Word) : (s.setReg t is v).cores = s.cores := rfl
@[simp] theorem State.setReg_tracked (t : RegTag) (is : List Nat) (v : Word) : (s.setReg t is v).tracked = s.tracked := rfl
@[simp] theorem State.setReg_batches (t : RegTag) (is : List Nat) (v : Word) : (s.setReg t is v).batches = s.batches := rfl
@[simp] theorem State.setReg_reservations (t : RegTag) (is : List Nat) (v : Word) : (s.setReg t is v).reservations = s.reservations := rfl
@[simp] theorem State.setReg_pcs (t : RegTag) (is : List Nat) (v : Word) : (s.setReg t is v).pcs = s.pcs := rfl
@[simp] theorem State.setReg_mapOutQueue (t : RegTag) (is : List Nat) (v : Word) : (s.setReg t is v).mapOutQueue = s.mapOutQueue := rfl
@[simp] theorem State.setReg_mapPending (t : RegTag) (is : List Nat) (v : Word) : (s.setReg t is v).mapPending = s.mapPending := rfl
@[simp] theorem State.setReg_links (t : RegTag) (is : List Nat) (v : Word) : (s.setReg t is v).links = s.links := rfl
@[simp] theorem State.setReg_filters (t : RegTag) (is : List Nat) (v : Word) : (s.setReg t is v).filters = s.filters := rfl
@[simp] theorem State.setReg_ctxs (t : RegTag) (is : List Nat) (v : Word) : (s.setReg t is v).ctxs = s.ctxs := rfl
@[simp] theorem State.setReg_copies (t : RegTag) (is : List Nat) (v : Word) : (s.setReg t is v).copies = s.copies := rfl
@[simp] theorem State.setReg_nextCopy (t : RegTag) (is : List Nat) (v : Word) : (s.setReg t is v).nextCopy = s.nextCopy := rfl
@[simp] theorem State.setReg_reductions (t : RegTag) (is : List Nat) (v : Word) : (s.setReg t is v).reductions = s.reductions := rfl
@[simp] theorem State.setReg_redIn (t : RegTag) (is : List Nat) (v : Word) : (s.setReg t is v).redIn = s.redIn := rfl
@[simp] theorem State.setReg_tx (t : RegTag) (is : List Nat) (v : Word) : (s.setReg t is v).tx = s.tx := rfl
@[simp] theorem State.setReg_rx (t : RegTag) (is : List Nat) (v : Word) : (s.setReg t is v).rx = s.rx := rfl
@[simp] theorem State.setReg_snaps (t : RegTag) (is : List Nat) (v : Word) : (s.setReg t is v).snaps = s.snaps := rfl
@[simp] theorem State.setReg_pages (t : RegTag) (is : List Nat) (v : Word) : (s.setReg t is v).pages = s.pages := rfl
@[simp] theorem State.setReg_heldWrites (t : RegTag) (is : List Nat) (v : Word) : (s.setReg t is v).heldWrites = s.heldWrites := rfl
@[simp] theorem State.setReg_stageUsed (t : RegTag) (is : List Nat) (v : Word) : (s.setReg t is v).stageUsed = s.stageUsed := rfl
@[simp] theorem State.setReg_stagePeak (t : RegTag) (is : List Nat) (v : Word) : (s.setReg t is v).stagePeak = s.stagePeak := rfl
@[simp] theorem State.setReg_clock (t : RegTag) (is : List Nat) (v : Word) : (s.setReg t is v).clock = s.clock := rfl
@[simp] theorem State.setReg_regions (t : RegTag) (is : List Nat) (v : Word) : (s.setReg t is v).regions = s.regions := rfl
@[simp] theorem State.setReg_point (t : RegTag) (is : List Nat) (v : Word) : (s.setReg t is v).point = s.point := rfl
@[simp] theorem State.setReg_change (t : RegTag) (is : List Nat) (v : Word) : (s.setReg t is v).change = s.change := rfl
@[simp] theorem State.setReg_request (t : RegTag) (is : List Nat) (v : Word) : (s.setReg t is v).request = s.request := rfl
@[simp] theorem State.setReg_hold (t : RegTag) (is : List Nat) (v : Word) : (s.setReg t is v).hold = s.hold := rfl
@[simp] theorem State.setReg_ledgerAt (t : RegTag) (is : List Nat) (v : Word) : (s.setReg t is v).ledgerAt = s.ledgerAt := rfl
@[simp] theorem State.setReg_granite (t : RegTag) (is : List Nat) (v : Word) : (s.setReg t is v).granite = s.granite := rfl
@[simp] theorem State.setReg_flash (t : RegTag) (is : List Nat) (v : Word) : (s.setReg t is v).flash = s.flash := rfl
@[simp] theorem State.setReg_hostPort (t : RegTag) (is : List Nat) (v : Word) : (s.setReg t is v).hostPort = s.hostPort := rfl
@[simp] theorem State.setReg_package (t : RegTag) (is : List Nat) (v : Word) : (s.setReg t is v).package = s.package := rfl
@[simp] theorem State.setReg_health (t : RegTag) (is : List Nat) (v : Word) : (s.setReg t is v).health = s.health := rfl
@[simp] theorem State.setReg_broadcasts (t : RegTag) (is : List Nat) (v : Word) : (s.setReg t is v).broadcasts = s.broadcasts := rfl
@[simp] theorem State.setReg_out (t : RegTag) (is : List Nat) (v : Word) : (s.setReg t is v).out = s.out := rfl

/-! ## setF -/

@[simp] theorem State.setF_pending (t : RegTag) (is : List Nat) (hi lo v : Nat) : (s.setF t is hi lo v).pending = s.pending := rfl
@[simp] theorem State.setF_free (t : RegTag) (is : List Nat) (hi lo v : Nat) : (s.setF t is hi lo v).free = s.free := rfl
@[simp] theorem State.setF_regs (t : RegTag) (is : List Nat) (hi lo v : Nat) : (s.setF t is hi lo v).regs = mset (t.resetAt is) s.regs (t.off is) (BitVec.ofNat 64 (putBits (s.reg t is).toNat hi lo v)) := rfl
@[simp] theorem State.setF_mem (t : RegTag) (is : List Nat) (hi lo v : Nat) : (s.setF t is hi lo v).mem = s.mem := rfl
@[simp] theorem State.setF_errs (t : RegTag) (is : List Nat) (hi lo v : Nat) : (s.setF t is hi lo v).errs = s.errs := rfl
@[simp] theorem State.setF_tallies (t : RegTag) (is : List Nat) (hi lo v : Nat) : (s.setF t is hi lo v).tallies = s.tallies := rfl
@[simp] theorem State.setF_queues (t : RegTag) (is : List Nat) (hi lo v : Nat) : (s.setF t is hi lo v).queues = s.queues := rfl
@[simp] theorem State.setF_started (t : RegTag) (is : List Nat) (hi lo v : Nat) : (s.setF t is hi lo v).started = s.started := rfl
@[simp] theorem State.setF_waits (t : RegTag) (is : List Nat) (hi lo v : Nat) : (s.setF t is hi lo v).waits = s.waits := rfl
@[simp] theorem State.setF_lastServed (t : RegTag) (is : List Nat) (hi lo v : Nat) : (s.setF t is hi lo v).lastServed = s.lastServed := rfl
@[simp] theorem State.setF_jobs (t : RegTag) (is : List Nat) (hi lo v : Nat) : (s.setF t is hi lo v).jobs = s.jobs := rfl
@[simp] theorem State.setF_tables (t : RegTag) (is : List Nat) (hi lo v : Nat) : (s.setF t is hi lo v).tables = s.tables := rfl
@[simp] theorem State.setF_placement (t : RegTag) (is : List Nat) (hi lo v : Nat) : (s.setF t is hi lo v).placement = s.placement := rfl
@[simp] theorem State.setF_cores (t : RegTag) (is : List Nat) (hi lo v : Nat) : (s.setF t is hi lo v).cores = s.cores := rfl
@[simp] theorem State.setF_tracked (t : RegTag) (is : List Nat) (hi lo v : Nat) : (s.setF t is hi lo v).tracked = s.tracked := rfl
@[simp] theorem State.setF_batches (t : RegTag) (is : List Nat) (hi lo v : Nat) : (s.setF t is hi lo v).batches = s.batches := rfl
@[simp] theorem State.setF_reservations (t : RegTag) (is : List Nat) (hi lo v : Nat) : (s.setF t is hi lo v).reservations = s.reservations := rfl
@[simp] theorem State.setF_pcs (t : RegTag) (is : List Nat) (hi lo v : Nat) : (s.setF t is hi lo v).pcs = s.pcs := rfl
@[simp] theorem State.setF_mapOutQueue (t : RegTag) (is : List Nat) (hi lo v : Nat) : (s.setF t is hi lo v).mapOutQueue = s.mapOutQueue := rfl
@[simp] theorem State.setF_mapPending (t : RegTag) (is : List Nat) (hi lo v : Nat) : (s.setF t is hi lo v).mapPending = s.mapPending := rfl
@[simp] theorem State.setF_links (t : RegTag) (is : List Nat) (hi lo v : Nat) : (s.setF t is hi lo v).links = s.links := rfl
@[simp] theorem State.setF_filters (t : RegTag) (is : List Nat) (hi lo v : Nat) : (s.setF t is hi lo v).filters = s.filters := rfl
@[simp] theorem State.setF_ctxs (t : RegTag) (is : List Nat) (hi lo v : Nat) : (s.setF t is hi lo v).ctxs = s.ctxs := rfl
@[simp] theorem State.setF_copies (t : RegTag) (is : List Nat) (hi lo v : Nat) : (s.setF t is hi lo v).copies = s.copies := rfl
@[simp] theorem State.setF_nextCopy (t : RegTag) (is : List Nat) (hi lo v : Nat) : (s.setF t is hi lo v).nextCopy = s.nextCopy := rfl
@[simp] theorem State.setF_reductions (t : RegTag) (is : List Nat) (hi lo v : Nat) : (s.setF t is hi lo v).reductions = s.reductions := rfl
@[simp] theorem State.setF_redIn (t : RegTag) (is : List Nat) (hi lo v : Nat) : (s.setF t is hi lo v).redIn = s.redIn := rfl
@[simp] theorem State.setF_tx (t : RegTag) (is : List Nat) (hi lo v : Nat) : (s.setF t is hi lo v).tx = s.tx := rfl
@[simp] theorem State.setF_rx (t : RegTag) (is : List Nat) (hi lo v : Nat) : (s.setF t is hi lo v).rx = s.rx := rfl
@[simp] theorem State.setF_snaps (t : RegTag) (is : List Nat) (hi lo v : Nat) : (s.setF t is hi lo v).snaps = s.snaps := rfl
@[simp] theorem State.setF_pages (t : RegTag) (is : List Nat) (hi lo v : Nat) : (s.setF t is hi lo v).pages = s.pages := rfl
@[simp] theorem State.setF_heldWrites (t : RegTag) (is : List Nat) (hi lo v : Nat) : (s.setF t is hi lo v).heldWrites = s.heldWrites := rfl
@[simp] theorem State.setF_stageUsed (t : RegTag) (is : List Nat) (hi lo v : Nat) : (s.setF t is hi lo v).stageUsed = s.stageUsed := rfl
@[simp] theorem State.setF_stagePeak (t : RegTag) (is : List Nat) (hi lo v : Nat) : (s.setF t is hi lo v).stagePeak = s.stagePeak := rfl
@[simp] theorem State.setF_clock (t : RegTag) (is : List Nat) (hi lo v : Nat) : (s.setF t is hi lo v).clock = s.clock := rfl
@[simp] theorem State.setF_regions (t : RegTag) (is : List Nat) (hi lo v : Nat) : (s.setF t is hi lo v).regions = s.regions := rfl
@[simp] theorem State.setF_point (t : RegTag) (is : List Nat) (hi lo v : Nat) : (s.setF t is hi lo v).point = s.point := rfl
@[simp] theorem State.setF_change (t : RegTag) (is : List Nat) (hi lo v : Nat) : (s.setF t is hi lo v).change = s.change := rfl
@[simp] theorem State.setF_request (t : RegTag) (is : List Nat) (hi lo v : Nat) : (s.setF t is hi lo v).request = s.request := rfl
@[simp] theorem State.setF_hold (t : RegTag) (is : List Nat) (hi lo v : Nat) : (s.setF t is hi lo v).hold = s.hold := rfl
@[simp] theorem State.setF_ledgerAt (t : RegTag) (is : List Nat) (hi lo v : Nat) : (s.setF t is hi lo v).ledgerAt = s.ledgerAt := rfl
@[simp] theorem State.setF_granite (t : RegTag) (is : List Nat) (hi lo v : Nat) : (s.setF t is hi lo v).granite = s.granite := rfl
@[simp] theorem State.setF_flash (t : RegTag) (is : List Nat) (hi lo v : Nat) : (s.setF t is hi lo v).flash = s.flash := rfl
@[simp] theorem State.setF_hostPort (t : RegTag) (is : List Nat) (hi lo v : Nat) : (s.setF t is hi lo v).hostPort = s.hostPort := rfl
@[simp] theorem State.setF_package (t : RegTag) (is : List Nat) (hi lo v : Nat) : (s.setF t is hi lo v).package = s.package := rfl
@[simp] theorem State.setF_health (t : RegTag) (is : List Nat) (hi lo v : Nat) : (s.setF t is hi lo v).health = s.health := rfl
@[simp] theorem State.setF_broadcasts (t : RegTag) (is : List Nat) (hi lo v : Nat) : (s.setF t is hi lo v).broadcasts = s.broadcasts := rfl
@[simp] theorem State.setF_out (t : RegTag) (is : List Nat) (hi lo v : Nat) : (s.setF t is hi lo v).out = s.out := rfl

/-! ## raise -/

@[simp] theorem State.raise_pending (e : Ev) (is : List Nat) : (s.raise e is).pending = s.pending := rfl
@[simp] theorem State.raise_free (e : Ev) (is : List Nat) : (s.raise e is).free = s.free := rfl
@[simp] theorem State.raise_mem (e : Ev) (is : List Nat) : (s.raise e is).mem = s.mem := rfl
@[simp] theorem State.raise_errs (e : Ev) (is : List Nat) : (s.raise e is).errs = s.errs := rfl
@[simp] theorem State.raise_tallies (e : Ev) (is : List Nat) : (s.raise e is).tallies = s.tallies := rfl
@[simp] theorem State.raise_queues (e : Ev) (is : List Nat) : (s.raise e is).queues = s.queues := rfl
@[simp] theorem State.raise_started (e : Ev) (is : List Nat) : (s.raise e is).started = s.started := rfl
@[simp] theorem State.raise_waits (e : Ev) (is : List Nat) : (s.raise e is).waits = s.waits := rfl
@[simp] theorem State.raise_lastServed (e : Ev) (is : List Nat) : (s.raise e is).lastServed = s.lastServed := rfl
@[simp] theorem State.raise_jobs (e : Ev) (is : List Nat) : (s.raise e is).jobs = s.jobs := rfl
@[simp] theorem State.raise_tables (e : Ev) (is : List Nat) : (s.raise e is).tables = s.tables := rfl
@[simp] theorem State.raise_placement (e : Ev) (is : List Nat) : (s.raise e is).placement = s.placement := rfl
@[simp] theorem State.raise_cores (e : Ev) (is : List Nat) : (s.raise e is).cores = s.cores := rfl
@[simp] theorem State.raise_tracked (e : Ev) (is : List Nat) : (s.raise e is).tracked = s.tracked := rfl
@[simp] theorem State.raise_batches (e : Ev) (is : List Nat) : (s.raise e is).batches = s.batches := rfl
@[simp] theorem State.raise_reservations (e : Ev) (is : List Nat) : (s.raise e is).reservations = s.reservations := rfl
@[simp] theorem State.raise_pcs (e : Ev) (is : List Nat) : (s.raise e is).pcs = s.pcs := rfl
@[simp] theorem State.raise_mapOutQueue (e : Ev) (is : List Nat) : (s.raise e is).mapOutQueue = s.mapOutQueue := rfl
@[simp] theorem State.raise_mapPending (e : Ev) (is : List Nat) : (s.raise e is).mapPending = s.mapPending := rfl
@[simp] theorem State.raise_links (e : Ev) (is : List Nat) : (s.raise e is).links = s.links := rfl
@[simp] theorem State.raise_filters (e : Ev) (is : List Nat) : (s.raise e is).filters = s.filters := rfl
@[simp] theorem State.raise_ctxs (e : Ev) (is : List Nat) : (s.raise e is).ctxs = s.ctxs := rfl
@[simp] theorem State.raise_copies (e : Ev) (is : List Nat) : (s.raise e is).copies = s.copies := rfl
@[simp] theorem State.raise_nextCopy (e : Ev) (is : List Nat) : (s.raise e is).nextCopy = s.nextCopy := rfl
@[simp] theorem State.raise_reductions (e : Ev) (is : List Nat) : (s.raise e is).reductions = s.reductions := rfl
@[simp] theorem State.raise_redIn (e : Ev) (is : List Nat) : (s.raise e is).redIn = s.redIn := rfl
@[simp] theorem State.raise_tx (e : Ev) (is : List Nat) : (s.raise e is).tx = s.tx := rfl
@[simp] theorem State.raise_rx (e : Ev) (is : List Nat) : (s.raise e is).rx = s.rx := rfl
@[simp] theorem State.raise_snaps (e : Ev) (is : List Nat) : (s.raise e is).snaps = s.snaps := rfl
@[simp] theorem State.raise_pages (e : Ev) (is : List Nat) : (s.raise e is).pages = s.pages := rfl
@[simp] theorem State.raise_heldWrites (e : Ev) (is : List Nat) : (s.raise e is).heldWrites = s.heldWrites := rfl
@[simp] theorem State.raise_stageUsed (e : Ev) (is : List Nat) : (s.raise e is).stageUsed = s.stageUsed := rfl
@[simp] theorem State.raise_stagePeak (e : Ev) (is : List Nat) : (s.raise e is).stagePeak = s.stagePeak := rfl
@[simp] theorem State.raise_clock (e : Ev) (is : List Nat) : (s.raise e is).clock = s.clock := rfl
@[simp] theorem State.raise_regions (e : Ev) (is : List Nat) : (s.raise e is).regions = s.regions := rfl
@[simp] theorem State.raise_point (e : Ev) (is : List Nat) : (s.raise e is).point = s.point := rfl
@[simp] theorem State.raise_change (e : Ev) (is : List Nat) : (s.raise e is).change = s.change := rfl
@[simp] theorem State.raise_request (e : Ev) (is : List Nat) : (s.raise e is).request = s.request := rfl
@[simp] theorem State.raise_hold (e : Ev) (is : List Nat) : (s.raise e is).hold = s.hold := rfl
@[simp] theorem State.raise_ledgerAt (e : Ev) (is : List Nat) : (s.raise e is).ledgerAt = s.ledgerAt := rfl
@[simp] theorem State.raise_granite (e : Ev) (is : List Nat) : (s.raise e is).granite = s.granite := rfl
@[simp] theorem State.raise_flash (e : Ev) (is : List Nat) : (s.raise e is).flash = s.flash := rfl
@[simp] theorem State.raise_hostPort (e : Ev) (is : List Nat) : (s.raise e is).hostPort = s.hostPort := rfl
@[simp] theorem State.raise_package (e : Ev) (is : List Nat) : (s.raise e is).package = s.package := rfl
@[simp] theorem State.raise_health (e : Ev) (is : List Nat) : (s.raise e is).health = s.health := rfl
@[simp] theorem State.raise_broadcasts (e : Ev) (is : List Nat) : (s.raise e is).broadcasts = s.broadcasts := rfl
@[simp] theorem State.raise_out (e : Ev) (is : List Nat) : (s.raise e is).out = s.out := rfl

/-! ## bump -/

@[simp] theorem State.bump_pending : (s.bump).pending = s.pending := rfl
@[simp] theorem State.bump_free : (s.bump).free = s.free + 1 := rfl
@[simp] theorem State.bump_regs : (s.bump).regs = s.regs := rfl
@[simp] theorem State.bump_mem : (s.bump).mem = s.mem := rfl
@[simp] theorem State.bump_errs : (s.bump).errs = s.errs := rfl
@[simp] theorem State.bump_tallies : (s.bump).tallies = s.tallies := rfl
@[simp] theorem State.bump_queues : (s.bump).queues = s.queues := rfl
@[simp] theorem State.bump_started : (s.bump).started = s.started := rfl
@[simp] theorem State.bump_waits : (s.bump).waits = s.waits := rfl
@[simp] theorem State.bump_lastServed : (s.bump).lastServed = s.lastServed := rfl
@[simp] theorem State.bump_jobs : (s.bump).jobs = s.jobs := rfl
@[simp] theorem State.bump_tables : (s.bump).tables = s.tables := rfl
@[simp] theorem State.bump_placement : (s.bump).placement = s.placement := rfl
@[simp] theorem State.bump_cores : (s.bump).cores = s.cores := rfl
@[simp] theorem State.bump_tracked : (s.bump).tracked = s.tracked := rfl
@[simp] theorem State.bump_batches : (s.bump).batches = s.batches := rfl
@[simp] theorem State.bump_reservations : (s.bump).reservations = s.reservations := rfl
@[simp] theorem State.bump_pcs : (s.bump).pcs = s.pcs := rfl
@[simp] theorem State.bump_mapOutQueue : (s.bump).mapOutQueue = s.mapOutQueue := rfl
@[simp] theorem State.bump_mapPending : (s.bump).mapPending = s.mapPending := rfl
@[simp] theorem State.bump_links : (s.bump).links = s.links := rfl
@[simp] theorem State.bump_filters : (s.bump).filters = s.filters := rfl
@[simp] theorem State.bump_ctxs : (s.bump).ctxs = s.ctxs := rfl
@[simp] theorem State.bump_copies : (s.bump).copies = s.copies := rfl
@[simp] theorem State.bump_nextCopy : (s.bump).nextCopy = s.nextCopy := rfl
@[simp] theorem State.bump_reductions : (s.bump).reductions = s.reductions := rfl
@[simp] theorem State.bump_redIn : (s.bump).redIn = s.redIn := rfl
@[simp] theorem State.bump_tx : (s.bump).tx = s.tx := rfl
@[simp] theorem State.bump_rx : (s.bump).rx = s.rx := rfl
@[simp] theorem State.bump_snaps : (s.bump).snaps = s.snaps := rfl
@[simp] theorem State.bump_pages : (s.bump).pages = s.pages := rfl
@[simp] theorem State.bump_heldWrites : (s.bump).heldWrites = s.heldWrites := rfl
@[simp] theorem State.bump_stageUsed : (s.bump).stageUsed = s.stageUsed := rfl
@[simp] theorem State.bump_stagePeak : (s.bump).stagePeak = s.stagePeak := rfl
@[simp] theorem State.bump_clock : (s.bump).clock = s.clock := rfl
@[simp] theorem State.bump_regions : (s.bump).regions = s.regions := rfl
@[simp] theorem State.bump_point : (s.bump).point = s.point := rfl
@[simp] theorem State.bump_change : (s.bump).change = s.change := rfl
@[simp] theorem State.bump_request : (s.bump).request = s.request := rfl
@[simp] theorem State.bump_hold : (s.bump).hold = s.hold := rfl
@[simp] theorem State.bump_ledgerAt : (s.bump).ledgerAt = s.ledgerAt := rfl
@[simp] theorem State.bump_granite : (s.bump).granite = s.granite := rfl
@[simp] theorem State.bump_flash : (s.bump).flash = s.flash := rfl
@[simp] theorem State.bump_hostPort : (s.bump).hostPort = s.hostPort := rfl
@[simp] theorem State.bump_package : (s.bump).package = s.package := rfl
@[simp] theorem State.bump_health : (s.bump).health = s.health := rfl
@[simp] theorem State.bump_broadcasts : (s.bump).broadcasts = s.broadcasts := rfl
@[simp] theorem State.bump_out : (s.bump).out = s.out := rfl

/-! ## setQueue -/

@[simp] theorem State.setQueue_pending (q : Nat) (v : Queue) : (s.setQueue q v).pending = s.pending := rfl
@[simp] theorem State.setQueue_free (q : Nat) (v : Queue) : (s.setQueue q v).free = s.free := rfl
@[simp] theorem State.setQueue_regs (q : Nat) (v : Queue) : (s.setQueue q v).regs = s.regs := rfl
@[simp] theorem State.setQueue_mem (q : Nat) (v : Queue) : (s.setQueue q v).mem = s.mem := rfl
@[simp] theorem State.setQueue_errs (q : Nat) (v : Queue) : (s.setQueue q v).errs = s.errs := rfl
@[simp] theorem State.setQueue_tallies (q : Nat) (v : Queue) : (s.setQueue q v).tallies = s.tallies := rfl
@[simp] theorem State.setQueue_queues (q : Nat) (v : Queue) : (s.setQueue q v).queues = mset Queue.zero s.queues q v := rfl
@[simp] theorem State.setQueue_started (q : Nat) (v : Queue) : (s.setQueue q v).started = s.started := rfl
@[simp] theorem State.setQueue_lastServed (q : Nat) (v : Queue) : (s.setQueue q v).lastServed = s.lastServed := rfl
@[simp] theorem State.setQueue_jobs (q : Nat) (v : Queue) : (s.setQueue q v).jobs = s.jobs := rfl
@[simp] theorem State.setQueue_tables (q : Nat) (v : Queue) : (s.setQueue q v).tables = s.tables := rfl
@[simp] theorem State.setQueue_placement (q : Nat) (v : Queue) : (s.setQueue q v).placement = s.placement := rfl
@[simp] theorem State.setQueue_cores (q : Nat) (v : Queue) : (s.setQueue q v).cores = s.cores := rfl
@[simp] theorem State.setQueue_tracked (q : Nat) (v : Queue) : (s.setQueue q v).tracked = s.tracked := rfl
@[simp] theorem State.setQueue_batches (q : Nat) (v : Queue) : (s.setQueue q v).batches = s.batches := rfl
@[simp] theorem State.setQueue_reservations (q : Nat) (v : Queue) : (s.setQueue q v).reservations = s.reservations := rfl
@[simp] theorem State.setQueue_pcs (q : Nat) (v : Queue) : (s.setQueue q v).pcs = s.pcs := rfl
@[simp] theorem State.setQueue_mapOutQueue (q : Nat) (v : Queue) : (s.setQueue q v).mapOutQueue = s.mapOutQueue := rfl
@[simp] theorem State.setQueue_mapPending (q : Nat) (v : Queue) : (s.setQueue q v).mapPending = s.mapPending := rfl
@[simp] theorem State.setQueue_links (q : Nat) (v : Queue) : (s.setQueue q v).links = s.links := rfl
@[simp] theorem State.setQueue_filters (q : Nat) (v : Queue) : (s.setQueue q v).filters = s.filters := rfl
@[simp] theorem State.setQueue_ctxs (q : Nat) (v : Queue) : (s.setQueue q v).ctxs = s.ctxs := rfl
@[simp] theorem State.setQueue_copies (q : Nat) (v : Queue) : (s.setQueue q v).copies = s.copies := rfl
@[simp] theorem State.setQueue_nextCopy (q : Nat) (v : Queue) : (s.setQueue q v).nextCopy = s.nextCopy := rfl
@[simp] theorem State.setQueue_reductions (q : Nat) (v : Queue) : (s.setQueue q v).reductions = s.reductions := rfl
@[simp] theorem State.setQueue_redIn (q : Nat) (v : Queue) : (s.setQueue q v).redIn = s.redIn := rfl
@[simp] theorem State.setQueue_tx (q : Nat) (v : Queue) : (s.setQueue q v).tx = s.tx := rfl
@[simp] theorem State.setQueue_rx (q : Nat) (v : Queue) : (s.setQueue q v).rx = s.rx := rfl
@[simp] theorem State.setQueue_snaps (q : Nat) (v : Queue) : (s.setQueue q v).snaps = s.snaps := rfl
@[simp] theorem State.setQueue_pages (q : Nat) (v : Queue) : (s.setQueue q v).pages = s.pages := rfl
@[simp] theorem State.setQueue_heldWrites (q : Nat) (v : Queue) : (s.setQueue q v).heldWrites = s.heldWrites := rfl
@[simp] theorem State.setQueue_stageUsed (q : Nat) (v : Queue) : (s.setQueue q v).stageUsed = s.stageUsed := rfl
@[simp] theorem State.setQueue_stagePeak (q : Nat) (v : Queue) : (s.setQueue q v).stagePeak = s.stagePeak := rfl
@[simp] theorem State.setQueue_clock (q : Nat) (v : Queue) : (s.setQueue q v).clock = s.clock := rfl
@[simp] theorem State.setQueue_regions (q : Nat) (v : Queue) : (s.setQueue q v).regions = s.regions := rfl
@[simp] theorem State.setQueue_point (q : Nat) (v : Queue) : (s.setQueue q v).point = s.point := rfl
@[simp] theorem State.setQueue_change (q : Nat) (v : Queue) : (s.setQueue q v).change = s.change := rfl
@[simp] theorem State.setQueue_request (q : Nat) (v : Queue) : (s.setQueue q v).request = s.request := rfl
@[simp] theorem State.setQueue_hold (q : Nat) (v : Queue) : (s.setQueue q v).hold = s.hold := rfl
@[simp] theorem State.setQueue_ledgerAt (q : Nat) (v : Queue) : (s.setQueue q v).ledgerAt = s.ledgerAt := rfl
@[simp] theorem State.setQueue_granite (q : Nat) (v : Queue) : (s.setQueue q v).granite = s.granite := rfl
@[simp] theorem State.setQueue_flash (q : Nat) (v : Queue) : (s.setQueue q v).flash = s.flash := rfl
@[simp] theorem State.setQueue_hostPort (q : Nat) (v : Queue) : (s.setQueue q v).hostPort = s.hostPort := rfl
@[simp] theorem State.setQueue_package (q : Nat) (v : Queue) : (s.setQueue q v).package = s.package := rfl
@[simp] theorem State.setQueue_health (q : Nat) (v : Queue) : (s.setQueue q v).health = s.health := rfl
@[simp] theorem State.setQueue_broadcasts (q : Nat) (v : Queue) : (s.setQueue q v).broadcasts = s.broadcasts := rfl
@[simp] theorem State.setQueue_out (q : Nat) (v : Queue) : (s.setQueue q v).out = s.out := rfl

/-! ## setCore -/

@[simp] theorem State.setCore_pending (c : Nat) (k : Core) : (s.setCore c k).pending = s.pending := rfl
@[simp] theorem State.setCore_free (c : Nat) (k : Core) : (s.setCore c k).free = s.free := rfl
@[simp] theorem State.setCore_regs (c : Nat) (k : Core) : (s.setCore c k).regs = s.regs := rfl
@[simp] theorem State.setCore_mem (c : Nat) (k : Core) : (s.setCore c k).mem = s.mem := rfl
@[simp] theorem State.setCore_errs (c : Nat) (k : Core) : (s.setCore c k).errs = s.errs := rfl
@[simp] theorem State.setCore_tallies (c : Nat) (k : Core) : (s.setCore c k).tallies = s.tallies := rfl
@[simp] theorem State.setCore_queues (c : Nat) (k : Core) : (s.setCore c k).queues = s.queues := rfl
@[simp] theorem State.setCore_started (c : Nat) (k : Core) : (s.setCore c k).started = s.started := rfl
@[simp] theorem State.setCore_waits (c : Nat) (k : Core) : (s.setCore c k).waits = s.waits := rfl
@[simp] theorem State.setCore_lastServed (c : Nat) (k : Core) : (s.setCore c k).lastServed = s.lastServed := rfl
@[simp] theorem State.setCore_jobs (c : Nat) (k : Core) : (s.setCore c k).jobs = s.jobs := rfl
@[simp] theorem State.setCore_tables (c : Nat) (k : Core) : (s.setCore c k).tables = s.tables := rfl
@[simp] theorem State.setCore_placement (c : Nat) (k : Core) : (s.setCore c k).placement = s.placement := rfl
@[simp] theorem State.setCore_cores (c : Nat) (k : Core) : (s.setCore c k).cores = mset Core.zero s.cores c k := rfl
@[simp] theorem State.setCore_tracked (c : Nat) (k : Core) : (s.setCore c k).tracked = s.tracked := rfl
@[simp] theorem State.setCore_batches (c : Nat) (k : Core) : (s.setCore c k).batches = s.batches := rfl
@[simp] theorem State.setCore_reservations (c : Nat) (k : Core) : (s.setCore c k).reservations = s.reservations := rfl
@[simp] theorem State.setCore_pcs (c : Nat) (k : Core) : (s.setCore c k).pcs = s.pcs := rfl
@[simp] theorem State.setCore_mapOutQueue (c : Nat) (k : Core) : (s.setCore c k).mapOutQueue = s.mapOutQueue := rfl
@[simp] theorem State.setCore_mapPending (c : Nat) (k : Core) : (s.setCore c k).mapPending = s.mapPending := rfl
@[simp] theorem State.setCore_links (c : Nat) (k : Core) : (s.setCore c k).links = s.links := rfl
@[simp] theorem State.setCore_filters (c : Nat) (k : Core) : (s.setCore c k).filters = s.filters := rfl
@[simp] theorem State.setCore_ctxs (c : Nat) (k : Core) : (s.setCore c k).ctxs = s.ctxs := rfl
@[simp] theorem State.setCore_copies (c : Nat) (k : Core) : (s.setCore c k).copies = s.copies := rfl
@[simp] theorem State.setCore_nextCopy (c : Nat) (k : Core) : (s.setCore c k).nextCopy = s.nextCopy := rfl
@[simp] theorem State.setCore_reductions (c : Nat) (k : Core) : (s.setCore c k).reductions = s.reductions := rfl
@[simp] theorem State.setCore_redIn (c : Nat) (k : Core) : (s.setCore c k).redIn = s.redIn := rfl
@[simp] theorem State.setCore_tx (c : Nat) (k : Core) : (s.setCore c k).tx = s.tx := rfl
@[simp] theorem State.setCore_rx (c : Nat) (k : Core) : (s.setCore c k).rx = s.rx := rfl
@[simp] theorem State.setCore_snaps (c : Nat) (k : Core) : (s.setCore c k).snaps = s.snaps := rfl
@[simp] theorem State.setCore_pages (c : Nat) (k : Core) : (s.setCore c k).pages = s.pages := rfl
@[simp] theorem State.setCore_heldWrites (c : Nat) (k : Core) : (s.setCore c k).heldWrites = s.heldWrites := rfl
@[simp] theorem State.setCore_stageUsed (c : Nat) (k : Core) : (s.setCore c k).stageUsed = s.stageUsed := rfl
@[simp] theorem State.setCore_stagePeak (c : Nat) (k : Core) : (s.setCore c k).stagePeak = s.stagePeak := rfl
@[simp] theorem State.setCore_clock (c : Nat) (k : Core) : (s.setCore c k).clock = s.clock := rfl
@[simp] theorem State.setCore_regions (c : Nat) (k : Core) : (s.setCore c k).regions = s.regions := rfl
@[simp] theorem State.setCore_point (c : Nat) (k : Core) : (s.setCore c k).point = s.point := rfl
@[simp] theorem State.setCore_change (c : Nat) (k : Core) : (s.setCore c k).change = s.change := rfl
@[simp] theorem State.setCore_request (c : Nat) (k : Core) : (s.setCore c k).request = s.request := rfl
@[simp] theorem State.setCore_hold (c : Nat) (k : Core) : (s.setCore c k).hold = s.hold := rfl
@[simp] theorem State.setCore_ledgerAt (c : Nat) (k : Core) : (s.setCore c k).ledgerAt = s.ledgerAt := rfl
@[simp] theorem State.setCore_granite (c : Nat) (k : Core) : (s.setCore c k).granite = s.granite := rfl
@[simp] theorem State.setCore_flash (c : Nat) (k : Core) : (s.setCore c k).flash = s.flash := rfl
@[simp] theorem State.setCore_hostPort (c : Nat) (k : Core) : (s.setCore c k).hostPort = s.hostPort := rfl
@[simp] theorem State.setCore_package (c : Nat) (k : Core) : (s.setCore c k).package = s.package := rfl
@[simp] theorem State.setCore_health (c : Nat) (k : Core) : (s.setCore c k).health = s.health := rfl
@[simp] theorem State.setCore_broadcasts (c : Nat) (k : Core) : (s.setCore c k).broadcasts = s.broadcasts := rfl
@[simp] theorem State.setCore_out (c : Nat) (k : Core) : (s.setCore c k).out = s.out := rfl

/-! ## setPc -/

@[simp] theorem State.setPc_pending (p : Nat) (v : Pc) : (s.setPc p v).pending = s.pending := rfl
@[simp] theorem State.setPc_free (p : Nat) (v : Pc) : (s.setPc p v).free = s.free := rfl
@[simp] theorem State.setPc_regs (p : Nat) (v : Pc) : (s.setPc p v).regs = s.regs := rfl
@[simp] theorem State.setPc_mem (p : Nat) (v : Pc) : (s.setPc p v).mem = s.mem := rfl
@[simp] theorem State.setPc_errs (p : Nat) (v : Pc) : (s.setPc p v).errs = s.errs := rfl
@[simp] theorem State.setPc_tallies (p : Nat) (v : Pc) : (s.setPc p v).tallies = s.tallies := rfl
@[simp] theorem State.setPc_queues (p : Nat) (v : Pc) : (s.setPc p v).queues = s.queues := rfl
@[simp] theorem State.setPc_started (p : Nat) (v : Pc) : (s.setPc p v).started = s.started := rfl
@[simp] theorem State.setPc_waits (p : Nat) (v : Pc) : (s.setPc p v).waits = s.waits := rfl
@[simp] theorem State.setPc_lastServed (p : Nat) (v : Pc) : (s.setPc p v).lastServed = s.lastServed := rfl
@[simp] theorem State.setPc_jobs (p : Nat) (v : Pc) : (s.setPc p v).jobs = s.jobs := rfl
@[simp] theorem State.setPc_tables (p : Nat) (v : Pc) : (s.setPc p v).tables = s.tables := rfl
@[simp] theorem State.setPc_placement (p : Nat) (v : Pc) : (s.setPc p v).placement = s.placement := rfl
@[simp] theorem State.setPc_cores (p : Nat) (v : Pc) : (s.setPc p v).cores = s.cores := rfl
@[simp] theorem State.setPc_tracked (p : Nat) (v : Pc) : (s.setPc p v).tracked = s.tracked := rfl
@[simp] theorem State.setPc_batches (p : Nat) (v : Pc) : (s.setPc p v).batches = s.batches := rfl
@[simp] theorem State.setPc_reservations (p : Nat) (v : Pc) : (s.setPc p v).reservations = s.reservations := rfl
@[simp] theorem State.setPc_pcs (p : Nat) (v : Pc) : (s.setPc p v).pcs = mset Pc.zero s.pcs p v := rfl
@[simp] theorem State.setPc_mapOutQueue (p : Nat) (v : Pc) : (s.setPc p v).mapOutQueue = s.mapOutQueue := rfl
@[simp] theorem State.setPc_mapPending (p : Nat) (v : Pc) : (s.setPc p v).mapPending = s.mapPending := rfl
@[simp] theorem State.setPc_links (p : Nat) (v : Pc) : (s.setPc p v).links = s.links := rfl
@[simp] theorem State.setPc_filters (p : Nat) (v : Pc) : (s.setPc p v).filters = s.filters := rfl
@[simp] theorem State.setPc_ctxs (p : Nat) (v : Pc) : (s.setPc p v).ctxs = s.ctxs := rfl
@[simp] theorem State.setPc_copies (p : Nat) (v : Pc) : (s.setPc p v).copies = s.copies := rfl
@[simp] theorem State.setPc_nextCopy (p : Nat) (v : Pc) : (s.setPc p v).nextCopy = s.nextCopy := rfl
@[simp] theorem State.setPc_reductions (p : Nat) (v : Pc) : (s.setPc p v).reductions = s.reductions := rfl
@[simp] theorem State.setPc_redIn (p : Nat) (v : Pc) : (s.setPc p v).redIn = s.redIn := rfl
@[simp] theorem State.setPc_tx (p : Nat) (v : Pc) : (s.setPc p v).tx = s.tx := rfl
@[simp] theorem State.setPc_rx (p : Nat) (v : Pc) : (s.setPc p v).rx = s.rx := rfl
@[simp] theorem State.setPc_snaps (p : Nat) (v : Pc) : (s.setPc p v).snaps = s.snaps := rfl
@[simp] theorem State.setPc_pages (p : Nat) (v : Pc) : (s.setPc p v).pages = s.pages := rfl
@[simp] theorem State.setPc_heldWrites (p : Nat) (v : Pc) : (s.setPc p v).heldWrites = s.heldWrites := rfl
@[simp] theorem State.setPc_stageUsed (p : Nat) (v : Pc) : (s.setPc p v).stageUsed = s.stageUsed := rfl
@[simp] theorem State.setPc_stagePeak (p : Nat) (v : Pc) : (s.setPc p v).stagePeak = s.stagePeak := rfl
@[simp] theorem State.setPc_clock (p : Nat) (v : Pc) : (s.setPc p v).clock = s.clock := rfl
@[simp] theorem State.setPc_regions (p : Nat) (v : Pc) : (s.setPc p v).regions = s.regions := rfl
@[simp] theorem State.setPc_point (p : Nat) (v : Pc) : (s.setPc p v).point = s.point := rfl
@[simp] theorem State.setPc_change (p : Nat) (v : Pc) : (s.setPc p v).change = s.change := rfl
@[simp] theorem State.setPc_request (p : Nat) (v : Pc) : (s.setPc p v).request = s.request := rfl
@[simp] theorem State.setPc_hold (p : Nat) (v : Pc) : (s.setPc p v).hold = s.hold := rfl
@[simp] theorem State.setPc_ledgerAt (p : Nat) (v : Pc) : (s.setPc p v).ledgerAt = s.ledgerAt := rfl
@[simp] theorem State.setPc_granite (p : Nat) (v : Pc) : (s.setPc p v).granite = s.granite := rfl
@[simp] theorem State.setPc_flash (p : Nat) (v : Pc) : (s.setPc p v).flash = s.flash := rfl
@[simp] theorem State.setPc_hostPort (p : Nat) (v : Pc) : (s.setPc p v).hostPort = s.hostPort := rfl
@[simp] theorem State.setPc_package (p : Nat) (v : Pc) : (s.setPc p v).package = s.package := rfl
@[simp] theorem State.setPc_health (p : Nat) (v : Pc) : (s.setPc p v).health = s.health := rfl
@[simp] theorem State.setPc_broadcasts (p : Nat) (v : Pc) : (s.setPc p v).broadcasts = s.broadcasts := rfl
@[simp] theorem State.setPc_out (p : Nat) (v : Pc) : (s.setPc p v).out = s.out := rfl

/-! ## setLink -/

@[simp] theorem State.setLink_pending (n : Nat) (v : Link) : (s.setLink n v).pending = s.pending := rfl
@[simp] theorem State.setLink_free (n : Nat) (v : Link) : (s.setLink n v).free = s.free := rfl
@[simp] theorem State.setLink_regs (n : Nat) (v : Link) : (s.setLink n v).regs = s.regs := rfl
@[simp] theorem State.setLink_mem (n : Nat) (v : Link) : (s.setLink n v).mem = s.mem := rfl
@[simp] theorem State.setLink_errs (n : Nat) (v : Link) : (s.setLink n v).errs = s.errs := rfl
@[simp] theorem State.setLink_tallies (n : Nat) (v : Link) : (s.setLink n v).tallies = s.tallies := rfl
@[simp] theorem State.setLink_queues (n : Nat) (v : Link) : (s.setLink n v).queues = s.queues := rfl
@[simp] theorem State.setLink_started (n : Nat) (v : Link) : (s.setLink n v).started = s.started := rfl
@[simp] theorem State.setLink_waits (n : Nat) (v : Link) : (s.setLink n v).waits = s.waits := rfl
@[simp] theorem State.setLink_lastServed (n : Nat) (v : Link) : (s.setLink n v).lastServed = s.lastServed := rfl
@[simp] theorem State.setLink_jobs (n : Nat) (v : Link) : (s.setLink n v).jobs = s.jobs := rfl
@[simp] theorem State.setLink_tables (n : Nat) (v : Link) : (s.setLink n v).tables = s.tables := rfl
@[simp] theorem State.setLink_placement (n : Nat) (v : Link) : (s.setLink n v).placement = s.placement := rfl
@[simp] theorem State.setLink_cores (n : Nat) (v : Link) : (s.setLink n v).cores = s.cores := rfl
@[simp] theorem State.setLink_tracked (n : Nat) (v : Link) : (s.setLink n v).tracked = s.tracked := rfl
@[simp] theorem State.setLink_batches (n : Nat) (v : Link) : (s.setLink n v).batches = s.batches := rfl
@[simp] theorem State.setLink_reservations (n : Nat) (v : Link) : (s.setLink n v).reservations = s.reservations := rfl
@[simp] theorem State.setLink_pcs (n : Nat) (v : Link) : (s.setLink n v).pcs = s.pcs := rfl
@[simp] theorem State.setLink_mapOutQueue (n : Nat) (v : Link) : (s.setLink n v).mapOutQueue = s.mapOutQueue := rfl
@[simp] theorem State.setLink_mapPending (n : Nat) (v : Link) : (s.setLink n v).mapPending = s.mapPending := rfl
@[simp] theorem State.setLink_links (n : Nat) (v : Link) : (s.setLink n v).links = mset Link.zero s.links n v := rfl
@[simp] theorem State.setLink_filters (n : Nat) (v : Link) : (s.setLink n v).filters = s.filters := rfl
@[simp] theorem State.setLink_ctxs (n : Nat) (v : Link) : (s.setLink n v).ctxs = s.ctxs := rfl
@[simp] theorem State.setLink_copies (n : Nat) (v : Link) : (s.setLink n v).copies = s.copies := rfl
@[simp] theorem State.setLink_nextCopy (n : Nat) (v : Link) : (s.setLink n v).nextCopy = s.nextCopy := rfl
@[simp] theorem State.setLink_reductions (n : Nat) (v : Link) : (s.setLink n v).reductions = s.reductions := rfl
@[simp] theorem State.setLink_redIn (n : Nat) (v : Link) : (s.setLink n v).redIn = s.redIn := rfl
@[simp] theorem State.setLink_tx (n : Nat) (v : Link) : (s.setLink n v).tx = s.tx := rfl
@[simp] theorem State.setLink_rx (n : Nat) (v : Link) : (s.setLink n v).rx = s.rx := rfl
@[simp] theorem State.setLink_snaps (n : Nat) (v : Link) : (s.setLink n v).snaps = s.snaps := rfl
@[simp] theorem State.setLink_pages (n : Nat) (v : Link) : (s.setLink n v).pages = s.pages := rfl
@[simp] theorem State.setLink_heldWrites (n : Nat) (v : Link) : (s.setLink n v).heldWrites = s.heldWrites := rfl
@[simp] theorem State.setLink_stageUsed (n : Nat) (v : Link) : (s.setLink n v).stageUsed = s.stageUsed := rfl
@[simp] theorem State.setLink_stagePeak (n : Nat) (v : Link) : (s.setLink n v).stagePeak = s.stagePeak := rfl
@[simp] theorem State.setLink_clock (n : Nat) (v : Link) : (s.setLink n v).clock = s.clock := rfl
@[simp] theorem State.setLink_regions (n : Nat) (v : Link) : (s.setLink n v).regions = s.regions := rfl
@[simp] theorem State.setLink_point (n : Nat) (v : Link) : (s.setLink n v).point = s.point := rfl
@[simp] theorem State.setLink_change (n : Nat) (v : Link) : (s.setLink n v).change = s.change := rfl
@[simp] theorem State.setLink_request (n : Nat) (v : Link) : (s.setLink n v).request = s.request := rfl
@[simp] theorem State.setLink_hold (n : Nat) (v : Link) : (s.setLink n v).hold = s.hold := rfl
@[simp] theorem State.setLink_ledgerAt (n : Nat) (v : Link) : (s.setLink n v).ledgerAt = s.ledgerAt := rfl
@[simp] theorem State.setLink_granite (n : Nat) (v : Link) : (s.setLink n v).granite = s.granite := rfl
@[simp] theorem State.setLink_flash (n : Nat) (v : Link) : (s.setLink n v).flash = s.flash := rfl
@[simp] theorem State.setLink_hostPort (n : Nat) (v : Link) : (s.setLink n v).hostPort = s.hostPort := rfl
@[simp] theorem State.setLink_package (n : Nat) (v : Link) : (s.setLink n v).package = s.package := rfl
@[simp] theorem State.setLink_health (n : Nat) (v : Link) : (s.setLink n v).health = s.health := rfl
@[simp] theorem State.setLink_broadcasts (n : Nat) (v : Link) : (s.setLink n v).broadcasts = s.broadcasts := rfl
@[simp] theorem State.setLink_out (n : Nat) (v : Link) : (s.setLink n v).out = s.out := rfl

/-! ## setFilter -/

@[simp] theorem State.setFilter_pending (n e : Nat) (v : FilterEntry) : (s.setFilter n e v).pending = s.pending := rfl
@[simp] theorem State.setFilter_free (n e : Nat) (v : FilterEntry) : (s.setFilter n e v).free = s.free := rfl
@[simp] theorem State.setFilter_regs (n e : Nat) (v : FilterEntry) : (s.setFilter n e v).regs = s.regs := rfl
@[simp] theorem State.setFilter_mem (n e : Nat) (v : FilterEntry) : (s.setFilter n e v).mem = s.mem := rfl
@[simp] theorem State.setFilter_errs (n e : Nat) (v : FilterEntry) : (s.setFilter n e v).errs = s.errs := rfl
@[simp] theorem State.setFilter_tallies (n e : Nat) (v : FilterEntry) : (s.setFilter n e v).tallies = s.tallies := rfl
@[simp] theorem State.setFilter_queues (n e : Nat) (v : FilterEntry) : (s.setFilter n e v).queues = s.queues := rfl
@[simp] theorem State.setFilter_started (n e : Nat) (v : FilterEntry) : (s.setFilter n e v).started = s.started := rfl
@[simp] theorem State.setFilter_waits (n e : Nat) (v : FilterEntry) : (s.setFilter n e v).waits = s.waits := rfl
@[simp] theorem State.setFilter_lastServed (n e : Nat) (v : FilterEntry) : (s.setFilter n e v).lastServed = s.lastServed := rfl
@[simp] theorem State.setFilter_jobs (n e : Nat) (v : FilterEntry) : (s.setFilter n e v).jobs = s.jobs := rfl
@[simp] theorem State.setFilter_tables (n e : Nat) (v : FilterEntry) : (s.setFilter n e v).tables = s.tables := rfl
@[simp] theorem State.setFilter_placement (n e : Nat) (v : FilterEntry) : (s.setFilter n e v).placement = s.placement := rfl
@[simp] theorem State.setFilter_cores (n e : Nat) (v : FilterEntry) : (s.setFilter n e v).cores = s.cores := rfl
@[simp] theorem State.setFilter_tracked (n e : Nat) (v : FilterEntry) : (s.setFilter n e v).tracked = s.tracked := rfl
@[simp] theorem State.setFilter_batches (n e : Nat) (v : FilterEntry) : (s.setFilter n e v).batches = s.batches := rfl
@[simp] theorem State.setFilter_reservations (n e : Nat) (v : FilterEntry) : (s.setFilter n e v).reservations = s.reservations := rfl
@[simp] theorem State.setFilter_pcs (n e : Nat) (v : FilterEntry) : (s.setFilter n e v).pcs = s.pcs := rfl
@[simp] theorem State.setFilter_mapOutQueue (n e : Nat) (v : FilterEntry) : (s.setFilter n e v).mapOutQueue = s.mapOutQueue := rfl
@[simp] theorem State.setFilter_mapPending (n e : Nat) (v : FilterEntry) : (s.setFilter n e v).mapPending = s.mapPending := rfl
@[simp] theorem State.setFilter_links (n e : Nat) (v : FilterEntry) : (s.setFilter n e v).links = s.links := rfl
@[simp] theorem State.setFilter_filters (n e : Nat) (v : FilterEntry) : (s.setFilter n e v).filters = mset FilterEntry.zero s.filters (256 * n + e) v := rfl
@[simp] theorem State.setFilter_ctxs (n e : Nat) (v : FilterEntry) : (s.setFilter n e v).ctxs = s.ctxs := rfl
@[simp] theorem State.setFilter_copies (n e : Nat) (v : FilterEntry) : (s.setFilter n e v).copies = s.copies := rfl
@[simp] theorem State.setFilter_nextCopy (n e : Nat) (v : FilterEntry) : (s.setFilter n e v).nextCopy = s.nextCopy := rfl
@[simp] theorem State.setFilter_reductions (n e : Nat) (v : FilterEntry) : (s.setFilter n e v).reductions = s.reductions := rfl
@[simp] theorem State.setFilter_redIn (n e : Nat) (v : FilterEntry) : (s.setFilter n e v).redIn = s.redIn := rfl
@[simp] theorem State.setFilter_tx (n e : Nat) (v : FilterEntry) : (s.setFilter n e v).tx = s.tx := rfl
@[simp] theorem State.setFilter_rx (n e : Nat) (v : FilterEntry) : (s.setFilter n e v).rx = s.rx := rfl
@[simp] theorem State.setFilter_snaps (n e : Nat) (v : FilterEntry) : (s.setFilter n e v).snaps = s.snaps := rfl
@[simp] theorem State.setFilter_pages (n e : Nat) (v : FilterEntry) : (s.setFilter n e v).pages = s.pages := rfl
@[simp] theorem State.setFilter_heldWrites (n e : Nat) (v : FilterEntry) : (s.setFilter n e v).heldWrites = s.heldWrites := rfl
@[simp] theorem State.setFilter_stageUsed (n e : Nat) (v : FilterEntry) : (s.setFilter n e v).stageUsed = s.stageUsed := rfl
@[simp] theorem State.setFilter_stagePeak (n e : Nat) (v : FilterEntry) : (s.setFilter n e v).stagePeak = s.stagePeak := rfl
@[simp] theorem State.setFilter_clock (n e : Nat) (v : FilterEntry) : (s.setFilter n e v).clock = s.clock := rfl
@[simp] theorem State.setFilter_regions (n e : Nat) (v : FilterEntry) : (s.setFilter n e v).regions = s.regions := rfl
@[simp] theorem State.setFilter_point (n e : Nat) (v : FilterEntry) : (s.setFilter n e v).point = s.point := rfl
@[simp] theorem State.setFilter_change (n e : Nat) (v : FilterEntry) : (s.setFilter n e v).change = s.change := rfl
@[simp] theorem State.setFilter_request (n e : Nat) (v : FilterEntry) : (s.setFilter n e v).request = s.request := rfl
@[simp] theorem State.setFilter_hold (n e : Nat) (v : FilterEntry) : (s.setFilter n e v).hold = s.hold := rfl
@[simp] theorem State.setFilter_ledgerAt (n e : Nat) (v : FilterEntry) : (s.setFilter n e v).ledgerAt = s.ledgerAt := rfl
@[simp] theorem State.setFilter_granite (n e : Nat) (v : FilterEntry) : (s.setFilter n e v).granite = s.granite := rfl
@[simp] theorem State.setFilter_flash (n e : Nat) (v : FilterEntry) : (s.setFilter n e v).flash = s.flash := rfl
@[simp] theorem State.setFilter_hostPort (n e : Nat) (v : FilterEntry) : (s.setFilter n e v).hostPort = s.hostPort := rfl
@[simp] theorem State.setFilter_package (n e : Nat) (v : FilterEntry) : (s.setFilter n e v).package = s.package := rfl
@[simp] theorem State.setFilter_health (n e : Nat) (v : FilterEntry) : (s.setFilter n e v).health = s.health := rfl
@[simp] theorem State.setFilter_broadcasts (n e : Nat) (v : FilterEntry) : (s.setFilter n e v).broadcasts = s.broadcasts := rfl
@[simp] theorem State.setFilter_out (n e : Nat) (v : FilterEntry) : (s.setFilter n e v).out = s.out := rfl

/-! ## setCtx -/

@[simp] theorem State.setCtx_pending (x : Nat) (v : Ctx) : (s.setCtx x v).pending = s.pending := rfl
@[simp] theorem State.setCtx_free (x : Nat) (v : Ctx) : (s.setCtx x v).free = s.free := rfl
@[simp] theorem State.setCtx_regs (x : Nat) (v : Ctx) : (s.setCtx x v).regs = s.regs := rfl
@[simp] theorem State.setCtx_mem (x : Nat) (v : Ctx) : (s.setCtx x v).mem = s.mem := rfl
@[simp] theorem State.setCtx_errs (x : Nat) (v : Ctx) : (s.setCtx x v).errs = s.errs := rfl
@[simp] theorem State.setCtx_tallies (x : Nat) (v : Ctx) : (s.setCtx x v).tallies = s.tallies := rfl
@[simp] theorem State.setCtx_queues (x : Nat) (v : Ctx) : (s.setCtx x v).queues = s.queues := rfl
@[simp] theorem State.setCtx_started (x : Nat) (v : Ctx) : (s.setCtx x v).started = s.started := rfl
@[simp] theorem State.setCtx_waits (x : Nat) (v : Ctx) : (s.setCtx x v).waits = s.waits := rfl
@[simp] theorem State.setCtx_lastServed (x : Nat) (v : Ctx) : (s.setCtx x v).lastServed = s.lastServed := rfl
@[simp] theorem State.setCtx_jobs (x : Nat) (v : Ctx) : (s.setCtx x v).jobs = s.jobs := rfl
@[simp] theorem State.setCtx_tables (x : Nat) (v : Ctx) : (s.setCtx x v).tables = s.tables := rfl
@[simp] theorem State.setCtx_placement (x : Nat) (v : Ctx) : (s.setCtx x v).placement = s.placement := rfl
@[simp] theorem State.setCtx_cores (x : Nat) (v : Ctx) : (s.setCtx x v).cores = s.cores := rfl
@[simp] theorem State.setCtx_tracked (x : Nat) (v : Ctx) : (s.setCtx x v).tracked = s.tracked := rfl
@[simp] theorem State.setCtx_batches (x : Nat) (v : Ctx) : (s.setCtx x v).batches = s.batches := rfl
@[simp] theorem State.setCtx_reservations (x : Nat) (v : Ctx) : (s.setCtx x v).reservations = s.reservations := rfl
@[simp] theorem State.setCtx_pcs (x : Nat) (v : Ctx) : (s.setCtx x v).pcs = s.pcs := rfl
@[simp] theorem State.setCtx_mapOutQueue (x : Nat) (v : Ctx) : (s.setCtx x v).mapOutQueue = s.mapOutQueue := rfl
@[simp] theorem State.setCtx_mapPending (x : Nat) (v : Ctx) : (s.setCtx x v).mapPending = s.mapPending := rfl
@[simp] theorem State.setCtx_links (x : Nat) (v : Ctx) : (s.setCtx x v).links = s.links := rfl
@[simp] theorem State.setCtx_filters (x : Nat) (v : Ctx) : (s.setCtx x v).filters = s.filters := rfl
@[simp] theorem State.setCtx_ctxs (x : Nat) (v : Ctx) : (s.setCtx x v).ctxs = mset Ctx.zero s.ctxs x v := rfl
@[simp] theorem State.setCtx_copies (x : Nat) (v : Ctx) : (s.setCtx x v).copies = s.copies := rfl
@[simp] theorem State.setCtx_nextCopy (x : Nat) (v : Ctx) : (s.setCtx x v).nextCopy = s.nextCopy := rfl
@[simp] theorem State.setCtx_reductions (x : Nat) (v : Ctx) : (s.setCtx x v).reductions = s.reductions := rfl
@[simp] theorem State.setCtx_redIn (x : Nat) (v : Ctx) : (s.setCtx x v).redIn = s.redIn := rfl
@[simp] theorem State.setCtx_tx (x : Nat) (v : Ctx) : (s.setCtx x v).tx = s.tx := rfl
@[simp] theorem State.setCtx_rx (x : Nat) (v : Ctx) : (s.setCtx x v).rx = s.rx := rfl
@[simp] theorem State.setCtx_snaps (x : Nat) (v : Ctx) : (s.setCtx x v).snaps = s.snaps := rfl
@[simp] theorem State.setCtx_pages (x : Nat) (v : Ctx) : (s.setCtx x v).pages = s.pages := rfl
@[simp] theorem State.setCtx_heldWrites (x : Nat) (v : Ctx) : (s.setCtx x v).heldWrites = s.heldWrites := rfl
@[simp] theorem State.setCtx_stageUsed (x : Nat) (v : Ctx) : (s.setCtx x v).stageUsed = s.stageUsed := rfl
@[simp] theorem State.setCtx_stagePeak (x : Nat) (v : Ctx) : (s.setCtx x v).stagePeak = s.stagePeak := rfl
@[simp] theorem State.setCtx_clock (x : Nat) (v : Ctx) : (s.setCtx x v).clock = s.clock := rfl
@[simp] theorem State.setCtx_regions (x : Nat) (v : Ctx) : (s.setCtx x v).regions = s.regions := rfl
@[simp] theorem State.setCtx_point (x : Nat) (v : Ctx) : (s.setCtx x v).point = s.point := rfl
@[simp] theorem State.setCtx_change (x : Nat) (v : Ctx) : (s.setCtx x v).change = s.change := rfl
@[simp] theorem State.setCtx_request (x : Nat) (v : Ctx) : (s.setCtx x v).request = s.request := rfl
@[simp] theorem State.setCtx_hold (x : Nat) (v : Ctx) : (s.setCtx x v).hold = s.hold := rfl
@[simp] theorem State.setCtx_ledgerAt (x : Nat) (v : Ctx) : (s.setCtx x v).ledgerAt = s.ledgerAt := rfl
@[simp] theorem State.setCtx_granite (x : Nat) (v : Ctx) : (s.setCtx x v).granite = s.granite := rfl
@[simp] theorem State.setCtx_flash (x : Nat) (v : Ctx) : (s.setCtx x v).flash = s.flash := rfl
@[simp] theorem State.setCtx_hostPort (x : Nat) (v : Ctx) : (s.setCtx x v).hostPort = s.hostPort := rfl
@[simp] theorem State.setCtx_package (x : Nat) (v : Ctx) : (s.setCtx x v).package = s.package := rfl
@[simp] theorem State.setCtx_health (x : Nat) (v : Ctx) : (s.setCtx x v).health = s.health := rfl
@[simp] theorem State.setCtx_broadcasts (x : Nat) (v : Ctx) : (s.setCtx x v).broadcasts = s.broadcasts := rfl
@[simp] theorem State.setCtx_out (x : Nat) (v : Ctx) : (s.setCtx x v).out = s.out := rfl

/-! ## setSnap -/

@[simp] theorem State.setSnap_pending (j : Nat) (v : SnapJob) : (s.setSnap j v).pending = s.pending := rfl
@[simp] theorem State.setSnap_free (j : Nat) (v : SnapJob) : (s.setSnap j v).free = s.free := rfl
@[simp] theorem State.setSnap_regs (j : Nat) (v : SnapJob) : (s.setSnap j v).regs = s.regs := rfl
@[simp] theorem State.setSnap_mem (j : Nat) (v : SnapJob) : (s.setSnap j v).mem = s.mem := rfl
@[simp] theorem State.setSnap_errs (j : Nat) (v : SnapJob) : (s.setSnap j v).errs = s.errs := rfl
@[simp] theorem State.setSnap_tallies (j : Nat) (v : SnapJob) : (s.setSnap j v).tallies = s.tallies := rfl
@[simp] theorem State.setSnap_queues (j : Nat) (v : SnapJob) : (s.setSnap j v).queues = s.queues := rfl
@[simp] theorem State.setSnap_started (j : Nat) (v : SnapJob) : (s.setSnap j v).started = s.started := rfl
@[simp] theorem State.setSnap_waits (j : Nat) (v : SnapJob) : (s.setSnap j v).waits = s.waits := rfl
@[simp] theorem State.setSnap_lastServed (j : Nat) (v : SnapJob) : (s.setSnap j v).lastServed = s.lastServed := rfl
@[simp] theorem State.setSnap_jobs (j : Nat) (v : SnapJob) : (s.setSnap j v).jobs = s.jobs := rfl
@[simp] theorem State.setSnap_tables (j : Nat) (v : SnapJob) : (s.setSnap j v).tables = s.tables := rfl
@[simp] theorem State.setSnap_placement (j : Nat) (v : SnapJob) : (s.setSnap j v).placement = s.placement := rfl
@[simp] theorem State.setSnap_cores (j : Nat) (v : SnapJob) : (s.setSnap j v).cores = s.cores := rfl
@[simp] theorem State.setSnap_tracked (j : Nat) (v : SnapJob) : (s.setSnap j v).tracked = s.tracked := rfl
@[simp] theorem State.setSnap_batches (j : Nat) (v : SnapJob) : (s.setSnap j v).batches = s.batches := rfl
@[simp] theorem State.setSnap_reservations (j : Nat) (v : SnapJob) : (s.setSnap j v).reservations = s.reservations := rfl
@[simp] theorem State.setSnap_pcs (j : Nat) (v : SnapJob) : (s.setSnap j v).pcs = s.pcs := rfl
@[simp] theorem State.setSnap_mapOutQueue (j : Nat) (v : SnapJob) : (s.setSnap j v).mapOutQueue = s.mapOutQueue := rfl
@[simp] theorem State.setSnap_mapPending (j : Nat) (v : SnapJob) : (s.setSnap j v).mapPending = s.mapPending := rfl
@[simp] theorem State.setSnap_links (j : Nat) (v : SnapJob) : (s.setSnap j v).links = s.links := rfl
@[simp] theorem State.setSnap_filters (j : Nat) (v : SnapJob) : (s.setSnap j v).filters = s.filters := rfl
@[simp] theorem State.setSnap_ctxs (j : Nat) (v : SnapJob) : (s.setSnap j v).ctxs = s.ctxs := rfl
@[simp] theorem State.setSnap_copies (j : Nat) (v : SnapJob) : (s.setSnap j v).copies = s.copies := rfl
@[simp] theorem State.setSnap_nextCopy (j : Nat) (v : SnapJob) : (s.setSnap j v).nextCopy = s.nextCopy := rfl
@[simp] theorem State.setSnap_reductions (j : Nat) (v : SnapJob) : (s.setSnap j v).reductions = s.reductions := rfl
@[simp] theorem State.setSnap_redIn (j : Nat) (v : SnapJob) : (s.setSnap j v).redIn = s.redIn := rfl
@[simp] theorem State.setSnap_tx (j : Nat) (v : SnapJob) : (s.setSnap j v).tx = s.tx := rfl
@[simp] theorem State.setSnap_rx (j : Nat) (v : SnapJob) : (s.setSnap j v).rx = s.rx := rfl
@[simp] theorem State.setSnap_snaps (j : Nat) (v : SnapJob) : (s.setSnap j v).snaps = mset SnapJob.zero s.snaps j v := rfl
@[simp] theorem State.setSnap_pages (j : Nat) (v : SnapJob) : (s.setSnap j v).pages = s.pages := rfl
@[simp] theorem State.setSnap_heldWrites (j : Nat) (v : SnapJob) : (s.setSnap j v).heldWrites = s.heldWrites := rfl
@[simp] theorem State.setSnap_stageUsed (j : Nat) (v : SnapJob) : (s.setSnap j v).stageUsed = s.stageUsed := rfl
@[simp] theorem State.setSnap_stagePeak (j : Nat) (v : SnapJob) : (s.setSnap j v).stagePeak = s.stagePeak := rfl
@[simp] theorem State.setSnap_clock (j : Nat) (v : SnapJob) : (s.setSnap j v).clock = s.clock := rfl
@[simp] theorem State.setSnap_regions (j : Nat) (v : SnapJob) : (s.setSnap j v).regions = s.regions := rfl
@[simp] theorem State.setSnap_point (j : Nat) (v : SnapJob) : (s.setSnap j v).point = s.point := rfl
@[simp] theorem State.setSnap_change (j : Nat) (v : SnapJob) : (s.setSnap j v).change = s.change := rfl
@[simp] theorem State.setSnap_request (j : Nat) (v : SnapJob) : (s.setSnap j v).request = s.request := rfl
@[simp] theorem State.setSnap_hold (j : Nat) (v : SnapJob) : (s.setSnap j v).hold = s.hold := rfl
@[simp] theorem State.setSnap_ledgerAt (j : Nat) (v : SnapJob) : (s.setSnap j v).ledgerAt = s.ledgerAt := rfl
@[simp] theorem State.setSnap_granite (j : Nat) (v : SnapJob) : (s.setSnap j v).granite = s.granite := rfl
@[simp] theorem State.setSnap_flash (j : Nat) (v : SnapJob) : (s.setSnap j v).flash = s.flash := rfl
@[simp] theorem State.setSnap_hostPort (j : Nat) (v : SnapJob) : (s.setSnap j v).hostPort = s.hostPort := rfl
@[simp] theorem State.setSnap_package (j : Nat) (v : SnapJob) : (s.setSnap j v).package = s.package := rfl
@[simp] theorem State.setSnap_health (j : Nat) (v : SnapJob) : (s.setSnap j v).health = s.health := rfl
@[simp] theorem State.setSnap_broadcasts (j : Nat) (v : SnapJob) : (s.setSnap j v).broadcasts = s.broadcasts := rfl
@[simp] theorem State.setSnap_out (j : Nat) (v : SnapJob) : (s.setSnap j v).out = s.out := rfl

/-! ## setRegion -/

@[simp] theorem State.setRegion_pending (r : Nat) (v : Region) : (s.setRegion r v).pending = s.pending := rfl
@[simp] theorem State.setRegion_free (r : Nat) (v : Region) : (s.setRegion r v).free = s.free := rfl
@[simp] theorem State.setRegion_regs (r : Nat) (v : Region) : (s.setRegion r v).regs = s.regs := rfl
@[simp] theorem State.setRegion_mem (r : Nat) (v : Region) : (s.setRegion r v).mem = s.mem := rfl
@[simp] theorem State.setRegion_errs (r : Nat) (v : Region) : (s.setRegion r v).errs = s.errs := rfl
@[simp] theorem State.setRegion_tallies (r : Nat) (v : Region) : (s.setRegion r v).tallies = s.tallies := rfl
@[simp] theorem State.setRegion_queues (r : Nat) (v : Region) : (s.setRegion r v).queues = s.queues := rfl
@[simp] theorem State.setRegion_started (r : Nat) (v : Region) : (s.setRegion r v).started = s.started := rfl
@[simp] theorem State.setRegion_waits (r : Nat) (v : Region) : (s.setRegion r v).waits = s.waits := rfl
@[simp] theorem State.setRegion_lastServed (r : Nat) (v : Region) : (s.setRegion r v).lastServed = s.lastServed := rfl
@[simp] theorem State.setRegion_jobs (r : Nat) (v : Region) : (s.setRegion r v).jobs = s.jobs := rfl
@[simp] theorem State.setRegion_tables (r : Nat) (v : Region) : (s.setRegion r v).tables = s.tables := rfl
@[simp] theorem State.setRegion_placement (r : Nat) (v : Region) : (s.setRegion r v).placement = s.placement := rfl
@[simp] theorem State.setRegion_cores (r : Nat) (v : Region) : (s.setRegion r v).cores = s.cores := rfl
@[simp] theorem State.setRegion_tracked (r : Nat) (v : Region) : (s.setRegion r v).tracked = s.tracked := rfl
@[simp] theorem State.setRegion_batches (r : Nat) (v : Region) : (s.setRegion r v).batches = s.batches := rfl
@[simp] theorem State.setRegion_reservations (r : Nat) (v : Region) : (s.setRegion r v).reservations = s.reservations := rfl
@[simp] theorem State.setRegion_pcs (r : Nat) (v : Region) : (s.setRegion r v).pcs = s.pcs := rfl
@[simp] theorem State.setRegion_mapOutQueue (r : Nat) (v : Region) : (s.setRegion r v).mapOutQueue = s.mapOutQueue := rfl
@[simp] theorem State.setRegion_mapPending (r : Nat) (v : Region) : (s.setRegion r v).mapPending = s.mapPending := rfl
@[simp] theorem State.setRegion_links (r : Nat) (v : Region) : (s.setRegion r v).links = s.links := rfl
@[simp] theorem State.setRegion_filters (r : Nat) (v : Region) : (s.setRegion r v).filters = s.filters := rfl
@[simp] theorem State.setRegion_ctxs (r : Nat) (v : Region) : (s.setRegion r v).ctxs = s.ctxs := rfl
@[simp] theorem State.setRegion_copies (r : Nat) (v : Region) : (s.setRegion r v).copies = s.copies := rfl
@[simp] theorem State.setRegion_nextCopy (r : Nat) (v : Region) : (s.setRegion r v).nextCopy = s.nextCopy := rfl
@[simp] theorem State.setRegion_reductions (r : Nat) (v : Region) : (s.setRegion r v).reductions = s.reductions := rfl
@[simp] theorem State.setRegion_redIn (r : Nat) (v : Region) : (s.setRegion r v).redIn = s.redIn := rfl
@[simp] theorem State.setRegion_tx (r : Nat) (v : Region) : (s.setRegion r v).tx = s.tx := rfl
@[simp] theorem State.setRegion_rx (r : Nat) (v : Region) : (s.setRegion r v).rx = s.rx := rfl
@[simp] theorem State.setRegion_snaps (r : Nat) (v : Region) : (s.setRegion r v).snaps = s.snaps := rfl
@[simp] theorem State.setRegion_pages (r : Nat) (v : Region) : (s.setRegion r v).pages = s.pages := rfl
@[simp] theorem State.setRegion_heldWrites (r : Nat) (v : Region) : (s.setRegion r v).heldWrites = s.heldWrites := rfl
@[simp] theorem State.setRegion_stageUsed (r : Nat) (v : Region) : (s.setRegion r v).stageUsed = s.stageUsed := rfl
@[simp] theorem State.setRegion_stagePeak (r : Nat) (v : Region) : (s.setRegion r v).stagePeak = s.stagePeak := rfl
@[simp] theorem State.setRegion_clock (r : Nat) (v : Region) : (s.setRegion r v).clock = s.clock := rfl
@[simp] theorem State.setRegion_regions (r : Nat) (v : Region) : (s.setRegion r v).regions = mset Region.zero s.regions r v := rfl
@[simp] theorem State.setRegion_point (r : Nat) (v : Region) : (s.setRegion r v).point = s.point := rfl
@[simp] theorem State.setRegion_change (r : Nat) (v : Region) : (s.setRegion r v).change = s.change := rfl
@[simp] theorem State.setRegion_request (r : Nat) (v : Region) : (s.setRegion r v).request = s.request := rfl
@[simp] theorem State.setRegion_hold (r : Nat) (v : Region) : (s.setRegion r v).hold = s.hold := rfl
@[simp] theorem State.setRegion_ledgerAt (r : Nat) (v : Region) : (s.setRegion r v).ledgerAt = s.ledgerAt := rfl
@[simp] theorem State.setRegion_granite (r : Nat) (v : Region) : (s.setRegion r v).granite = s.granite := rfl
@[simp] theorem State.setRegion_flash (r : Nat) (v : Region) : (s.setRegion r v).flash = s.flash := rfl
@[simp] theorem State.setRegion_hostPort (r : Nat) (v : Region) : (s.setRegion r v).hostPort = s.hostPort := rfl
@[simp] theorem State.setRegion_package (r : Nat) (v : Region) : (s.setRegion r v).package = s.package := rfl
@[simp] theorem State.setRegion_health (r : Nat) (v : Region) : (s.setRegion r v).health = s.health := rfl
@[simp] theorem State.setRegion_broadcasts (r : Nat) (v : Region) : (s.setRegion r v).broadcasts = s.broadcasts := rfl
@[simp] theorem State.setRegion_out (r : Nat) (v : Region) : (s.setRegion r v).out = s.out := rfl

/-! ## setJob -/

@[simp] theorem State.setJob_pending (j : Nat) (v : JobSlot) : (s.setJob j v).pending = s.pending := rfl
@[simp] theorem State.setJob_free (j : Nat) (v : JobSlot) : (s.setJob j v).free = s.free := rfl
@[simp] theorem State.setJob_regs (j : Nat) (v : JobSlot) : (s.setJob j v).regs = s.regs := rfl
@[simp] theorem State.setJob_mem (j : Nat) (v : JobSlot) : (s.setJob j v).mem = s.mem := rfl
@[simp] theorem State.setJob_errs (j : Nat) (v : JobSlot) : (s.setJob j v).errs = s.errs := rfl
@[simp] theorem State.setJob_tallies (j : Nat) (v : JobSlot) : (s.setJob j v).tallies = s.tallies := rfl
@[simp] theorem State.setJob_queues (j : Nat) (v : JobSlot) : (s.setJob j v).queues = s.queues := rfl
@[simp] theorem State.setJob_started (j : Nat) (v : JobSlot) : (s.setJob j v).started = s.started := rfl
@[simp] theorem State.setJob_waits (j : Nat) (v : JobSlot) : (s.setJob j v).waits = s.waits := rfl
@[simp] theorem State.setJob_lastServed (j : Nat) (v : JobSlot) : (s.setJob j v).lastServed = s.lastServed := rfl
@[simp] theorem State.setJob_jobs (j : Nat) (v : JobSlot) : (s.setJob j v).jobs = minsert s.jobs j v := rfl
@[simp] theorem State.setJob_tables (j : Nat) (v : JobSlot) : (s.setJob j v).tables = s.tables := rfl
@[simp] theorem State.setJob_placement (j : Nat) (v : JobSlot) : (s.setJob j v).placement = s.placement := rfl
@[simp] theorem State.setJob_cores (j : Nat) (v : JobSlot) : (s.setJob j v).cores = s.cores := rfl
@[simp] theorem State.setJob_tracked (j : Nat) (v : JobSlot) : (s.setJob j v).tracked = s.tracked := rfl
@[simp] theorem State.setJob_batches (j : Nat) (v : JobSlot) : (s.setJob j v).batches = s.batches := rfl
@[simp] theorem State.setJob_reservations (j : Nat) (v : JobSlot) : (s.setJob j v).reservations = s.reservations := rfl
@[simp] theorem State.setJob_pcs (j : Nat) (v : JobSlot) : (s.setJob j v).pcs = s.pcs := rfl
@[simp] theorem State.setJob_mapOutQueue (j : Nat) (v : JobSlot) : (s.setJob j v).mapOutQueue = s.mapOutQueue := rfl
@[simp] theorem State.setJob_mapPending (j : Nat) (v : JobSlot) : (s.setJob j v).mapPending = s.mapPending := rfl
@[simp] theorem State.setJob_links (j : Nat) (v : JobSlot) : (s.setJob j v).links = s.links := rfl
@[simp] theorem State.setJob_filters (j : Nat) (v : JobSlot) : (s.setJob j v).filters = s.filters := rfl
@[simp] theorem State.setJob_ctxs (j : Nat) (v : JobSlot) : (s.setJob j v).ctxs = s.ctxs := rfl
@[simp] theorem State.setJob_copies (j : Nat) (v : JobSlot) : (s.setJob j v).copies = s.copies := rfl
@[simp] theorem State.setJob_nextCopy (j : Nat) (v : JobSlot) : (s.setJob j v).nextCopy = s.nextCopy := rfl
@[simp] theorem State.setJob_reductions (j : Nat) (v : JobSlot) : (s.setJob j v).reductions = s.reductions := rfl
@[simp] theorem State.setJob_redIn (j : Nat) (v : JobSlot) : (s.setJob j v).redIn = s.redIn := rfl
@[simp] theorem State.setJob_tx (j : Nat) (v : JobSlot) : (s.setJob j v).tx = s.tx := rfl
@[simp] theorem State.setJob_rx (j : Nat) (v : JobSlot) : (s.setJob j v).rx = s.rx := rfl
@[simp] theorem State.setJob_snaps (j : Nat) (v : JobSlot) : (s.setJob j v).snaps = s.snaps := rfl
@[simp] theorem State.setJob_pages (j : Nat) (v : JobSlot) : (s.setJob j v).pages = s.pages := rfl
@[simp] theorem State.setJob_heldWrites (j : Nat) (v : JobSlot) : (s.setJob j v).heldWrites = s.heldWrites := rfl
@[simp] theorem State.setJob_stageUsed (j : Nat) (v : JobSlot) : (s.setJob j v).stageUsed = s.stageUsed := rfl
@[simp] theorem State.setJob_stagePeak (j : Nat) (v : JobSlot) : (s.setJob j v).stagePeak = s.stagePeak := rfl
@[simp] theorem State.setJob_clock (j : Nat) (v : JobSlot) : (s.setJob j v).clock = s.clock := rfl
@[simp] theorem State.setJob_regions (j : Nat) (v : JobSlot) : (s.setJob j v).regions = s.regions := rfl
@[simp] theorem State.setJob_point (j : Nat) (v : JobSlot) : (s.setJob j v).point = s.point := rfl
@[simp] theorem State.setJob_change (j : Nat) (v : JobSlot) : (s.setJob j v).change = s.change := rfl
@[simp] theorem State.setJob_request (j : Nat) (v : JobSlot) : (s.setJob j v).request = s.request := rfl
@[simp] theorem State.setJob_hold (j : Nat) (v : JobSlot) : (s.setJob j v).hold = s.hold := rfl
@[simp] theorem State.setJob_ledgerAt (j : Nat) (v : JobSlot) : (s.setJob j v).ledgerAt = s.ledgerAt := rfl
@[simp] theorem State.setJob_granite (j : Nat) (v : JobSlot) : (s.setJob j v).granite = s.granite := rfl
@[simp] theorem State.setJob_flash (j : Nat) (v : JobSlot) : (s.setJob j v).flash = s.flash := rfl
@[simp] theorem State.setJob_hostPort (j : Nat) (v : JobSlot) : (s.setJob j v).hostPort = s.hostPort := rfl
@[simp] theorem State.setJob_package (j : Nat) (v : JobSlot) : (s.setJob j v).package = s.package := rfl
@[simp] theorem State.setJob_health (j : Nat) (v : JobSlot) : (s.setJob j v).health = s.health := rfl
@[simp] theorem State.setJob_broadcasts (j : Nat) (v : JobSlot) : (s.setJob j v).broadcasts = s.broadcasts := rfl
@[simp] theorem State.setJob_out (j : Nat) (v : JobSlot) : (s.setJob j v).out = s.out := rfl

/-! ## setTally -/

@[simp] theorem State.setTally_pending (l k t v : Nat) : (s.setTally l k t v).pending = s.pending := rfl
@[simp] theorem State.setTally_free (l k t v : Nat) : (s.setTally l k t v).free = s.free := rfl
@[simp] theorem State.setTally_regs (l k t v : Nat) : (s.setTally l k t v).regs = s.regs := rfl
@[simp] theorem State.setTally_mem (l k t v : Nat) : (s.setTally l k t v).mem = s.mem := rfl
@[simp] theorem State.setTally_errs (l k t v : Nat) : (s.setTally l k t v).errs = s.errs := rfl
@[simp] theorem State.setTally_tallies (l k t v : Nat) : (s.setTally l k t v).tallies = mset 0 s.tallies (256 * (16 * l + k) + t) v := rfl
@[simp] theorem State.setTally_queues (l k t v : Nat) : (s.setTally l k t v).queues = s.queues := rfl
@[simp] theorem State.setTally_started (l k t v : Nat) : (s.setTally l k t v).started = s.started := rfl
@[simp] theorem State.setTally_waits (l k t v : Nat) : (s.setTally l k t v).waits = s.waits := rfl
@[simp] theorem State.setTally_lastServed (l k t v : Nat) : (s.setTally l k t v).lastServed = s.lastServed := rfl
@[simp] theorem State.setTally_jobs (l k t v : Nat) : (s.setTally l k t v).jobs = s.jobs := rfl
@[simp] theorem State.setTally_tables (l k t v : Nat) : (s.setTally l k t v).tables = s.tables := rfl
@[simp] theorem State.setTally_placement (l k t v : Nat) : (s.setTally l k t v).placement = s.placement := rfl
@[simp] theorem State.setTally_cores (l k t v : Nat) : (s.setTally l k t v).cores = s.cores := rfl
@[simp] theorem State.setTally_tracked (l k t v : Nat) : (s.setTally l k t v).tracked = s.tracked := rfl
@[simp] theorem State.setTally_batches (l k t v : Nat) : (s.setTally l k t v).batches = s.batches := rfl
@[simp] theorem State.setTally_reservations (l k t v : Nat) : (s.setTally l k t v).reservations = s.reservations := rfl
@[simp] theorem State.setTally_pcs (l k t v : Nat) : (s.setTally l k t v).pcs = s.pcs := rfl
@[simp] theorem State.setTally_mapOutQueue (l k t v : Nat) : (s.setTally l k t v).mapOutQueue = s.mapOutQueue := rfl
@[simp] theorem State.setTally_mapPending (l k t v : Nat) : (s.setTally l k t v).mapPending = s.mapPending := rfl
@[simp] theorem State.setTally_links (l k t v : Nat) : (s.setTally l k t v).links = s.links := rfl
@[simp] theorem State.setTally_filters (l k t v : Nat) : (s.setTally l k t v).filters = s.filters := rfl
@[simp] theorem State.setTally_ctxs (l k t v : Nat) : (s.setTally l k t v).ctxs = s.ctxs := rfl
@[simp] theorem State.setTally_copies (l k t v : Nat) : (s.setTally l k t v).copies = s.copies := rfl
@[simp] theorem State.setTally_nextCopy (l k t v : Nat) : (s.setTally l k t v).nextCopy = s.nextCopy := rfl
@[simp] theorem State.setTally_reductions (l k t v : Nat) : (s.setTally l k t v).reductions = s.reductions := rfl
@[simp] theorem State.setTally_redIn (l k t v : Nat) : (s.setTally l k t v).redIn = s.redIn := rfl
@[simp] theorem State.setTally_tx (l k t v : Nat) : (s.setTally l k t v).tx = s.tx := rfl
@[simp] theorem State.setTally_rx (l k t v : Nat) : (s.setTally l k t v).rx = s.rx := rfl
@[simp] theorem State.setTally_snaps (l k t v : Nat) : (s.setTally l k t v).snaps = s.snaps := rfl
@[simp] theorem State.setTally_pages (l k t v : Nat) : (s.setTally l k t v).pages = s.pages := rfl
@[simp] theorem State.setTally_heldWrites (l k t v : Nat) : (s.setTally l k t v).heldWrites = s.heldWrites := rfl
@[simp] theorem State.setTally_stageUsed (l k t v : Nat) : (s.setTally l k t v).stageUsed = s.stageUsed := rfl
@[simp] theorem State.setTally_stagePeak (l k t v : Nat) : (s.setTally l k t v).stagePeak = s.stagePeak := rfl
@[simp] theorem State.setTally_clock (l k t v : Nat) : (s.setTally l k t v).clock = s.clock := rfl
@[simp] theorem State.setTally_regions (l k t v : Nat) : (s.setTally l k t v).regions = s.regions := rfl
@[simp] theorem State.setTally_point (l k t v : Nat) : (s.setTally l k t v).point = s.point := rfl
@[simp] theorem State.setTally_change (l k t v : Nat) : (s.setTally l k t v).change = s.change := rfl
@[simp] theorem State.setTally_request (l k t v : Nat) : (s.setTally l k t v).request = s.request := rfl
@[simp] theorem State.setTally_hold (l k t v : Nat) : (s.setTally l k t v).hold = s.hold := rfl
@[simp] theorem State.setTally_ledgerAt (l k t v : Nat) : (s.setTally l k t v).ledgerAt = s.ledgerAt := rfl
@[simp] theorem State.setTally_granite (l k t v : Nat) : (s.setTally l k t v).granite = s.granite := rfl
@[simp] theorem State.setTally_flash (l k t v : Nat) : (s.setTally l k t v).flash = s.flash := rfl
@[simp] theorem State.setTally_hostPort (l k t v : Nat) : (s.setTally l k t v).hostPort = s.hostPort := rfl
@[simp] theorem State.setTally_package (l k t v : Nat) : (s.setTally l k t v).package = s.package := rfl
@[simp] theorem State.setTally_health (l k t v : Nat) : (s.setTally l k t v).health = s.health := rfl
@[simp] theorem State.setTally_broadcasts (l k t v : Nat) : (s.setTally l k t v).broadcasts = s.broadcasts := rfl
@[simp] theorem State.setTally_out (l k t v : Nat) : (s.setTally l k t v).out = s.out := rfl

/-! ## changeMap -/

@[simp] theorem State.changeMap_pending (f : UnitMap → UnitMap) : (s.changeMap f).pending = s.pending := rfl
@[simp] theorem State.changeMap_free (f : UnitMap → UnitMap) : (s.changeMap f).free = s.free := rfl
@[simp] theorem State.changeMap_regs (f : UnitMap → UnitMap) : (s.changeMap f).regs = s.regs := rfl
@[simp] theorem State.changeMap_mem (f : UnitMap → UnitMap) : (s.changeMap f).mem = s.mem := rfl
@[simp] theorem State.changeMap_errs (f : UnitMap → UnitMap) : (s.changeMap f).errs = s.errs := rfl
@[simp] theorem State.changeMap_tallies (f : UnitMap → UnitMap) : (s.changeMap f).tallies = s.tallies := rfl
@[simp] theorem State.changeMap_queues (f : UnitMap → UnitMap) : (s.changeMap f).queues = s.queues := rfl
@[simp] theorem State.changeMap_started (f : UnitMap → UnitMap) : (s.changeMap f).started = s.started := rfl
@[simp] theorem State.changeMap_waits (f : UnitMap → UnitMap) : (s.changeMap f).waits = s.waits := rfl
@[simp] theorem State.changeMap_lastServed (f : UnitMap → UnitMap) : (s.changeMap f).lastServed = s.lastServed := rfl
@[simp] theorem State.changeMap_jobs (f : UnitMap → UnitMap) : (s.changeMap f).jobs = s.jobs := rfl
@[simp] theorem State.changeMap_tables (f : UnitMap → UnitMap) : (s.changeMap f).tables = s.tables := rfl
@[simp] theorem State.changeMap_placement (f : UnitMap → UnitMap) : (s.changeMap f).placement = s.placement := rfl
@[simp] theorem State.changeMap_cores (f : UnitMap → UnitMap) : (s.changeMap f).cores = s.cores := rfl
@[simp] theorem State.changeMap_tracked (f : UnitMap → UnitMap) : (s.changeMap f).tracked = s.tracked := rfl
@[simp] theorem State.changeMap_batches (f : UnitMap → UnitMap) : (s.changeMap f).batches = s.batches := rfl
@[simp] theorem State.changeMap_reservations (f : UnitMap → UnitMap) : (s.changeMap f).reservations = s.reservations := rfl
@[simp] theorem State.changeMap_pcs (f : UnitMap → UnitMap) : (s.changeMap f).pcs = s.pcs := rfl
@[simp] theorem State.changeMap_mapOutQueue (f : UnitMap → UnitMap) : (s.changeMap f).mapOutQueue = s.mapOutQueue := rfl
@[simp] theorem State.changeMap_mapPending (f : UnitMap → UnitMap) : (s.changeMap f).mapPending = s.mapPending := rfl
@[simp] theorem State.changeMap_links (f : UnitMap → UnitMap) : (s.changeMap f).links = s.links := rfl
@[simp] theorem State.changeMap_filters (f : UnitMap → UnitMap) : (s.changeMap f).filters = s.filters := rfl
@[simp] theorem State.changeMap_ctxs (f : UnitMap → UnitMap) : (s.changeMap f).ctxs = s.ctxs := rfl
@[simp] theorem State.changeMap_copies (f : UnitMap → UnitMap) : (s.changeMap f).copies = s.copies := rfl
@[simp] theorem State.changeMap_nextCopy (f : UnitMap → UnitMap) : (s.changeMap f).nextCopy = s.nextCopy := rfl
@[simp] theorem State.changeMap_reductions (f : UnitMap → UnitMap) : (s.changeMap f).reductions = s.reductions := rfl
@[simp] theorem State.changeMap_redIn (f : UnitMap → UnitMap) : (s.changeMap f).redIn = s.redIn := rfl
@[simp] theorem State.changeMap_tx (f : UnitMap → UnitMap) : (s.changeMap f).tx = s.tx := rfl
@[simp] theorem State.changeMap_rx (f : UnitMap → UnitMap) : (s.changeMap f).rx = s.rx := rfl
@[simp] theorem State.changeMap_snaps (f : UnitMap → UnitMap) : (s.changeMap f).snaps = s.snaps := rfl
@[simp] theorem State.changeMap_pages (f : UnitMap → UnitMap) : (s.changeMap f).pages = s.pages := rfl
@[simp] theorem State.changeMap_heldWrites (f : UnitMap → UnitMap) : (s.changeMap f).heldWrites = s.heldWrites := rfl
@[simp] theorem State.changeMap_stageUsed (f : UnitMap → UnitMap) : (s.changeMap f).stageUsed = s.stageUsed := rfl
@[simp] theorem State.changeMap_stagePeak (f : UnitMap → UnitMap) : (s.changeMap f).stagePeak = s.stagePeak := rfl
@[simp] theorem State.changeMap_clock (f : UnitMap → UnitMap) : (s.changeMap f).clock = s.clock := rfl
@[simp] theorem State.changeMap_regions (f : UnitMap → UnitMap) : (s.changeMap f).regions = s.regions := rfl
@[simp] theorem State.changeMap_point (f : UnitMap → UnitMap) : (s.changeMap f).point = s.point := rfl
@[simp] theorem State.changeMap_change (f : UnitMap → UnitMap) : (s.changeMap f).change = s.change := rfl
@[simp] theorem State.changeMap_request (f : UnitMap → UnitMap) : (s.changeMap f).request = s.request := rfl
@[simp] theorem State.changeMap_hold (f : UnitMap → UnitMap) : (s.changeMap f).hold = s.hold := rfl
@[simp] theorem State.changeMap_ledgerAt (f : UnitMap → UnitMap) : (s.changeMap f).ledgerAt = s.ledgerAt := rfl
@[simp] theorem State.changeMap_granite (f : UnitMap → UnitMap) : (s.changeMap f).granite = s.granite := rfl
@[simp] theorem State.changeMap_hostPort (f : UnitMap → UnitMap) : (s.changeMap f).hostPort = s.hostPort := rfl
@[simp] theorem State.changeMap_package (f : UnitMap → UnitMap) : (s.changeMap f).package = s.package := rfl
@[simp] theorem State.changeMap_health (f : UnitMap → UnitMap) : (s.changeMap f).health = s.health := rfl
@[simp] theorem State.changeMap_broadcasts (f : UnitMap → UnitMap) : (s.changeMap f).broadcasts = s.broadcasts := rfl
@[simp] theorem State.changeMap_out (f : UnitMap → UnitMap) : (s.changeMap f).out = s.out := rfl

/-! ## bumpConfig -/

@[simp] theorem State.bumpConfig_pending : (s.bumpConfig).pending = s.pending := rfl
@[simp] theorem State.bumpConfig_free : (s.bumpConfig).free = s.free := rfl
@[simp] theorem State.bumpConfig_regs : (s.bumpConfig).regs = s.regs := rfl
@[simp] theorem State.bumpConfig_mem : (s.bumpConfig).mem = s.mem := rfl
@[simp] theorem State.bumpConfig_errs : (s.bumpConfig).errs = s.errs := rfl
@[simp] theorem State.bumpConfig_tallies : (s.bumpConfig).tallies = s.tallies := rfl
@[simp] theorem State.bumpConfig_queues : (s.bumpConfig).queues = s.queues := rfl
@[simp] theorem State.bumpConfig_started : (s.bumpConfig).started = s.started := rfl
@[simp] theorem State.bumpConfig_waits : (s.bumpConfig).waits = s.waits := rfl
@[simp] theorem State.bumpConfig_lastServed : (s.bumpConfig).lastServed = s.lastServed := rfl
@[simp] theorem State.bumpConfig_jobs : (s.bumpConfig).jobs = s.jobs := rfl
@[simp] theorem State.bumpConfig_tables : (s.bumpConfig).tables = s.tables := rfl
@[simp] theorem State.bumpConfig_placement : (s.bumpConfig).placement = s.placement := rfl
@[simp] theorem State.bumpConfig_cores : (s.bumpConfig).cores = s.cores := rfl
@[simp] theorem State.bumpConfig_tracked : (s.bumpConfig).tracked = s.tracked := rfl
@[simp] theorem State.bumpConfig_batches : (s.bumpConfig).batches = s.batches := rfl
@[simp] theorem State.bumpConfig_reservations : (s.bumpConfig).reservations = s.reservations := rfl
@[simp] theorem State.bumpConfig_pcs : (s.bumpConfig).pcs = s.pcs := rfl
@[simp] theorem State.bumpConfig_mapOutQueue : (s.bumpConfig).mapOutQueue = s.mapOutQueue := rfl
@[simp] theorem State.bumpConfig_mapPending : (s.bumpConfig).mapPending = s.mapPending := rfl
@[simp] theorem State.bumpConfig_links : (s.bumpConfig).links = s.links := rfl
@[simp] theorem State.bumpConfig_filters : (s.bumpConfig).filters = s.filters := rfl
@[simp] theorem State.bumpConfig_ctxs : (s.bumpConfig).ctxs = s.ctxs := rfl
@[simp] theorem State.bumpConfig_copies : (s.bumpConfig).copies = s.copies := rfl
@[simp] theorem State.bumpConfig_nextCopy : (s.bumpConfig).nextCopy = s.nextCopy := rfl
@[simp] theorem State.bumpConfig_reductions : (s.bumpConfig).reductions = s.reductions := rfl
@[simp] theorem State.bumpConfig_redIn : (s.bumpConfig).redIn = s.redIn := rfl
@[simp] theorem State.bumpConfig_tx : (s.bumpConfig).tx = s.tx := rfl
@[simp] theorem State.bumpConfig_rx : (s.bumpConfig).rx = s.rx := rfl
@[simp] theorem State.bumpConfig_snaps : (s.bumpConfig).snaps = s.snaps := rfl
@[simp] theorem State.bumpConfig_pages : (s.bumpConfig).pages = s.pages := rfl
@[simp] theorem State.bumpConfig_heldWrites : (s.bumpConfig).heldWrites = s.heldWrites := rfl
@[simp] theorem State.bumpConfig_stageUsed : (s.bumpConfig).stageUsed = s.stageUsed := rfl
@[simp] theorem State.bumpConfig_stagePeak : (s.bumpConfig).stagePeak = s.stagePeak := rfl
@[simp] theorem State.bumpConfig_clock : (s.bumpConfig).clock = s.clock := rfl
@[simp] theorem State.bumpConfig_regions : (s.bumpConfig).regions = s.regions := rfl
@[simp] theorem State.bumpConfig_point : (s.bumpConfig).point = s.point := rfl
@[simp] theorem State.bumpConfig_change : (s.bumpConfig).change = s.change := rfl
@[simp] theorem State.bumpConfig_request : (s.bumpConfig).request = s.request := rfl
@[simp] theorem State.bumpConfig_hold : (s.bumpConfig).hold = s.hold := rfl
@[simp] theorem State.bumpConfig_ledgerAt : (s.bumpConfig).ledgerAt = s.ledgerAt := rfl
@[simp] theorem State.bumpConfig_granite : (s.bumpConfig).granite = s.granite := rfl
@[simp] theorem State.bumpConfig_hostPort : (s.bumpConfig).hostPort = s.hostPort := rfl
@[simp] theorem State.bumpConfig_package : (s.bumpConfig).package = s.package := rfl
@[simp] theorem State.bumpConfig_health : (s.bumpConfig).health = s.health := rfl
@[simp] theorem State.bumpConfig_broadcasts : (s.bumpConfig).broadcasts = s.broadcasts := rfl
@[simp] theorem State.bumpConfig_out : (s.bumpConfig).out = s.out := rfl

/-! ## transmit -/

@[simp] theorem State.transmit_pending (p : Packet) : (s.transmit p).pending = s.pending := rfl
@[simp] theorem State.transmit_free (p : Packet) : (s.transmit p).free = s.free := rfl
@[simp] theorem State.transmit_regs (p : Packet) : (s.transmit p).regs = s.regs := rfl
@[simp] theorem State.transmit_mem (p : Packet) : (s.transmit p).mem = s.mem := rfl
@[simp] theorem State.transmit_errs (p : Packet) : (s.transmit p).errs = s.errs := rfl
@[simp] theorem State.transmit_tallies (p : Packet) : (s.transmit p).tallies = s.tallies := rfl
@[simp] theorem State.transmit_queues (p : Packet) : (s.transmit p).queues = s.queues := rfl
@[simp] theorem State.transmit_started (p : Packet) : (s.transmit p).started = s.started := rfl
@[simp] theorem State.transmit_waits (p : Packet) : (s.transmit p).waits = s.waits := rfl
@[simp] theorem State.transmit_lastServed (p : Packet) : (s.transmit p).lastServed = s.lastServed := rfl
@[simp] theorem State.transmit_jobs (p : Packet) : (s.transmit p).jobs = s.jobs := rfl
@[simp] theorem State.transmit_tables (p : Packet) : (s.transmit p).tables = s.tables := rfl
@[simp] theorem State.transmit_placement (p : Packet) : (s.transmit p).placement = s.placement := rfl
@[simp] theorem State.transmit_cores (p : Packet) : (s.transmit p).cores = s.cores := rfl
@[simp] theorem State.transmit_tracked (p : Packet) : (s.transmit p).tracked = s.tracked := rfl
@[simp] theorem State.transmit_batches (p : Packet) : (s.transmit p).batches = s.batches := rfl
@[simp] theorem State.transmit_reservations (p : Packet) : (s.transmit p).reservations = s.reservations := rfl
@[simp] theorem State.transmit_pcs (p : Packet) : (s.transmit p).pcs = s.pcs := rfl
@[simp] theorem State.transmit_mapOutQueue (p : Packet) : (s.transmit p).mapOutQueue = s.mapOutQueue := rfl
@[simp] theorem State.transmit_mapPending (p : Packet) : (s.transmit p).mapPending = s.mapPending := rfl
@[simp] theorem State.transmit_links (p : Packet) : (s.transmit p).links = s.links := rfl
@[simp] theorem State.transmit_filters (p : Packet) : (s.transmit p).filters = s.filters := rfl
@[simp] theorem State.transmit_ctxs (p : Packet) : (s.transmit p).ctxs = s.ctxs := rfl
@[simp] theorem State.transmit_copies (p : Packet) : (s.transmit p).copies = s.copies := rfl
@[simp] theorem State.transmit_nextCopy (p : Packet) : (s.transmit p).nextCopy = s.nextCopy := rfl
@[simp] theorem State.transmit_reductions (p : Packet) : (s.transmit p).reductions = s.reductions := rfl
@[simp] theorem State.transmit_redIn (p : Packet) : (s.transmit p).redIn = s.redIn := rfl
@[simp] theorem State.transmit_rx (p : Packet) : (s.transmit p).rx = s.rx := rfl
@[simp] theorem State.transmit_snaps (p : Packet) : (s.transmit p).snaps = s.snaps := rfl
@[simp] theorem State.transmit_pages (p : Packet) : (s.transmit p).pages = s.pages := rfl
@[simp] theorem State.transmit_heldWrites (p : Packet) : (s.transmit p).heldWrites = s.heldWrites := rfl
@[simp] theorem State.transmit_stageUsed (p : Packet) : (s.transmit p).stageUsed = s.stageUsed := rfl
@[simp] theorem State.transmit_stagePeak (p : Packet) : (s.transmit p).stagePeak = s.stagePeak := rfl
@[simp] theorem State.transmit_clock (p : Packet) : (s.transmit p).clock = s.clock := rfl
@[simp] theorem State.transmit_regions (p : Packet) : (s.transmit p).regions = s.regions := rfl
@[simp] theorem State.transmit_point (p : Packet) : (s.transmit p).point = s.point := rfl
@[simp] theorem State.transmit_change (p : Packet) : (s.transmit p).change = s.change := rfl
@[simp] theorem State.transmit_request (p : Packet) : (s.transmit p).request = s.request := rfl
@[simp] theorem State.transmit_hold (p : Packet) : (s.transmit p).hold = s.hold := rfl
@[simp] theorem State.transmit_ledgerAt (p : Packet) : (s.transmit p).ledgerAt = s.ledgerAt := rfl
@[simp] theorem State.transmit_granite (p : Packet) : (s.transmit p).granite = s.granite := rfl
@[simp] theorem State.transmit_flash (p : Packet) : (s.transmit p).flash = s.flash := rfl
@[simp] theorem State.transmit_hostPort (p : Packet) : (s.transmit p).hostPort = s.hostPort := rfl
@[simp] theorem State.transmit_package (p : Packet) : (s.transmit p).package = s.package := rfl
@[simp] theorem State.transmit_health (p : Packet) : (s.transmit p).health = s.health := rfl
@[simp] theorem State.transmit_broadcasts (p : Packet) : (s.transmit p).broadcasts = s.broadcasts := rfl
@[simp] theorem State.transmit_out (p : Packet) : (s.transmit p).out = s.out := rfl

/-! ## setStarted -/

@[simp] theorem State.setStarted_pending (c : Started) : (s.setStarted c).pending = s.pending := rfl
@[simp] theorem State.setStarted_free (c : Started) : (s.setStarted c).free = s.free := rfl
@[simp] theorem State.setStarted_regs (c : Started) : (s.setStarted c).regs = s.regs := rfl
@[simp] theorem State.setStarted_mem (c : Started) : (s.setStarted c).mem = s.mem := rfl
@[simp] theorem State.setStarted_errs (c : Started) : (s.setStarted c).errs = s.errs := rfl
@[simp] theorem State.setStarted_tallies (c : Started) : (s.setStarted c).tallies = s.tallies := rfl
@[simp] theorem State.setStarted_queues (c : Started) : (s.setStarted c).queues = s.queues := rfl
@[simp] theorem State.setStarted_waits (c : Started) : (s.setStarted c).waits = s.waits := rfl
@[simp] theorem State.setStarted_lastServed (c : Started) : (s.setStarted c).lastServed = s.lastServed := rfl
@[simp] theorem State.setStarted_jobs (c : Started) : (s.setStarted c).jobs = s.jobs := rfl
@[simp] theorem State.setStarted_tables (c : Started) : (s.setStarted c).tables = s.tables := rfl
@[simp] theorem State.setStarted_placement (c : Started) : (s.setStarted c).placement = s.placement := rfl
@[simp] theorem State.setStarted_cores (c : Started) : (s.setStarted c).cores = s.cores := rfl
@[simp] theorem State.setStarted_tracked (c : Started) : (s.setStarted c).tracked = s.tracked := rfl
@[simp] theorem State.setStarted_batches (c : Started) : (s.setStarted c).batches = s.batches := rfl
@[simp] theorem State.setStarted_reservations (c : Started) : (s.setStarted c).reservations = s.reservations := rfl
@[simp] theorem State.setStarted_pcs (c : Started) : (s.setStarted c).pcs = s.pcs := rfl
@[simp] theorem State.setStarted_mapOutQueue (c : Started) : (s.setStarted c).mapOutQueue = s.mapOutQueue := rfl
@[simp] theorem State.setStarted_mapPending (c : Started) : (s.setStarted c).mapPending = s.mapPending := rfl
@[simp] theorem State.setStarted_links (c : Started) : (s.setStarted c).links = s.links := rfl
@[simp] theorem State.setStarted_filters (c : Started) : (s.setStarted c).filters = s.filters := rfl
@[simp] theorem State.setStarted_ctxs (c : Started) : (s.setStarted c).ctxs = s.ctxs := rfl
@[simp] theorem State.setStarted_copies (c : Started) : (s.setStarted c).copies = s.copies := rfl
@[simp] theorem State.setStarted_nextCopy (c : Started) : (s.setStarted c).nextCopy = s.nextCopy := rfl
@[simp] theorem State.setStarted_reductions (c : Started) : (s.setStarted c).reductions = s.reductions := rfl
@[simp] theorem State.setStarted_redIn (c : Started) : (s.setStarted c).redIn = s.redIn := rfl
@[simp] theorem State.setStarted_tx (c : Started) : (s.setStarted c).tx = s.tx := rfl
@[simp] theorem State.setStarted_rx (c : Started) : (s.setStarted c).rx = s.rx := rfl
@[simp] theorem State.setStarted_snaps (c : Started) : (s.setStarted c).snaps = s.snaps := rfl
@[simp] theorem State.setStarted_pages (c : Started) : (s.setStarted c).pages = s.pages := rfl
@[simp] theorem State.setStarted_heldWrites (c : Started) : (s.setStarted c).heldWrites = s.heldWrites := rfl
@[simp] theorem State.setStarted_stageUsed (c : Started) : (s.setStarted c).stageUsed = s.stageUsed := rfl
@[simp] theorem State.setStarted_stagePeak (c : Started) : (s.setStarted c).stagePeak = s.stagePeak := rfl
@[simp] theorem State.setStarted_clock (c : Started) : (s.setStarted c).clock = s.clock := rfl
@[simp] theorem State.setStarted_regions (c : Started) : (s.setStarted c).regions = s.regions := rfl
@[simp] theorem State.setStarted_point (c : Started) : (s.setStarted c).point = s.point := rfl
@[simp] theorem State.setStarted_change (c : Started) : (s.setStarted c).change = s.change := rfl
@[simp] theorem State.setStarted_request (c : Started) : (s.setStarted c).request = s.request := rfl
@[simp] theorem State.setStarted_hold (c : Started) : (s.setStarted c).hold = s.hold := rfl
@[simp] theorem State.setStarted_ledgerAt (c : Started) : (s.setStarted c).ledgerAt = s.ledgerAt := rfl
@[simp] theorem State.setStarted_granite (c : Started) : (s.setStarted c).granite = s.granite := rfl
@[simp] theorem State.setStarted_flash (c : Started) : (s.setStarted c).flash = s.flash := rfl
@[simp] theorem State.setStarted_hostPort (c : Started) : (s.setStarted c).hostPort = s.hostPort := rfl
@[simp] theorem State.setStarted_package (c : Started) : (s.setStarted c).package = s.package := rfl
@[simp] theorem State.setStarted_health (c : Started) : (s.setStarted c).health = s.health := rfl
@[simp] theorem State.setStarted_broadcasts (c : Started) : (s.setStarted c).broadcasts = s.broadcasts := rfl
@[simp] theorem State.setStarted_out (c : Started) : (s.setStarted c).out = s.out := rfl

/-! ## emit -/

@[simp] theorem State.emit_pending (o : Out) : (s.emit o).pending = s.pending := by unfold State.emit; split <;> rfl
@[simp] theorem State.emit_free (o : Out) : (s.emit o).free = s.free := by unfold State.emit; split <;> rfl
@[simp] theorem State.emit_regs (o : Out) : (s.emit o).regs = s.regs := by unfold State.emit; split <;> rfl
@[simp] theorem State.emit_mem (o : Out) : (s.emit o).mem = s.mem := by unfold State.emit; split <;> rfl
@[simp] theorem State.emit_errs (o : Out) : (s.emit o).errs = s.errs := by unfold State.emit; split <;> rfl
@[simp] theorem State.emit_tallies (o : Out) : (s.emit o).tallies = s.tallies := by unfold State.emit; split <;> rfl
@[simp] theorem State.emit_queues (o : Out) : (s.emit o).queues = s.queues := by unfold State.emit; split <;> rfl
@[simp] theorem State.emit_started (o : Out) : (s.emit o).started = s.started := by unfold State.emit; split <;> rfl
@[simp] theorem State.emit_waits (o : Out) : (s.emit o).waits = s.waits := by unfold State.emit; split <;> rfl
@[simp] theorem State.emit_lastServed (o : Out) : (s.emit o).lastServed = s.lastServed := by unfold State.emit; split <;> rfl
@[simp] theorem State.emit_jobs (o : Out) : (s.emit o).jobs = s.jobs := by unfold State.emit; split <;> rfl
@[simp] theorem State.emit_tables (o : Out) : (s.emit o).tables = s.tables := by unfold State.emit; split <;> rfl
@[simp] theorem State.emit_placement (o : Out) : (s.emit o).placement = s.placement := by unfold State.emit; split <;> rfl
@[simp] theorem State.emit_cores (o : Out) : (s.emit o).cores = s.cores := by unfold State.emit; split <;> rfl
@[simp] theorem State.emit_tracked (o : Out) : (s.emit o).tracked = s.tracked := by unfold State.emit; split <;> rfl
@[simp] theorem State.emit_batches (o : Out) : (s.emit o).batches = s.batches := by unfold State.emit; split <;> rfl
@[simp] theorem State.emit_reservations (o : Out) : (s.emit o).reservations = s.reservations := by unfold State.emit; split <;> rfl
@[simp] theorem State.emit_pcs (o : Out) : (s.emit o).pcs = s.pcs := by unfold State.emit; split <;> rfl
@[simp] theorem State.emit_mapOutQueue (o : Out) : (s.emit o).mapOutQueue = s.mapOutQueue := by unfold State.emit; split <;> rfl
@[simp] theorem State.emit_mapPending (o : Out) : (s.emit o).mapPending = s.mapPending := by unfold State.emit; split <;> rfl
@[simp] theorem State.emit_links (o : Out) : (s.emit o).links = s.links := by unfold State.emit; split <;> rfl
@[simp] theorem State.emit_filters (o : Out) : (s.emit o).filters = s.filters := by unfold State.emit; split <;> rfl
@[simp] theorem State.emit_ctxs (o : Out) : (s.emit o).ctxs = s.ctxs := by unfold State.emit; split <;> rfl
@[simp] theorem State.emit_copies (o : Out) : (s.emit o).copies = s.copies := by unfold State.emit; split <;> rfl
@[simp] theorem State.emit_nextCopy (o : Out) : (s.emit o).nextCopy = s.nextCopy := by unfold State.emit; split <;> rfl
@[simp] theorem State.emit_reductions (o : Out) : (s.emit o).reductions = s.reductions := by unfold State.emit; split <;> rfl
@[simp] theorem State.emit_redIn (o : Out) : (s.emit o).redIn = s.redIn := by unfold State.emit; split <;> rfl
@[simp] theorem State.emit_tx (o : Out) : (s.emit o).tx = s.tx := by unfold State.emit; split <;> rfl
@[simp] theorem State.emit_rx (o : Out) : (s.emit o).rx = s.rx := by unfold State.emit; split <;> rfl
@[simp] theorem State.emit_snaps (o : Out) : (s.emit o).snaps = s.snaps := by unfold State.emit; split <;> rfl
@[simp] theorem State.emit_pages (o : Out) : (s.emit o).pages = s.pages := by unfold State.emit; split <;> rfl
@[simp] theorem State.emit_heldWrites (o : Out) : (s.emit o).heldWrites = s.heldWrites := by unfold State.emit; split <;> rfl
@[simp] theorem State.emit_stageUsed (o : Out) : (s.emit o).stageUsed = s.stageUsed := by unfold State.emit; split <;> rfl
@[simp] theorem State.emit_stagePeak (o : Out) : (s.emit o).stagePeak = s.stagePeak := by unfold State.emit; split <;> rfl
@[simp] theorem State.emit_clock (o : Out) : (s.emit o).clock = s.clock := by unfold State.emit; split <;> rfl
@[simp] theorem State.emit_regions (o : Out) : (s.emit o).regions = s.regions := by unfold State.emit; split <;> rfl
@[simp] theorem State.emit_point (o : Out) : (s.emit o).point = s.point := by unfold State.emit; split <;> rfl
@[simp] theorem State.emit_change (o : Out) : (s.emit o).change = s.change := by unfold State.emit; split <;> rfl
@[simp] theorem State.emit_request (o : Out) : (s.emit o).request = s.request := by unfold State.emit; split <;> rfl
@[simp] theorem State.emit_hold (o : Out) : (s.emit o).hold = s.hold := by unfold State.emit; split <;> rfl
@[simp] theorem State.emit_ledgerAt (o : Out) : (s.emit o).ledgerAt = s.ledgerAt := by unfold State.emit; split <;> rfl
@[simp] theorem State.emit_granite (o : Out) : (s.emit o).granite = s.granite := by unfold State.emit; split <;> rfl
@[simp] theorem State.emit_flash (o : Out) : (s.emit o).flash = s.flash := by unfold State.emit; split <;> rfl
@[simp] theorem State.emit_hostPort (o : Out) : (s.emit o).hostPort = s.hostPort := by unfold State.emit; split <;> rfl
@[simp] theorem State.emit_package (o : Out) : (s.emit o).package = s.package := by unfold State.emit; split <;> rfl
@[simp] theorem State.emit_health (o : Out) : (s.emit o).health = s.health := by unfold State.emit; split <;> rfl
@[simp] theorem State.emit_broadcasts (o : Out) : (s.emit o).broadcasts = s.broadcasts := by unfold State.emit; split <;> rfl

end Sys2Proof.Machine
end

