-- ==== Sys2Proof/Laws/Memory.lean ====
section
/-! SUPPORT. What the memory operations do: a read after a write, what a write leaves alone, and that every operation that
changes memory keeps its canonical form. -/

namespace Sys2Proof.Machine

/-! ## Plain bytes -/

@[simp] theorem memRead_length (m : List Host.Cell) (a n : Nat) : (memRead m a n).length = n := by simp [memRead]

theorem getElem?_memRead (m : List Host.Cell) (a n i : Nat) :
    (memRead m a n)[i]? = if i < n then some (mget 0#8 m (a + i)) else none := by
  simp only [memRead, List.getElem?_map, getElem?_upFrom]
  split <;> rfl

/-- A byte after a write: the written one within its range, the old one outside it. -/
theorem mget_memWrite (m : List Host.Cell) (a : Nat) (bs : List Byte) (x : Nat) :
    mget 0#8 (memWrite m a bs) x = if a ≤ x ∧ x < a + bs.length then nth 0#8 bs (x - a) else mget 0#8 m x := by
  induction bs generalizing m a with
  | nil => simp only [memWrite, List.length_nil]; split <;> [omega; rfl]
  | cons b bs ih =>
    rw [memWrite, ih]
    by_cases h : a + 1 ≤ x ∧ x < a + 1 + bs.length
    · have hc : a ≤ x ∧ x < a + (b :: bs).length := by simp only [List.length_cons]; omega
      have hx : x - a = (x - (a + 1)) + 1 := by omega
      rw [if_pos h, if_pos hc, hx]; simp [nth]
    · rw [if_neg h, mget_mset]
      by_cases hx : x = a
      · subst hx; simp [nth]
      · have hc : ¬ (a ≤ x ∧ x < a + (b :: bs).length) := by simp only [List.length_cons]; omega
        rw [if_neg hx, if_neg hc]

theorem mget_memClear (m : List Host.Cell) (a n x : Nat) :
    mget 0#8 (memClear m a n) x = if a ≤ x ∧ x < a + n then 0#8 else mget 0#8 m x := by
  rw [memClear, mget_filter 0#8 m (fun k => decide (k < a) || decide (a + n ≤ k))]
  by_cases h : a ≤ x ∧ x < a + n
  · rw [if_pos h, if_neg (by simp; omega)]
  · rw [if_neg h, if_pos (by simp; omega)]

/-! ## The canonical form -/

theorem Memory.wf_nil : Memory.wf [] = true := rfl

theorem Memory.wf_filter {m : List Host.Cell} (p : Host.Cell → Bool) (w : Memory.wf m = true) :
    Memory.wf (m.filter p) = true := mwf_filter p w

theorem Memory.wf_memWrite {m : List Host.Cell} (a : Nat) (bs : List Byte) (w : Memory.wf m = true) :
    Memory.wf (memWrite m a bs) = true := by
  induction bs generalizing m a with
  | nil => exact w
  | cons b bs ih => exact ih (a + 1) (mwf_mset a b w)

theorem Memory.wf_memClear {m : List Host.Cell} (a n : Nat) (w : Memory.wf m = true) :
    Memory.wf (memClear m a n) = true := mwf_filter _ w

theorem Memory.wf_memPut {m : List Host.Cell} (a : Nat) (cs : List (Nat × Byte)) (w : Memory.wf m = true) :
    Memory.wf (memPut m a cs) = true := by
  induction cs generalizing m with
  | nil => exact w
  | cons c cs ih => exact ih (mwf_mset _ _ w)

/-- A fold keeps what each of its steps keeps. -/
theorem foldl_keeps {α β : Type} (P : α → Prop) (f : α → β → α) (hf : ∀ a b, P a → P (f a b)) (l : List β) (a : α)
    (h : P a) : P (l.foldl f a) := by
  induction l generalizing a with
  | nil => exact h
  | cons b l ih => exact ih _ (hf a b h)

/-! ## Words with errors leave the bytes as they are -/

@[simp] theorem State.errLast_mem (s : State) (a : Nat) : (s.errLast a).mem = s.mem := rfl
@[simp] theorem State.failRow_mem (s : State) (a : Nat) : (s.failRow a).mem = s.mem := rfl

@[simp] theorem State.correctHbm_mem (s : State) (a : Nat) : (s.correctHbm a).mem = s.mem := by
  simp only [State.correctHbm]; split <;> rfl

@[simp] theorem State.correctSram_mem (s : State) (a : Nat) (again : Bool) : (s.correctSram a again).mem = s.mem := by
  unfold State.correctSram
  simp only [apply_ite State.mem, State.changeMap_mem, State.raise_mem, ite_self]

@[simp] theorem State.readErr_mem (s : State) (a : Nat) (e : ErrKind) : (s.readErr a e).1.mem = s.mem := by
  simp only [State.readErr]; split <;> cases e <;> simp

@[simp] theorem State.mergeErr_mem (s : State) (a : Nat) (e : ErrKind) : (s.mergeErr a e).mem = s.mem := by
  cases e <;> simp only [State.mergeErr, State.readErr_mem] <;> split <;> rfl

@[simp] theorem State.scan_mem (s : State) (a n : Nat) : (s.scan a n).1.mem = s.mem :=
  foldl_keeps (fun r : State × Bool => r.1.mem = s.mem) _ (fun _ _ h => by simpa using h) _ _ rfl

@[simp] theorem State.rewriteErrs_mem (s : State) (a n : Nat) : (s.rewriteErrs a n).mem = s.mem :=
  foldl_keeps (fun t : State => t.mem = s.mem) _ (fun t e h => by split <;> simpa using h) _ _ rfl

@[simp] theorem State.load_mem (s : State) (a n : Nat) : (s.load a n).1.mem = s.mem := State.scan_mem s a n

/-! ## Every write keeps the canonical form -/

@[simp] theorem State.put_mem (s : State) (a : Nat) (bs : List Byte) : (s.put a bs).mem = memWrite s.mem a bs := by
  simp [State.put]

theorem State.put_wf {s : State} (a : Nat) (bs : List Byte) (w : Memory.wf s.mem = true) :
    Memory.wf (s.put a bs).mem = true := by simpa using Memory.wf_memWrite a bs w

@[simp] theorem State.stagePage_mem (s : State) (p : Nat) (r : PageRec) : (s.stagePage p r).mem = s.mem := rfl

/-- A write in one line writes its bytes or holds them. -/
theorem State.storePart_mem (s : State) (a : Nat) (bs : List Byte) :
    (s.storePart a bs).mem = s.mem ∨ (s.storePart a bs).mem = memWrite s.mem a bs := by
  have key : ∀ (g : Nat) (o : Option PageRec), (match o with
      | some r => if r.st == PageSt.frozen then s.stagePage g r else s
      | none => s).mem = s.mem := by
    rintro g (_ | r)
    · rfl
    · dsimp only; split <;> rfl
  unfold State.storePart
  simp only [apply_ite State.mem, State.put_mem, State.emit_mem, State.raise_mem]
  split_ifs <;>
    first
    | exact .inl rfl
    | exact .inr rfl
    | exact .inl (key _ _)
    | exact .inr (congrArg (memWrite · a bs) (key _ _))

theorem State.storePart_wf {s : State} (a : Nat) (bs : List Byte) (w : Memory.wf s.mem = true) :
    Memory.wf (s.storePart a bs).mem = true := by
  rcases s.storePart_mem a bs with h | h <;> rw [h]
  · exact w
  · exact Memory.wf_memWrite a bs w

theorem State.store_wf {s : State} (a : Nat) (bs : List Byte) (w : Memory.wf s.mem = true) :
    Memory.wf (s.store a bs).mem = true := by
  unfold State.store
  split
  · exact State.put_wf a bs w
  · exact foldl_keeps (fun t : State => Memory.wf t.mem = true) _ (fun t p h => State.storePart_wf p.1 p.2 h) _ _ w

theorem State.storeSparse_wf {s : State} (a n : Nat) (cs : List (Nat × Byte)) (w : Memory.wf s.mem = true) :
    Memory.wf (s.storeSparse a n cs).mem = true := by
  unfold State.storeSparse
  split
  · exact Memory.wf_memPut _ _ (Memory.wf_memClear _ _ (by simpa using w))
  · exact State.store_wf a _ w

theorem State.releaseIf_wf {s : State} (p : Nat → Bool) (w : Memory.wf s.mem = true) :
    Memory.wf (s.releaseIf p).mem = true := by
  unfold State.releaseIf
  refine foldl_keeps (fun t : State => Memory.wf t.mem = true) _ (fun t x h => ?_) _ _ w
  split
  · exact h
  · exact State.storePart_wf x.1 x.2 h

theorem State.storeOff_wf {s : State} (o : Nat) (bs : List Byte) (w : Memory.wf s.mem = true) :
    Memory.wf (s.storeOff o bs).mem = true := by
  unfold State.storeOff
  split
  · exact w
  · exact foldl_keeps (fun r : State × List Byte => Memory.wf r.1.mem = true) _
      (fun r g h => State.store_wf g.1 _ h) _ _ w

theorem State.zeroOff_wf {s : State} (o n : Nat) (w : Memory.wf s.mem = true) : Memory.wf (s.zeroOff o n).mem = true := by
  unfold State.zeroOff
  split
  · exact w
  · exact foldl_keeps (fun t : State => Memory.wf t.mem = true) _ (fun t g h => State.storeSparse_wf g.1 g.2 [] h) _ _ w

@[simp] theorem State.loadOff_mem (s : State) (o n : Nat) : (s.loadOff o n).1.mem = s.mem := by
  unfold State.loadOff
  split
  · rfl
  · exact foldl_keeps (fun r : State × Option (List Byte) => r.1.mem = s.mem) _
      (fun r g h => by simpa using h) _ _ rfl

/-! ## Restarts, resets and moves -/

theorem State.restart_wf {s : State} (w : Memory.wf s.mem = true) : Memory.wf s.restart.mem = true := mwf_filter _ w

theorem State.powerOff_wf {s : State} (w : Memory.wf s.mem = true) : Memory.wf s.powerOff.mem = true := mwf_filter _ w

theorem State.zeroHbm_wf {s : State} (w : Memory.wf s.mem = true) : Memory.wf s.zeroHbm.mem = true := mwf_filter _ w

theorem State.movePool_wf {s : State} (c d : Nat) (w : Memory.wf s.mem = true) :
    Memory.wf (s.movePool c d).mem = true := Memory.wf_memPut _ _ (Memory.wf_memClear _ _ w)

theorem State.reset_wf : Memory.wf State.reset.mem = true := rfl

end Sys2Proof.Machine
end

