-- ==== Sys2Proof/Laws/Ops.lean ====
section
/-! SUPPORT. The shared operations: what each reads after each writes, and what a step, a started command and a core's row
come to. -/

namespace Sys2Proof.Machine

/-! ## Registers and fields (R9, R11, R12) -/

@[simp] theorem State.reg_setReg_same (s : State) (t : RegTag) (is : List Nat) (v : Word) :
    (s.setReg t is v).reg t is = v := mget_mset_same _ _ _ _

theorem State.reg_setReg_ne (s : State) {t t' : RegTag} {is is' : List Nat} (v : Word) (h : t'.off is' ≠ t.off is) :
    (s.setReg t is v).reg t' is' = s.reg t' is' := by
  simp only [State.reg, State.setReg_regs, mget_eq_mfind]
  by_cases hv : v = t.resetAt is
  · simp [mset, hv, mfind_merase_ne _ h]
  · simp [mset, hv, mfind_minsert_ne _ _ h]

theorem State.mfind_setReg_ne (s : State) (t : RegTag) (is : List Nat) (v : Word) {o : Nat} (h : o ≠ t.off is) :
    mfind (s.setReg t is v).regs o = mfind s.regs o := by
  by_cases hv : v = t.resetAt is
  · simp [mset, hv, mfind_merase_ne _ h]
  · simp [mset, hv, mfind_minsert_ne _ _ h]

theorem bits_lt (n hi lo : Nat) : bits n hi lo < 2 ^ (hi + 1 - lo) := Nat.mod_lt _ (Nat.two_pow_pos _)

/-- A number cut at a field: what lies above it, the field, what lies below it. -/
theorem cut_at_bits (n hi lo : Nat) (h : lo ≤ hi + 1) :
    n = n / 2 ^ (hi + 1) * 2 ^ (hi + 1) + bits n hi lo * 2 ^ lo + n % 2 ^ lo := by
  have h1 := Nat.div_add_mod n (2 ^ lo)
  have h2 := Nat.div_add_mod (n / 2 ^ lo) (2 ^ (hi + 1 - lo))
  have h3 : 2 ^ (hi + 1) = 2 ^ lo * 2 ^ (hi + 1 - lo) := by rw [← pow_add]; congr 1; omega
  rw [bits, Nat.shiftRight_eq_div_pow, h3, ← Nat.div_div_eq_div_mul]
  generalize n / 2 ^ lo = x at h1 h2 ⊢
  generalize x / 2 ^ (hi + 1 - lo) = y at h2 ⊢
  generalize x % 2 ^ (hi + 1 - lo) = z at h2 ⊢
  generalize n % 2 ^ lo = r at h1 ⊢
  rw [← h1, ← h2]
  ring

/-- A field put into a number reads back, cut to its width. -/
theorem bits_putBits (n hi lo v : Nat) (h : lo ≤ hi + 1) : bits (putBits n hi lo v) hi lo = v % 2 ^ (hi + 1 - lo) := by
  have hc := cut_at_bits n hi lo h
  have h3 : 2 ^ (hi + 1) = 2 ^ lo * 2 ^ (hi + 1 - lo) := by rw [← pow_add]; congr 1; omega
  have hv := Nat.mod_lt v (Nat.two_pow_pos (hi + 1 - lo))
  have hl := Nat.mod_lt n (Nat.two_pow_pos lo)
  have he : putBits n hi lo v =
      2 ^ lo * (2 ^ (hi + 1 - lo) * (n / 2 ^ (hi + 1)) + v % 2 ^ (hi + 1 - lo)) + n % 2 ^ lo := by
    unfold putBits
    have : n - bits n hi lo * 2 ^ lo = n / 2 ^ (hi + 1) * 2 ^ (hi + 1) + n % 2 ^ lo := by omega
    rw [this, h3]; ring
  rw [he, bits, Nat.shiftRight_eq_div_pow, Nat.mul_add_div (Nat.two_pow_pos lo), Nat.div_eq_of_lt hl, Nat.add_zero,
    Nat.mul_add_mod, Nat.mod_eq_of_lt hv]

/-! ## Units kept in sparse collections -/

@[simp] theorem State.queue_setQueue_same (s : State) (q : Nat) (v : Queue) : (s.setQueue q v).queue q = v :=
  mget_mset_same _ _ _ _
theorem State.queue_setQueue_ne (s : State) {q x : Nat} (v : Queue) (h : x ≠ q) : (s.setQueue q v).queue x = s.queue x :=
  mget_mset_ne _ _ _ h
@[simp] theorem State.core_setCore_same (s : State) (c : Nat) (k : Core) : (s.setCore c k).core c = k := mget_mset_same _ _ _ _
theorem State.core_setCore_ne (s : State) {c x : Nat} (k : Core) (h : x ≠ c) : (s.setCore c k).core x = s.core x :=
  mget_mset_ne _ _ _ h
@[simp] theorem State.pc_setPc_same (s : State) (p : Nat) (v : Pc) : (s.setPc p v).pc p = v := mget_mset_same _ _ _ _
theorem State.pc_setPc_ne (s : State) {p x : Nat} (v : Pc) (h : x ≠ p) : (s.setPc p v).pc x = s.pc x := mget_mset_ne _ _ _ h
@[simp] theorem State.link_setLink_same (s : State) (n : Nat) (v : Link) : (s.setLink n v).link n = v := mget_mset_same _ _ _ _
theorem State.link_setLink_ne (s : State) {n x : Nat} (v : Link) (h : x ≠ n) : (s.setLink n v).link x = s.link x :=
  mget_mset_ne _ _ _ h
@[simp] theorem State.ctx_setCtx_same (s : State) (x : Nat) (v : Ctx) : (s.setCtx x v).ctx x = v := mget_mset_same _ _ _ _
theorem State.ctx_setCtx_ne (s : State) {x y : Nat} (v : Ctx) (h : y ≠ x) : (s.setCtx x v).ctx y = s.ctx y :=
  mget_mset_ne _ _ _ h
@[simp] theorem State.snap_setSnap_same (s : State) (j : Nat) (v : SnapJob) : (s.setSnap j v).snap j = v :=
  mget_mset_same _ _ _ _
theorem State.snap_setSnap_ne (s : State) {j x : Nat} (v : SnapJob) (h : x ≠ j) : (s.setSnap j v).snap x = s.snap x :=
  mget_mset_ne _ _ _ h
@[simp] theorem State.region_setRegion_same (s : State) (r : Nat) (v : Region) : (s.setRegion r v).region r = v :=
  mget_mset_same _ _ _ _
theorem State.region_setRegion_ne (s : State) {r x : Nat} (v : Region) (h : x ≠ r) :
    (s.setRegion r v).region x = s.region x := mget_mset_ne _ _ _ h
@[simp] theorem State.job_setJob_same (s : State) (j : Nat) (b : JobSlot) : (s.setJob j b).job j = some b :=
  mfind_minsert_same _ _ _
theorem State.job_setJob_ne (s : State) {j x : Nat} (b : JobSlot) (h : x ≠ j) : (s.setJob j b).job x = s.job x :=
  mfind_minsert_ne _ _ h
@[simp] theorem State.tally_setTally_same (s : State) (l k t v : Nat) : (s.setTally l k t v).tally l k t = v :=
  mget_mset_same _ _ _ _

/-- A tally of another core or number is left alone. -/
theorem State.tally_setTally_ne (s : State) {l k t l' k' t' : Nat} (v : Nat) (hk : k < 16) (ht : t < 256) (hk' : k' < 16)
    (ht' : t' < 256) (h : (l', k', t') ≠ (l, k, t)) : (s.setTally l k t v).tally l' k' t' = s.tally l' k' t' := by
  refine mget_mset_ne _ _ _ fun e => h ?_
  have : l' = l ∧ k' = k ∧ t' = t := by omega
  simp [this.1, this.2.1, this.2.2]

/-! ## A core's registers (R111) -/

/-- What a row of a core comes to when it is about to execute the word (R116, R117). -/
theorem coreExec_of_ready {op : CoreOp} {c : Nat} {w : W32} {s : State} (f : State → Core → State × Step1)
    (h1 : (s.core c).phase = .running) (h2 : s.fetchable (s.core c) = true) (h3 : s.scan (s.core c).pc 4 = (s, true))
    (h4 : selectOp w = some op) (h5 : op.isControl = true → (s.core c).atBodyEnd = false)
    (h6 : op.needsVstart0 = true → (s.core c).csrs.vstart = 0) :
    coreExec op c w s f = (f s (s.core c)).1.applyStep c (f s (s.core c)).2 := by
  have h5' : (op.isControl && (s.core c).atBodyEnd) = false := by
    cases ho : op.isControl with
    | true => simp [h5 ho]
    | false => rfl
  have h6' : ¬ (op.needsVstart0 = true ∧ (s.core c).csrs.vstart ≠ 0) := fun h => h.2 (h6 h.1)
  simp only [coreExec, h1, h2, h3, h4]
  simp [h5']
  intro ho hv
  exact absurd (h6 ho) hv

/-- A row of a core that runs no unit leaves the state as it is (log entry 6). -/
theorem coreExec_of_not_running {op : CoreOp} {c : Nat} {w : W32} {s : State} (f : State → Core → State × Step1)
    (h : (s.core c).phase ≠ .running) : coreExec op c w s f = s := by simp [coreExec, h]

/-! ## Started commands (R78, R86) -/

/-- What a started command's row comes to. -/
theorem State.runCmd_of_ready {s : State} {op q : Nat} {seq : W32} {c : Started} (f : State → Started → State)
    (h : s.findStarted q seq = some c) (ho : c.opcode.toNat = op) (hw : c.wait = .ready) :
    s.runCmd op q seq f = f s c := by simp [State.runCmd, h, ho, hw]

/-- A row of a command that is not started leaves the state as it is (log entry 6). -/
theorem State.runCmd_of_none {s : State} {op q : Nat} {seq : W32} (f : State → Started → State)
    (h : s.findStarted q seq = none) : s.runCmd op q seq f = s := by simp [State.runCmd, h]

/-- What a started job command's row comes to when its job is open. -/
theorem State.runJobCmd_of_ready {s : State} {op q : Nat} {seq : W32} {c : Started} {j : Nat} {b : JobSlot}
    (f : State → Started → Nat → JobSlot → State) (h : s.findStarted q seq = some c) (ho : c.opcode.toNat = op)
    (hw : c.wait = .ready) (hj : s.jobStatus c.tag c.epoch = 0) (hb : s.findJob c.tag c.epoch = some (j, b)) :
    s.runJobCmd op q seq f = f s c j b := by
  rw [State.runJobCmd, State.runCmd_of_ready _ h ho hw, hj, hb]; rfl

/-! ## Grid sums (R199 to R201) -/

/-- The element that units leave is that of adding them one after another. -/
theorem addUnits_fst (anchor : Int) (e : Elem) (us : List (List Prod)) :
    (addUnits anchor e us).1 = us.foldl (addUnit anchor) e := by
  have h : ∀ (us : List (List Prod)) (r : Elem × Bool),
      (us.foldl (fun r u =>
        let e1 := addUnit anchor r.1 u
        (e1, r.2 || (r.1.special ≠ 3 && e1.special = 3 && !(u.any Prod.nanSource)))) r).1 = us.foldl (addUnit anchor) r.1 := by
    intro us
    induction us with
    | nil => intro r; rfl
    | cons u us ih => intro r; exact ih _
  exact h us (e, false)

/-- The element of products is that of adding their units one after another. -/
theorem addGrid_fst (anchor : Int) (e : Elem) (ps : List Prod) :
    (addGrid anchor e ps).1 = (groupUnits ps).foldl (addUnit anchor) e := addUnits_fst anchor e _

end Sys2Proof.Machine
end

