-- ==== Sys2Proof/Tests/Slice0.lean ====
section
/-! SUPPORT. Own tests: the checks of WellFormed refuse ill-formed commands; small results taken from the manual's examples;
and, for each statement with premises, a concrete state and operands that meet them. A theorem `witness_X` applies the
statement `Obligations.X` to those operands and discharges every premise by evaluation, clause by clause; it draws nothing
else from the statement. -/

open Sys2Proof Sys2Proof.Machine Sys2Proof.Claims

namespace Sys2Proof.Tests

set_option Elab.async false

/-! ## Small states -/

/-- A node with power and its reference clock, 2 s after its start. -/
def wNode : State := { State.reset with
  package := { Package.zero with power := true, refclk := true }, clock := { State.reset.clock with now := 2000000000 } }

/-- A pointer to this node. -/
def wHere (o : Nat) : Nat := 0x1FFF * 2 ^ 51 + o

/-- Parameters packed as R85 says. -/
def wParams (op : Nat) (args : List Nat) : List Byte :=
  match cmdSpec op with
  | some ⟨some ns, _⟩ => ((packFields 0 ns).1.zip args).foldl (fun b x => splice b x.1.1 (leBytes x.1.2 x.2)) (List.replicate 32 0)
  | _ => List.replicate 32 0

/-- A started command of queue 0, from master 0. -/
def wStarted (op : Nat) (args : List Nat) (tag : W16 := 0) : Started :=
  { q := 0, seq := 0, opcode := BitVec.ofNat 16 op, flags := 0, tag := tag, epoch := 0, params := wParams op args, block := 0
    master := 0, wait := .ready }

/-- The node with one started command. -/
def wCmd (op : Nat) (args : List Nat) : State := { wNode with started := [wStarted op args] }

/-- Logical clusters 0 and 1 on physical clusters 0 and 1. -/
def wPlacement : Placement :=
  { mapVersion := 0, place := [(0, ⟨0, List.range 16, some 16⟩), (1, ⟨1, List.range 16, some 16⟩)]
    serve := [(0, ⟨0, List.range 16, some 16⟩), (1, ⟨1, List.range 16, some 16⟩)] }

/-- A job of logical clusters 0 and 1. -/
def wJob : JobSlot :=
  { tag := 1, epoch := 0, first := 0, count := 2, ordered := false, teardown := false, step := 0, varyCur := 0, varyLast := 0
    ran := false, run := none, routes := none, tree := none, confluence := [] }

/-- The node with that job open in slot 0. -/
def wOpen (b : JobSlot := wJob) : State := { wNode with jobs := [(0, b)], placement := some wPlacement }

/-- The node with the job open and one started command of it. -/
def wJobCmd (op : Nat) (args : List Nat) (b : JobSlot := wJob) : State := { wOpen b with started := [wStarted op args 1] }

/-- A STORE packet of 8 bytes. -/
def wPacket : Packet :=
  { op := 2, flags := 3, dstNode := 5, srcNode := 6, dstSpan := 0, srcSpan := 0, tag := 1, epoch := 0, dstCtx := 0, seq := 1
    arg := 4096, payload := [1, 2, 3, 4, 5, 6, 7, 8] }

/-- Region 0 in the rate loop at a setpoint, with its supply at 750 mV. -/
def wRate (set : Nat) : State :=
  ((wNode.setF .telRgSet [0] 0 0 0).setF .telRgSet [0] 23 12 set).setF .telRgStatus [0] 47 36 750

theorem calmOf (s : State) (h : s.started.all (fun c => match c.wait with
    | .drain _ _ | .selfDrain _ => false
    | _ => true) = true) (hd : (s.queue 0).due = none) : calm s := by
  refine ⟨fun c hc => ?_, hd⟩
  have := List.all_eq_true.mp h c hc
  constructor
  · intro t r hw; simp [hw] at this
  · intro r hw; simp [hw] at this

/-! ## Witnesses -/

theorem witness_StepRunsFrontCommand : Obligations.StepRunsFrontCommand → True := fun h => by
  have := (h { State.reset with pending := [.powerOn] } .powerOn [] rfl).1 rfl
  have := (h { State.reset with pending := [.queue0Enable 0 0] } (.queue0Enable 0 0) [] rfl).2 rfl
  trivial

theorem witness_IdleStepIsReferenceEdge : Obligations.IdleStepIsReferenceEdge → True := fun h => by
  have := h.1 wNode rfl rfl
  have := h.2.1 State.reset rfl rfl
  have := h.2.2 wNode rfl rfl rfl
  trivial

theorem witness_MemoryStaysCanonical : Obligations.MemoryStaysCanonical → True := fun h => by
  have := h wNode wNode.tick rfl rfl
  trivial

theorem witness_PacketsRoundTrip : Obligations.PacketsRoundTrip → True := fun h => by
  have := h.1 [wPacket] 200 (by decide) (by decide)
  have := h.2.1 [wPacket] wPacket 39 (by decide) (by decide) (by decide) (by decide)
  have := h.2.2 wPacket (by decide)
  trivial

theorem witness_RegionSupplyAndTaps : Obligations.RegionSupplyAndTaps → True := fun h => by
  have := (h.1 (wRate 1200) 0 1199).choose_spec.2.2.1 rfl
  have := (h.1 State.reset 83 0).choose_spec.2.2.2.1 rfl
  have := (h.2 State.reset 0 3 255).2 rfl
  trivial

theorem witness_OperatingPointAndPowerLimit : Obligations.OperatingPointAndPowerLimit → True := fun h => by
  have := h.1.1 State.reset 0 1 ⟨rfl, rfl⟩
  have := h.1.2.1 { State.reset with request := some 2 } 2 rfl rfl
  have := h.1.2.2.1 { State.reset with request := some 2, change := some 0 } 2 0 rfl rfl
  have := h.1.2.2.2 { State.reset with change := some 2 } 2 rfl
  have := h.2.1 State.reset 4001 (by decide)
  have := h.2.2.1 State.reset 4000 (by decide)
  have := h.2.2.2 State.reset 3879 (by decide)
  trivial

theorem witness_ThermalPolicyActs : Obligations.ThermalPolicyActs → True := fun h => by
  have := h.1 (wRate 1200) 0 761 (by decide) (by decide)
  have := h.2.1 (State.reset.setRegion 0 { State.reset.region 0 with thermal := some 850 }) 0 735 850 (by decide) rfl
  have := h.2.2.1 State.reset 0 840 (by decide) (by decide)
  have := h.2.2.2.2 State.reset 0 880 (.inl (by decide))
  have := h.2.2.2.2 { wNode with hold := [(0, 1000000000)] } 0 0 (by decide +kernel)
  trivial

theorem witness_ReplanLedgerAndPointCommands : Obligations.ReplanLedgerAndPointCommands → True := fun h => by
  have := h.2.2.2.1 (wCmd 0x0902 [wHere 0, 4]) 0 0 (wStarted 0x0902 [wHere 0, 4]) ⟨rfl, rfl, rfl⟩ rfl
  have := h.2.2.2.2 (wCmd 0x0A04 [2]) 0 0 (wStarted 0x0A04 [2]) ⟨rfl, rfl, rfl⟩
  trivial

theorem witness_RegisterWritesAndEventFlags : Obligations.RegisterWritesAndEventFlags → True := fun h => by
  have := h.1.1 State.reset 3 .telEvents [] 1 ⟨rfl, rfl⟩ rfl
  have := h.1.2.1 State.reset 3 1 8 1 rfl (by decide)
  have := h.1.2.2.1 { State.reset with flash := { Flash.factory with protection := { Protection.factory with enables := 0 } } } 0 0 8 1 rfl
  have := h.1.2.2.2 State.reset 0 .telRgSet [83] 1 ⟨rfl, rfl⟩ (by decide) (by decide) rfl rfl rfl (by decide)
  have := h.2 State.reset 3 .telEvents [] 1 1 ⟨rfl, rfl⟩ rfl
  trivial

/-- Queue 0 with rings of 64 slots, at 0 and at 1 MiB. -/
def wQueue (st : QState) : Queue := { Queue.zero with st := st, ring := 6, cring := 0x100006 }
def wQ (st : QState) : State := { wNode with queues := [(0, wQueue st)] }

theorem witness_DoorbellsAndReplies : Obligations.DoorbellsAndReplies → True := fun h => by
  have a := h.1.1 (wQ .disabled) 0 0 1 ⟨rfl, rfl⟩
  have := a.1 rfl
  have a := h.1.1 (wQ .active) 0 0 64 ⟨rfl, rfl⟩
  have := a.2.1 (by decide) (by decide)
  have a := h.1.1 (wQ .error) 0 0 65 ⟨rfl, rfl⟩
  have := a.2.2.1 rfl (by decide)
  have a := h.1.1 (wQ .paused) 0 0 65 ⟨rfl, rfl⟩
  have := a.2.2.2 (by decide) (by decide)
  have a := h.1.2 (wQ .active) 0 0 1 ⟨rfl, rfl⟩
  have := a.1 (by decide)
  have a := h.1.2 (wQ .active) 0 0 0 ⟨rfl, rfl⟩
  have := a.2.1 (by decide)
  have := a.2.2 (by decide) rfl (calmOf _ rfl rfl)
  have := h.2.1 { wCmd 0x0106 [] with queues := [(0, wQueue .active)] } 0 0 (wStarted 0x0106 []) ⟨rfl, rfl, rfl⟩
    (calmOf _ rfl rfl) rfl rfl rfl rfl rfl rfl rfl rfl rfl rfl
  have := h.2.2 { wNode with started := [{ wStarted 0x0106 [] with flags := 4 }] } 0 0 { wStarted 0x0106 [] with flags := 4 }
    ⟨rfl, rfl, rfl⟩ (calmOf _ rfl rfl) rfl
  trivial

theorem witness_QueueSetupAndCommands : Obligations.QueueSetupAndCommands → True := fun h => by
  have a := h.1.1 wNode 3 false 5 ⟨rfl, rfl⟩
  have := a.1 (by decide)
  have a := h.1.1 wNode 3 true 6 ⟨rfl, rfl⟩
  have := a.2 (by decide)
  have := (h.1.2 (wQ .disabled) 3 1 ⟨rfl, rfl⟩).1 rfl rfl rfl (by decide) (by decide)
  have := (h.1.2 (wQ .active) 3 0 ⟨rfl, rfl⟩).2.1 (by decide) rfl rfl rfl rfl (calmOf _ rfl rfl)
  have := (h.1.2 (wQ .active) 3 3 ⟨rfl, rfl⟩).2.2.1 (by decide) rfl rfl rfl rfl (calmOf _ rfl rfl)
  have := (h.1.2 { wQ .active with started := [wStarted 0x0106 []] } 3 0 ⟨rfl, rfl⟩).2.2.2 (by decide) rfl rfl
    ⟨wStarted 0x0106 [], by decide, rfl⟩ (calmOf _ rfl rfl)
  have := h.2.1 (wCmd 0x0106 []) 0 0 (wStarted 0x0106 []) ⟨rfl, rfl, rfl⟩
  have := h.2.2.1 (wCmd 0x0101 [4095, 0, 0, 0, 0, 6, 6]) 0 0 (wStarted 0x0101 [4095, 0, 0, 0, 0, 6, 6]) ⟨rfl, rfl, rfl⟩ rfl
  have := h.2.2.2.1 { wCmd 0x0103 [4095] with queues := [(4095, wQueue .active)] } 0 0 (wStarted 0x0103 [4095]) ⟨rfl, rfl, rfl⟩
    (by decide) (by decide) rfl
  have := h.2.2.2.2.1 { wCmd 0x0104 [1] with queues := [(1, wQueue .paused)] } 0 0 (wStarted 0x0104 [1]) ⟨rfl, rfl, rfl⟩
    (by decide) (by decide) rfl
  have := h.2.2.2.2.2.1 { wNode with queues := [(1, wQueue .active)], started := [{ wStarted 0x0105 [1] with flags := 4 }] } 0 0
    { wStarted 0x0105 [1] with flags := 4 } ⟨rfl, rfl, rfl⟩ (by decide) (by decide) (by decide) rfl (by decide)
    (calmOf _ rfl rfl) rfl (by decide)
  have := h.2.2.2.2.2.2.1 { wNode with queues := [(1, wQueue .active)], started := [{ wStarted 0x0102 [1] with flags := 4 }] } 0 0
    { wStarted 0x0102 [1] with flags := 4 } ⟨rfl, rfl, rfl⟩ (by decide) (by decide) (by decide) rfl (by decide)
    (calmOf _ rfl rfl) rfl (by decide)
  have := h.2.2.2.2.2.2.2.1 { wCmd 0x0103 [0] with queues := [(0, wQueue .active)] } 0 0 (wStarted 0x0103 [0]) ⟨rfl, rfl, rfl⟩
    rfl (by decide) rfl
  have := h.2.2.2.2.2.2.2.2.1 { wCmd 0x0105 [0] with queues := [(0, wQueue .active)] } 0 0 (wStarted 0x0105 [0]) (.qReset 0 0)
    0x0105 true (by decide) ⟨rfl, rfl, rfl⟩ (by decide) (by decide)
  have := h.2.2.2.2.2.2.2.2.2 (wCmd 0x0103 [7]) 0 0 (wStarted 0x0103 [7]) (.qPause 0 0) 0x0103 (by decide) ⟨rfl, rfl, rfl⟩
    (by decide) rfl
  trivial

/-- A slot with Q_NOP and SEQ 0. -/
def wSlot (seq : Nat) : List Byte := leBytes 2 0x0106 ++ leBytes 2 0 ++ leBytes 4 seq ++ List.replicate 56 0

theorem witness_StartChoosesQueue : Obligations.StartChoosesQueue → True := fun h => by
  have := h.1 { wNode with queues := [(0, wQueue .active), (1, { wQueue .active with ctrl := 0x30 })] } [0, 1] 0 rfl
  have := h.2.1 State.reset rfl
  have a := h.2.2.1 { wNode with queues := [(0, { wQueue .active with producer := 1 })], mem := memWrite [] 0 (wSlot 0) } 0 0 (wSlot 0) rfl rfl
  have := a rfl rfl rfl rfl rfl
  have := h.2.2.2.1 (wQ .active) 0 (wQueue .active) (wSlot 1) (by decide) rfl
  have a := h.2.2.2.2 (wQ .active) 0 (wQueue .active) (wSlot 0)
  have := a rfl rfl rfl rfl (by decide)
  trivial

theorem witness_JobBeginAndRefusals : Obligations.JobBeginAndRefusals → True := fun h => by
  have := h.1 { wNode with started := [wStarted 0x0301 [0, 640, 0] 1] } 0 0 (wStarted 0x0301 [0, 640, 0] 1) 0 ⟨rfl, rfl, rfl⟩ (by decide)
    (by decide) (by decide) rfl (by decide) (by decide +kernel) (by decide +kernel)
  have := h.2.1 (wCmd 0x0301 [0, 1, 0]) 0 0 (wStarted 0x0301 [0, 1, 0]) ⟨rfl, rfl, rfl⟩ rfl
  have := h.2.2.1 (wJobCmd 0x0301 [0, 1, 0]) 0 0 (wStarted 0x0301 [0, 1, 0] 1) ⟨rfl, rfl, rfl⟩ (by decide) (by decide)
  have := h.2.2.2.1 { wOpen with started := [wStarted 0x0301 [1, 2, 0] 2] } 0 0 (wStarted 0x0301 [1, 2, 0] 2) ⟨rfl, rfl, rfl⟩
    (by decide) (by decide) (by decide)
  have := h.2.2.2.2 { wNode with started := [wStarted 0x0301 [0, 1, 0] 1], flash := { Flash.factory with map := { UnitMap.empty with clusters := (List.range 9).map (fun p => (p, .disabled)) } } } 0 0 (wStarted 0x0301 [0, 1, 0] 1) 0 ⟨rfl, rfl, rfl⟩ (by decide) rfl rfl (by decide +kernel)
    (by decide +kernel)
  trivial

theorem witness_PlacementLoopChooses : Obligations.PlacementLoopChooses → True := fun h => by
  have := (h.1 UnitMap.empty 3 (by decide)).2 _ (Option.eq_some_of_isSome (by decide +kernel))
  have := h.2.1 UnitMap.empty (by decide +kernel)
  have := h.2.2.1 UnitMap.empty 3 159 rfl rfl (by decide +kernel) (by decide +kernel)
  have := h.2.2.2 UnitMap.empty { UnitMap.empty with version := 1 } rfl rfl
  trivial

/-- A table of one step and one cluster, without units (R95). -/
def wTable : List Byte :=
  leBytes 4 0x10000 ++ leBytes 6 0 ++ leBytes 2 1 ++ leBytes 4 1 ++ leBytes 8 64 ++ leBytes 8 72 ++ leBytes 40 0
def wTableSlot : TableSlot := readTable 0 0 72 wTable
def wRun (units : List UnitRec) : SchedRun :=
  { q := 0, seq := 0, slot := 0, first := 0, count := 1, rep := 1, timeout := 0, cur := 0, done := 0, fences := 0, stepStart := 0
    units := units, halts := [], ending := none, haltReq := false, upSent := false }
/-- A command of the job, whose table is loaded in slot 0. -/
def wSched (op : Nat) (args : List Nat) (b : JobSlot := wJob) : State := { wJobCmd op args b with tables := [(0, wTableSlot)] }
def wRunning (units : List UnitRec := []) : JobSlot := { wJob with ran := true, run := some (wRun units) }

theorem witness_ScheduleCommands : Obligations.ScheduleCommands → True := fun h => by
  have := h.1 { wJobCmd 0x0303 [wHere 0, 72] with mem := memWrite [] 0 wTable } 0 0 (wStarted 0x0303 [wHere 0, 72] 1) 0 wJob wTable 0
    ⟨⟨rfl, rfl, rfl⟩, rfl, rfl, rfl⟩ (by decide) rfl rfl rfl rfl (by decide) rfl (by decide)
  have := h.2.1 { wJobCmd 0x0303 [wHere 0, 64] with mem := memWrite [] 0 wTable } 0 0 (wStarted 0x0303 [wHere 0, 64] 1) 0 wJob
    (wTable.take 64) 1 ⟨⟨rfl, rfl, rfl⟩, rfl, rfl, rfl⟩ (by decide) rfl rfl rfl rfl
  have := (h.2.2.1 (wSched 0x0304 [16]) 0 0 (wStarted 0x0304 [16] 1) 0 wJob ⟨⟨rfl, rfl, rfl⟩, rfl, rfl, rfl⟩).1 (by decide)
  have := (h.2.2.1 (wSched 0x0304 [15]) 0 0 (wStarted 0x0304 [15] 1) 0 wJob ⟨⟨rfl, rfl, rfl⟩, rfl, rfl, rfl⟩).2.1 (by decide)
    (fun t ht => by cases ht)
  have := (h.2.2.1 (wSched 0x0304 [0] wRunning) 0 0 (wStarted 0x0304 [0] 1) 0 wRunning
    ⟨⟨rfl, rfl, rfl⟩, rfl, rfl, rfl⟩).2.2.1 wTableSlot (by decide) rfl rfl ⟨wRun [], rfl, rfl⟩
  have := (h.2.2.1 (wSched 0x0304 [0]) 0 0 (wStarted 0x0304 [0] 1) 0 wJob ⟨⟨rfl, rfl, rfl⟩, rfl, rfl, rfl⟩).2.2.2 wTableSlot
    (by decide) rfl rfl (fun r hr => by cases hr)
  have := (h.2.2.2.1 (wSched 0x0305 [0, 1, 1, 1, 0]) 0 0 (wStarted 0x0305 [0, 1, 1, 1, 0] 1) 0 wJob wTableSlot
    ⟨⟨rfl, rfl, rfl⟩, rfl, rfl, rfl⟩ rfl rfl).1 (by decide)
  have := (h.2.2.2.1 (wSched 0x0305 [0, 0, 1, 1, 0] wRunning) 0 0 (wStarted 0x0305 [0, 0, 1, 1, 0] 1) 0 wRunning wTableSlot
    ⟨⟨rfl, rfl, rfl⟩, rfl, rfl, rfl⟩ rfl rfl).2.1 (by decide) (by decide)
  have := (h.2.2.2.1 (wSched 0x0305 [0, 1, 0, 1, 0]) 0 0 (wStarted 0x0305 [0, 1, 0, 1, 0] 1) 0 wJob wTableSlot
    ⟨⟨rfl, rfl, rfl⟩, rfl, rfl, rfl⟩ rfl rfl).2.2.1 (by decide) rfl rfl
  have := (h.2.2.2.1 (wSched 0x0305 [0, 0, 1, 1, 0]) 0 0 (wStarted 0x0305 [0, 0, 1, 1, 0] 1) 0 wJob wTableSlot
    ⟨⟨rfl, rfl, rfl⟩, rfl, rfl, rfl⟩ rfl rfl).2.2.2 (by decide) rfl (by decide)
  have := (h.2.2.2.2.1 (wSched 0x0306 []) 0 0 (wStarted 0x0306 [] 1) 0 wJob ⟨⟨rfl, rfl, rfl⟩, rfl, rfl, rfl⟩).1 rfl
  have := (h.2.2.2.2.1 (wSched 0x0306 [] wRunning) 0 0 (wStarted 0x0306 [] 1) 0 wRunning ⟨⟨rfl, rfl, rfl⟩, rfl, rfl, rfl⟩).2 _ rfl
  have := h.2.2.2.2.2 (wSched 0x0307 [1]) 0 0 (wStarted 0x0307 [1] 1) 0 wJob ⟨⟨rfl, rfl, rfl⟩, rfl, rfl, rfl⟩
  trivial

/-- A unit of logical core 0 of cluster 0, waiting on tally 7 to reach 5, with one signal to this node. -/
def wUnit (st : UnitSt) : UnitRec :=
  { lcluster := 0, lcore := 0, unit := 3, entry := 0, param := 0, varies := false, waits := [0x07000005]
    sigs := [BitVec.ofNat 48 (0x1FFF * 2 ^ 35 + 1)], st := st, journal := [], unreplayable := false, checks := 0, contribs := [] }

theorem witness_UnitsIssueAndCommit : Obligations.UnitsIssueAndCommit → True := fun h => by
  have a := h.1 { wOpen (wRunning [wUnit .waiting]) with tallies := [(7, 5)] } 0 0 0 0 0 (wRunning [wUnit .waiting])
    (wRun [wUnit .waiting]) (wUnit .waiting) rfl rfl rfl rfl rfl rfl rfl rfl (fun x y hx => absurd hx (Nat.not_lt_zero x)) rfl rfl rfl
    rfl rfl rfl
  have := a.1 (fun w hw => by cases List.mem_singleton.mp hw; exact Nat.le_of_ble_eq_true rfl)
  have a := h.1 { wOpen (wRunning [wUnit .waiting]) with tallies := [(7, 4)] } 0 0 0 0 0 (wRunning [wUnit .waiting])
    (wRun [wUnit .waiting]) (wUnit .waiting) rfl rfl rfl rfl rfl rfl rfl rfl (fun x y hx => absurd hx (Nat.not_lt_zero x)) rfl rfl rfl
    rfl rfl rfl
  have := a.2 ⟨_, List.mem_singleton.mpr rfl, Nat.le_of_ble_eq_true rfl⟩
  have := h.2 { wOpen (wRunning [wUnit (.issued 0)]) with
    tables := [(0, wTableSlot)], cores := [(0, { Core.zero with phase := .ended, unit := some ⟨0, 0⟩ })] } 0 ⟨0, 0⟩
    (wRunning [wUnit (.issued 0)]) (wRun [wUnit (.issued 0)]) wTableSlot (wUnit (.issued 0)) rfl rfl rfl rfl rfl rfl rfl rfl
    (fun x hx => by cases List.mem_singleton.mp hx; exact ⟨rfl, rfl⟩)
  trivial

theorem witness_FencesAndTimeouts : Obligations.FencesAndTimeouts → True := fun h => by
  let b : JobSlot := { wJob with run := some { wRun [] with count := 2 } }
  have := h.1 { wOpen b with tables := [(0, wTableSlot)] } 0 b { wRun [] with count := 2 } wTableSlot rfl rfl rfl rfl rfl rfl rfl
    (by decide) rfl rfl (by intro d hd; cases hd)
  have := h.2.1 { wOpen wRunning with tables := [(0, wTableSlot)] } 0 wRunning (wRun []) wTableSlot rfl rfl rfl rfl rfl rfl rfl rfl
    rfl rfl (by intro d hd; cases hd) rfl
  have := h.2.2.1 { wOpen wRunning with tables := [(0, wTableSlot)], mem := memWrite [] 0 wTable } 0 wRunning (wRun []) wTableSlot
    rfl rfl rfl (by intro l h1 h2; exact ⟨[], by obtain rfl : l = 0 := Nat.lt_one_iff.mp h2; rfl⟩)
  let r : SchedRun := { wRun [wUnit (.issued 0)] with timeout := 2000000000 }
  let c : JobSlot := { wJob with run := some r }
  have := h.2.2.2.1 (wOpen c) 0 c r rfl rfl rfl (by decide) (by decide +kernel) ⟨_, List.mem_singleton.mpr rfl, rfl⟩
  have := h.2.2.2.2 (wOpen wRunning) 0 wRunning (wRun []) rfl rfl (.inl rfl)
  trivial

/-- The word with these fields in format R (R116). -/
def wR (maj d a b f : Nat) : W32 := BitVec.ofNat 32 (maj * 2 ^ 26 + d * 2 ^ 21 + a * 2 ^ 16 + b * 2 ^ 11 + f)
/-- The word with these fields in format I. -/
def wI (maj d a i : Nat) : W32 := BitVec.ofNat 32 (maj * 2 ^ 26 + d * 2 ^ 21 + a * 2 ^ 16 + i)

/-- Core 0 running the unit of job slot 0, with G1 = 6, G2 = 2, G3 = −2^63, G4 = −1, G5 = a pointer
to this node, G6 = a near address, G7 = a pointer to node 5. -/
def wCore : Core :=
  { Core.zero with
    phase := .running, unit := some ⟨0, 0⟩, ident := [3, 0, 0, 0, 256]
    g := [(1, 6), (2, 2), (3, 0x8000000000000000), (4, 0xFFFFFFFFFFFFFFFF), (5, 0xFFF8000000001000), (6, 8),
      (7, 5 * 2 ^ 51 + 4096), (8, 0xFFF8000000001001), (9, 5 * 2 ^ 48)] }
/-- The node whose core 0 is that core. -/
def wAt (k : Core := wCore) (us : List UnitRec := [wUnit (.issued 0)]) : State := { wOpen (wRunning us) with cores := [(0, k)] }

theorem wIs {op : CoreOp} {w : W32} (h : selectOp w = some op) : atInstr wAt op 0 w :=
  ⟨rfl, rfl, rfl, h, fun _ => rfl, fun _ => rfl⟩

theorem witness_IntegerResults : Obligations.IntegerResults → True := fun ⟨⟨h1, h2, h3, h4⟩, h5, h6, h7, h8⟩ => by
  have := h1 wAt 0 (wR 1 7 1 2 0) 8 (wIs rfl) (by decide) (fun h => absurd h (by decide))
  have := h2 wAt 0 (wR 1 7 1 2 0x043) 3 (wIs rfl) (by decide) rfl
  have := (h3 wCore 1 2 5).2.2.1 (by decide)
  have := (h3 wCore 1 2 5).2.2.2.1 (by decide)
  have := (h4 wCore 1 2 5).2.2.1 (by decide)
  have := (h4 wCore 1 2 5).2.2.2.1 (by decide)
  obtain ⟨_, _, a1, _⟩ := h5 wAt 0 (wR 1 7 1 0 0x015) (wIs rfl) (by decide) (by decide)
  have := a1 rfl
  obtain ⟨_, _, _, a2, _⟩ := h5 wAt 0 (wR 1 7 3 4 0x014) (wIs rfl) (by decide) (by decide)
  have := a2 rfl (by decide) rfl rfl
  obtain ⟨_, _, _, _, a3, _⟩ := h5 wAt 0 (wR 1 7 3 4 0x016) (wIs rfl) (by decide) (by decide)
  have := a3 rfl (by decide) rfl rfl
  obtain ⟨_, _, _, _, _, a4, _⟩ := h5 wAt 0 (wR 1 7 3 2 0x014) (wIs rfl) (by decide) (by decide)
  have := a4 rfl (by decide) (fun h => absurd h.2 (by decide))
  obtain ⟨_, _, _, _, _, _, a5, _⟩ := h5 wAt 0 (wR 1 7 3 2 0x016) (wIs rfl) (by decide) (by decide)
  have := a5 rfl (by decide)
  obtain ⟨_, _, _, _, _, _, _, a6, _⟩ := h5 wAt 0 (wR 1 7 3 2 0x015) (wIs rfl) (by decide) (by decide)
  have := a6 rfl (by decide)
  obtain ⟨_, _, _, _, _, _, _, _, a7⟩ := h5 wAt 0 (wR 1 7 3 2 0x017) (wIs rfl) (by decide) (by decide)
  have := a7 rfl (by decide)
  have := h6 wAt 0 (wI 2 7 1 0xFFFF) _ _ _ (List.mem_cons_self ..) (wIs rfl)
  have := h7 wAt 0 (wI 6 7 1 0x0105) _ (wIs rfl) (List.mem_cons_of_mem _ (List.mem_cons_self ..)) rfl
  have := h8 (2 ^ 36 - 1) (by decide) (by decide)
  trivial

theorem witness_PredicatesAndScalarFp : Obligations.PredicatesAndScalarFp → True := fun ⟨h1, h2, h3, h4, h5, h6⟩ => by
  have := h1 wAt 0 (wR 9 7 1 2 0) _ (wIs rfl) (by decide) (List.mem_cons_self ..)
  have := h2 wAt 0 (wR 9 7 1 2 0x010) (wIs rfl) (by decide) (by decide) (by decide)
  have := h3 wAt 0 (wR 10 7 1 2 0) _ (wIs rfl) (by decide) (by decide) (by decide) (List.mem_cons_self ..)
  have := h4 wAt 0 (wR 0x26 7 1 2 0x00A) _ _ (wIs rfl) (by decide) rfl
  have := h5 wAt 0 (wR 0x26 7 1 2 0x014) _ _ (wIs rfl) rfl
  have := h6 0 0x7FC00001 0 0 (by decide) (by decide)
  trivial

/-- A core with one loop level of body 4096 to 4100, at 4096. -/
def wLooping (c : Word) : Core := { wCore with pc := 4096, csrs := { Csrs.zero with loops := [(c, 4096, 4100)] } }

theorem witness_ControlFlowAndLoops : Obligations.ControlFlowAndLoops → True := fun ⟨h1, h2, h3, h4, h5, h6⟩ => by
  have := h1 wAt 0 (wI 0x20 1 2 16) _ (wIs rfl) (.inl (List.mem_cons_self ..))
  have := h1 wAt 0 (wI 0x20 0 2 (6 * 2 ^ 13 + 16)) _ (wIs rfl) (.inr ⟨rfl, by decide, List.mem_cons_self ..⟩)
  have := h2 wAt 0 (wI 0x21 7 0 16) (wIs rfl)
  have := h3 wAt 0 (wI 0x22 7 1 16) (wIs rfl)
  have a := h4 wAt 0 (wI 0x23 1 0 4) (wIs rfl) rfl (by decide) (fun l hl => by cases hl)
  have := a.1 (by decide) (by decide)
  have := (h4 wAt 0 (wI 0x23 10 0 4) (wIs rfl) rfl (by decide) (fun l hl => by cases hl)).2.1 rfl
  have := (h4 (wAt { wCore with csrs := { Csrs.zero with loops := [(2, 0, 64), (2, 0, 32)] } }) 0 (wI 0x23 1 0 4)
    ⟨rfl, rfl, rfl, rfl, fun _ => rfl, fun _ => rfl⟩ rfl (by decide) (fun l hl => by cases hl; decide)).2.2 (by decide) (by decide)
  have := (h5 (wLooping 2) 4100 (by decide)).2.1 _ rfl (by decide)
  have := (h5 (wLooping 2) 4104 (by decide)).2.2 [] _ rfl (.inr (by decide))
  have := (h6 (wLooping 2) 4096 5000 (by decide)).1 (fun l hl => by cases hl; decide)
  have := (h6 (wLooping 2) 4100 5000 (by decide)).2.1 [] 2 4096 rfl (by decide) (by decide)
  have := (h6 (wLooping 1) 4100 5000 (by decide)).2.2 [] 1 4096 rfl (by decide)
  trivial

theorem witness_SystemInstructionsAndFaults : Obligations.SystemInstructionsAndFaults → True :=
    fun ⟨⟨h1, h2, h3, h4, h5, _, h7, h8, h9⟩, g1, g2, g3, g4⟩ => by
  have := h1 wAt 0 (wI 0x24 7 0 0) _ (wIs rfl) rfl
  have := h2 wAt 0 (wI 0x24 0 1 0x1010) _ (wIs rfl) rfl
  have := h3 wAt 0 (wI 0x24 7 1 0x2010) _ _ (wIs rfl) rfl rfl
  have := h4 wAt 0 (wI 0x24 7 1 0x3010) _ _ (wIs rfl) rfl rfl
  have := h5 wAt 0 (wI 0x24 0 1 0x1FFF) _ _ (List.mem_cons_self ..) (wIs rfl) (by decide)
  have := h7 wAt 0 (wI 0x24 0 0 0x4000) (wIs rfl) rfl rfl rfl
  have := h8 wAt 0 (wI 0x24 0 0 0x5000) (wIs rfl)
  have := h9 wAt 0 (wI 0x24 0 0 0x6007) (wIs rfl)
  have := g1 (wAt wCore [wUnit (.issued 0), wUnit (.issued 1)]) 0 8 7 0 ⟨0, 0⟩ _ _ _ (by decide) (by decide) rfl rfl rfl rfl rfl
    ⟨1, _, by decide, rfl, rfl⟩ (by decide) (by decide)
  have := g2 wAt 0 0 .addi (fun s k => (s, .fault k 1 0 0)) rfl rfl rfl (by decide)
  have := g3 (wAt { wCore with pc := 2 ^ 50 }) 0 0 .addi (fun s k => (s, .fault k 1 0 0)) rfl rfl
  have := g4 wAt 0 0 rfl rfl rfl rfl
  trivial

/-- The same node with a table loaded and a signal in G1. -/
def wSig (x : Nat) (q : List Signal) : State :=
  { wAt { wCore with g := [(1, BitVec.ofNat 64 x)], sigq := q } with tables := [(0, wTableSlot)] }

theorem witness_Tallies : Obligations.Tallies → True := fun ⟨⟨h1, h2, h3⟩, h4, h5, h6, h7, h8⟩ => by
  have := h1 (wJobCmd 0x0308 [2 ^ 63 + 0x1FFF * 2 ^ 35, 5]) 0 0 (wStarted 0x0308 [2 ^ 63 + 0x1FFF * 2 ^ 35, 5] 1) 0 wJob
    ⟨⟨rfl, rfl, rfl⟩, rfl, rfl, rfl⟩ rfl
  have := h2 (wJobCmd 0x0309 [2 ^ 63 + 0x1FFF * 2 ^ 35]) 0 0 (wStarted 0x0309 [2 ^ 63 + 0x1FFF * 2 ^ 35] 1) 0 wJob
    ⟨⟨rfl, rfl, rfl⟩, rfl, rfl, rfl⟩ rfl
  have := h3 (wJobCmd 0x0308 [0, 5]) 0 0 (wStarted 0x0308 [0, 5] 1) 0 wJob _ 0x0308 (List.mem_cons_self ..)
    ⟨⟨rfl, rfl, rfl⟩, rfl, rfl, rfl⟩ (.inl rfl)
  have a := h4 { wAt { wCore with phase := .waitTally 7 2 0, ident := [0, 0, 0, 0, 256] } with tallies := [(7, 1)] } 0 0 7 1 (by decide)
    (by decide) (by decide)
  have := a.2.1 0 0 8 (by decide) (by decide) (by decide)
  have := a.2.2.2.1 (by decide)
  have := a.2.2.2.2.1 0 2 0 rfl rfl rfl
  have := (h4 { wAt with tallies := [(7, 1)] } 0 0 7 0xFFFFFFFF (by decide) (by decide) (by decide)).2.2.1 (by decide)
  have := h5 wAt 0 (wI 0x25 1 0 0) (wIs rfl) rfl
  have := (h6 (wAt { wCore with phase := .waitTally 7 2 0, csrs := { Csrs.zero with twaitLimit := 5 } }) 0 7 2 0 rfl).1 (by decide)
    (by decide)
  have := (h6 (wAt { wCore with phase := .waitTally 7 2 0 }) 0 7 2 0 rfl).2 (.inl rfl)
  have := h7 wAt 0 (wI 0x25 7 0 0x0400) (wIs rfl) rfl
  have a (x : Nat) (q : List Signal) (h : atInstr (wSig x q) .tsig 0 (wI 0x25 1 0 0x0800)) :=
    h8 (wSig x q) 0 (wI 0x25 1 0 0x0800) ⟨0, 0⟩ _ _ _ h rfl rfl rfl
  have := (a 0 [] ⟨rfl, rfl, rfl, rfl, fun _ => rfl, fun _ => rfl⟩).1 (.inl rfl)
  have := (a (5 * 2 ^ 35 + 1) [] ⟨rfl, rfl, rfl, rfl, fun _ => rfl, fun _ => rfl⟩).2.1 (by decide) rfl rfl
  have := (a (0x1FFF * 2 ^ 35 + 1) (List.replicate 16 0) ⟨rfl, rfl, rfl, rfl, fun _ => rfl, fun _ => rfl⟩).2.2.1 (by decide) (.inl rfl) (by decide)
  have := (a (0x1FFF * 2 ^ 35 + 1) [] ⟨rfl, rfl, rfl, rfl, fun _ => rfl, fun _ => rfl⟩).2.2.2 (by decide) (.inl rfl) (by decide)
  trivial

/-- The same node with context 3 open to node 5, named by the CTX_MAP of the loaded table. -/
def wRemote (c : Ctx) : State :=
  { wAt with
    tables := [(0, { wTableSlot with ctxMap := 64 })], mem := memWrite [] 84 (leBytes 4 3), ctxs := [(3, c)] }
def wCtx : Ctx := { Ctx.zero with peerNode := 5, tag := 1, st := .open }

theorem witness_LoadsAndStores : Obligations.LoadsAndStores → True := fun ⟨h1, h2, h3, h4, h5, h6, h7⟩ => by
  have n : nearView wAt 0 8 (2 ^ 42 + 8) := .inl ⟨by decide, rfl⟩
  have := h1 wAt wAt 0 (wI 0x16 7 6 0) _ _ 8 true (by decide) (wIs rfl) n rfl rfl
  have := h2 wAt wAt 0 (wI 0x1B 7 6 0) _ _ (wIs rfl) n rfl rfl
  have := h3 wAt 0 (wI 0x1A 7 6 0) _ _ _ 8 _ (.inl ⟨rfl, by decide⟩) (wIs rfl) n rfl
  have := h3 wAt 0 (wI 0x1C 7 6 0) _ _ _ 4 _ (.inr ⟨rfl, rfl⟩) (wIs rfl) n rfl
  have := (h4 wAt 0 (wI 0x16 7 4 0) _ _ (wIs rfl) (List.mem_cons_self ..)).1 (by
    rintro ⟨a, h | h | h⟩
    · exact absurd h.1 (by decide)
    · exact absurd h.2.1 (by decide)
    · exact absurd h.2.1 (by decide))
  have := (h4 wAt 0 (wI 0x16 7 6 1) _ _ (wIs rfl) (List.mem_cons_self ..)).2 (2 ^ 42 + 9) 8 (.inl ⟨by decide, rfl⟩) (by decide) (by decide)
  have g (n : Nat) (rd wr : Bool) (hn : 4096 % n = 0) : globalHere wAt (wAt.core 0) 0xFFF8000000001000 n rd wr 4096 := by
    refine ⟨rfl, rfl, rfl, ?_, rfl, hn⟩
    cases rd <;> cases wr <;> rfl
  have := h5 wAt wAt 0 (wR 0x1D 7 5 0 3) _ _ 8 true (by decide) (wIs rfl) rfl (g 8 _ _ rfl) rfl
  have := h6 wAt 0 (wR 0x1D 0 5 1 11) _ 8 (by decide) (wIs rfl) rfl (g 8 _ _ rfl)
  have := (h7 (wRemote wCtx) 0 (wR 0x1D 7 7 0 3) 3 3 _ _ _ _ _ _ (.inl ⟨rfl, rfl⟩) rfl
    ⟨rfl, rfl, rfl, rfl, fun _ => rfl, fun _ => rfl⟩ rfl rfl rfl rfl rfl rfl).1 ⟨rfl, rfl⟩
  have := (h7 (wRemote { wCtx with st := .resolve }) 0 (wR 0x1D 0 7 1 11) 3 3 _ _ _ _ _ _ (.inr ⟨rfl, rfl⟩) rfl
    ⟨rfl, rfl, rfl, rfl, fun _ => rfl, fun _ => rfl⟩ rfl rfl rfl rfl rfl rfl).2 (.inl rfl)
  trivial

/-- The unit again, with one journaled addition of 6 that found 9. -/
def wAgain : State := wAt wCore [{ wUnit (.issued 0) with journal := [⟨0, 0xFFF8000000001000, 6, 9, none⟩] }]

theorem witness_Atomics : Obligations.Atomics → True := fun ⟨h1, h2, h3, h4, h5⟩ => by
  have g (n : Nat) (hn : 4096 % n = 0) : globalHere wAt (wAt.core 0) 0xFFF8000000001000 n true true 4096 := ⟨rfl, rfl, rfl, rfl, rfl, hn⟩
  have a (f : Nat) (i : Instr) (op : CoreOp) := h1 wAt wAt 0 (wR 0x1E 7 5 1 f) i op 4096
  obtain ⟨v, r, _, _, b⟩ := a 0 _ _ 4 _ (List.mem_cons_self ..) (wIs rfl) (by decide) (by decide) rfl (g 4 rfl) rfl rfl
  have := b.1 rfl
  obtain ⟨v, r, _, _, b⟩ := a 25 _ _ 8 _ (List.mem_cons_of_mem _ (List.mem_cons_self ..)) (wIs rfl) (by decide) (by decide) rfl (g 8 rfl)
    rfl rfl
  have := b.2.2.2.2.2.2.2.2.2.1 rfl
  obtain ⟨v, r, _, _, b⟩ := a 10 _ _ 4 _ (List.mem_cons_of_mem _ (List.mem_cons_of_mem _ (List.mem_cons_self ..))) (wIs rfl) (by decide)
    (by decide) rfl (g 4 rfl) rfl rfl
  have := b.2.2.2.2.2.2.2.2.2.2 rfl
  have := h2 wAt wAt 0 (wR 0x1E 8 5 2 27) 4096 _ (wIs rfl) rfl rfl rfl (g 16 rfl) rfl rfl
  have := h3 wAt 0 (wR 0x1E 8 5 2 32) _ _ (List.mem_cons_self ..) (wIs rfl) (.inl (by decide))
  have g (n : Nat) (hn : 4096 % n = 0) : globalHere wAgain (wAgain.core 0) 0xFFF8000000001000 n true true 4096 :=
    ⟨rfl, rfl, rfl, rfl, rfl, hn⟩
  have j := h4 wAgain wCore ⟨0, 0⟩ _ 0 0xFFF8000000001000 6 9 rfl
  have := j.1 _ rfl rfl
  have := (h4 wAgain { wCore with journalPos := 1 } ⟨0, 0⟩ _ 0 0xFFF8000000001000 6 9 rfl).2.1 (by decide)
  have := h5 wAgain 0 (wR 0x1E 7 5 1 0) _ _ 4096 4 9 (List.mem_cons_self ..)
    ⟨rfl, rfl, rfl, rfl, fun _ => rfl, fun _ => rfl⟩ (by decide) rfl (g 4 rfl) rfl
  trivial

/-- Core 0 with VL of 16 bytes, F1 = (1, 2, 3, 4), F2 = (5, 6, 7, 8), F4 two NaN lanes, P1 empty, G10 = 16 and G11 eight
bytes below the top of Scratch, and CSR.VSTART at v. -/
def wVCore (v : BitVec 8 := 0) : Core :=
  { wCore with
    csrs := { Csrs.zero with vlBytes := 16, vstart := v }
    g := wCore.g ++ [(10, 16), (11, 0xFFF8)], p := [(1, 0)]
    f := [(1, 0x00000004000000030000000200000001), (2, 0x00000008000000070000000600000005), (4, 0x7FC000007FC00000)] }
/-- The node with that core. -/
def wV (v : BitVec 8 := 0) : State := wAt (wVCore v)

theorem wVIs {op : CoreOp} {w : W32} (h : selectOp w = some op) : atInstr wV op 0 w := ⟨rfl, rfl, rfl, h, fun _ => rfl, fun _ => rfl⟩

theorem witness_VectorLaneInstructions : Obligations.VectorLaneInstructions → True :=
    fun ⟨⟨h1, h2, h3⟩, h4, h5, h6, h7, h8, h9⟩ => by
  have a := h1 wVCore (wR 0x28 3 1 2 0x20) 3 4 2 [true, false] [7, 8] (by decide) rfl (by decide) (by decide)
  have := a.1 1 (by decide)
  have := a.2.1 rfl 2 (by decide) (by decide)
  have := a.2.2.2.1 5 (.inr (by decide))
  have := (h1 wVCore (wR 0x28 3 1 2 0x60) 3 4 2 [true, false] [7, 8] (by decide) rfl (by decide) (by decide)).2.2.1 rfl
  have := h2 4 2 5 [true, false] [true, true] (by decide) (by decide) rfl rfl (by decide)
  have := h3 wVCore 30 2 (2 ^ 1024 - 1) (by decide) (by decide) (by decide +kernel)
  obtain ⟨_, _, b⟩ := h4 wV 0 (wR 0x28 3 1 2 0x20) (wVIs rfl) rfl rfl rfl (by decide) (by decide) (by decide)
  have := b 3 (by decide)
  obtain ⟨_, _, _, b, b'⟩ := h5 wV 0 (wR 0x29 3 1 2 0x20) _ _ _ (.inl ⟨rfl, rfl, by decide⟩) (wVIs rfl) rfl rfl rfl rfl (by decide)
    (by decide) (by decide)
  have := b 3 (by decide)
  have := b' _ (List.mem_cons_self ..)
  obtain ⟨_, _, _, b, _⟩ := h5 wV 0 (wR 0x2A 3 1 2 0x26) _ _ _ (.inr ⟨rfl, rfl⟩) (wVIs rfl) rfl rfl rfl rfl (by decide)
    (by decide) (by decide)
  have := b 3 (by decide)
  obtain ⟨_, _, b⟩ := h6 wV 0 (wR 0x2A 3 1 2 0x10) (wVIs rfl) (by decide) rfl rfl rfl (by decide) (by decide) (by decide)
  have := (b 3 (by decide)).1 (by decide)
  obtain ⟨_, _, b⟩ := h6 wV 0 (wR 0x2A 3 1 2 0x13) (wVIs rfl) (by decide) rfl rfl rfl (by decide) (by decide) (by decide)
  have := (b 3 (by decide)).2.1 (by decide) (by decide)
  obtain ⟨_, _, b⟩ := h6 wV 0 (wR 0x2A 3 1 2 0x14) (wVIs rfl) (by decide) rfl rfl rfl (by decide) (by decide) (by decide)
  have := (b 3 (by decide)).2.2 (by decide)
  have := (h7 5 6 0x7FC00000 (by decide)).2.2 9 (by decide) rfl
  obtain ⟨_, _, _, _, _, _, _, b⟩ := h8 wV 0 (wR 0x2B 6 4 2 0x20) (wVIs rfl) rfl (by decide) (by decide)
  have := b 3 (by decide)
  obtain ⟨_, _, _, _, _, _, _, b⟩ := h8 wV 0 (wR 0x2B 6 4 0 0x28) (wVIs rfl) rfl (by decide) (by decide)
  have := (h9 0 (0x7FC00000, 0) (5, 0) (0, 0) (by decide)).1 (.inl rfl)
  trivial

theorem witness_VectorMovesAndReductions : Obligations.VectorMovesAndReductions → True := fun ⟨h1, h2, h3, h4, h5, h6, h7⟩ => by
  obtain ⟨_, _, _, _, b⟩ := h1 wV 0 (wR 0x2C 3 1 2 0x22) (wVIs rfl) (by decide) rfl (by decide) rfl rfl (by decide) (by decide)
  have := (b 3 (by decide)).2 (by decide)
  obtain ⟨_, _, _, _, b⟩ := h1 wV 0 (wR 0x2C 3 1 2 0x27) (wVIs rfl) (by decide) rfl (by decide) rfl rfl (by decide) (by decide)
  have := (b 3 (by decide)).1 (by decide)
  obtain ⟨_, _, b⟩ := h2 wV 0 (wR 0x2C 3 1 0 0x2A) _ _ (List.mem_cons_self ..) (wVIs rfl) rfl rfl (by decide)
    (fun h => absurd h (by decide))
  have := b 3 (by decide)
  obtain ⟨_, _, b⟩ := h2 wV 0 (wR 0x2F 3 1 0 0x21) _ _ (List.mem_cons_of_mem _ (List.mem_cons_self ..)) (wVIs rfl) rfl rfl (by decide)
    (fun _ => ⟨rfl, by decide⟩)
  have := h3 wV 0 (wR 0x2C 3 1 2 0x2B) _ _ _ rfl (by decide) rfl (.inl ⟨rfl, rfl⟩) (wVIs rfl)
  have := h3 wV 0 (wR 0x2C 3 1 0 0x2C) _ _ _ rfl (by decide) rfl (.inr (.inl ⟨rfl, rfl⟩)) (wVIs rfl)
  have := h3 wV 0 (wR 0x2C 3 1 0 0x2D) (.vredmax _ _) .vredmax 4 rfl (by decide) rfl (.inr (.inr ⟨rfl, rfl, by decide +kernel,
    fun _ => ⟨3, by decide +kernel, by decide +kernel⟩, fun h => absurd h (by decide +kernel)⟩)) (wVIs rfl)
  have := h4 wV 0 (wR 0x2C 3 1 0 0x2E) (wVIs rfl) rfl rfl rfl rfl (by decide) 2 (by decide) (fun m hm => by
    match m with
    | 0 | 1 => exact absurd hm (by decide)
    | m + 2 => omega)
  obtain ⟨_, _, _, _, b⟩ := h5 wV 0 (wR 0x2C 3 1 0 0x2F) (wVIs rfl) rfl rfl rfl rfl (by decide)
  have := b (by decide +kernel) (by decide +kernel)
  obtain ⟨_, _, _, b, _⟩ := h5 wV 0 (wR 0x2C 3 1 0 0x12F) (wVIs rfl) rfl rfl rfl rfl (by decide)
  have := b (by decide +kernel)
  have := h6 wV 0 (wR 0x2F 3 1 2 0x20) (wVIs rfl) (by decide) rfl rfl rfl
  have := h7 wVCore 0 0x410 (by decide)
  trivial

theorem witness_ElementOrderedAccesses : Obligations.ElementOrderedAccesses → True := fun ⟨⟨h1, h2, h3, h4⟩, h5, h6⟩ => by
  have calm (w : W32) (h : vmOk w wVCore = true) (h' : vBytes w wVCore ≤ 64 * vR w wVCore) (h'' : vmop w ≠ 5) :
      vmCalm wV (wV.core 0) w := ⟨h, h', rfl, rfl, rfl, rfl, fun _ x => absurd x h''⟩
  obtain ⟨_, _, _, _, _, _, b, _⟩ := h1 wV 0 (wR 0x2D 3 10 0 0x20) _ _ (fun e _ => 2 ^ 42 + 16 + 4 * e) (List.mem_cons_self ..) (wVIs rfl)
    (calm _ rfl (by decide) (by decide)) (fun e he _ _ j hj => by
      have he : e < 4 := he
      obtain rfl : j = 0 := Nat.lt_one_iff.mp hj
      match e with
      | 0 | 1 | 2 | 3 => exact ⟨_, rfl⟩)
  have := (b (by decide)).2 3 (by decide) 0 (by decide)
  obtain ⟨_, _, _, _, _, _, _, b, _⟩ := h1 wV 0 (wR 0x2E 4 10 0 0x36) _ _ (fun e _ => 2 ^ 42 + 16 + 8 * e)
    (List.mem_cons_of_mem _ (List.mem_cons_of_mem _ (List.mem_cons_of_mem _ (List.mem_cons_of_mem _ (List.mem_cons_of_mem _
      (List.mem_cons_self ..)))))) (wVIs rfl)
    (calm _ rfl (by decide) (by decide)) (fun e he _ _ j hj => by
      have he : e < 4 := he
      obtain rfl : j = 0 := Nat.lt_one_iff.mp hj
      match e with
      | 0 | 1 | 2 | 3 => exact ⟨_, rfl⟩)
  have := b rfl 3 (by decide) (by decide) rfl
  obtain ⟨_, _, _, _, _, _, _, _, b⟩ := h1 wV 0 (wR 0x2D 3 10 0 0x60) _ _ (fun e _ => 2 ^ 42 + 16 + 4 * e) (List.mem_cons_self ..)
    (wVIs rfl) (calm _ rfl (by decide) (by decide)) (fun e he _ _ j hj => by
      have he : e < 4 := he
      obtain rfl : j = 0 := Nat.lt_one_iff.mp hj
      match e with
      | 0 | 1 | 2 | 3 => exact ⟨_, rfl⟩)
  have := b rfl 0 (by decide)
  obtain ⟨_, _, _, _, _, _, b⟩ := h2 wV 0 (wR 0x2D 3 11 0 0x20) _ _ (fun e _ => 2 ^ 42 + 0xFFF8 + 4 * e) 2 3 0x10000
    (List.mem_cons_self ..) (by decide) (wVIs rfl) (calm _ rfl (by decide) (by decide)) (fun e he _ _ j hj => by
      obtain rfl : j = 0 := Nat.lt_one_iff.mp hj
      match e with
      | 0 | 1 => exact ⟨_, rfl⟩) (by decide) (by decide) rfl rfl
  have := b (by decide) 3 (by decide) 0 (by decide)
  have := h3 wV wV 0 wVCore (wR 0x2D 3 10 0 0x20) 1 0 _ _ rfl rfl
  obtain ⟨_, _, _, b⟩ := h4 wV wV 0 wVCore (wR 0x2D 3 5 0 0x28) 1 0 (.local_ 4100) 0xFFF8000000001004 rfl
    (Prod.ext rfl (Prod.ext (by decide +kernel) (by decide +kernel)))
  have := h5 wV 0 (wR 0x2D 3 10 0 0x21) _ _ (fun e _ => 2 ^ 42 + 16 + 4 * e) (List.mem_cons_self ..) (wVIs rfl)
    (calm _ rfl (by decide) (by decide)) (fun e he j hj => by
      have he : e ∈ [0, 1, 2, 3] := he
      obtain rfl : j = 0 := Nat.lt_one_iff.mp hj
      simp only [List.mem_cons, List.not_mem_nil, or_false] at he
      rcases he with rfl | rfl | rfl | rfl <;> exact ⟨_, rfl⟩)
  have := h6 wV 0 (wR 0x2D 3 11 0 0x21) _ _ (fun e _ => 2 ^ 42 + 0xFFF8 + 4 * e) 2 3 0x10000
    (List.mem_cons_self ..) (by decide) (wVIs rfl) (calm _ rfl (by decide) (by decide)) (fun e he => by
      have he : e ∈ [0, 1] := he
      simp only [List.mem_cons, List.not_mem_nil, or_false] at he
      rcases he with rfl | rfl <;> exact ⟨_, rfl⟩) (by decide) (by decide) rfl rfl
  trivial

theorem witness_FormatsRoundTrip : Obligations.FormatsRoundTrip → True := fun h => by
  have := (h 3 1 true false (some 7) (by decide) (by decide) (fun x hx => by cases hx; decide)).1 false _ _ rfl
  have := (h 7 0x7C true false none (by decide) (by decide) (fun x hx => by cases hx)).2.1 false rfl
  have := (h 6 0x7F true false none (by decide) (by decide) (fun x hx => by cases hx)).2.2 rfl
  trivial

theorem witness_ConversionRounds : Obligations.ConversionRounds → True := fun ⟨h1, h2, h3, h4, h5⟩ => by
  have a := h1 6 (-2) 0 (by decide)
  have := a.1.2.2 (.inl (by decide))
  have := a.2 0xC0000000 (by decide)
  have := h2 3 5 true true (-2) none (by decide) (by decide) (by decide)
  have a := h4 0x610 none [none, none] [.nan false, .fin false 1 0] rfl (by decide) rfl
  have := a.1 (.inl rfl)
  have := (h4 0x610 none [none, none] [.fin false 0 0, .fin false 0 0] rfl (by decide) rfl).2.2 (by
    intro x hx; simp only [List.mem_cons, List.not_mem_nil, or_false] at hx; rcases hx with rfl | rfl <;> rfl) rfl rfl
  have := (h4 0x610 none [none, none] [.fin false 4 0, .fin false 0 0] rfl (by decide) rfl).2.1 2 rfl rfl ⟨_, List.mem_cons_self .., rfl⟩
    (by intro x hx l' h; simp only [List.mem_cons, List.not_mem_nil, or_false] at hx
        rcases hx with rfl | rfl
        · have : (2 : Int) = l' := Option.some.inj h
          omega
        · cases h) (by decide) (by decide)
  have := h5 0xA (by decide)
  trivial

theorem witness_GridSumsSplitExactly : Obligations.GridSumsSplitExactly → True := fun ⟨h1, h2, h3, _, h5, _⟩ => by
  let p (g : Nat) : Sys2Proof.Machine.Prod := ⟨.fin false 3 0, .fin true 5 0, g, (g, 0, 0)⟩
  have := h1 Elem.zero (-2) [p 0] [p 1] (by decide)
  have := h2 (-2) 5 1 (by decide) (by decide)
  have := (h3 3 (-12) 0 (by decide) (by decide)).2.2 (by decide)
  have a := h5 (-2) Elem.zero [p 0, p 0] (by decide) (by decide)
  have := a.2.2.2 (by decide)
  let q : Sys2Proof.Machine.Prod := ⟨.nan false, .fin true 5 0, 0, (0, 0, 0)⟩
  have := (h5 (-2) Elem.zero [q] (by decide) (by decide)).2.2.1 ⟨q, List.mem_cons_self .., by decide⟩
  trivial

/-- A TWLOAD descriptor (R193) of one INT8 weight at HBM address 8192. -/
def wLoadDesc : List Byte :=
  [1, 0] ++ leBytes 2 0 ++ leBytes 2 1 ++ leBytes 2 1 ++ leBytes 8 (wHere 8192) ++ List.replicate 48 0
def wVersion (n refs : W16) : Version :=
  { number := n, refs := refs, desc := wLoadDesc, codes := [[3]], scales := [], zeros := [], bad := none, reread := false }
/-- The node with a descriptor at Scratch address 0 of core 0, which holds the given versions. -/
def wTen (d : List Byte) (vs : List Version) (k : Core := wCore) : State :=
  { wAt { k with versions := vs } with mem := memWrite [] (2 ^ 42) d }

theorem wOk {α : Type} [DecidableEq α] {r : State × Except TErr α} {s : State} {v : α} (h1 : r.1 = s)
    (h2 : (match r.2 with
      | .ok x => decide (x = v)
      | .error _ => false) = true) : r = (s, .ok v) := by
  obtain ⟨_, e | x⟩ := r
  · cases h2
  · rw [← h1, ← of_decide_eq_true h2]

theorem witness_WeightVersions : Obligations.WeightVersions → True := fun ⟨h1, h2, h3, h4, h5, h6, h7, h8⟩ => by
  have := (h1 (wTen [] [wVersion 9 2]) 0 (wR 0x33 0 7 1 0) 0 _ ⟨rfl, rfl, rfl, rfl, fun _ => rfl, fun _ => rfl⟩ rfl rfl
    (.inl ⟨rfl, rfl⟩)).1 (by decide)
  have := (h1 (wTen [] [wVersion 9 2, wVersion 8 0xFFFF]) 0 (wR 0x33 0 7 1 0x10) 1 _ ⟨rfl, rfl, rfl, rfl, fun _ => rfl, fun _ => rfl⟩
    rfl rfl (.inr (.inl ⟨rfl, rfl⟩))).2 rfl
  have := (h1 (wTen [] [wVersion 9 2, wVersion 6 0]) 0 (wR 0x33 0 7 1 0x20) 1 _ ⟨rfl, rfl, rfl, rfl, fun _ => rfl, fun _ => rfl⟩
    rfl rfl (.inr (.inr ⟨rfl, rfl, fun j hj u hu => by
      obtain rfl := Nat.lt_one_iff.mp hj
      cases hu
      decide⟩))).1 (by decide)
  have := h2 wAt 0 (wR 0x33 0 7 1 0) (wIs rfl) rfl rfl
  have := (h3 (wTen [] [wVersion 6 2]) 0 (wR 0x33 0 1 0 0x40) 0 _ ⟨rfl, rfl, rfl, rfl, fun _ => rfl, fun _ => rfl⟩ rfl rfl rfl rfl
    (fun j hj => absurd hj (Nat.not_lt_zero j))).1 (by decide)
  have := (h3 (wTen [] [wVersion 6 0]) 0 (wR 0x33 0 1 0 0x40) 0 _ ⟨rfl, rfl, rfl, rfl, fun _ => rfl, fun _ => rfl⟩ rfl rfl rfl rfl
    (fun j hj => absurd hj (Nat.not_lt_zero j))).2 rfl
  have := h4 wAt 0 (wR 0x33 0 1 0 0x40) (wIs rfl) rfl rfl (fun v hv => by cases hv)
  have := h5 (wTen [] [wVersion 6 2]) 0 (wR 0x33 0 7 0 0x80) 0x600060001 ⟨rfl, rfl, rfl, rfl, fun _ => rfl, fun _ => rfl⟩ rfl rfl
    (.inr (.inl ⟨_, rfl, rfl⟩))
  have a := h6 (wTen wLoadDesc [wVersion 6 2]) (wTen wLoadDesc [wVersion 6 2]) 0 (wR 0x30 0 0 0 0) wLoadDesc
    { wVersion 0 0 with codes := [[0]] } 0 ⟨rfl, ⟨rfl, rfl⟩, by decide, rfl, Prod.ext rfl (by decide +kernel), rfl⟩ rfl
    (wOk rfl (by decide +kernel)) (.inl (by decide))
  have := a.2.2.2.1 ⟨rfl, rfl, rfl, rfl, fun _ => rfl, fun _ => rfl⟩
  have a := h7 (wTen wLoadDesc [wVersion 7 2, wVersion 6 2]) 0 (wR 0x30 0 0 0 0) wLoadDesc _ _ 0 rfl (by decide)
  have := a.1 ⟨rfl, rfl, rfl, rfl, fun _ => rfl, fun _ => rfl⟩ ⟨rfl, ⟨rfl, rfl⟩, by decide, rfl, Prod.ext rfl (by decide +kernel), rfl⟩ rfl
  let K : Core := { wCore with phase := .waitVersion 0 (wR 0x30 0 0 0 0), csrs := { Csrs.zero with twaitLimit := 5 } }
  have := ((h7 (wTen wLoadDesc [wVersion 7 2, wVersion 6 2] K) 0 (wR 0x30 0 0 0 0) wLoadDesc _ _ 0 rfl (by decide)).2 rfl).2.1
    (by decide)
  let K : Core := { wCore with phase := .waitVersion 0 (wR 0x30 0 0 0 0) }
  have := ((h7 (wTen wLoadDesc [wVersion 7 2, wVersion 6 2] K) 0 (wR 0x30 0 0 0 0) wLoadDesc _ _ 0 rfl (by decide)).2 rfl).2.2
    (.inl rfl)
  have a := h8 wAt 0 (wR 0x30 6 0 0 0) _ _ (List.mem_cons_self ..) (wIs rfl) rfl rfl rfl
  have := a.2 (.inr (.inr (by decide)))
  have := (h8 wAt 0 (wR 0x30 4 0 0 0) _ _ (List.mem_cons_self ..) (wIs rfl) rfl rfl rfl).1 (.inr (.inr (by decide)))
  trivial

/-- A TSTREAM descriptor (R195) of one INT8 element against a version, and one in outer mode. -/
def wStreamDesc : List Byte := [2, 0] ++ leBytes 4 0 ++ leBytes 2 1 ++ leBytes 8 (wHere 8192) ++ List.replicate 48 0
def wOuterDesc : List Byte :=
  [2, 4] ++ leBytes 4 0 ++ leBytes 2 1 ++ leBytes 8 (wHere 8192) ++ leBytes 8 (wHere 8192) ++ List.replicate 38 0 ++ [1, 1]
/-- A TCFG descriptor (R192) that clears tile 0 with anchor −8, and a raw TREADACC descriptor (R197) of one element. -/
def wCfgDesc : List Byte := [4, 1, 0, 0] ++ leBytes 2 0x3F8 ++ List.replicate 6 0 ++ leBytes 4 7 ++ leBytes 8 (wHere 4096) ++
  List.replicate 40 0
def wReadDesc : List Byte := [3, 4, 0, 0, 1, 1, 0, 0] ++ leBytes 8 (wHere 4096) ++ List.replicate 8 0 ++ leBytes 8 (wHere 8192) ++
  List.replicate 32 0

theorem witness_TensorStreamsAndReadout : Obligations.TensorStreamsAndReadout → True :=
    fun ⟨⟨h1, h2, h3, h4⟩, h5, h6, h7, h8, h9⟩ => by
  have := h1 (wTen wStreamDesc [wVersion 6 2]) 0 (wR 0x31 0 0 0 0) wStreamDesc 0 _ [[.fin false 0 0]]
    ⟨rfl, rfl, rfl, rfl, fun _ => rfl, fun _ => rfl⟩ ⟨rfl, by decide, by decide, rfl, Prod.ext rfl (by decide +kernel), rfl⟩ rfl rfl rfl rfl rfl rfl rfl rfl
  have := h2 (wTen wOuterDesc []) 0 (wR 0x31 0 0 0 0) wOuterDesc [[.fin false 0 0]] [[.fin false 0 0]]
    ⟨rfl, rfl, rfl, rfl, fun _ => rfl, fun _ => rfl⟩ ⟨rfl, by decide, by decide, rfl, Prod.ext rfl (by decide +kernel), rfl⟩ rfl rfl rfl rfl rfl rfl rfl
  have a := h3 wAt 0 wCore (readSDesc wOuterDesc) ⟨1, 1, 1, 0, 1, 0, false⟩ [[.fin false 2 0]] [[.fin false 3 0]] (by decide) (by decide)
  have := a.2.2.1 1 (by decide)
  have := a.2.2.2.2.2.1 0 (by decide) 0 (by decide)
  have := a.2.2.2.2.2.2.1 33 (.inl (by decide))
  have := h4 wAt 0 0 3 2 ⟨rfl, by decide +kernel⟩
  have := h5 (wTen wCfgDesc []) 0 (wR 0x34 0 0 0 0) wCfgDesc ⟨rfl, rfl, rfl, rfl, fun _ => rfl, fun _ => rfl⟩
    ⟨rfl, ⟨rfl, rfl⟩, by decide, rfl, Prod.ext rfl (by decide +kernel), rfl⟩ (by decide) rfl (by decide) rfl rfl (fun _ => rfl)
  have := h6 (wTen wReadDesc []) 0 (wR 0x32 0 0 0 0) wReadDesc ⟨rfl, rfl, rfl, rfl, fun _ => rfl, fun _ => rfl⟩
    ⟨rfl, ⟨rfl, rfl⟩, by decide, rfl, Prod.ext rfl (by decide +kernel), rfl⟩ rfl rfl rfl (fun r hr c hc => by
      obtain rfl := Nat.lt_one_iff.mp hr
      obtain rfl := Nat.lt_one_iff.mp hc
      constructor <;> decide) rfl rfl rfl
  have := h7 7 [⟨0, .fin false 1 0, none⟩] ⟨0, [], 0, 0, false, 0⟩ rfl
  have := (h8 5 [17, 3] (by decide) (by decide)).1
  have := h9 Tile.zero { Elem.zero with sum := 5 } rfl rfl (by decide) (by decide)
  trivial

/-- A tracked INT8 tensor of job slot 0 with one channel, and the node with it as number 7 and one job command. -/
def wTracked (ch : Channel) (touched : Bool) : Tracked :=
  { job := 0, fmt := 0, len := 2, margin := 0, span := true, firstCh := 0, div := 1, initExp := 3, channels := [ch]
    touched := touched, errSum := 0, errInf := false, errCount := 0, sqerrLast := 0, countLast := 0, fences := 0 }
def wChannel : Channel := ⟨[0x3F800000], 0x40000000, 0, .normal⟩
def wQnt (op : Nat) (args : List Nat) (ts : SMap Tracked := [(7, wTracked wChannel true)]) (b : JobSlot := wJob) : State :=
  { wJobCmd op args b with tracked := ts }
/-- A channel in use that leaves no room for 65,535. -/
def wFull : SMap Tracked := [(7, { wTracked wChannel true with firstCh := 1 })]

theorem witness_TrackedTensors : Obligations.TrackedTensors → True :=
    fun ⟨⟨h1, h2, h3, h4, h5, h6⟩, g1, g2, g3, g4, g5⟩ => by
  have a (args : List Nat) (ts : SMap Tracked) (b : JobSlot) (x : Nat)
      (h : readyJob (wQnt 0x0401 args ts b) 0x0401 0 0 (wStarted 0x0401 args 1) 0 b) :=
    h1 (wQnt 0x0401 args ts b) 0 0 (wStarted 0x0401 args 1) 0 b x h
  have := (a [7, 2, 0, 1, 1, 0] [] wRunning 0 ⟨⟨rfl, rfl, rfl⟩, rfl, rfl, rfl⟩).1 (by decide)
  have := (a [7, 2, 0, 1, 1, 0] [(7, wTracked wChannel true)] wJob 0 ⟨⟨rfl, rfl, rfl⟩, rfl, rfl, rfl⟩).2.1 rfl (by decide)
  have := (a [8, 0x82, 0, 4096, 1, 0] [(7, wTracked wChannel true)] wJob 0 ⟨⟨rfl, rfl, rfl⟩, rfl, rfl, rfl⟩).2.2.1 rfl rfl rfl
    (by decide +kernel)
  have := ((a [8, 2, 0, 1, 1, 0] [(7, wTracked wChannel true)] wJob 1 ⟨⟨rfl, rfl, rfl⟩, rfl, rfl, rfl⟩).2.2.2 rfl rfl
    (fun h => absurd h (by decide +kernel))).2 (by decide +kernel)
  have := ((a [8, 2, 0, 65535, 1, 0] wFull wJob 1 ⟨⟨rfl, rfl, rfl⟩, rfl, rfl, rfl⟩).2.2.2 rfl rfl
    (fun h => absurd h (by decide +kernel))).1 (by decide +kernel)
  have := (h2 (wQnt 0 []) 1 1 (by decide)).1 (by decide +kernel)
  have := (h2 (wQnt 0 [] wFull) 65535 0 (by decide)).2 (by decide +kernel) (by decide +kernel)
  have := h3 (wQnt 0x0402 [7, 0, 1, wHere 4096]) 0 0 (wStarted 0x0402 [7, 0, 1, wHere 4096] 1) 0 wJob _
    ⟨⟨rfl, rfl, rfl⟩, rfl, rfl, rfl⟩ rfl rfl (by decide +kernel) (by decide +kernel)
  have a := h4 (wQnt 0x0403 [7, 0, 1, wHere 4096]) (wQnt 0x0403 [7, 0, 1, wHere 4096]) 0 0 (wStarted 0x0403 [7, 0, 1, wHere 4096] 1) 0
    wJob _ (List.replicate 80 0) ⟨⟨rfl, rfl, rfl⟩, rfl, rfl, rfl⟩ rfl rfl rfl (by decide +kernel) (by decide +kernel)
    (Prod.ext rfl (by decide +kernel))
  have := a.2 (by decide +kernel)
  have a := h4 { wQnt 0x0403 [7, 0, 1, wHere 4096] with mem := memWrite [] 4175 [1] }
    { wQnt 0x0403 [7, 0, 1, wHere 4096] with mem := memWrite [] 4175 [1] } 0 0 (wStarted 0x0403 [7, 0, 1, wHere 4096] 1) 0
    wJob _ (List.replicate 79 0 ++ [1]) ⟨⟨rfl, rfl, rfl⟩, rfl, rfl, rfl⟩ rfl rfl rfl (by decide +kernel) (by decide +kernel)
    (Prod.ext rfl (by decide +kernel))
  have := a.1 (by decide +kernel)
  have := (h5 (wQnt 0x0404 [7, 1]) 0 0 (wStarted 0x0404 [7, 1] 1) 0 wJob _ ⟨⟨rfl, rfl, rfl⟩, rfl, rfl, rfl⟩ rfl rfl rfl).1
    (by decide +kernel)
  have := (h5 (wQnt 0x0404 [7, 0]) 0 0 (wStarted 0x0404 [7, 0] 1) 0 wJob _ ⟨⟨rfl, rfl, rfl⟩, rfl, rfl, rfl⟩ rfl rfl rfl).2
    (by decide +kernel)
  have := h6 (wQnt 0x0404 [8, 0]) 0 0 (wStarted 0x0404 [8, 0] 1) 0 wJob _ 0x0404
    (List.mem_cons_of_mem _ (List.mem_cons_of_mem _ (List.mem_cons_self ..))) ⟨⟨rfl, rfl, rfl⟩, rfl, rfl, rfl⟩ (fun _ => rfl)
    (fun t ht => by cases ht)
  have := (g1 (wQnt 0 [] [(7, wTracked wChannel false)]) 7 _ rfl).1 rfl
  have := (g1 (wQnt 0 []) 7 _ rfl).2 rfl
  have := g2 (wTracked wChannel true) { wChannel with h := [] } rfl
  have a := g3 (wTracked wChannel true) wChannel 127 0x800000 false false (-23) 0 0x3F800000 (by decide) (List.mem_cons_self ..)
    (fun z hz => by cases List.mem_singleton.mp hz; exact Nat.le_refl _) (by decide +kernel) (by decide +kernel) (by decide)
  have := a.2.2 (by decide)
  have a := g3 (wTracked wChannel true) { wChannel with h := [0] } 127 0 false false (-149) 0 0 (by decide) (List.mem_cons_self ..)
    (fun z hz => by cases List.mem_singleton.mp hz; exact Nat.le_refl _) (by decide +kernel) (by decide +kernel) (by decide)
  have := a.2.1 rfl
  have := g4 ⟨7, true, 2, false, 1, [1]⟩ ⟨7, true, 5, false, 1, [3]⟩ ⟨7, false, 0, true, 1, [0]⟩ rfl rfl rfl rfl
  have := g5 (wQnt 0 []) ⟨7, [], 5, 1, false, 0⟩ _ rfl rfl rfl
  trivial

theorem witness_SolverArithmetic : Obligations.SolverArithmetic → True := fun ⟨⟨h1, h2, h3, _, h5, _⟩, g1, g2, g3, _⟩ => by
  have := h1 5 1 {} (by decide)
  have := h2 7 (-2) 8 {} (by decide)
  have := h3 1 [2, -3] {} (fun k hk => by
    have hk : k ≤ 2 := hk
    match k with
    | 0 | 1 | 2 => decide)
  have := (h5 4 0 (-9) {} (by decide)).1 (by decide)
  have := (h5 4 0 3 {} (by decide)).2 (by decide)
  have := g1 [[1, 2], [-3, 4]] 0 2 (by decide)
  have := (g2 2 8 1 [[1, 2], [-3, 4]] {} rfl (by decide)).2.2.2 (by decide) 1 (by decide)
  have := g3 2 8 1 [[4, 0], [0, 4]] {} (by decide) rfl (by decide)
  trivial

/-- A problem header (R259) of KIND 1 with one unknown, and a batch of one such problem. -/
def wHeader : List Byte :=
  leBytes 2 1 ++ leBytes 2 0 ++ [8, 8] ++ leBytes 2 1 ++ leBytes 4 1 ++ List.replicate 20 0 ++ leBytes 8 (wHere 8192) ++ leBytes 8 0 ++
  leBytes 8 (wHere 12288) ++ List.replicate 8 0
def wBatch : Batch :=
  { q := 0, seq := 0, job := 0, probs := BitVec.ofNat 64 (wHere 4096), results := BitVec.ofNat 64 (wHere 16384), count := 1, pstride := 64
    deadline := 100, tally := 0, afterStep := 0, kind := 1, warm := false, first := 0, nclusters := 1, start := some 0, ended := []
    unread := false }
def wSlv (op : Nat) (args : List Nat) (xs : List Batch) (b : JobSlot := wJob) : State :=
  { wJobCmd op args b with batches := xs, mem := memWrite [] 4096 wHeader }
/-- The parameters of SLV_BATCH for one problem on the first n clusters. -/
def wBatchArgs (deadline n : Nat) : List Nat := [wHere 4096, wHere 16384, 1, 64, deadline, 0, 0, 1, 0, 0, 0, n]
def wProblem : Problem :=
  { kind := 1, n := 1, m := 0, fm := 8, fv := 8, iters := 1, eps := 1, rho := 0, rhoInv := 0, sigma := 0, alpha := 0, a := [[0]]
    b := [0], c := [], lo := [], hi := [], warm := [0] }

theorem wLoaded : (wSlv 0 [] [wBatch]).loadProblem wJob wBatch 0 = (wSlv 0 [] [wBatch], .ok wProblem 12288 [0]) := by
  have h : (match ((wSlv 0 [] [wBatch]).loadProblem wJob wBatch 0).2 with
    | .ok p o w => decide (p = wProblem ∧ o = 12288 ∧ w = [0])
    | _ => false) = true := by decide +kernel
  have h1 : ((wSlv 0 [] [wBatch]).loadProblem wJob wBatch 0).1 = wSlv 0 [] [wBatch] := rfl
  generalize (wSlv 0 [] [wBatch]).loadProblem wJob wBatch 0 = r at h h1
  obtain ⟨_, _ | _ | _⟩ := r
  · cases h
  · cases h
  · obtain ⟨rfl, rfl, rfl⟩ := of_decide_eq_true h
    rw [← h1]

theorem witness_SolverBatches : Obligations.SolverBatches → True := fun ⟨h1, h2, h3, h4, h5, h6, h7⟩ => by
  have a (args : List Nat) (xs : List Batch) (b : JobSlot)
      (h : readyJob (wSlv 0x0501 args xs b) 0x0501 0 0 (wStarted 0x0501 args 1) 0 b) :=
    h1 (wSlv 0x0501 args xs b) 0 0 (wStarted 0x0501 args 1) 0 b h
  have := (a (wBatchArgs 0 3) [] wJob ⟨⟨rfl, rfl, rfl⟩, rfl, rfl, rfl⟩).1 (by decide +kernel)
  have := (a (wBatchArgs 5 1) [] { wJob with ordered := true } ⟨⟨rfl, rfl, rfl⟩, rfl, rfl, rfl⟩).2.1 (by decide +kernel)
    (by decide +kernel) rfl
  have := (a (wBatchArgs 0 1) (List.replicate 64 wBatch) wJob ⟨⟨rfl, rfl, rfl⟩, rfl, rfl, rfl⟩).2.2.1 (by decide +kernel)
    (.inl (by decide +kernel)) (by decide +kernel) (by decide +kernel)
  have := (a (wBatchArgs 0 1) [] wJob ⟨⟨rfl, rfl, rfl⟩, rfl, rfl, rfl⟩).2.2.2 (by decide +kernel)
    (.inl (by decide +kernel)) (by decide +kernel) (by decide +kernel)
  have := h2 wBatch 0 0 rfl
  have := (h3 (wSlv 0 [] [wBatch]) (wSlv 0 [] [wBatch]) 0 wBatch 0 wJob rfl rfl rfl).1 _ _ _ wLoaded
  have := (h3 { wSlv 0 [] [wBatch] with mem := [] } { wSlv 0 [] [wBatch] with mem := [] } 0 wBatch 0 wJob rfl rfl rfl).2 rfl
  have := h4 (wSlv 0 [] [wBatch]) wBatch 0 1 12288 wProblem rfl
  have := h5 (wSlv 0 [] [{ wBatch with ended := [(0, List.replicate 32 0)] }])
    { wBatch with ended := [(0, List.replicate 32 0)] } rfl rfl rfl
  have a (args : List Nat) (xs : List Batch)
      (h : readyJob (wSlv 0x0502 args xs) 0x0502 0 0 (wStarted 0x0502 args 1) 0 wJob) :=
    h6 (wSlv 0x0502 args xs) 0 0 (wStarted 0x0502 args 1) 0 wJob h
  have := (a [0, 0, 5] [wBatch] ⟨⟨rfl, rfl, rfl⟩, rfl, rfl, rfl⟩).1 (by decide +kernel) (by decide +kernel)
  have := (a [0, 0, 0] [wBatch] ⟨⟨rfl, rfl, rfl⟩, rfl, rfl, rfl⟩).2 (.inr (by decide +kernel))
  have := (h7 (wSlv 0 [] [{ wBatch with deadline := 2 ^ 40 }]) 0 0 [] _ 0 wJob rfl rfl rfl).1 (.inr (by decide +kernel))
  have := ((h7 (wSlv 0 [] [wBatch]) 0 0 [] wBatch 0 wJob rfl rfl rfl).2 _ _ _ _ (by decide) (by decide +kernel) rfl rfl wLoaded).1 rfl
  have := ((h7 (wSlv 0 [] [wBatch]) 0 0 [(0, some 0)] wBatch 0 wJob rfl rfl rfl).2 _ _ _ _ (by decide) (by decide +kernel) rfl rfl
    wLoaded).2.1 0 rfl (by decide)
  have := ((h7 (wSlv 0 [] [wBatch]) 0 0 [(0, some 1)] wBatch 0 wJob rfl rfl rfl).2 _ _ _ _ (by decide) (by decide +kernel) rfl rfl
    wLoaded).2.2 1 rfl (by decide)
  trivial

/-- A reduction (R364) of one value by some cores of cluster 0, with its partial of core 0 waiting at a level. -/
def wRedKey (kind : Nat) (mask : W16) : RedKey :=
  { kind := kind, len := 1, dst := BitVec.ofNat 64 (wHere 4096), tally := 0, clFirst := 0, clCount := 1, mask := mask, rflags := 0 }
def wPartial (level : Nat) : Partial := { level := level, child := 0, vals := [5], states := [0] }
def wRed (kind : Nat) (mask : W16) (level : Nat) : Reduction :=
  { job := 0, id := 9, key := wRedKey kind mask, contributed := [], waiting := [wPartial level], running := [], folded := [], ctx := none
    done := false }
def wReducing (kind : Nat) (mask : W16) (level : Nat) (b : JobSlot) : State :=
  { wOpen b with reductions := [wRed kind mask level] }
def wOrdered : JobSlot := { wJob with ordered := true }

theorem witness_ReductionsFold : Obligations.ReductionsFold → True := fun ⟨h1, h2, h3, h4, h5, h6⟩ => by
  have a (mask : W16) (level : Nat) (h : deliverable (wReducing 1 mask level wOrdered) 0 9 level 0 wOrdered (wRed 1 mask level)
      (wPartial level)) :=
    h1 (wReducing 1 mask level wOrdered) 0 9 level 0 wOrdered _ _ h rfl rfl
  have := (a 3 0 ⟨rfl, rfl, rfl, rfl, rfl, rfl, by decide, rfl, rfl, rfl⟩).1 ⟨1, by decide +kernel, rfl⟩
  have := ((a 1 0 ⟨rfl, rfl, rfl, rfl, rfl, rfl, by decide, rfl, rfl, rfl⟩).2 (wPartial 0) [] rfl).1 (by decide)
  have := ((a 1 3 ⟨rfl, rfl, rfl, rfl, rfl, rfl, by decide, rfl, rfl, rfl⟩).2 (wPartial 3) [] rfl).2 rfl rfl
  have a (mask : W16) (level : Nat) (h : deliverable (wReducing 2 mask level wOrdered) 0 9 level 0 wOrdered (wRed 2 mask level)
      (wPartial level)) :=
    h2 (wReducing 2 mask level wOrdered) 0 9 level 0 wOrdered _ _ h (.inr (show (2 : Nat) ≠ 1 by decide))
  have := (a 3 0 ⟨rfl, rfl, rfl, rfl, rfl, rfl, by decide, rfl, rfl, rfl⟩).1 (by decide +kernel)
  have := (a 1 0 ⟨rfl, rfl, rfl, rfl, rfl, rfl, by decide, rfl, rfl, rfl⟩).2.1 (by decide +kernel) (by decide)
  have := (a 1 3 ⟨rfl, rfl, rfl, rfl, rfl, rfl, by decide, rfl, rfl, rfl⟩).2.2 (by decide +kernel) rfl rfl
  have := h3 wJob (wRedKey 1 3) 0 0 (by decide)
  have := h4 (wPartial 0) { wPartial 0 with vals := [7] } { wPartial 0 with states := [1] } 2 (by decide) rfl rfl rfl rfl
  have := h5 (wPartial 0) rfl
  have := (h6 (wReducing 1 1 0 wJob) 0 wJob (wRed 1 1 0) [1, 2, 3, 4] (by decide +kernel) (by decide +kernel)).1 (by decide +kernel)
  have := (h6 (wReducing 1 1 0 wJob) 0 wJob { wRed 1 1 0 with key := { wRedKey 1 1 with dst := BitVec.ofNat 64 (wHere (2 ^ 50)) } }
    [1, 2, 3, 4] (by decide +kernel) (by decide +kernel)).2 (by decide +kernel)
  trivial

/-- The node with two bytes of HBM reserved by job 1, and one job command. -/
def wMem (op : Nat) (args : List Nat) : State := { wJobCmd op args with reservations := [⟨0, 2097152, 1⟩] }

theorem witness_MemoryCommandsAndAccesses : Obligations.MemoryCommandsAndAccesses → True :=
    fun ⟨⟨h1, h2, h3, h4, h5⟩, g1, g2, g3, g4, g5⟩ => by
  have := (h1 { wMem 0 [] with reservations := [⟨2 ^ 40, 2097152, 1⟩] }).1 ⟨_, List.mem_cons_self .., by decide +kernel⟩
  have := (h1 (wMem 0 [])).2 (fun r hr => by cases List.mem_singleton.mp hr; exact Nat.le_of_ble_eq_true rfl)
  have a (n : Nat) (rs : List Reservation)
      (h : readyJob { wJobCmd 0x0204 [n] with reservations := rs } 0x0204 0 0 (wStarted 0x0204 [n] 1) 0 wJob)
      (h' : (wStarted 0x0204 [n] 1).arg 0 ≠ 0) :=
    h2 { wJobCmd 0x0204 [n] with reservations := rs } 0 0 (wStarted 0x0204 [n] 1) 0 wJob h h'
  have := (a 5 (List.replicate 4096 ⟨0, 2097152, 1⟩) ⟨⟨rfl, rfl, rfl⟩, rfl, rfl, rfl⟩ (by decide +kernel)).1 (by decide +kernel)
  have := ((a 5 [] ⟨⟨rfl, rfl, rfl⟩, rfl, rfl, rfl⟩ (by decide +kernel)).2 (by decide) 0 (fun r hr => by cases hr)
    (fun x hx => absurd hx (Nat.not_lt_zero x))).2 (by decide +kernel)
  have := ((a (2 ^ 41) [] ⟨⟨rfl, rfl, rfl⟩, rfl, rfl, rfl⟩ (by decide +kernel)).2 (by decide) 0 (fun r hr => by cases hr)
    (fun x hx => absurd hx (Nat.not_lt_zero x))).1 (by decide +kernel)
  have := (h3 (wMem 0x0205 [0]) 0 0 (wStarted 0x0205 [0] 1) 0 wJob ⟨⟨rfl, rfl, rfl⟩, rfl, rfl, rfl⟩).1
    ⟨_, List.mem_cons_self .., by decide +kernel⟩
  have := (h3 (wMem 0x0205 [2097152]) 0 0 (wStarted 0x0205 [2097152] 1) 0 wJob ⟨⟨rfl, rfl, rfl⟩, rfl, rfl, rfl⟩).2
    (fun r hr => by cases List.mem_singleton.mp hr; decide +kernel)
  have := h4 (wMem 0x0203 []) 0 0 (wStarted 0x0203 [] 1) ⟨rfl, rfl, rfl⟩
    (fun r hr => by cases List.mem_singleton.mp hr; exact Nat.le_of_ble_eq_true rfl)
  have a (p n : Nat) (h : readyJob (wJobCmd 0x0202 [p, n, 7, 0]) 0x0202 0 0 (wStarted 0x0202 [p, n, 7, 0] 1) 0 wJob) :=
    h5 (wJobCmd 0x0202 [p, n, 7, 0]) 0 0 (wStarted 0x0202 [p, n, 7, 0] 1) 0 wJob h
  have := (a (wHere 0x9000000000) 8 ⟨⟨rfl, rfl, rfl⟩, rfl, rfl, rfl⟩ (by decide +kernel)).1 (by decide +kernel)
  have := (a (wHere 4096) 8 ⟨⟨rfl, rfl, rfl⟩, rfl, rfl, rfl⟩ (by decide +kernel)).2.1 (by decide +kernel) (by decide +kernel)
  have := g1 0x8FFFFFFFFF 0 (by decide) (by decide)
  have := g2 wNode 4096 [1, 2] (fun w hw => by cases hw) 4097
  have a := g3 { wNode with errs := [(4096, .poison)] } 4090 8
  have := a.1 ⟨_, List.mem_cons_self .., by decide, by decide, .inr rfl⟩
  have := (g3 wNode 4090 8).2.1 (fun ⟨e, he, _⟩ => by cases he)
  have := g4 { wNode with errs := [(4096, .poison)] } 4096 (List.replicate 64 1) 4096 (by decide) (by decide +kernel)
  have := g5 wNode 4096 [1, 2] rfl rfl
  trivial

/-- The node whose pseudo-channel 0 has failing row 5, with a retirement table. -/
def wPc (c : Pc) (r : SMap RetireEntry) : State := { wNode with pcs := [(0, c)], flash := { wNode.flash with retire := r } }
def wBadRow : Pc := { Pc.zero with failing := [5] }

theorem wFind {α : Type} (f : Nat → α) (k : Nat) : ∀ l : List Nat, k ∈ l → mfind (l.map (fun i => (i, f i))) k ≠ none
  | [], h => by cases h
  | a :: l, h => by
    simp only [List.map_cons, mfind]
    split
    · exact Option.some_ne_none _
    · exact wFind f k l ((List.mem_cons.mp h).resolve_left (fun e => ‹¬ a = k› e.symm))

/-- A retirement table with no free entry, all of pseudo-channel 1. -/
def wRetired : SMap RetireEntry := (List.range 4096).map (fun i => (i, ⟨1, 2 + i, .served⟩))

theorem wRetired_full {k : Nat} (h : k < 4096) : mfind wRetired k ≠ none := wFind _ k _ (List.mem_range.mpr h)

theorem wRetired_page {e : Nat × RetireEntry} (h : e ∈ wRetired) : ¬ (e.2.pc = 0 ∧ e.2.page = 1) := by
  obtain ⟨i, _, rfl⟩ := List.mem_map.mp h
  rintro ⟨h, _⟩
  cases h

theorem witness_MemoryRepair : Obligations.MemoryRepair → True := fun ⟨h1, h2, h3, h4, h5, h6, _, h8, h9, h10⟩ => by
  have := h1 (wPc wBadRow []) 0 5 rfl (by decide) (by decide)
  have := h2 { wNode with flash := { wNode.flash with repairLog := [(0, 5)] } } 0 5 (by decide)
  have := (h3 (wPc wBadRow []) 0 1 0 rfl ⟨5, by decide, rfl⟩ (fun e he => by cases he) (by decide)).1 (by decide) (by decide) rfl
    (fun k hk => absurd hk (Nat.not_lt_zero k))
  have := (h3 (wPc wBadRow ((List.range 64).map (fun i => (i, ⟨0, 2 + i, .served⟩)))) 0 1 0 rfl ⟨5, by decide, rfl⟩
    (fun e he => by obtain ⟨i, _, rfl⟩ := List.mem_map.mp he; rintro ⟨_, h : 2 + i = 1⟩; omega) (by decide)).2.1 (by decide +kernel)
    (by decide)
  have a (r : SMap RetireEntry) (p : ∀ e ∈ r, ¬ (e.2.pc = 0 ∧ e.2.page = 1)) (q : r.countP (fun e => e.2.pc == 0) < 64)
      (f : ∀ k < 4096, mfind r k ≠ none) := (h3 (wPc wBadRow r) 0 1 0 rfl ⟨5, List.mem_singleton.mpr rfl, rfl⟩ p List.not_mem_nil).2.2 q f
  have := a wRetired (fun _ => wRetired_page) (by decide +kernel) (fun _ => wRetired_full)
  have := h4 (wPc wBadRow [(3, ⟨0, 1, .copying⟩)]) 3 _ rfl rfl
  have := h5 { wPc Pc.zero [] with mapOutQueue := [0] } 0 rfl rfl
  have := h6 (wPc { Pc.zero with mode := .migrating } []) 0 rfl
  have := h8 (wPc Pc.zero []) 0 (.inl rfl)
  obtain ⟨_, _, _, _, _, _, _, _, b⟩ := h9 (wPc { Pc.zero with mode := .retraining, retrainStart := some 5 } []) 0 false 5 rfl
  have := b rfl (by decide)
  obtain ⟨_, _, _, b⟩ := h10 { wNode with errs := [(4096, .correctable)] } 4096
  have := (b .correctable (by decide) (by decide +kernel)).1 (.inl rfl)
  trivial

/-- The node at boot stage 6 with link 2 in a state. -/
def wLinked (l : Link) : State := (wNode.setF .hstBoot [] 63 61 6).setLink 2 l
def wLk (st : LinkSt) : Link := { Link.zero with st := st, lanes := 3 }
def wCap : Capability :=
  { gens := 7, maxGen := 3, lanes := 3, node := 5, link := 1, alloc := [1, 1, 1, 1, 1, 1, 1, 1], contract := [9, 9, 9, 9, 9, 9, 9, 9]
    burst := [1, 1, 1, 1, 1, 1, 1, 1], encrypt := true }
def wAdmit (v : Option (Option Nat)) : Admission :=
  { start := 0, ownNonce := 3, partnerNonce := some 4, partnerChain := [1], sigOk := none, verdict := v, partnerVerdict := none }

theorem witness_LinkTrainingAndAdmission : Obligations.LinkTrainingAndAdmission → True :=
    fun ⟨⟨h1, h2, h3, h4⟩, g1, g2, g3, g4, g5⟩ => by
  have := (h1 (wLinked (wLk .down)) 2 3 rfl rfl rfl (by decide)).1 (by decide +kernel) rfl
  have a := (h1 (wLinked { wLk .down with retryFrom := some 0 }) 2 3 rfl rfl rfl (by decide)).2.1 (by decide +kernel) 0 rfl
  have := a.2.1 (by decide +kernel)
  have a := (h1 (wLinked { wLk .down with retryFrom := some 1900000000 }) 2 3 rfl rfl rfl (by decide)).2.1 (by decide +kernel) _ rfl
  have := a.2.2 (by decide +kernel)
  have := (h1 ((wLinked (wLk .down)).setF .axlVc [2, 0] 51 40 2049) 2 3 rfl rfl rfl (by decide)).2.2 (by decide +kernel)
  have := h2 (wNode.setLink 2 (wLk .down)) 2 3 (.inr (.inr rfl))
  have := (h3 (wLinked (wLk .training)) 2 rfl (fun c hc => by cases hc)).2 (by decide +kernel)
  have := (h3 (wLinked { wLk .training with trainStart := 1950000000 }) 2 rfl (fun c hc => by cases hc)).1 (by decide +kernel)
  have := h4 (wLinked (wLk .training)) 2 wCap [0, 1] 1 2 1 rfl rfl (by decide +kernel) rfl (fun i hi x hx => by
    obtain rfl := Nat.lt_one_iff.mp hi
    cases hx
    decide) (by decide)
  have := (g1 wNode 2 (wAdmit none) wCap).1 rfl
  let e (c : Bool) : State :=
    { wNode with flash := { wNode.flash with protection := { wNode.flash.protection with admitted := [⟨Config.leafDigest [1], c⟩] } } }
  have a (c : Bool) (s : Option Bool) (k : Capability) := (g1 (e c) 2 { wAdmit none with sigOk := s } k).2 ⟨Config.leafDigest [1], c⟩
    (by simp [e, wAdmit])
  have := g2 (wLinked { wLk .admitting with admission := some (wAdmit none), partner := some wCap }) 2 _ _ [7] 8 rfl rfl rfl rfl rfl
  obtain ⟨_, _, _, _, b, _⟩ := g3 (wLinked { wLk .admitting with admission := some (wAdmit none), partner := some wCap }) 2 _ _ [7] 8 4
    rfl rfl rfl rfl rfl rfl rfl (fun c hc => by cases hc)
  have := b 1 rfl
  have := ((g4 (wLinked { wLk .admitting with admission := some (wAdmit (some none)), partner := some wCap }) 2 _ rfl
    (fun c hc => by cases hc)).1 rfl).2
  have := ((g4 { wLinked { wLk .admitting with admission := some (wAdmit (some none)), partner := some wCap } with
    flash := (e true).flash } 2 _ rfl (fun c hc => by cases hc)).1 rfl).1 ⟨Config.leafDigest [1], true⟩ (by simp [e, wAdmit])
  have := (g4 (wLinked { wLk .admitting with admission := some (wAdmit none) }) 2 _ rfl (fun c hc => by cases hc)).2.1
    (by decide +kernel)
  have := (g4 (wLinked { wLk .admitting with admission := some { wAdmit none with start := 1950000000 } }) 2 _ rfl
    (fun c hc => by cases hc)).2.2 (by decide +kernel)
  have := g5 (wLinked (wLk .active)) 2 (by decide) rfl rfl (by
    intro m _ hm
    simp only [wLinked, State.link, State.setLink]
    rw [mget_mset_ne _ _ _ hm]
    rfl) (fun c hc => by cases hc)
  cases h : Config.chainVerifies [1] with
  | false =>
    have := (a true none wCap).1 h
    trivial
  | true =>
    have := (a true none wCap).2.1 h (by decide)
    have := ((a true (some true) { wCap with encrypt := false }).2.2 h rfl).1 (.inl rfl) rfl
    have := ((a true (some true) wCap).2.2 h rfl).2 (.inr rfl)
    trivial

/-- The command ROUTE_LOAD of a route image (R341) at HBM address 4096, of which the first bytes are given and the rest 0. -/
def wRouting (head : List (Nat × Byte)) (b : JobSlot := wJob) : State := { wJobCmd 0x0604 [wHere 4096, 32832] b with mem := head }
def wImage (m : List (Nat × Byte)) : List Byte := memRead m 4096 32832

theorem wRead (m : List (Nat × Byte)) (b : JobSlot) :
    (wRouting m b).loadOff 4096 32832 = (wRouting m b, some (some (wImage m))) := Prod.ext rfl rfl

theorem wChunks : ∀ (n : Nat) (xs : List Byte), (∀ x ∈ xs, x = 0) → ∀ c ∈ chunksOf n 2 xs, leNat c = 0
  | 0, _, _, c, h => by cases h
  | n + 1, [], _, c, h => by cases h
  | n + 1, [a], p, c, h => by
    obtain rfl := p a (List.mem_cons_self ..)
    rcases List.mem_cons.mp h with rfl | h
    · rfl
    · exact wChunks n [] (fun _ h => by cases h) c h
  | n + 1, a :: b :: xs, p, c, h => by
    obtain rfl := p a (List.mem_cons_self ..)
    obtain rfl := p b (List.mem_cons_of_mem _ (List.mem_cons_self ..))
    rcases List.mem_cons.mp h with rfl | h
    · rfl
    · exact wChunks n xs (fun x hx => p x (List.mem_cons_of_mem _ (List.mem_cons_of_mem _ hx))) c h

theorem wZero (m : List (Nat × Byte)) (h : ∀ e ∈ m, e.1 < 4160) (n : Nat) : ∀ x ∈ (memRead m 4096 n).drop 64, x = 0 := by
  have z : ∀ i, 4160 ≤ i → mget 0 m i = 0 := by
    intro i hi
    induction m with
    | nil => rfl
    | cons e m ih =>
      have := h e (List.mem_cons_self ..)
      simp only [mget]
      rw [if_neg (by omega)]
      exact ih (fun e he => h e (List.mem_cons_of_mem _ he))
  intro x hx
  obtain ⟨j, hj, rfl⟩ := List.mem_iff_getElem.mp hx
  simp only [List.length_drop, memRead, List.length_map, upFrom_length] at hj
  have e : (upFrom 4096 n)[64 + j]? = some (4096 + (64 + j)) := by rw [getElem?_upFrom, if_pos (by omega)]
  rw [List.getElem?_eq_getElem (by rw [upFrom_length]; omega)] at e
  rw [List.getElem_drop]
  simp only [memRead, List.getElem_map, Option.some.inj e]
  exact z _ (by omega)

theorem wNoFault (img : List Byte) (h : ∀ x ∈ img.drop 64, x = 0) (h0 : leAt img 0 4 = 0x00010000) (h4 : leAt img 4 2 ≤ 1)
    (h6 : leAt img 6 2 = 0) (h10 : leAt img 10 6 = 0) (h16 : ∀ i < 16, leAt img (16 + 2 * i) 2 = 0) (h48 : leAt img 48 16 = 0) :
    routeFault img = img.length := by
  have a : ((List.range 16).map (fun i => (16 + 2 * i, if i < leAt img 6 2 then 4096 ≤ leAt img (16 + 2 * i) 2 ||
      (0 < i && leAt img (16 + 2 * i) 2 ≤ leAt img (16 + 2 * (i - 1)) 2 : Bool) else leAt img (16 + 2 * i) 2 != 0))).find?
      (fun x => x.2) = none := by
    refine List.find?_eq_none.mpr ?_
    intro x hx
    obtain ⟨i, hi, rfl⟩ := List.mem_map.mp hx
    simp [h6, h16 i (List.mem_range.mp hi)]
  have b : (chunksOf 16384 2 (img.drop 64)).zipIdx.find? (fun x => decide (bits (leNat x.1) 13 6 ≠ 0) ||
      tbit (leNat x.1) 15 && decide (47 < leNat x.1 % 64)) = none := by
    refine List.find?_eq_none.mpr ?_
    rintro ⟨c, i⟩ hc
    have e := wChunks 16384 _ h c ((List.mem_zipIdx hc).2.2 ▸ List.getElem_mem _)
    simp [e, bits, tbit]
  unfold routeFault
  dsimp only
  rw [List.find?_append, List.find?_append, a, b]
  simp [h0, h4, h6, h10, h48]

theorem wNoTree : routeFault (wImage [(4098, 1)]) = 32832 :=
  (wNoFault _ (wZero _ (by decide) _) (by decide +kernel) (by decide +kernel) (by decide +kernel) (by decide +kernel)
    (by decide +kernel) (by decide +kernel)).trans (by simp [memRead])

theorem wTree : routeFault (wImage [(4098, 1), (4100, 1)]) = 32832 :=
  (wNoFault _ (wZero _ (by decide) _) (by decide +kernel) (by decide +kernel) (by decide +kernel) (by decide +kernel)
    (by decide +kernel) (by decide +kernel)).trans (by simp [memRead])

/-- A link that is ACTIVE with room, and the node with a packet to send on it. -/
def wActive : Link :=
  { wLk .active with partner := some wCap, avail := [1, 1, 1, 1, 1, 1, 1, 1] }
def wRouted : JobSlot := { wJob with tag := 1, epoch := 0, routes := some { ways := [(5, BitVec.ofNat 64 0x8002)] } }
def wSending : State :=
  { (wLinked wActive).setFilter 2 0 ⟨1, 0, .open, false⟩ with jobs := [(0, wRouted)], tx := [wPacket] }
/-- A data flit of the packet with SEQ 0 (R325), without and with its CRC. -/
def wBody : List Byte := leBytes 8 (2 * 2 ^ 58) ++ packetBytes wPacket ++ List.replicate 200 0
def wFlit : List Byte := wBody ++ leBytes 8 (crc64 wBody)
theorem wBody_length : wBody.length = 248 := by decide +kernel
theorem wFlit_length : wFlit.length = 256 := by rw [wFlit, List.length_append, leBytes_length, wBody_length]

def wEddy : EddyFlit := ⟨0, 0, 2, List.replicate 248 0⟩
def wRet (l : Link) : Link := { l with eddy := [wEddy, { wEddy with seq := 1 }] }

theorem witness_LinkFlits : Obligations.LinkFlits → True := fun ⟨h1, h2, h3, h4⟩ => by
  have := h1 wSending 2 0 wCap wPacket rfl (by decide) rfl (by decide) rfl rfl rfl (by decide) (by decide) rfl rfl (by decide +kernel)
    (by decide) rfl rfl rfl
  have := h2 (wLinked (wLk .down)) 2 0 (.inl (by decide))
  obtain ⟨_, _, _, _, _, _, _, _, b, _⟩ := h3 (wLinked wActive) 2 (List.replicate 256 0) 3 1 rfl List.length_replicate (.inl (by decide)) rfl
  have := b rfl
  obtain ⟨_, _, _, _, _, _, _, b, _⟩ := h3 (wLinked { wActive with nakSent := true }) 2 (List.replicate 256 0) 3 1 rfl List.length_replicate
    (.inl (by decide)) rfl
  have := b rfl
  have a := h4 (wLinked wActive) 2 wFlit rfl rfl wFlit_length (crc64_flit wBody_length) rfl (.inr (by decide +kernel))
    (by decide +kernel) (by decide +kernel) (by decide +kernel) rfl
  have := a.1 (by decide +kernel) (by decide +kernel)
  have a := h4 (wLinked { wActive with expect := 7 }) 2 wFlit rfl rfl wFlit_length (crc64_flit wBody_length) rfl (.inr (by decide +kernel))
    (by decide +kernel) (by decide +kernel) (by decide +kernel) rfl
  have := a.2 (by decide +kernel)
  trivial

theorem witness_LinkEventsAct : Obligations.LinkEventsAct → True := fun ⟨h1, h2, h3, h4, h5, h6, h7⟩ => by
  have := (h1 (wLinked wActive) 2 (fun c hc => by cases hc)).1 (.inl rfl)
  have := (h1 (wLinked { wActive with fastRetrain := some 0 }) 2 (fun c hc => by cases hc)).2.1 0 rfl rfl (by decide +kernel)
  have := (h1 (wLinked { wActive with lanes := 2 }) 2 (fun c hc => by cases hc)).2.2 1 rfl rfl
  have := h2 (wLinked wActive) 2 1 rfl rfl
  have := h3 (wLinked { wRet wActive with fastRetrain := some 0 }) 2 0 0 1 rfl rfl rfl rfl
  obtain ⟨_, _, _, _, _, b, _⟩ := h4 ((wLinked (wRet wActive)).setF .axlReplayCfg [2] 39 32 3) 2 rfl rfl (by decide) rfl
    (by decide +kernel)
  have := b (by decide +kernel)
  obtain ⟨_, _, _, _, _, _, b⟩ := h4 ((wLinked (wRet { wActive with resends := 9 })).setF .axlReplayCfg [2] 39 32 3) 2 rfl rfl (by decide)
    rfl (by decide +kernel)
  have := b (by decide +kernel)
  have := (h5 (wLinked wActive) 2).1 (by decide +kernel)
  obtain ⟨_, _, _, b, _⟩ := (h5 ((wLinked { wActive with windowCount := [5000, 0, 0, 0, 0, 0, 0, 0] }).setF .axlAnomLimit [2] 31 16 2)
    2).2 0 (by decide) (by decide +kernel)
  have := b (.inr (by decide +kernel))
  obtain ⟨_, _, _, _, b⟩ := (h5 ((wLinked { wActive with windowCount := [5000, 0, 0, 0, 0, 0, 0, 0] }).setF .axlAnomLimit [2] 31 16 1)
    2).2 0 (by decide) (by decide +kernel)
  obtain ⟨_, _, _, b⟩ := b (by decide +kernel) (by decide +kernel) rfl
  have := b rfl
  have := (h6 (wLinked (wLk .disabled)) 0 2 1 ⟨rfl, by decide +kernel⟩ (by decide) (by decide +kernel)).1 (by decide +kernel) rfl (by decide)
  have := (h6 (wLinked wActive) 0 2 0 ⟨rfl, by decide +kernel⟩ (by decide) (by decide +kernel)).2.1 (by decide +kernel) (by decide)
    (fun c hc => by cases hc)
  have := (h6 (wLinked wActive) 0 2 0x81 ⟨rfl, by decide +kernel⟩ (by decide) (by decide +kernel)).2.2 (by decide +kernel)
    (by decide +kernel) (.inl rfl) rfl
  have := h7 (wLinked wActive) 0 2 3 5 ⟨rfl, by decide +kernel⟩
  trivial

theorem witness_RoutesAndLinkReset : Obligations.RoutesAndLinkReset → True := fun ⟨h1, h2, h3, h4, h5⟩ => by
  have a (m : List (Nat × Byte)) (b : JobSlot)
      (h : readyJob (wRouting m b) 0x0604 0 0 (wStarted 0x0604 [wHere 4096, 32832] 1) 0 b)
      (h' : (wRouting m b).jobBad (wStarted 0x0604 [wHere 4096, 32832] 1) ((wStarted 0x0604 [wHere 4096, 32832] 1).arg 0) 32832
        true false = none) :=
    h1 (wRouting m b) (wRouting m b) 0 0 (wStarted 0x0604 [wHere 4096, 32832] 1) 0 b (wImage m) h (by decide +kernel) (by decide +kernel) h'
      (wRead m b)
  have := (a [] wJob ⟨⟨rfl, rfl, rfl⟩, rfl, rfl, rfl⟩ rfl).1 (by decide +kernel) (by decide +kernel)
  have := (a [(4098, 1)] wJob ⟨⟨rfl, rfl, rfl⟩, rfl, rfl, rfl⟩ rfl).2.1 wNoTree (by decide +kernel)
  have := ((a [(4098, 1), (4100, 1)] wJob ⟨⟨rfl, rfl, rfl⟩, rfl, rfl, rfl⟩ rfl).2.2 wTree (by decide +kernel)).2.2 rfl rfl
  have := ((a [(4098, 1), (4100, 1)] wRunning ⟨⟨rfl, rfl, rfl⟩, rfl, rfl, rfl⟩ rfl).2.2 wTree (by decide +kernel)).2.1 rfl rfl
  have := (((a [(4098, 1), (4100, 1)] { wJob with tree := some ⟨0, [], []⟩ } ⟨⟨rfl, rfl, rfl⟩, rfl, rfl, rfl⟩ rfl).2.2 wTree
    (by decide +kernel)).1 _ rfl).1 ⟨by decide +kernel, by decide +kernel⟩
  have := (((a [(4098, 1), (4100, 1)] { wJob with tree := some ⟨3, [], []⟩ } ⟨⟨rfl, rfl, rfl⟩, rfl, rfl, rfl⟩ rfl).2.2 wTree
    (by decide +kernel)).1 _ rfl).2 (by decide +kernel)
  have := h2 (wImage [(4098, 1)]) 5 (by simp [wImage, memRead]) (by decide) (2, false)
  have := h3 wSending wPacket 0 wRouted _ rfl rfl 2
  have a (s : State) (h : ready s 0x0A03 0 0 (wStarted 0x0A03 [2])) (h' : (wStarted 0x0A03 [2]).arg 0 < 48) :=
    h4 s 0 0 (wStarted 0x0A03 [2]) h h'
  have := (a { wCmd 0x0A03 [2] with flash := { wNode.flash with map := { wNode.flash.map with lanes := [4, 5] } } } ⟨rfl, rfl, rfl⟩
    (by decide +kernel)).1 (by decide +kernel)
  have := (a (wCmd 0x0A03 [2]) ⟨rfl, rfl, rfl⟩ (by decide +kernel)).2 (by decide +kernel) (by decide +kernel)
    (fun c hc => by cases List.mem_singleton.mp hc; decide)
  have := h5 { wNode with started := [{ wStarted 0x0A03 [2] with wait := .link 2 }] } 2 _ rfl
  trivial

/-- The node, numbered 0x1FFF as at reset, with link 2 ACTIVE, its filter OPEN for job 1 and context 3 towards node 5. -/
def wNet (c : Ctx) : State :=
  { (wLinked wActive).setFilter 2 0 ⟨1, 0, .open, false⟩ with jobs := [(0, wJob)], placement := some wPlacement, ctxs := [(3, c)] }
/-- A packet of node 5 to context 3. -/
def wIn (op flags seq arg : Nat) (payload : List Byte) : Packet :=
  { op := BitVec.ofNat 8 op, flags := BitVec.ofNat 8 flags, dstNode := 0x1FFF, srcNode := 5, dstSpan := 0, srcSpan := 0, tag := 1
    epoch := 0, dstCtx := 3, seq := BitVec.ofNat 32 seq, arg := BitVec.ofNat 64 arg, payload := payload }
/-- The node with a command on a context. -/
def wCtxCmd (op : Nat) (args : List Nat) (c : Ctx) : State := { wNet c with started := [wStarted op args 1] }

theorem wGet {α : Type} (d v : α) (k : Nat) : ∀ l : List Nat, k ∈ l → mget d (l.map (fun i => (i, v))) k = v
  | [], h => by cases h
  | a :: l, h => by
    simp only [List.map_cons, mget]
    split
    · rfl
    · exact wGet d v k l ((List.mem_cons.mp h).resolve_left (fun e => ‹¬ a = k› e.symm))

/-- Contexts: BINDING since the clock's 0, OPEN, in RESOLVE, and with one request outstanding. -/
def wBinding : Ctx := { Ctx.zero with peerNode := 5, tag := 1, key := 9, st := .binding, cmd := some (0, 0) }
def wReq (o : ReqOrigin) : Req :=
  { seq := 7, pkt := wPacket, origin := o, t0 := 0, tries := 0, unresolved := false, answered := false, rnr := none }
def wAsked (st : CtxSt) (r : Req) : Ctx := { wCtx with st := st, sendSeq := 8, lowUnack := 7, retries := 3, reqs := [r] }

theorem witness_ContextCommands : Obligations.ContextCommands → True := fun ⟨h1, h2, h3, h4, h5, h6, _⟩ => by
  have a (cs : SMap Ctx) (h : readyJob { wCtxCmd 0x0601 [7, 0, 0, 255, 9, 0, 0] Ctx.zero with ctxs := cs } 0x0601 0 0
      (wStarted 0x0601 [7, 0, 0, 255, 9, 0, 0] 1) 0 wJob) (h' : (wStarted 0x0601 [7, 0, 0, 255, 9, 0, 0] 1).arg 0 < 4096) :=
    h1 { wCtxCmd 0x0601 [7, 0, 0, 255, 9, 0, 0] Ctx.zero with ctxs := cs } 0 0 (wStarted 0x0601 [7, 0, 0, 255, 9, 0, 0] 1) 0 wJob h h'
  have := (h1 { wCtxCmd 0x0601 [7, 0, 0, 255, 9, 0, 0] Ctx.zero with regs := (wNode.setF .timeNodeId [] 12 0 7).regs } 0 0
    (wStarted 0x0601 [7, 0, 0, 255, 9, 0, 0] 1) 0 wJob ⟨⟨rfl, rfl, rfl⟩, rfl, rfl, rfl⟩ (by decide +kernel)).1 (by decide +kernel)
  have := (a [(3, { wBinding with peerNode := 7 })] ⟨⟨rfl, rfl, rfl⟩, rfl, rfl, rfl⟩ (by decide +kernel)).2.1 (by decide +kernel)
    ⟨3, by decide +kernel⟩
  have b (cs : SMap Ctx) (h) (h') (hp) (p : ∀ e ∈ cs, ¬ (e.2.st = .binding ∧ e.2.key.toNat = _))
      (q : ∀ x < 2 ^ 20, (mget Ctx.zero cs x).st ≠ .closed) := (a cs h h').2.2.1 hp p q
  have := b ((List.range (2 ^ 20)).map (fun i => (i, wCtx))) ⟨⟨rfl, rfl, rfl⟩, rfl, rfl, rfl⟩ (by decide +kernel) (by decide +kernel)
    (fun e he => by obtain ⟨i, _, rfl⟩ := List.mem_map.mp he; rintro ⟨h, _⟩; cases h)
    (fun x hx => by rw [wGet _ _ _ _ (List.mem_range.mpr hx)]; decide)
  have := (a [] ⟨⟨rfl, rfl, rfl⟩, rfl, rfl, rfl⟩ (by decide +kernel)).2.2.2 (by decide +kernel) (fun e he => by cases he) 0 (by decide)
    rfl (fun y hy => absurd hy (Nat.not_lt_zero y))
  have := (h2 (wNet wBinding) 3 rfl).1 (by decide +kernel)
  have := (h2 (wNet { wBinding with bindLast := 1999999999 }) 3 rfl).2.1 (by decide +kernel)
  have := (h2 (wNet { wBinding with bindStart := 1999999999 }) 3 rfl).2.2.1 (by decide +kernel)
  have := (h2 (wCtxCmd 0x0601 [7, 0, 0, 255, 9, 0, 0] wBinding) 3 rfl).2.2.2 0 0 _ (by decide +kernel) rfl rfl
  have := (h3 (wNet { wBinding with cmd := none }) 2 (wIn 0x14 0 0 9 [1, 0, 0, 0]) 3 _ rfl (by decide) rfl rfl
    ⟨0, ⟨1, 0, .open, false⟩, by decide +kernel, rfl⟩ rfl).1 rfl
  have := (h3 (wCtxCmd 0x0601 [7, 0, 0, 255, 9, 0, 0] wBinding) 2 (wIn 0x14 0 0 9 [1, 0, 0, 0]) 3 _ rfl (by decide) rfl rfl
    ⟨0, ⟨1, 0, .open, false⟩, by decide +kernel, rfl⟩ rfl).2 0 0 _ rfl rfl
  have := (h4 (wCtxCmd 0x0602 [4] wCtx) 0 0 (wStarted 0x0602 [4] 1) 0 wJob ⟨⟨rfl, rfl, rfl⟩, rfl, rfl, rfl⟩).1 (.inr (.inl (by decide +kernel)))
  have a (c : Ctx) (h : readyJob (wCtxCmd 0x0602 [3] c) 0x0602 0 0 (wStarted 0x0602 [3] 1) 0 wJob) :=
    h4 (wCtxCmd 0x0602 [3] c) 0 0 (wStarted 0x0602 [3] 1) 0 wJob h
  have := ((a { wCtx with st := .resolve } ⟨⟨rfl, rfl, rfl⟩, rfl, rfl, rfl⟩).2 (by decide +kernel) rfl rfl).1 rfl
  have := ((a (wAsked .open (wReq (.copy 0))) ⟨⟨rfl, rfl, rfl⟩, rfl, rfl, rfl⟩).2 (by decide +kernel) rfl rfl).2.1 rfl (by decide +kernel)
  have := ((a wCtx ⟨⟨rfl, rfl, rfl⟩, rfl, rfl, rfl⟩).2 (by decide +kernel) rfl rfl).2.2 rfl rfl rfl rfl (fun y hy => by cases hy)
    (fun d hd => by cases List.mem_singleton.mp hd; decide)
  have := (h5 (wCtxCmd 0x0603 [4, wHere 4096] wCtx) 0 0 (wStarted 0x0603 [4, wHere 4096] 1) 0 wJob ⟨⟨rfl, rfl, rfl⟩, rfl, rfl, rfl⟩).1
    (.inr (.inl (by decide +kernel)))
  have := (h5 (wCtxCmd 0x0603 [3, wHere 4096] wCtx) 0 0 (wStarted 0x0603 [3, wHere 4096] 1) 0 wJob ⟨⟨rfl, rfl, rfl⟩, rfl, rfl, rfl⟩).2
    (by decide +kernel) (by decide +kernel) rfl rfl (by decide +kernel)
  have := h6 (wNet wCtx) 0 3 ⟨rfl, by decide +kernel⟩
  trivial

theorem wArrives {c : Ctx} {p : Packet} {answer : Bool} (h : (wNet c).packetOk p = true) (h' : payloadOk p = true)
    (f : (wNet c).filterOf 2 p.tag p.epoch = some (0, ⟨1, 0, .open, false⟩)) (a : ((wNet c).ctx p.dstCtx.toNat).admits p answer = true) :
    arrives (wNet c) 2 p answer := ⟨rfl, List.not_mem_nil, h, h', ⟨_, _, f, rfl⟩, a⟩

theorem witness_RequestsExecuteOnce : Obligations.RequestsExecuteOnce → True := fun ⟨h1, h2, h3, h4, h5⟩ => by
  have a (q : W32) := h1 { wCtx with exec := 100, execMap := 1 } q (by decide)
  have := (a 100).1 (.inl rfl)
  have := (a 80).2.1 (by decide) (by decide)
  have := (a 117).2.2.1 (by decide) (by decide)
  have := (a 101).2.2.2.1 (by decide)
  have := (a 102).2.2.2.2.1 (by decide) (by decide)
  have b := ((a 101).2.2.2.2.2 (by decide)).2.2 103 (by decide)
  have := b.1 (by decide)
  have := (((a 101).2.2.2.2.2 (by decide)).2.2 102 (by decide)).2 (by decide)
  have := (h2 (wNet wCtx) 2 (wIn 1 3 1 4096 []) (wArrives rfl rfl rfl rfl) rfl).1 (wNet wCtx) _ rfl rfl rfl
  have := (h2 (wNet wCtx) 2 (wIn 2 3 1 4096 [1, 2]) (wArrives rfl rfl rfl rfl) rfl).2.1 rfl rfl
  have := (h2 (wNet wCtx) 2 (wIn 3 3 1 4096 (List.replicate 24 0)) (wArrives rfl rfl rfl rfl) rfl).2.2.1 4096 (wNet wCtx) _ rfl rfl rfl rfl
    rfl
  have := ((h2 (wNet wCtx) 2 (wIn 4 3 1 (0x1FFF * 2 ^ 35 + 1) []) (wArrives rfl rfl rfl rfl) rfl).2.2.2.1 0 wJob rfl rfl).1 ⟨rfl, rfl⟩
  have := ((h2 (wNet wCtx) 2 (wIn 4 3 1 (5 * 2 ^ 35 + 1) []) (wArrives rfl rfl rfl rfl) rfl).2.2.2.1 0 wJob rfl rfl).2 (.inl rfl)
  have := ((h2 (wNet wCtx) 2 (wIn 5 0 1 4096 (leBytes 8 300 ++ leBytes 8 0)) (wArrives rfl rfl rfl rfl) rfl).2.2.2.2.1 rfl
    (by decide +kernel) (by decide +kernel)).1 rfl rfl
  have := ((h2 (wNet wCtx) 2 (wIn 5 16 1 4096 (leBytes 8 300 ++ leBytes 8 0)) (wArrives rfl rfl rfl rfl) rfl).2.2.2.2.1 rfl
    (by decide +kernel) (by decide +kernel)).2 (wNet wCtx) (List.replicate 300 0) rfl rfl (Prod.ext rfl (by decide +kernel)) rfl rfl (by decide +kernel)
  have := ((h2 (wNet { wCtx with recvs := [⟨0, 0, 4096, 0, 0, 64, 0⟩] }) 2 (wIn 7 0 1 5 (leBytes 8 8)) (wArrives rfl rfl rfl rfl)
    rfl).2.2.2.2.2 rfl).1 rfl _ rfl (by decide +kernel)
  have := ((h2 (wNet wCtx) 2 (wIn 7 0 1 5 (leBytes 8 8)) (wArrives rfl rfl rfl rfl) rfl).2.2.2.2.2 rfl).2 (.inr rfl)
  have := (h3 (wNet wCtx) 2 (wIn 0x12 0 0 1 []) (wArrives rfl rfl rfl rfl) rfl).1 rfl
  have := (h3 (wNet { wCtx with exec := 1 }) 2 (wIn 0x12 0 0 1 []) (wArrives rfl rfl rfl rfl) rfl).2 rfl rfl rfl
  have a (e : W32) (h : arrives (wNet { wCtx with exec := e }) 2 (wIn 2 3 1 4096 [1]) false) :=
    h4 (wNet { wCtx with exec := e }) 2 (wIn 2 3 1 4096 [1]) _ 2 h rfl (List.mem_cons_self ..)
  have := (a 1 (wArrives rfl rfl rfl rfl)).1 rfl rfl
  have := (a 100 (wArrives rfl rfl rfl rfl)).2.1 rfl
  have := (a (-100) (wArrives rfl rfl rfl rfl)).2.2 rfl
  have a (c : Ctx) (p : Packet) := h5 (wNet c) 2 p _ (List.mem_cons_self ..) rfl List.not_mem_nil
  have := (a wCtx (wIn 1 4 1 4096 [])).1 (.inr rfl)
  have := ((a wCtx { wIn 1 3 1 4096 [] with tag := 2 }).2 rfl rfl).1 (by decide +kernel)
  have := (((a Ctx.zero (wIn 1 3 1 4096 [])).2 rfl rfl).2 0 ⟨1, 0, .open, false⟩ rfl).2 rfl rfl
  have := ((h5 ((wNet wCtx).setFilter 2 0 ⟨1, 0, .draining, false⟩) 2 (wIn 1 3 1 4096 []) _ (List.mem_cons_self ..) rfl
    List.not_mem_nil).2 rfl rfl).2 0 ⟨1, 0, .draining, false⟩ rfl |>.1 rfl
  trivial

/-- The same node with cores, started commands and copies. -/
def wNet2 (c : Ctx) (ks : SMap Core) (cs : List Started) (ys : List Copy) (b : JobSlot := wJob) : State :=
  { wNet c with cores := ks, started := cs, copies := ys, jobs := [(0, b)] }

theorem wArrives2 {c : Ctx} {ks : SMap Core} {cs : List Started} {ys : List Copy} {b : JobSlot} {p : Packet} {answer : Bool}
    (h : (wNet2 c ks cs ys b).packetOk p = true) (h' : payloadOk p = true)
    (f : (wNet2 c ks cs ys b).filterOf 2 p.tag p.epoch = some (0, ⟨1, 0, .open, false⟩))
    (a : ((wNet2 c ks cs ys b).ctx p.dstCtx.toNat).admits p answer = true) :
    arrives (wNet2 c ks cs ys b) 2 p answer := ⟨rfl, List.not_mem_nil, h, h', ⟨_, _, f, rfl⟩, a⟩

theorem wQuiet (c : Ctx) (ks : SMap Core) (cs : List Started) (ys : List Copy) : quietJobs (wNet2 c ks cs ys) :=
  ⟨fun j b h => by
    have h : mfind [(0, wJob)] j = some b := h
    simp only [mfind] at h
    split at h <;> cases h
    rfl, fun _ => ⟨rfl, rfl⟩⟩

/-- A core that waits for the answer of request 7 of context 3, held or not. -/
def wWait : CoreWait := ⟨3, 7, wR 0x1D 7 7 0 3, 0, 4096, 0⟩
def wBlocked : SMap Core := [(0, { wCore with phase := .blocked wWait })]
def wHeld : SMap Core := [(0, { wCore with phase := .held wWait })]
def wUnresolved (o : ReqOrigin) : Ctx := wAsked .resolve { wReq o with unresolved := true, answered := true }

theorem witness_RequestsEnd : Obligations.RequestsEnd → True := fun ⟨h1, h2, h3, h4, h5, h6⟩ => by
  have a (o : ReqOrigin) (ks : SMap Core) (p : Packet) (h : arrives (wNet2 (wAsked .open (wReq o)) ks [] []) 2 p true) :=
    h1 (wNet2 (wAsked .open (wReq o)) ks [] []) 2 p (wReq o) h (wQuiet ..)
  have := (a (.copy 0) [] (wIn 0x10 0 7 4 []) (wArrives2 rfl rfl rfl rfl) rfl rfl rfl).1 (by decide +kernel)
  have := (a (.signal 0 0 3) [] (wIn 0x10 0 7 0 []) (wArrives2 rfl rfl rfl rfl) rfl rfl rfl).2.1 0 0 3 rfl (by decide +kernel)
  have := (a (.core 0) wBlocked (wIn 0x10 0 7 0 (leBytes 8 5)) (wArrives2 rfl rfl rfl rfl) rfl rfl rfl).2.2 0 0 wWait rfl (by decide +kernel)
    rfl rfl (.inl rfl)
  have := (h2 (wNet2 wCtx [] [] []) 2 (wIn 0x10 0 7 0 []) (wArrives2 rfl rfl rfl rfl) (wQuiet ..)).1 (fun r hr => by cases hr)
  have := (h2 (wNet2 wCtx [] [] []) 2 (wIn 0x13 0 7 7 []) (wArrives2 rfl rfl rfl rfl) (wQuiet ..)).2 (fun r hr => by cases hr)
  have a (o : ReqOrigin) (ks : SMap Core) (p : Packet) (h : arrives (wNet2 (wUnresolved o) ks [] []) 2 p true) :=
    h3 (wNet2 (wUnresolved o) ks [] []) 2 p { wReq o with unresolved := true, answered := true } h (wQuiet ..)
  have := (a (.signal 0 0 3) [] (wIn 0x13 0 7 (2 ^ 32 + 7) []) (wArrives2 rfl rfl rfl rfl) rfl rfl rfl rfl
    (fun y hy _ => by cases List.mem_singleton.mp hy; rfl)).1 0 0 3 rfl (by decide +kernel) (by decide)
  have := (a (.core 0) wHeld (wIn 0x13 0 7 7 []) (wArrives2 rfl rfl rfl rfl) rfl rfl rfl rfl
    (fun y hy _ => by cases List.mem_singleton.mp hy; rfl)).2 0 0 wWait rfl (by decide +kernel) rfl (.inl rfl)
  have a (r : Req) (n : BitVec 4) (us : W32) (ks : SMap Core) :=
    h4 (wNet2 { wAsked .open r with retries := n, timeoutUs := us } ks [] []) 3 7 r (wQuiet ..)
  have := (a (wReq (.copy 0)) 3 50000000 [] rfl rfl).1 (by decide +kernel)
  have := ((a (wReq (.copy 0)) 3 50000 [] rfl rfl).2 (by decide +kernel) rfl).1 (by decide +kernel)
  have := ((a (wReq (.copy 0)) 0 50000 [] rfl rfl).2 (by decide +kernel) rfl).2.1 (by decide +kernel) rfl rfl
  have := ((a (wReq (.core 0)) 0 50000 wBlocked rfl rfl).2 (by decide +kernel) rfl).2.2 (by decide +kernel) rfl 0 wWait rfl
  have := (h5 (wNet (wUnresolved (.copy 0))) 3 rfl).2 (by decide +kernel)
  have := (h5 (wNet { wUnresolved (.copy 0) with queryLast := 2000000000, timeoutUs := 5 }) 3 rfl).1 (by decide +kernel)
  have a (us : W32) := h6 (wNet { wAsked .open { wReq (.copy 0) with rnr := some 0 } with timeoutUs := us }) 3 7
    { wReq (.copy 0) with rnr := some 0 } 0
  have := (a 50000 rfl rfl).2 (by decide +kernel)
  have := (a 50000000 rfl rfl).1 (by decide +kernel)
  trivial

/-- A copy of 300 bytes to node 5 whose opening request was accepted. -/
def wCopy : Copy :=
  { id := 0, origin := .command 0 0, tag := 1, epoch := 0, src := 4096, dst := 8192, len := 300, ctx := 3, seq := 7, acked := 0
    opened := true, limit := 300, t0 := 0, tries := 0, data := [], tally := 0, redo := 0 }
/-- A copy descriptor (R361) of 8 bytes within this node, in one class, with one more byte. -/
def wCopyDesc (cls extra : Byte) (dst : Nat) : List Byte :=
  leBytes 8 (wHere 4096) ++ leBytes 8 dst ++ leBytes 4 8 ++ leBytes 4 0 ++ [0, cls] ++ List.replicate 17 0 ++ [extra] ++ List.replicate 20 0
def wCopying (desc : List Byte) : State := { wAt with mem := memWrite [] 4096 desc, tables := [(0, wTableSlot)] }
def wTreeJob : JobSlot := { wJob with tree := some ⟨0, [5], []⟩ }

theorem witness_CopiesAndMessages : Obligations.CopiesAndMessages → True :=
    fun ⟨h1, h2, h3, h4, h5, h6, h7, h8, h9, h10, h11⟩ => by
  have := h1 (wJobCmd 0x0201 [wHere 4096, wHere 8192, 300, 0, 0, 0]) 0 0 (wStarted 0x0201 [wHere 4096, wHere 8192, 300, 0, 0, 0] 1) 0
    wJob ⟨⟨rfl, rfl, rfl⟩, rfl, rfl, rfl⟩ (by decide +kernel) (by decide +kernel) (by decide +kernel) (by decide +kernel)
    (by decide +kernel) (by decide +kernel) (by decide +kernel) (by decide +kernel) (by decide +kernel) (by decide +kernel)
    (by decide +kernel) rfl rfl rfl rfl
  have a (x : Nat) (h : readyJob (wCtxCmd 0x0201 [wHere 4096, 5 * 2 ^ 51 + 8192, 300, x, 0, 0] wCtx) 0x0201 0 0
      (wStarted 0x0201 [wHere 4096, 5 * 2 ^ 51 + 8192, 300, x, 0, 0] 1) 0 wJob) :=
    h2 (wCtxCmd 0x0201 [wHere 4096, 5 * 2 ^ 51 + 8192, 300, x, 0, 0] wCtx) 0 0
      (wStarted 0x0201 [wHere 4096, 5 * 2 ^ 51 + 8192, 300, x, 0, 0] 1) 0 wJob h
  have := (a 4 ⟨⟨rfl, rfl, rfl⟩, rfl, rfl, rfl⟩ (by decide +kernel) (by decide +kernel) (by decide +kernel) (by decide +kernel)
    (by decide +kernel) (by decide +kernel) (by decide +kernel) (by decide +kernel) (by decide +kernel)).1 (.inr (by decide +kernel))
  have := (a 3 ⟨⟨rfl, rfl, rfl⟩, rfl, rfl, rfl⟩ (by decide +kernel) (by decide +kernel) (by decide +kernel) (by decide +kernel)
    (by decide +kernel) (by decide +kernel) (by decide +kernel) (by decide +kernel) (by decide +kernel)).2 (by decide +kernel)
    (by decide +kernel) rfl rfl (by decide +kernel) (fun y hy => by cases hy)
  have := h3 (wJobCmd 0x0201 [wHere 4096, wHere 8192, 0, 0, 0, 0]) 0 0 (wStarted 0x0201 [wHere 4096, wHere 8192, 0, 0, 0, 0] 1) 0
    wJob ⟨⟨rfl, rfl, rfl⟩, rfl, rfl, rfl⟩ (.inl (by decide +kernel))
  have := h4 (wCopying (wCopyDesc 0 0 (wHere 8192))) (wCopying (wCopyDesc 0 0 (wHere 8192))) 0 (wR 0x1F 9 5 0 0) 4096
    (wCopyDesc 0 0 (wHere 8192)) ⟨rfl, rfl, rfl, rfl, fun _ => rfl, fun _ => rfl⟩ rfl rfl
    ⟨rfl, rfl, rfl, Prod.ext rfl (by decide +kernel), rfl, by decide +kernel⟩ (Prod.ext rfl (by decide +kernel)) (by decide +kernel) (by decide +kernel)
  have a (desc : List Byte) := h5 (wCopying []) wCore desc ⟨0, 0⟩ _ _ _ rfl rfl
  have := (a (wCopyDesc 3 0 (wHere 8192))).1 (by decide +kernel)
  have := (a (wCopyDesc 0 1 (wHere 8192))).2.1 (by decide +kernel) ⟨43, by decide, by decide, by decide +kernel⟩
  have := ((a (wCopyDesc 0 0 (wHere 8192))).2.2 (by decide +kernel) (by decide +kernel) (by decide +kernel) (by decide +kernel)
    (by decide +kernel) (by decide +kernel) (by decide +kernel) (by decide +kernel) (by decide +kernel) (by decide +kernel)
    (by decide +kernel)).2 (by decide +kernel)
  have := ((a (wCopyDesc 0 0 (wHere 0x9000000000))).2.2 (by decide +kernel) (by decide +kernel) (by decide +kernel) (by decide +kernel)
    (by decide +kernel) (by decide +kernel) (by decide +kernel) (by decide +kernel) (by decide +kernel) (by decide +kernel)
    (by decide +kernel)).1 (by decide +kernel)
  let r : RxCopy := ⟨7, 8192, 300, 0, 0, none, 0, none⟩
  have := (h6 (wNet2 { wCtx with rxCopies := [⟨7, 8192, 300, 0, 0, none, 0, none⟩] } [] [] []) 2
    (wIn 6 0 7 8192 (List.replicate 256 1)) r (wArrives2 (by decide +kernel) (by decide +kernel) rfl rfl) (wQuiet ..) rfl rfl).2 rfl rfl rfl
    (by decide +kernel) (by decide)
  have := (h6 (wNet2 { wCtx with rxCopies := [⟨7, 8192, 300, 0, 0, none, 0, none⟩] } [] [] []) 2
    (wIn 6 0 7 8448 (List.replicate 256 1)) r (wArrives2 (by decide +kernel) (by decide +kernel) rfl rfl) (wQuiet ..) rfl rfl).1 (.inl (by decide +kernel))
  have := h7 (wNet2 wCtx [] [] []) 2 (wIn 6 0 7 8448 [1]) (wArrives2 rfl rfl rfl rfl) (wQuiet ..) rfl rfl
  have b := fun p h => h8 (wNet2 wCtx [] [wStarted 0x0201 []] [wCopy]) 2 p wCopy h (wQuiet ..)
  have := (b (wIn 0x11 0 7 301 []) (wArrives2 rfl rfl rfl rfl) rfl rfl).1 (.inr (by decide +kernel))
  have := (b (wIn 0x11 0 7 256 []) (wArrives2 rfl rfl rfl rfl) rfl rfl).2.1 (by decide +kernel) (by decide +kernel)
  have := (b (wIn 0x11 0 7 300 []) (wArrives2 rfl rfl rfl rfl) rfl rfl).2.2 0 0 _ (by decide +kernel) (by decide +kernel) rfl rfl rfl rfl rfl
  have a (x : Nat) (h : readyJob (wCtxCmd 0x0605 [wHere 4096, 9, 8, x] wCtx) 0x0605 0 0 (wStarted 0x0605 [wHere 4096, 9, 8, x] 1) 0 wJob) :=
    h9 (wCtxCmd 0x0605 [wHere 4096, 9, 8, x] wCtx) 0 0 (wStarted 0x0605 [wHere 4096, 9, 8, x] 1) 0 wJob h
  have := (a 4 ⟨⟨rfl, rfl, rfl⟩, rfl, rfl, rfl⟩).1 (by decide +kernel)
  have := (a 3 ⟨⟨rfl, rfl, rfl⟩, rfl, rfl, rfl⟩).2 (by decide +kernel) rfl rfl (by decide +kernel)
  have a (n : Nat) (h : readyJob (wCtxCmd 0x0606 [wHere 4096, 9, 0, 64, 3, 0]
      { wCtx with recvs := List.replicate n ⟨0, 0, 4096, 0, 0, 64, 0⟩ }) 0x0606 0 0 (wStarted 0x0606 [wHere 4096, 9, 0, 64, 3, 0] 1) 0 wJob) :=
    h10 (wCtxCmd 0x0606 [wHere 4096, 9, 0, 64, 3, 0] { wCtx with recvs := List.replicate n ⟨0, 0, 4096, 0, 0, 64, 0⟩ }) 0 0
      (wStarted 0x0606 [wHere 4096, 9, 0, 64, 3, 0] 1) 0 wJob h
  have := (a 64 ⟨⟨rfl, rfl, rfl⟩, rfl, rfl, rfl⟩ (by decide +kernel) rfl rfl (.inl rfl) (by decide +kernel)).1 (by decide +kernel)
  have := (a 0 ⟨⟨rfl, rfl, rfl⟩, rfl, rfl, rfl⟩ (by decide +kernel) rfl rfl (.inl rfl) (by decide +kernel)).2 (by decide +kernel)
  have a (rs : List RedIn) (off : Nat) (h : arrives { wNet2 wCtx [] [] [] wTreeJob with redIn := rs } 2 (wIn 8 0 7 (9 * 2 ^ 48 + off) [1]) false)
      (h' : (wIn 8 0 7 (9 * 2 ^ 48 + off) [1]).arg.toNat / 2 ^ 48 < 0xFF00) :=
    h11 { wNet2 wCtx [] [] [] wTreeJob with redIn := rs } 2 (wIn 8 0 7 (9 * 2 ^ 48 + off) [1]) 0 wTreeJob ⟨0, [5], []⟩ h rfl rfl
      (List.mem_singleton.mpr rfl) h'
  have q (rs : List RedIn) (off : Nat) (f : (wNet2 wCtx [] [] [] wTreeJob).packetOk (wIn 8 0 7 (9 * 2 ^ 48 + off) [1]) = true) :
    arrives { wNet2 wCtx [] [] [] wTreeJob with redIn := rs } 2 (wIn 8 0 7 (9 * 2 ^ 48 + off) [1]) false :=
    ⟨rfl, List.not_mem_nil, f, rfl, ⟨0, ⟨1, 0, .open, false⟩, rfl, rfl⟩, rfl⟩
  have := (a [] 0 (q _ _ rfl) (by decide +kernel)).1 (by decide +kernel) (by decide +kernel)
  have := (a [⟨0, 9, 5, [7], false⟩] 1 (q _ _ rfl) (by decide +kernel)).2.1 ⟨0, 9, 5, [7], false⟩ (by decide +kernel) rfl (by decide +kernel)
  have := (a [⟨0, 9, 5, [7], true⟩] 1 (q _ _ rfl) (by decide +kernel)).2.2 ⟨0, 9, 5, [7], true⟩ (by decide +kernel) (.inl rfl)
  trivial

/-- The node with a job in slot 0 whose Span tree has the given children and parent 0, and a snapshot record. -/
def wSnap (ch : List Nat) (n : SnapJob) : State :=
  { wOpen { wJob with tree := some ⟨0, ch, []⟩ } with snaps := [(0, n)] }
def wTok : Token := blankToken 0
def wVer (v : Nat) (d : Digest) : Token := { wTok with verdict := [⟨BitVec.ofNat 32 v, d, d⟩] }
def wVerdict (sent : Bool) (fail : Nat) : SnapJob := { SnapJob.zero with phase := .verdict, verdictSent := sent, fail := fail }
/-- A restore of one candidate at a state, and the record that holds it. -/
def wRest (st : RestoreSt) (up : Bool) (chosen : Option Nat := none) : Restore :=
  { q := 0, seq := 0, block := [], st := st, cands := 1, chosen := chosen, bad := [], failed := false, status := 0, upSent := up }
def wRestoring (r : Restore) : SnapJob := { SnapJob.zero with phase := .restoring, restore := some r }

theorem witness_TokenExchanges : Obligations.TokenExchanges → True := fun ⟨h1, h2, h3, h4, h5, h6, h7, h8⟩ => by
  have a := (h1 (wVer 7 1) (wVer 7 2)).2.2.2 7 (by decide) (by decide)
  have := a.2.2 _ _ rfl rfl
  have := ((h1 (wVer 7 1) (wVer 8 2)).2.2.2 7 (by decide) (by decide)).1 rfl
  have := ((h1 (wVer 7 1) (wVer 8 2)).2.2.2 8 (by decide) (by decide)).2.1 rfl
  have := (h2 .verdictUp (wVer 7 1) (by decide)).2.2.2.2.2.2 rfl
  have := (h3 (wSnap [5] SnapJob.zero) 0 _ 5 wTok rfl rfl (by decide) (fun r hr => by cases hr)).1 (by decide)
  have := (h3 (wSnap [5] { SnapJob.zero with rest := 1 }) 0 _ 5 wTok rfl rfl (by decide) (fun r hr => by cases hr)).2 rfl rfl
    (fun c hc => ⟨_, List.mem_singleton.mpr rfl, (List.mem_singleton.mp hc).symm⟩) 0 rfl
  have := (h4 (wSnap [] SnapJob.zero) 0 _ 0 wTok rfl rfl).1 (.inr (by decide))
  have := (h4 (wSnap [] { SnapJob.zero with rest := 2 }) 0 _ 0 wTok rfl rfl).2 rfl rfl rfl
  have := (h5 (wSnap [5, 6] (wVerdict false 0)) 0 _ 5 wTok rfl (by decide) rfl rfl (fun p hp => by cases hp) (fun r hr => by cases hr)
    rfl).1 ⟨6, by decide, fun r hr => by cases List.mem_singleton.mp hr; decide⟩
  have := (h5 (wSnap [5] (wVerdict false 0)) 0 _ 5 wTok rfl (by decide) rfl rfl (fun p hp => by cases hp) (fun r hr => by cases hr)
    rfl).2 (fun c hc => ⟨_, List.mem_singleton.mpr rfl, (List.mem_singleton.mp hc).symm⟩) 0 rfl
  have := (h6 (wSnap [] (wVerdict true 0x0741)) 0 _ 0 wTok rfl rfl rfl rfl rfl).1 (by decide)
  have := (h6 (wSnap [] (wVerdict true 0)) 0 _ 0 { wTok with fail := true } rfl rfl rfl rfl rfl).2 rfl rfl
  have := (h7 (wSnap [5, 6] (wRestoring (wRest .vote false))) 0 _ 5 wTok _ rfl (by decide) rfl rfl rfl (fun r hr => by cases hr)).1
    ⟨6, by decide, fun r hr => by cases List.mem_singleton.mp hr; decide⟩
  have := (h7 (wSnap [5] (wRestoring (wRest .vote false))) 0 _ 5 wTok _ rfl (by decide) rfl rfl rfl (fun r hr => by cases hr)).2
    (fun c hc => ⟨_, List.mem_singleton.mpr rfl, (List.mem_singleton.mp hc).symm⟩) 0 rfl
  have := (h8 (wSnap [] (wRestoring (wRest .vote true))) 0 _ 0 { wTok with cands := 0 } _ rfl rfl rfl rfl rfl).1 rfl rfl rfl
  have := (h8 (wSnap [] (wRestoring (wRest .confirm true (some 0)))) 0 _ 0 wTok _ rfl rfl rfl rfl rfl).2 0 rfl rfl rfl
  trivial

/-! The size of a snapshot's image without evaluating its state pages. -/

theorem wSum (k : Nat) : ∀ (l : List Nat) (f : Nat → List Byte), (∀ x, (f x).length = k) → (l.flatMap f).length = k * l.length
  | [], _, _ => rfl
  | a :: l, f, h => by
    rw [List.flatMap_cons, List.length_append, h, wSum k l f h, List.length_cons, Nat.mul_succ, Nat.add_comm]
theorem wRecord (k : Core) : k.versionRecord.length = 192 := by
  unfold Core.versionRecord
  simp only [List.length_append, leBytes_length]
  split <;> split <;> simp
theorem wStateLen (s : State) (j : Nat) (b : JobSlot) (h : s.tracked = []) : (s.stateBytes j b).length = 19456 * b.count := by
  unfold State.stateBytes
  rw [h, List.length_append, List.length_append,
    wSum 1024 _ _ (fun x => (wSum 4 _ _ (fun y => leBytes_length 4 _)).trans (by rw [List.length_range])),
    wSum 192 _ _ (fun x => by split <;> simp only [leBytes_length, wRecord])]
  simp [JobSlot.cores]; omega
theorem wImageSize (s : State) (j : Nat) (b : JobSlot) (rs : List (List Byte)) (k : Nat) (h : s.tracked = []) :
    s.imageSize j b rs k = streamAt (manifestLen rs.length k (cdiv (19456 * b.count) pageSize + sumNat (rs.map dPages))) +
      (cdiv (19456 * b.count) pageSize + sumNat (rs.map dPages)) * pageSize := by
  unfold State.imageSize; rw [wStateLen s j b h]

/-- A shard descriptor (R379) of 64 8-byte elements at HBM address 65536, with one byte to choose. -/
def wShard (src : Nat := wHere 65536) (elems : Nat := 64) (flags : Byte := 0) : List Byte :=
  leBytes 4 9 ++ leBytes 4 0 ++ leBytes 2 8 ++ [1, flags] ++ leBytes 2 0 ++ leBytes 2 1 ++
  [elems, 1, 1, 1].flatMap (leBytes 8) ++ leBytes 32 0 ++ [elems, 1, 1, 1].flatMap (leBytes 8) ++ leBytes 8 src ++ leBytes 8 0
def wKeyed (usage : Nat) (s : State) : State := { s with granite := { s.granite with keys := [(2, ⟨usage, true, 1, 0, [], []⟩)] } }
/-- A SNAP_TAKE of one region, described at HBM address 4096, into the host window. -/
def wTakeArgs (len : Nat) : List Nat := [wHere 4096, 1, 1, 0, 0, wHere (2 ^ 50), len, 0, 0, 2, 0, 0, 0, 0]
def wTake (d : List Byte) (len : Nat) (b : JobSlot) (n : SnapJob) : State :=
  wKeyed 3 { wJobCmd 0x0701 (wTakeArgs len) b with mem := memWrite [] 4096 d, snaps := [(0, n)] }
def wSnapCmd (op : Nat) (n : SnapJob) : State := { wJobCmd op [] with snaps := [(0, n)] }
/-- A snapshot to the host window that copies two pages. -/
def wPage (send : Bool) : StreamPage :=
  { staged := some (List.replicate 65536 1), page := none, len := 65536, shard := none, send := send, digest := none, sent := false }
def wCopies (send : Bool) : SnapJob :=
  { SnapJob.zero with phase := .copying, pages := [wPage send, wPage send], block := leBytes 10 0 ++ [1, 0, 0, 0, 0, 0] ++ leBytes 8 (wHere (2 ^ 50)) }

theorem witness_SnapshotsAtTheCut : Obligations.SnapshotsAtTheCut → True := fun ⟨h1, h2, h3, h4, h5, h6, h7⟩ => by
  have a (d : List Byte) (len : Nat) (b : JobSlot) (n : SnapJob) :=
    h1 (wTake d len b n) (wTake d len b n) 0 0 (wStarted 0x0701 (wTakeArgs len) 1) 0 b
  have := (a (wShard (flags := 1)) 0 wJob SnapJob.zero (wShard (flags := 1)) ⟨⟨rfl, rfl, rfl⟩, rfl, rfl, rfl⟩ rfl
    (fun _ => by decide +kernel) (fun h => absurd (by decide +kernel) h) (by decide +kernel) (Prod.ext rfl (by decide +kernel))).1
    ⟨wShard (flags := 1), by decide +kernel, .inl (by decide +kernel)⟩
  have := ((a (wShard) 1048576 wJob (wVerdict false 0) (wShard) ⟨⟨rfl, rfl, rfl⟩, rfl, rfl, rfl⟩ rfl
    (fun _ => by decide +kernel) (fun h => absurd (by decide +kernel) h) (by decide +kernel) (Prod.ext rfl (by decide +kernel))).2
    (by decide +kernel) (by decide +kernel)).1 (.inr (.inr (by decide +kernel)))
  have := (((a (wShard) 4096 wJob SnapJob.zero (wShard) ⟨⟨rfl, rfl, rfl⟩, rfl, rfl, rfl⟩ rfl
    (fun _ => by decide +kernel) (fun h => absurd (by decide +kernel) h) (by decide +kernel) (Prod.ext rfl (by decide +kernel))).2
    (by decide +kernel) (by decide +kernel)).2 rfl rfl (by decide +kernel)).1 (.inr (by rw [wImageSize _ _ _ _ _ rfl]; decide +kernel))
  have := (((a (wShard) 1048576 wRunning SnapJob.zero (wShard) ⟨⟨rfl, rfl, rfl⟩, rfl, rfl, rfl⟩ rfl
    (fun _ => by decide +kernel) (fun h => absurd (by decide +kernel) h) (by decide +kernel) (Prod.ext rfl (by decide +kernel))).2
    (by decide +kernel) (by decide +kernel)).2 rfl rfl (by decide +kernel)).2 (by decide +kernel)
    (by rw [wImageSize _ _ _ _ _ rfl]; decide +kernel) rfl
  have a (n : SnapJob) := h2 ({ wOpen with snaps := [(0, n)] }.setF .snpTrigger [0] 31 0 1) 0 wJob rfl
  have := (a { SnapJob.zero with phase := .idle }).1 (by decide +kernel)
  have := (a { SnapJob.zero with standing := some 4096 }).2.1 (by decide +kernel) rfl rfl
  have := (a { SnapJob.zero with standing := some 4096, phase := .copying }).2.2 (by decide +kernel) (by decide +kernel)
  have := (h3 (wSnapCmd 0x0702 SnapJob.zero) 0 0 _ 0 wJob ⟨⟨rfl, rfl, rfl⟩, rfl, rfl, rfl⟩).1 (.inl rfl)
  have := (h3 (wSnapCmd 0x0702 { SnapJob.zero with phase := .want, cmd := some (0, 1) }) 0 0 _ 0 wJob ⟨⟨rfl, rfl, rfl⟩, rfl, rfl, rfl⟩).2
    rfl rfl (by decide)
  have := h4 (wSnapCmd 0x0703 SnapJob.zero) 0 0 _ 0 wJob ⟨⟨rfl, rfl, rfl⟩, rfl, rfl, rfl⟩
  have a (b : Bool) := h5 { wOpen with snaps := [(0, wCopies b)], hostPort := { State.reset.hostPort with mode := .cxl31 } } 0 wJob 0 (wPage b) (List.replicate 65536 1) rfl rfl rfl rfl rfl
    (fun k hk => absurd hk (Nat.not_lt_zero k)) ⟨1, by decide, wPage b, rfl, rfl⟩ rfl (by rw [List.length_replicate]) rfl
  have := (a false).1 rfl
  have := (a true).2 rfl rfl (by decide +kernel) (by decide +kernel)
  have := (h6 { wNode with stageUsed := 131072 } 0).1 (Nat.le_refl _)
  have := (h6 { wNode with stageUsed := 7, heldWrites := [(65536, [1])], pages := [(1, ⟨0, .frozen, []⟩)] } 0).2 65536 [1]
    ⟨0, .frozen, []⟩ (by decide +kernel) rfl (by decide) rfl rfl rfl rfl
  have := h7 { wNode with pages := [(1, ⟨0, .frozen, []⟩)] } 65536 [1] 1
    { staged := none, page := some 1, len := 65536, shard := some 0, send := true, digest := none, sent := false }
    (fun k r h => by
      have h : (if 1 = k then some (⟨0, .frozen, []⟩ : PageRec) else none) = some r := h
      split at h <;> cases h
      exact .inl rfl) rfl rfl rfl (by decide +kernel) rfl rfl ⟨_, rfl⟩ (Nat.le_refl _) (by decide +kernel)
  trivial

/-- A SNAP_RESTORE of one candidate, listed at HBM address 4096. -/
def wRestoreArgs : List Nat := [wHere 4096, 1, 0, 2, 0, 0, 0, 0]
def wCand (entry : Nat) : List (Nat × Byte) :=
  memWrite (memWrite [] 4096 (leBytes 8 9 ++ leBytes 4 1 ++ leBytes 4 0 ++ leBytes 8 (wHere 8192) ++ leBytes 8 0)) 8192
    (leBytes 8 entry ++ leBytes 8 3)
def wRestoreCmd (usage : Nat) (m : List (Nat × Byte)) (b : JobSlot := wJob) : State :=
  wKeyed usage { wCtxCmd 0x0704 wRestoreArgs wCtx with mem := m, jobs := [(0, b)] }
/-- A manifest of no shards, seeds and pages (R385). -/
def wManifest : List Byte := leBytes 4 0x00010000 ++ leBytes 148 0 ++ leBytes 8 320
def wRest2 : Restore := { wRest .confirm true (some 0) with block := leBytes 8 (wHere 4096) ++ [1] }

/-- A node that holds it, in the image of the one candidate. -/
def wAgreed : State := { wNode with mem := memWrite (wCand (wHere 65536)) 65536 wManifest, jobs := [(0, wJob)] }

theorem wPair {α β : Type} {x : α × β} {y : β} (e : x.2 = y) : x = (x.1, y) := by cases x; cases e; rfl
theorem wRead2 : (wAgreed.manifests 0 wJob wRest2 0).2 = some [slice wManifest 0 320] := by decide +kernel

theorem witness_RestoresAgreeAndLoad : Obligations.RestoresAgreeAndLoad → True := fun ⟨h1, h2, h3⟩ => by
  have a (u : Nat) (m : List (Nat × Byte)) (b : JobSlot) := h1 (wRestoreCmd u m b) 0 0 (wStarted 0x0704 wRestoreArgs 1) 0 b
  have := (a 3 [] wJob ⟨⟨rfl, rfl, rfl⟩, rfl, rfl, rfl⟩).1 (by decide +kernel)
  have := ((a 4 [] wJob ⟨⟨rfl, rfl, rfl⟩, rfl, rfl, rfl⟩).2 (by decide +kernel) (by decide +kernel) (by decide +kernel)
    (fun i hi => by cases Nat.lt_one_iff.mp hi; decide +kernel) (by decide +kernel)).1 (by decide +kernel)
  have := ((a 4 (wCand 0) { wJob with ran := true } ⟨⟨rfl, rfl, rfl⟩, rfl, rfl, rfl⟩).2 (by decide +kernel) (by decide +kernel)
    (by decide +kernel) (fun i hi => by cases Nat.lt_one_iff.mp hi; decide +kernel) (by decide +kernel)).2.1 (by decide +kernel) rfl
  have := ((a 4 (wCand (5 * 2 ^ 51 + 65536)) wJob ⟨⟨rfl, rfl, rfl⟩, rfl, rfl, rfl⟩).2 (by decide +kernel) (by decide +kernel)
    (by decide +kernel) (fun i hi => by cases Nat.lt_one_iff.mp hi; decide +kernel) (by decide +kernel)).2.2 (by decide +kernel) rfl
    rfl rfl rfl (by decide +kernel) (by decide +kernel) (by decide +kernel) (by decide +kernel) (fun y hy => by cases hy)
  have := fun b c ms e f => h2 wAgreed (wAgreed.manifests 0 wJob wRest2 c).1 0 b wRest2 c ms e f
  have := this wJob 0 _ rfl (wPair wRead2)
  have := h3 { wSnapCmd 0x0704 SnapJob.zero with started := [wStarted 0x0704 [] 1] } 0 (wRest .vote true) (.ok) _ rfl rfl
  trivial

def wDown (t : Nat) : Started := { wStarted 0x0302 [] 1 with wait := .teardown 0 t }
def wFilter (st : FilterSt) : State := (wNet wCtx).setFilter 2 0 ⟨1, 0, st, false⟩

theorem witness_TeardownAndDrain : Obligations.TeardownAndDrain → True := fun ⟨h1, h2, h3, h4, h5⟩ => by
  have := h1 (wJobCmd 0x0302 []) 0 0 _ 0 wJob ⟨⟨rfl, rfl, rfl⟩, rfl, rfl, rfl⟩ rfl (fun e he => by cases he) (fun e he => by cases he)
    rfl rfl (fun d hd => List.mem_singleton.mp hd)
  have := h2 { wOpen with started := [wDown 5] } 0 wJob (wDown 5) rfl (by decide +kernel)
    (fun x hx _ => by cases List.mem_singleton.mp hx; exact .inr rfl)
  have a (t : Nat) := h3 { wOpen { wJob with teardown := true } with started := [wDown t] } 0 _ rfl rfl
    (fun d hd l t h => by cases List.mem_singleton.mp hd; cases h)
  have := (a 5).1 ⟨wDown 5, List.mem_singleton.mpr rfl, 5, rfl, by decide +kernel⟩
  have := (a 2000000000).2 (fun d hd t h => by cases List.mem_singleton.mp hd; cases h; decide +kernel)
  have := (h4 (wFilter .open) 2 5 0 rfl).1 (.inl (by decide +kernel))
  have := (h4 (wFilter .waiting) 2 1 0 rfl).1 (.inr ⟨0, _, rfl, rfl⟩)
  have := ((h4 (wFilter .open) 2 1 0 rfl).2 0 _ rfl).1 (.inl rfl)
  have := ((h4 (wFilter .draining) 2 1 0 rfl).2 0 _ rfl).2 rfl
  have := (h5 (wFilter .draining) 2 0).1 rfl rfl
  have := (h5 (wFilter .open) 2 0).2 (.inl (by decide))
  trivial

/-- TIME.CTRL of a node with its source and modes in bits. -/
def wTime (bs : List Nat) (s : State) : State := bs.foldl (fun s b => s.setF .timeCtrl [] b b 1) s
def wBeacon (echo : Word) : BeaconMsg := ⟨2000000500, echo, 0, 3, 7⟩

theorem witness_NodeIdentityAndSpanTime : Obligations.NodeIdentityAndSpanTime → True := fun ⟨h1, h2, h3, h4, h5, h6⟩ => by
  have := (h1 wOpen 3 5 ⟨rfl, rfl⟩).1 (by decide)
  have := (h1 wNode 3 5 ⟨rfl, rfl⟩).2 rfl
  obtain ⟨t, _, _, _, _, h, ⟨d, _, _, _, _⟩, _⟩ := h2 wNode 2000000
  have := h rfl (by decide)
  obtain ⟨t, _, _, _, _, _, ⟨d, _, _, _, h⟩, _⟩ := h2 wOpen 2000000
  have := h (by decide)
  have := (h3 wNode).1 (.inl rfl)
  have := (h3 (wTime [4, 1] (wLinked wActive))).2 rfl rfl rfl
  have a (bs : List Nat) (echo : Word) := h4 (wTime bs (wLinked wActive)) 2 (wBeacon echo)
  have := (h4 ((wLinked wActive).setF .timeCtrl [] 1 1 0) 2 (wBeacon 0)).1 (.inr rfl)
  have := ((a [1, 4] 0).2 rfl rfl).1 (.inl rfl)
  have := ((a [1] 0).2 rfl rfl).2 rfl (by decide +kernel) rfl rfl rfl
  have a (t : Nat) := h5 ({ wNode with clock := { wNode.clock with beaconLast := some t } }.setF .timeStatus [] 63 62 2)
  have := (a 5).1 5 rfl rfl (by decide +kernel)
  have := (a 1999999999).2 (.inr (fun t0 h => by cases h; decide +kernel))
  have := (h6 wNode 5 ⟨4⟩).1 (by decide +kernel)
  have a (bs : List Nat) (v : Nat) (h) (h') := (h6 ((wTime bs wNode).setF .timeStatus [] 63 62 v) 0 ⟨4⟩).2 h h'
  have := (a [0, 4] 0 rfl rfl).1 rfl
  have := (a [0] 2 rfl rfl).2.1 rfl rfl
  have := (a [0] 1 rfl rfl).2.2 rfl (by decide +kernel)
  trivial

def wBatch2 : Batch :=
  { q := 0, seq := 0, job := 0, probs := 0, results := 0, count := 1, pstride := 64, deadline := 0, tally := 0, afterStep := 0, kind := 0
    warm := false, first := 0, nclusters := 2, start := some 0, ended := [], unread := false }

theorem witness_CheckFaultsReplayAndRemap : Obligations.CheckFaultsReplayAndRemap → True := fun ⟨h1, h2, h3⟩ => by
  have := (h1 wNode 0).1 rfl
  have := ((h1 wAt 0).2 _ _ _ rfl rfl rfl rfl).1 rfl (by decide +kernel)
  have := ((h1 (wAt wCore [{ wUnit (.issued 0) with checks := 1 }]) 0).2 _ _ _ rfl rfl rfl rfl).2 (by decide) (by decide)
  have := h2 wOpen 0 0 _ _ rfl (by decide +kernel) (fun c => rfl) (Option.eq_some_of_isSome (by decide +kernel))
  have := h3 { wOpen with batches := [wBatch2] } 0 0 wBatch2 (by decide +kernel) (List.mem_singleton.mpr rfl) rfl (by decide) (by decide)
    (fun y hy => by cases List.mem_singleton.mp hy; decide)
  trivial

theorem witness_ElementLosses : Obligations.ElementLosses → True := fun ⟨h1, h2, h3, h4⟩ => by
  have := h1 (wCmd 0x0101 []) 0 0 0 _ rfl rfl rfl rfl ⟨1, by decide, by decide, rfl, rfl⟩
  have := h2 wNode 3
  have := (h3 { wNode with package := { wNode.package with pdieFailed := [7] } } 7).1 (.inr (by decide))
  have := (h3 wNode 7).2 (by decide) (by decide)
  have := (h4 wNode).1 (by decide +kernel)
  have := (h4 { wNode with granite := { wNode.granite with pairs := ⟨true, false, false⟩ } }).2 (by decide +kernel)
  trivial

def wBroadcasts : List Broadcast := [⟨1, 0, 10, 4, 5⟩]

theorem witness_HealthAndBroadcastRecords : Obligations.HealthAndBroadcastRecords → True := fun ⟨⟨h1, h2⟩, h3, h4⟩ => by
  obtain ⟨t, _, _, a, _, _, _⟩ := h1 { wNode with broadcasts := wBroadcasts } 1 0 10 true _ rfl
  have := a (by decide)
  obtain ⟨t, _, _, _, a, _, _⟩ := h1 { wNode with broadcasts := wBroadcasts } 1 0 6 true _ rfl
  have := a (by decide) (by decide)
  obtain ⟨t, _, _, _, _, a, _⟩ := h1 { wNode with broadcasts := wBroadcasts } 1 0 4 true _ rfl
  have := a (by decide) rfl rfl (by decide +kernel)
  obtain ⟨t, _, _, _, _, _, a⟩ := h1 { wNode with broadcasts := wBroadcasts } 1 0 4 false _ rfl
  have := a (by decide) rfl (.inl rfl)
  obtain ⟨h, _, _, _, a, _, _, _, b, c⟩ := h2 ({ wOpen with package := { wOpen.package with lost := true } }.setF .timeEvents [] 3 3 1)
  have := a 0 wJob (List.mem_singleton.mpr rfl)
  have := b _ 8 .timeEvents [] .timeIdRefused (List.mem_singleton.mpr rfl) (by decide +kernel) (by decide +kernel) rfl (by decide +kernel)
  have := c rfl
  have a (x : Nat) := h3 (wCmd 0x0901 [x]) 0 0 (wStarted 0x0901 [x])
  have := (a 0 ⟨rfl, rfl, rfl⟩).1 (by decide +kernel)
  have := (a (wHere 4096) ⟨rfl, rfl, rfl⟩).2 (by decide +kernel)
  have := (h4 wNode).2 rfl
  trivial

/-- A mailbox block (R435): its response goes to HBM address 8192, its data lies at 65536. -/
def wBlk (code len : Nat) (args : List Byte) : List Byte :=
  leBytes 2 code ++ leBytes 6 0 ++ leBytes 8 8192 ++ leBytes 8 65536 ++ leBytes 4 len ++ args ++ leBytes (36 - args.length) 0
def wMbx (m : Nat) (b : List Byte) (data : List Byte := []) : State :=
  { wNode with mem := memWrite [] 65536 data, granite := { wNode.granite with mbx := [(m, ⟨b⟩)], mbxOrder := [m] } }
def wProt (p : Protection) (s : State) : State := { s with flash := { s.flash with protection := p } }
def wAuthority : KeySlot := ⟨0, true, 0, 0, [], []⟩
/-- A key import record (R439) for slot 2. -/
def wKeyRecord (usage : Byte) : List Byte := leBytes 4 0x00010000 ++ [2, usage, 1, 0, 0] ++ leBytes 39 0 ++ leBytes 64 7 ++ leBytes 160 0
/-- The manifest of an image of one chunk, of job 1 (R396). -/
def wImageManifest : List Byte := leBytes 4 0x00020000 ++ leBytes 4 1 ++ leBytes 8 100 ++ leBytes 2 1 ++ leBytes 142 0
def wAsks (m : Nat) (b : List Byte) (data : List Byte) (k : Option KeySlot) (p : Protection) : State :=
  let s := wProt p (wMbx m b data)
  match k with
  | some k => { s with granite := { s.granite with keys := [(2, k)] } }
  | none => s
def wUses (u : Nat) (k : Option KeySlot) : Protection :=
  { Protection.factory with usages := [(2, u)], authority := match k with | some k => [(0, k)] | none => [] }

theorem witness_MailboxServices : Obligations.MailboxServices → True :=
    fun ⟨⟨h1, h2⟩, h3, h4, h5, h6, h7, h8, h9, h10, h11⟩ => by
  have := (h1 wNode 3 4 0 ⟨rfl, rfl⟩).1 (by decide)
  have := (h1 (wMbx 3 (wBlk 1 0 [])) 3 3 0 ⟨rfl, rfl⟩).2.1 rfl (by decide)
  have := ((h1 { wNode with mem := memWrite [] 0 (wBlk 1 0 []) } 3 3 0 ⟨rfl, rfl⟩).2.2 (wBlk 1 0 []) rfl rfl rfl rfl
    (wPair (by decide +kernel)) (by decide +kernel)).1 (.inl (by decide +kernel))
  have := ((h1 { wNode with mem := memWrite [] 0 (wBlk 2 0 []) } 3 3 0 ⟨rfl, rfl⟩).2.2 (wBlk 2 0 []) rfl rfl rfl rfl
    (wPair (by decide +kernel)) (by decide +kernel)).2 (by unfold mayAsk; decide +kernel)
  have := h2 wNode 3 ⟨wBlk 1 0 []⟩ (.ok 5) (by decide +kernel)
  have a (w : Nat) := h3 (wMbx 0 (wBlk 1 0 (leBytes 2 w))) 0 ⟨wBlk 1 0 (leBytes 2 w)⟩
  have := (a 999 ⟨rfl, rfl, rfl⟩ rfl).1 (.inl (by decide +kernel))
  have := (a 4000 ⟨rfl, rfl, rfl⟩ rfl).2 (by decide +kernel) (by decide +kernel)
  have a (k : KeySlot) (bs : List Byte) := h4 (wAsks 1 (wBlk 2 160 [2]) bs (some k) (wUses 4 none))
    (wAsks 1 (wBlk 2 160 [2]) bs (some k) (wUses 4 none)) 1 ⟨wBlk 2 160 [2]⟩ bs k
  have := (a ⟨4, true, 2, 0, [], []⟩ wImageManifest ⟨rfl, rfl, rfl⟩ rfl (wPair (by decide +kernel)) rfl).1 (by decide +kernel)
  have := (a ⟨4, true, 0, 0, [], []⟩ (leBytes 160 1) ⟨rfl, rfl, rfl⟩ rfl (wPair (by decide +kernel)) rfl).2.1 (by decide +kernel)
    (fun h => absurd h.1 (by decide +kernel))
  have b := a ⟨4, true, 1, 0, [], []⟩ wImageManifest ⟨rfl, rfl, rfl⟩ rfl (wPair (by decide +kernel)) rfl
  have := fun h => b.2.2 (by decide +kernel) ⟨by decide +kernel, h⟩
  have a (u : Nat) (k : Option KeySlot) (bs : List Byte) := h5 (wAsks 0 (wBlk 3 272 []) bs none (wUses u k))
    (wAsks 0 (wBlk 3 272 []) bs none (wUses u k)) 0 ⟨wBlk 3 272 []⟩ bs
  have := (a 4 none (leBytes 272 1) ⟨rfl, rfl, rfl⟩ rfl rfl (wPair (by decide +kernel))).1 (by decide +kernel)
  have := (a 0 none (wKeyRecord 4) ⟨rfl, rfl, rfl⟩ rfl rfl (wPair (by decide +kernel))).2.1 (by decide +kernel) (by decide +kernel)
  have := (a 4 none (wKeyRecord 4) ⟨rfl, rfl, rfl⟩ rfl rfl (wPair (by decide +kernel))).2.2.2.1 (by decide +kernel) (by decide +kernel)
    (fun h => absurd h (by decide +kernel)) (fun ⟨k, h, _⟩ => by cases h)
  have b := a 4 (some wAuthority) (wKeyRecord 4) ⟨rfl, rfl, rfl⟩ rfl rfl (wPair (by decide +kernel))
  have := fun h => b.2.2.2.2 _ (by decide +kernel) (by decide +kernel) (fun h => absurd h (by decide +kernel)) ⟨_, rfl, h⟩ (if_pos (by decide +kernel))
  have b := a 3 none (wKeyRecord 3) ⟨rfl, rfl, rfl⟩ rfl rfl (wPair (by decide +kernel))
  have := fun h => b.2.2.1 (by decide +kernel) (by decide +kernel) h
  have := h6 (wMbx 0 (wBlk 4 0 [2])) 0 ⟨wBlk 4 0 [2]⟩ ⟨rfl, rfl, rfl⟩ rfl (by decide +kernel) (by decide +kernel)
  have := h7 (wProt { Protection.factory with admitted := [⟨5, true⟩] } (wMbx 3 (wBlk 5 36 [0, 0, 1, 0]))) 3 ⟨wBlk 5 36 [0, 0, 1, 0]⟩
    ⟨rfl, rfl, rfl⟩ rfl (by decide +kernel) (by decide +kernel) (by decide +kernel) (by decide +kernel) (by decide +kernel)
  obtain ⟨bs, _, _, _, _⟩ := h8 (wMbx 3 (wBlk 6 2049 [])) 3 ⟨wBlk 6 2049 []⟩ ⟨rfl, rfl, rfl⟩ rfl (by decide +kernel) (by decide +kernel)
  have := fun h h' h'' => h9 (wMbx 3 (wBlk 7 100 [])) 3 ⟨wBlk 7 100 []⟩ ⟨rfl, rfl, rfl⟩ rfl h h' h''
  have a (bs : List Byte) := h10 (wMbx 3 (wBlk 8 1024 []) bs) (wMbx 3 (wBlk 8 1024 []) bs) 3 ⟨wBlk 8 1024 []⟩
  have := (a [] (leBytes 1024 0) ⟨rfl, rfl, rfl⟩ rfl (wPair (by decide +kernel))).1 (by decide +kernel)
  have := fun b h h' => ((a [] (leBytes 1024 0) ⟨rfl, rfl, rfl⟩ rfl (wPair (by decide +kernel))).2 b h).2 h'
  have a (u : Nat) := h11 (wAsks 2 (wBlk 9 32 [2]) [] (some ⟨u, true, 1, 0, [], []⟩) (wUses 3 none))
    (wAsks 2 (wBlk 9 32 [2]) [] (some ⟨u, true, 1, 0, [], []⟩) (wUses 3 none)) 2 ⟨wBlk 9 32 [2]⟩ (leBytes 32 0)
  have := (a 4 ⟨rfl, rfl, rfl⟩ rfl rfl rfl rfl rfl (wPair (by decide +kernel))).1 (fun k h => by
    cases h; exact .inl (by decide))
  have := (a 3 ⟨rfl, rfl, rfl⟩ rfl rfl rfl rfl rfl (wPair (by decide +kernel))).2 _ rfl (by decide +kernel) rfl rfl (by decide +kernel)
  trivial

/-- A change record (R440) of this node with one operation that clears an entry of the policy table, signed as authorities a and b. -/
def wRecordOf (i a b : Byte) (prot : Nat) (device : List Byte := digestBytes wNode.identity) : List Byte :=
  leBytes 4 0x00010000 ++ leBytes 4 256 ++ leBytes 32 9 ++ device ++ leBytes 4 prot ++ leBytes 4 1 ++
  (leBytes 2 1 ++ leBytes 2 36 ++ [i] ++ leBytes 35 0) ++ [a, b] ++ leBytes 6 0 ++ leBytes 128 0
def wProposed (r : List Byte) : Started := { wStarted 0x0802 [] with params := r }
/-- The node with both authorities, one live nonce and that proposal. -/
def wPropose (r : List Byte) (nonces : List Digest := [9]) : State :=
  { wProt { Protection.factory with authority := [(0, wAuthority), (1, wAuthority)] } wNode with
    started := [wProposed r], granite := { wNode.granite with nonces := nonces } }

theorem witness_TwoPartyChange : Obligations.TwoPartyChange → True := fun ⟨h1, h2, h3, h4⟩ => by
  have := h1 (wCmd 0x0801 [wHere 4096]) 0 0 _ ⟨rfl, rfl, rfl⟩ (by decide +kernel) (by decide)
  have := h2 (wCmd 0x0803 []) 0 0 _ ⟨rfl, rfl, rfl⟩
  have := (h3 { wNode with started := [wProposed []] } 0 0 (wProposed []) ⟨rfl, rfl, rfl⟩).1 rfl (by decide)
  have a (r : List Byte) (ns : List Digest) := h3 (wPropose r ns) 0 0 (wProposed r) ⟨rfl, rfl, rfl⟩
  have := (a [] []).2.1 rfl (by decide +kernel)
  have a (r : List Byte) (ns : List Digest) (xs : List TpOp) := (a r ns).2.2 xs rfl
  have a0 := a
  have := (a (wRecordOf 5 0 1 0) [] _ (Option.eq_some_of_isSome (by decide +kernel))).1 (by decide +kernel)
  have := fun h => ((a (wRecordOf 5 0 1 0 (leBytes 32 0)) [9] _ (Option.eq_some_of_isSome (by decide +kernel))).2 (by decide +kernel)).1 h
  have a (r : List Byte) (xs : List TpOp) (h) (h') (h'') := (((a r [9] xs h).2 h').2 h'')
  have := (a (wRecordOf 5 0 1 3) [⟨1, 5 :: leBytes 35 0⟩] (by decide +kernel) (by decide +kernel) rfl).1 (by decide +kernel)
  have a (r : List Byte) (h) (h') (h'') (h3) := (a r [⟨1, 5 :: leBytes 35 0⟩] h h' h'').2 h3
  have := (a (wRecordOf 5 1 1 0) (by decide +kernel) (by decide +kernel) rfl (by decide +kernel)).1 (by decide +kernel)
  have := (a (wRecordOf 5 1 2 0) (by decide +kernel) (by decide +kernel) rfl (by decide +kernel)).2.1 (by decide +kernel)
    (.inr (by decide +kernel))
  have b := (a (wRecordOf 5 0 1 0) (by decide +kernel) (by decide +kernel) rfl (by decide +kernel)).2.2 (by decide +kernel)
    (by decide +kernel) (by decide +kernel)
  have := fun h => b.1 h
  have := fun h => ((((a0 (wRecordOf 100 0 1 0) [9] [⟨1, 100 :: leBytes 35 0⟩] (by decide +kernel)).2 (by decide +kernel)).2 rfl).2
    (by decide +kernel)).2.2 (by decide +kernel) (by decide +kernel) (by decide +kernel) |>.2.1 1 h (by decide +kernel)
  have := fun h => b.2.2 _ h rfl
  have a (enables : Byte) (b : Protection) := h4 wNode ⟨b, none, none, false, []⟩
  have := (a 0 Protection.factory [5]).1 (by decide)
  have := (a 0 { Protection.factory with admitted := [⟨5, true⟩] } [5]).2.1 ⟨_, List.mem_singleton.mpr rfl, by decide +kernel⟩
  have := (a 0 Protection.factory [5]).2.2.1 (fun e he => by cases he)
  have := (a 0 Protection.factory [5, 3]).2.2.2.1 (by decide) (by decide) (by decide)
  have := (a 0 Protection.factory [5, 3]).2.2.2.2 (by decide)
  trivial

theorem witness_Attestation : Obligations.Attestation → True := fun h => by
  have := (h wNode .mctp []).1 (.inl (by decide +kernel)) _ (List.mem_cons_self ..)
  obtain ⟨_, _, _, _, _, ms, _, _, a, _⟩ := (h (wNode.setF .hstBoot [] 63 61 5) .mctp []).2 (by decide +kernel) (.inl rfl)
  have := fun b h => a b h
  trivial

def wStage (n : Nat) (s : State := wNode) : State := s.setF .hstBoot [] 63 61 n
def wImageOf (t : Nat) : List Byte := leBytes 4 0x00010000 ++ leBytes 252 t
/-- The node with a bundle of four empty images in set A. -/
def wBundled : State :=
  { wNode with flash := { wNode.flash with setA := (List.range 4).flatMap wImageOf }, granite := { wNode.granite with bootSet := false } }
def wOut (b : Bool) (s : State := wNode) : State := { s with package := { s.package with perst := b } }

theorem witness_BootRestartsAndResets : Obligations.BootRestartsAndResets → True :=
    fun ⟨⟨h1, h2, h3, h4, h5, h6, h7, h8⟩, k1, _, k3, _⟩ => by
  have := (h1 wNode).1 rfl
  have := (h1 State.reset).2 rfl
  have := (h2 State.reset true).1 (.inl rfl)
  have a (b : Bool) := (h2 (wOut false) b).2 rfl rfl
  have := (h3 wNode).1 (.inr (.inr (by decide +kernel)))
  have := (h3 (wStage 2 (wOut true wBundled))).2 _ rfl rfl (by decide +kernel) rfl rfl (Option.eq_some_of_isSome (by decide +kernel))
    (by decide +kernel)
  have := h4 (wStage 3) 0x00FF .cxl31 (by decide +kernel) rfl (by decide +kernel) (by decide) (by decide)
  have := (h5 wNode).1 (by decide +kernel)
  have := (h5 (wStage 3)).2 (by decide +kernel)
  have := (h6 wNode).1 (by decide +kernel)
  have := (h6 (wStage 4)).2 (by decide +kernel)
  have := (h7 State.reset .overvoltage (by decide)).1 rfl
  have := (h7 wNode .undervoltage (by decide)).2 rfl
  have := (h8 (wOut true)).1 (.inl rfl)
  have := (h8 (wStage 2 (wOut false))).2 rfl rfl (by decide +kernel)
  have := k1 (wCmd 0x0A01 [1]) 0 0 _ ⟨rfl, rfl, rfl⟩ rfl rfl rfl rfl
  have := (k3 { wCmd 0x0A02 [5] with flash := { wNode.flash with map := { UnitMap.empty with clusters := [(5, .disabled)] } } } 0 0
    (wStarted 0x0A02 [5]) ⟨rfl, rfl, rfl⟩).1 (by decide +kernel)
  have := (k3 { wOpen with started := [wStarted 0x0A02 [1]] } 0 0 (wStarted 0x0A02 [1]) ⟨rfl, rfl, rfl⟩).2.1 (by decide +kernel)
    ⟨wPlacement, rfl, (1, ⟨1, List.range 16, some 16⟩), by decide, by decide +kernel⟩
  have := (k3 (wCmd 0x0A02 [5]) 0 0 (wStarted 0x0A02 [5]) ⟨rfl, rfl, rfl⟩).2.2 (by decide +kernel) (fun ⟨_, h, _⟩ => by cases h)
  trivial

def wHost (m : HostMode) (s : State := wNode) : State := { s with hostPort := { s.hostPort with mode := m, width := 16 } }
/-- The host port as CXL 3.1 with memory active, under an access policy. -/
def wCxl (p : Protection := Protection.factory) : State := (wProt p (wHost .cxl31)).setF .hstBoot [] 32 32 1
def wSnoops (l : SnoopLine) (held : List (Nat × List Byte)) : State :=
  { wHost .cxl31 with hostPort := { (wHost .cxl31).hostPort with snoop := [l] }, heldWrites := held }
/-- A key record for the IDE streams at HBM address 64. -/
def wIde (b : Byte) : State := { wHost .cxl31 with mem := memWrite [] 64 (leBytes 4 0x00010000 ++ [b] ++ leBytes 227 0) }
def wDownAt (t : Nat) : State := { wNode with started := [{ wStarted 0x0201 [] with wait := .hostDown t }] }
def wPath (p : BitVec 128) : MgtPath := ⟨false, p⟩

theorem witness_HostPort : Obligations.HostPort → True :=
    fun ⟨⟨h1, h2, h3, h4, h5, h6, h7, h8, h9, h10, h11⟩, k1, k2, k3⟩ => by
  have := (h1 (wHost .cxl20) 64).1 (by decide)
  have := (h1 (wHost .pcie6) 64).2 (by decide)
  have := (h2 (wCxl { Protection.factory with policy := [] }) 70 true rfl (by decide +kernel) (by decide) (by decide +kernel)).1 (by decide +kernel)
  have := (h2 (wCxl { Protection.factory with policy := [] }) 70 true rfl (by decide +kernel) (by decide) (by decide +kernel)).2.2.1
    (List.replicate 64 1) (by decide) (by decide +kernel)
  have a := h2 wCxl 70 true rfl (by decide +kernel) (by decide) (by decide +kernel)
  have := a.2.1 (by decide +kernel) rfl (fun l hl => by cases hl) (by decide)
  have := a.2.2.2 (List.replicate 64 1) (by decide) (by decide +kernel) rfl rfl
  have := h3 (wSnoops ⟨1, none⟩ []) 70 (fun l hl _ => by cases List.mem_singleton.mp hl; rfl)
  have := h4 (wSnoops ⟨1, some 5⟩ [(70, [1])]) 70 [1] 5 rfl rfl (by decide) (by decide) rfl rfl
  have := this.2.2 (by decide +kernel)
  have := (h4 (wSnoops ⟨1, some 2000000000⟩ [(70, [1])]) 70 [1] 2000000000 rfl rfl (by decide) (by decide) rfl rfl).2.1 (by decide +kernel)
  have := h5 (wSnoops ⟨1, none⟩ []) 70 [1] rfl rfl rfl (by decide) (by decide) (by decide)
  have a (b : Byte) := h6 (wIde b) ((wIde b).setF .hstIdeKey [] 50 6 1) 3
  have := (a 0 64 (leBytes 232 0) ⟨rfl, rfl⟩).1 (by decide)
  have := ((a 7 65 (leBytes 4 0x00010000 ++ [7] ++ leBytes 227 0) ⟨rfl, rfl⟩).2 (by decide) (by decide +kernel)
    (Prod.ext rfl (by decide +kernel))).1 (by decide +kernel)
  have b := (a 0 65 (leBytes 4 0x00010000 ++ [0] ++ leBytes 227 0) ⟨rfl, rfl⟩).2 (by decide) (by decide +kernel)
    (Prod.ext rfl (by decide +kernel))
  have := fun h => b.2 h
  have := (h7 wNode 1).1 (by decide +kernel)
  have := (h7 (wNode.setF .hstIdeState [] 7 4 2) 1).2 (by decide +kernel)
  have a (b : BitVec 16) (h) := h8 (wHost .cxl31) b (by decide) h
  have := (h8 { wHost .cxl31 with hostPort := { (wHost .cxl31).hostPort with width := 4 } } 0x00FF (by decide) (by decide)).1 (by decide)
  have := (a 0xF000 (by decide)).2.1 (by decide) (by decide)
  have := (a 0x00F0 (by decide)).2.2 (by decide) rfl
  have := (h9 wNode).1 rfl
  have := (h9 (wHost .pcie5)).2 (by decide)
  have a (t : Nat) := h10 ({ wNode with hostPort := { wNode.hostPort with detectLast := t } }.setF .hstBoot [] 33 33 1) 0xFFFF .cxl31
  have := (a 1999999999 rfl (by decide +kernel) rfl (by decide)).1 (by decide +kernel)
  have := (a 5 rfl (by decide +kernel) rfl (by decide)).2 (by decide +kernel)
  have := (h11 (wDownAt 1999999999) 0 0 _ _ rfl rfl).1 (by decide +kernel)
  have := (h11 (wDownAt 5) 0 0 _ _ rfl rfl).2 (by decide +kernel)
  have a := k1 (wHost .cxl31) (by decide)
  obtain ⟨_, _, _, _, _⟩ := a.2.2.1
  have := a.2.2.2.1 0 true rfl (by decide +kernel)
  have := (a.2.2.2.2 0x18000 8 5 (by decide) rfl).1 (by decide)
  have := (a.2.2.2.2 16 8 5 (by decide) rfl).2 (by decide)
  have := (k2 wNode (wPath 0) 0 0 []).1 (by decide +kernel)
  have := (k2 (wStage 5) (wPath 1) 0 0 []).2.1 (by decide +kernel) rfl (by decide +kernel)
  have a (s : State) (h) (h') := (k2 s (wPath 0) 0xA000018 0 (leBytes 64 0)).2.2 h h'
  have b := a (wStage 5) (by decide +kernel) (.inr (by decide +kernel))
  have := b.2.1 (by decide)
  have := b.2.2.1 (by decide +kernel)
  have b (n : W32) (h) (h') := a (wStage 5 { wNode with queues := [(0, { wQueue .active with producer := n })] }) h h'
  have := (b 64 (by decide +kernel) (.inr (by decide +kernel))).2.2.2.1 (by decide +kernel) (by decide +kernel)
  have := (b 0 (by decide +kernel) (.inr (by decide +kernel))).2.2.2.2 _ (by decide +kernel) (by decide +kernel) rfl (by decide +kernel)
  have := k3 wNode 3 1 5 ⟨rfl, rfl⟩
  trivial

/-! ## The checks of WellFormed

Each theorem gives one command that breaks one check, which `step` then stops on. -/

def wRun1 (i : Instr) : Host.Outcome State Fault Refusal := step { wNode with pending := [i] }

theorem stops {i : Instr} (h : i.wellFormed = false) : wRun1 i = .fault .illFormed := by
  simp [wRun1, step, h]

def wCapOf (n : Nat) : Capability :=
  ⟨0, 3, 3, 0, 0, List.replicate n 0, List.replicate 8 0, List.replicate 8 0, false⟩
def wOp (op : Nat) : Packet := { wPacket with op := BitVec.ofNat 8 op }

theorem test_ill_bar2 : wRun1 (.componentRegisterWrite (.bar2 0 2 0)) = .fault .illFormed := stops (by decide +kernel)
theorem test_ill_capability : wRun1 (.trainingDone 0 (wCapOf 7) []) = .fault .illFormed := stops (by decide +kernel)
theorem test_ill_flit : wRun1 (.flitReceive 0 [] 0 0) = .fault .illFormed := stops (by decide +kernel)
theorem test_ill_bind : wRun1 (.bindPacket 0 (wOp 1)) = .fault .illFormed := stops (by decide +kernel)
theorem test_ill_load : wRun1 (.loadPacket 0 (wOp 2)) = .fault .illFormed := stops (by decide +kernel)
theorem test_ill_store : wRun1 (.storePacket 0 (wOp 3)) = .fault .illFormed := stops (by decide +kernel)
theorem test_ill_atomic : wRun1 (.atomicPacket 0 (wOp 4)) = .fault .illFormed := stops (by decide +kernel)
theorem test_ill_signal : wRun1 (.signalPacket 0 (wOp 5)) = .fault .illFormed := stops (by decide +kernel)
theorem test_ill_copy_open : wRun1 (.copyOpen 0 (wOp 6)) = .fault .illFormed := stops (by decide +kernel)
theorem test_ill_piece : wRun1 (.piecePacket 0 (wOp 7)) = .fault .illFormed := stops (by decide +kernel)
theorem test_ill_msg : wRun1 (.msgPacket 0 (wOp 8)) = .fault .illFormed := stops (by decide +kernel)
theorem test_ill_red : wRun1 (.redPiece 0 (wOp 9)) = .fault .illFormed := stops (by decide +kernel)
theorem test_ill_reply : wRun1 (.replyPacket 0 (wOp 0x11)) = .fault .illFormed := stops (by decide +kernel)
theorem test_ill_piece_ack : wRun1 (.pieceAck 0 (wOp 0x12)) = .fault .illFormed := stops (by decide +kernel)
theorem test_ill_query : wRun1 (.queryPacket 0 (wOp 0x13)) = .fault .illFormed := stops (by decide +kernel)
theorem test_ill_query_reply : wRun1 (.queryReply 0 (wOp 0x14)) = .fault .illFormed := stops (by decide +kernel)
def wLong : Packet := { wOp 2 with payload := List.replicate 65536 0 }
theorem wLongBad : wLong.wellFormed = false := by
  unfold Packet.wellFormed wLong; rw [List.length_replicate]; decide
theorem test_ill_payload : wRun1 (.storePacket 0 wLong) = .fault .illFormed :=
  stops (by show ((wLong.wellFormed && wLong.op == 0x02) && true) = false; rw [wLongBad]; rfl)
theorem test_ill_queue0_enable : wRun1 (.queue0Enable 3 2) = .fault .illFormed := stops (by decide +kernel)
theorem test_ill_queue0_disable : wRun1 (.queue0Disable 3 1) = .fault .illFormed := stops (by decide +kernel)
theorem test_ill_queue0_reset : wRun1 (.queue0Reset 3 1) = .fault .illFormed := stops (by decide +kernel)
theorem test_ill_link_enable : wRun1 (.linkEnable 3 0 2) = .fault .illFormed := stops (by decide +kernel)
theorem test_ill_link_disable : wRun1 (.linkDisable 3 0 1) = .fault .illFormed := stops (by decide +kernel)
theorem test_ill_retrain : wRun1 (.axlRetrain 3 0 1) = .fault .illFormed := stops (by decide +kernel)
theorem test_ill_slot : wRun1 (.mgtSlotSubmit (wPath 0) []) = .fault .illFormed := stops (by decide +kernel)
theorem test_ill_hdm : wRun1 (.hdmAccess 0 (some []) false) = .fault .illFormed := stops (by decide +kernel)
/-- Major 0x03 is ANDI's, not ADDI's (R117). -/
theorem test_ill_word : wRun1 (.addi 0 (wI 0x03 1 0 0)) = .fault .illFormed := stops (by decide +kernel)

/-! ## Results taken from the manual's examples -/

/-- The map of R21's example: clusters 170 and 171 disabled, core 3 of cluster 200 disabled, clusters 300 to 302 weak. -/
def wMap : UnitMap :=
  { UnitMap.empty with clusters := [(170, .disabled), (171, .disabled), (300, .weak), (301, .weak), (302, .weak)]
                       cores := [17 * 200 + 3] }

/-- Logical cluster 239 is physical cluster 250 (R21's example). -/
theorem test_placement_run : ((wMap.chosen 1).getD [])[79]? = some 250 := by decide +kernel
/-- Cluster 200's logical cores 3 to 15 are physical cores 4 to 16, with no spare (R21's example). -/
theorem test_placement_core : wMap.record 200 = ⟨200, [0, 1, 2, 4, 5, 6, 7, 8, 9, 10, 11, 12, 13, 14, 15, 16], none⟩ := by decide +kernel
/-- Byte 0x100 of the Shale slice of logical cluster 300, core 5, node 1,234 (R26's example). -/
theorem test_pointer : (ptrNode 0x2690010096280100, ptrOff 0x2690010096280100) = (1234, 2 ^ 40 + 300 * 2 ^ 23 + 5 * 2 ^ 19 + 0x100) := by decide
/-- E2M1 1.5 and −4 pack into 0xE3 (R173's example). -/
theorem test_pack : packRow 4 [3, 0xE] = [0xE3] := by decide
/-- E4M3 of 464: a tie, 448 (R178's table). -/
theorem test_e4m3_tie : (encodeElem 6 false false none (.fin false 464 0)).1 = 0x7E := by decide +kernel
/-- E4M3 of −2^−10: a tie, −0, UNDER (R178's table). -/
theorem test_e4m3_under : encodeElem 6 false false none (.fin true 1 (-10)) = (0x80, { converted := 1, under := 1 }) := by decide +kernel
/-- E5M2 of 61,440: overflow, saturated (R178's table). -/
theorem test_e5m2_overflow : encodeElem 7 false false none (.fin false 61440 0) = (0x7B, { converted := 1, sat := 1 }) := by decide +kernel
/-- E2M1 of −7 (R178's table). -/
theorem test_e2m1_sat : encodeElem 3 false false none (.fin true 7 0) = (0xF, { converted := 1, sat := 1 }) := by decide +kernel
/-- INT8 of −128.5: the even neighbour −128 (R178's table). -/
theorem test_int8 : (encodeElem 0 false false none (.fin true 257 (-1))).1 = 0x80 := by decide +kernel
/-- 0.3 to E2M1: 0.5 from the random word 0x6666_6600 on (R184's example). -/
theorem test_stochastic_up : (encodeElem 3 false false (some 0x66666600) (.fin false 10066330 (-25))).1 = 1 := by decide +kernel
theorem test_stochastic_down : encodeElem 3 false false (some 0x666665FF) (.fin false 10066330 (-25)) = (0, { converted := 1, under := 1 }) := by
  decide +kernel
/-- Placements of K-blocks 0 and 1 at anchor −2: 18 and 0; at anchor −8: 1,184 and 10 (R204's example). -/
theorem test_place : [placeGrid (-2) 1212416 (-18), placeGrid (-2) 81920 (-21), placeGrid (-8) 1212416 (-18), placeGrid (-8) 81920 (-21)] =
    [(18, false), (0, false), (1184, false), (10, false)] := by decide +kernel
/-- Offset 0x6_0001_2340 is on pseudo-channel 51, local granule 262,144; the next granule on 52 (R296's example). -/
theorem test_hbm_map : [hbmMap 0x600012340, hbmMap (0x600012340 + 256)] = [(51, 262144), (52, 262144)] := by decide +kernel

end Sys2Proof.Tests
end

/-!
# Every step keeps the memory canonical

One lemma for each operation of the model, in the order of the model's files: from a state whose memory is in canonical
form the operation gives such a state. Where memory is written the lemmas of `Laws/Memory` say it; everywhere else the
lemma follows the operation's branches. The arms of `exec` and the two cases of `step` put them together.
-/

namespace Sys2Proof.Machine

open State

-- Several hundred declarations elaborated at once would need more threads than the check allows.
set_option Elab.async false

variable {s : State}

/-- The memory of a state is in canonical form. -/
def State.MemWf (s : State) : Prop := Memory.wf s.mem = true

theorem ite_wf {c : Prop} [Decidable c] {s t : State} (hs : s.MemWf) (ht : t.MemWf) : (if c then s else t).MemWf := by
  split <;> assumption

theorem ite_fst_wf {α : Type} {c : Prop} [Decidable c] {p q : State × α} (hp : p.1.MemWf) (hq : q.1.MemWf) :
    (if c then p else q).1.MemWf := by split <;> assumption

theorem foldl_wf {α : Type} {f : State → α → State} {l : List α} {s : State}
    (hf : ∀ {t x}, t.MemWf → (f t x).MemWf) (w : s.MemWf) : (l.foldl f s).MemWf :=
  foldl_keeps State.MemWf f (fun _ _ => hf) l s w

theorem foldl_fst_wf {α β : Type} {f : State × β → α → State × β} {l : List α} {p : State × β}
    (hf : ∀ {r x}, r.1.MemWf → (f r x).1.MemWf) (w : p.1.MemWf) : (l.foldl f p).1.MemWf :=
  foldl_keeps (fun r : State × β => r.1.MemWf) f (fun _ _ => hf) l p w

theorem fst_wf {α : Type} {p : State × α} {t : State} {x : α} (e : p = (t, x)) (h : p.1.MemWf) : t.MemWf := by
  subst e; exact h

theorem mk_wf {α : Type} {s : State} {x : α} (hs : s.MemWf) : (s, x).1.MemWf := hs

theorem sameMem {s t : State} (hs : s.MemWf) (h : t.mem = s.mem := by rfl) : t.MemWf := by
  rw [State.MemWf, h]; exact hs

/-- The state that an outcome goes on with has its memory in canonical form. -/
def NextWf (o : Out1) : Prop := ∀ t, o = .next t → t.MemWf

theorem next_wf {t : State} (h : t.MemWf) : NextWf (.next t) := fun _ e => Host.Outcome.next.inj e ▸ h

/-! ## Single updates leave memory alone -/

theorem State.setReg_wf {t is v} (hs : s.MemWf) : (s.setReg t is v).MemWf := hs
theorem State.setF_wf {t is hi lo v} (hs : s.MemWf) : (s.setF t is hi lo v).MemWf := hs
theorem State.raise_wf {e is} (hs : s.MemWf) : (s.raise e is).MemWf := hs
theorem State.bump_wf (hs : s.MemWf) : s.bump.MemWf := hs
theorem State.setQueue_wf {q v} (hs : s.MemWf) : (s.setQueue q v).MemWf := hs
theorem State.setCore_wf {c k} (hs : s.MemWf) : (s.setCore c k).MemWf := hs
theorem State.setPc_wf {p v} (hs : s.MemWf) : (s.setPc p v).MemWf := hs
theorem State.setLink_wf {n v} (hs : s.MemWf) : (s.setLink n v).MemWf := hs
theorem State.setFilter_wf {n e v} (hs : s.MemWf) : (s.setFilter n e v).MemWf := hs
theorem State.setCtx_wf {x v} (hs : s.MemWf) : (s.setCtx x v).MemWf := hs
theorem State.setSnap_wf {j v} (hs : s.MemWf) : (s.setSnap j v).MemWf := hs
theorem State.setRegion_wf {r v} (hs : s.MemWf) : (s.setRegion r v).MemWf := hs
theorem State.setJob_wf {j v} (hs : s.MemWf) : (s.setJob j v).MemWf := hs
theorem State.setTally_wf {l k t v} (hs : s.MemWf) : (s.setTally l k t v).MemWf := hs
theorem State.changeMap_wf {f} (hs : s.MemWf) : (s.changeMap f).MemWf := hs
theorem State.bumpConfig_wf (hs : s.MemWf) : s.bumpConfig.MemWf := hs
theorem State.transmit_wf {p} (hs : s.MemWf) : (s.transmit p).MemWf := hs
theorem State.setStarted_wf {c} (hs : s.MemWf) : (s.setStarted c).MemWf := hs
theorem State.errLast_wf {a} (hs : s.MemWf) : (s.errLast a).MemWf := hs
theorem State.failRow_wf {a} (hs : s.MemWf) : (s.failRow a).MemWf := hs

/-! ## Machine/Regs -/

theorem State.emit_wf {o} (hs : s.MemWf) : (s.emit o).MemWf := by
  unfold State.emit; exact ite_wf hs hs

theorem State.allowed_wf {m node a rd wr tag} (hs : s.MemWf) : (s.allowed m node a rd wr tag).1.MemWf := by
  unfold State.allowed; exact ite_fst_wf (mk_wf hs) (mk_wf (raise_wf hs))

theorem State.refusedBy_wf {m} (hs : s.MemWf) : (s.refusedBy m).MemWf := by
  unfold State.refusedBy; exact ite_wf hs (raise_wf hs)

/-! ## Machine/Memory -/

theorem State.correctHbm_wf {a} (hs : s.MemWf) : (s.correctHbm a).MemWf := by
  unfold State.correctHbm
  extract_lets _ s2 _ _ _ _
  have h2 : s2.MemWf := raise_wf hs
  exact setPc_wf (ite_wf (failRow_wf h2) h2)

theorem State.correctSram_wf {a again} (hs : s.MemWf) : (s.correctSram a again).MemWf := by
  unfold State.correctSram
  extract_lets s1 _
  have h1 : s1.MemWf := raise_wf hs
  exact ite_wf (ite_wf h1 (changeMap_wf h1)) h1

theorem State.readErr_wf {a e} (hs : s.MemWf) : (s.readErr a e).1.MemWf := by
  unfold State.readErr
  split
  · split
    · exact correctHbm_wf hs
    · exact correctHbm_wf hs
    · exact failRow_wf (errLast_wf (raise_wf hs))
    · exact hs
  · split
    · exact correctSram_wf hs
    · exact correctSram_wf hs
    · exact errLast_wf (raise_wf hs)
    · exact errLast_wf (raise_wf hs)

theorem State.scan_wf {a n} (hs : s.MemWf) : (s.scan a n).1.MemWf := by
  unfold State.scan
  refine foldl_fst_wf (fun h => ?_) hs
  extract_lets _
  exact readErr_wf h

theorem State.load_wf {a n} (hs : s.MemWf) : (s.load a n).1.MemWf := by
  unfold State.load
  extract_lets _
  exact scan_wf hs

theorem State.releaseHeld_wf (hs : s.MemWf) : s.releaseHeld.MemWf := by
  unfold State.releaseHeld; exact releaseIf_wf _ hs

theorem State.loadOff_wf {o n} (hs : s.MemWf) : (s.loadOff o n).1.MemWf := by
  unfold State.loadOff
  split
  · exact hs
  · extract_lets s1
    have h1 : s1.1.MemWf := by
      unfold s1
      refine foldl_fst_wf (fun h => ?_) hs
      extract_lets _
      exact load_wf h
    exact h1

/-! ## Machine/Queues -/

theorem State.queueError_wf {q status opcode seq} (hs : s.MemWf) : (s.queueError q status opcode seq).MemWf := by
  unfold State.queueError
  extract_lets _ _ _
  exact ite_wf hs (raise_wf (setReg_wf (setQueue_wf hs)))

theorem State.pdieTarget_wf {k} (hs : s.MemWf) : (s.pdieTarget k).1.MemWf := by
  unfold State.pdieTarget; exact ite_fst_wf (mk_wf (bump_wf hs)) (mk_wf hs)

theorem State.notify_wf {q} (hs : s.MemWf) : (s.notify q).MemWf := by
  unfold State.notify
  extract_lets _ _ _ _
  refine ite_wf (ite_wf (emit_wf hs) hs) ?_
  refine ite_wf (raise_wf hs) ?_
  split
  next _ s1 _ heq =>
    have h1 : s1.MemWf := fst_wf heq (pdieTarget_wf hs)
    exact emit_wf h1

theorem State.writeReply_wf {q r} (hs : s.MemWf) : (s.writeReply q r).MemWf := by
  unfold State.writeReply
  extract_lets _ _
  split
  next _ s1 _ heq =>
    have h1 : s1.MemWf := fst_wf heq (ite_fst_wf (mk_wf hs) (allowed_wf hs))
    refine ite_wf (queueError_wf h1) ?_
    extract_lets _ s3 s4 _
    have h3 : s3.MemWf := setQueue_wf (storeOff_wf _ _ h1)
    have h4 : s4.MemWf := ite_wf (notify_wf h3) h3
    exact ite_wf (setQueue_wf h4) h4

theorem State.putReply_wf {q r} (hs : s.MemWf) : (s.putReply q r).MemWf := by
  unfold State.putReply
  extract_lets _
  exact ite_wf (raise_wf (setQueue_wf hs)) (writeReply_wf hs)

theorem State.flushHeld_wf {q n} (hs : s.MemWf) : (s.flushHeld q n).MemWf := by
  induction n generalizing s with
  | zero => exact hs
  | succ n ih =>
    unfold State.flushHeld
    extract_lets _
    split
    · exact hs
    · exact ite_wf hs (ih (writeReply_wf (setQueue_wf hs)))

theorem State.answer_wf {c a} (hs : s.MemWf) : (s.answer c a).MemWf := by
  unfold State.answer
  extract_lets _ s2 _ s3
  have h2 : s2.MemWf := ite_wf (raise_wf hs) hs
  have h3 : s3.MemWf := ite_wf (refusedBy_wf h2) h2
  exact ite_wf h3 (putReply_wf h3)

theorem State.applyQReset_wf {q} (hs : s.MemWf) : (s.applyQReset q).MemWf := by
  unfold State.applyQReset
  extract_lets _
  exact setQueue_wf hs

theorem State.applyQDestroy_wf {q} (hs : s.MemWf) : (s.applyQDestroy q).MemWf := by
  unfold State.applyQDestroy
  extract_lets _
  exact setQueue_wf hs

theorem State.applyQ_wf {q reset} (hs : s.MemWf) : (s.applyQ q reset).MemWf := by
  unfold State.applyQ; exact ite_wf (applyQReset_wf hs) (applyQDestroy_wf hs)

theorem State.abortDrains_wf {t reset} (hs : s.MemWf) : (s.abortDrains t reset).MemWf := by
  unfold State.abortDrains; exact ite_wf hs (foldl_wf answer_wf hs)

theorem State.settleQueue0_wf (hs : s.MemWf) : s.settleQueue0.MemWf := by
  unfold State.settleQueue0
  split
  · exact hs
  · exact ite_wf hs (abortDrains_wf (applyQ_wf hs))

theorem State.settleQueues_wf {n} (hs : s.MemWf) : (s.settleQueues n).MemWf := by
  induction n generalizing s with
  | zero => exact hs
  | succ n ih =>
    unfold State.settleQueues
    split
    · exact hs
    · split
      · exact ih (abortDrains_wf (answer_wf (applyQ_wf hs)))
      · exact ih (abortDrains_wf (applyQ_wf (answer_wf hs)))
      · exact hs

theorem State.settle_wf (hs : s.MemWf) : s.settle.MemWf := by
  unfold State.settle; exact settleQueue0_wf (settleQueues_wf hs)

theorem State.finishCmd_wf {c a} (hs : s.MemWf) : (s.finishCmd c a).MemWf := by
  unfold State.finishCmd; exact settle_wf (answer_wf hs)

theorem State.finish_wf {q seq a} (hs : s.MemWf) : (s.finish q seq a).MemWf := by
  unfold State.finish
  split
  · exact hs
  · exact finishCmd_wf hs

/-! ## Machine/CoreBase -/

theorem State.updRun_wf {j f} (hs : s.MemWf) : (s.updRun j f).MemWf := by
  unfold State.updRun
  split
  · split
    · exact setJob_wf hs
    · exact hs
  · exact hs

theorem State.updUnit_wf {u f} (hs : s.MemWf) : (s.updUnit u f).MemWf := by
  unfold State.updUnit; exact updRun_wf hs

theorem State.endRun_wf {j status} (hs : s.MemWf) : (s.endRun j status).MemWf := by
  unfold State.endRun
  split
  · exact hs
  · split
    · exact hs
    · extract_lets _ _
      exact foldl_wf finish_wf (finish_wf (setJob_wf hs))

theorem State.schedSettle_wf {j} (hs : s.MemWf) : (s.schedSettle j).MemWf := by
  unfold State.schedSettle
  split
  · exact hs
  · split
    · exact hs
    · split
      · exact hs
      · exact ite_wf hs (endRun_wf hs)

theorem State.schedEnd_wf {j status l k unit fault} (hs : s.MemWf) : (s.schedEnd j status l k unit fault).MemWf := by
  unfold State.schedEnd
  split
  · exact hs
  · split
    · exact hs
    · split
      · exact hs
      · extract_lets s1 s2 s3
        have h1 : s1.MemWf := setJob_wf hs
        have h2 : s2.MemWf := raise_wf h1
        have h3 : s3.MemWf := by
          unfold s3
          split
          · exact raise_wf h2
          · exact h2
        exact ite_wf (setReg_wf h3) h1

theorem State.recordFault_wf {c cls code aux fa} (hs : s.MemWf) : (s.recordFault c cls code aux fa).MemWf := by
  unfold State.recordFault
  extract_lets _ _ _ _ _ _
  exact setReg_wf (setReg_wf (setReg_wf (setCore_wf hs)))

theorem State.progFault_wf {c code aux fa} (hs : s.MemWf) : (s.progFault c code aux fa).MemWf := by
  unfold State.progFault
  extract_lets _ _ _ s3
  have h3 : s3.MemWf := setCore_wf (raise_wf (recordFault_wf hs))
  split
  · exact h3
  · split
    · exact h3
    · extract_lets _ _
      exact schedSettle_wf (schedEnd_wf (updUnit_wf h3))

theorem State.applyStep_wf {c x1} (hs : s.MemWf) : (s.applyStep c x1).MemWf := by
  unfold State.applyStep
  split
  · exact setCore_wf hs
  · exact setCore_wf hs
  · exact setCore_wf hs
  · exact progFault_wf (setCore_wf hs)
  · exact setCore_wf hs

theorem coreExec_wf {op c w f} (hf : ∀ {t k}, t.MemWf → (f t k).1.MemWf) (hs : s.MemWf) :
    (coreExec op c w s f).MemWf := by
  unfold coreExec
  extract_lets _
  refine ite_wf hs ?_
  refine ite_wf (progFault_wf (refusedBy_wf hs)) ?_
  split
  next _ s1 _ heq =>
    have h1 : s1.MemWf := fst_wf heq (scan_wf hs)
    refine ite_wf (progFault_wf h1) ?_
    refine ite_wf (applyStep_wf h1) ?_
    refine ite_wf (applyStep_wf h1) ?_
    refine ite_wf (applyStep_wf h1) ?_
    extract_lets _
    exact applyStep_wf (hf h1)

theorem coreLocal_wf {op c w f} (hs : s.MemWf) : (coreLocal op c w s f).MemWf := by
  unfold coreLocal; exact coreExec_wf id hs

theorem State.wakeTally_wf {l k t} (hs : s.MemWf) : (s.wakeTally l k t).MemWf := by
  unfold State.wakeTally
  split
  · exact hs
  · extract_lets _
    split
    · exact ite_wf (setCore_wf hs) hs
    · exact hs

theorem State.addTally_wf {l k t n} (hs : s.MemWf) : (s.addTally l k t n).MemWf := by
  unfold State.addTally
  extract_lets _ _ _
  exact wakeTally_wf (setTally_wf (ite_wf (raise_wf hs) hs))

/-! ## Machine/Links -/

theorem State.openWaiting_wf {n} (hs : s.MemWf) : (s.openWaiting n).MemWf := by
  unfold State.openWaiting
  refine foldl_wf (fun h => ?_) hs
  extract_lets _
  exact ite_wf (setFilter_wf h) h

theorem State.closeFilter_wf {n e} (hs : s.MemWf) : (s.closeFilter n e).MemWf := by
  unfold State.closeFilter; exact openWaiting_wf (setFilter_wf hs)

theorem State.closeDraining_wf {n} (hs : s.MemWf) : (s.closeDraining n).MemWf := by
  unfold State.closeDraining; exact openWaiting_wf (foldl_wf (fun h => ite_wf (setFilter_wf h) h) hs)

theorem State.drainDoneIn_wf {n tag epoch} (hs : s.MemWf) : (s.drainDoneIn n tag epoch).MemWf := by
  unfold State.drainDoneIn
  split
  · split
    · exact closeFilter_wf hs
    · exact setFilter_wf hs
    · exact setFilter_wf hs
    · exact emit_wf hs
  · exact emit_wf hs

theorem State.linkSettled_wf {n} (hs : s.MemWf) : (s.linkSettled n).MemWf := by
  unfold State.linkSettled
  extract_lets _
  exact foldl_wf finishCmd_wf hs

theorem State.leaveActive_wf {n} (hs : s.MemWf) : (s.leaveActive n).MemWf := by
  unfold State.leaveActive
  extract_lets _ _ _
  exact ite_wf hs (closeDraining_wf (setLink_wf hs))

theorem State.linkToDown_wf {n} (hs : s.MemWf) : (s.linkToDown n).MemWf := by
  unfold State.linkToDown
  extract_lets _ s1 s2 _
  have h1 : s1.MemWf := leaveActive_wf hs
  have h2 : s2.MemWf := by
    unfold s2
    split
    · exact raise_wf h1
    · exact raise_wf h1
    · exact raise_wf h1
    · exact raise_wf h1
    · exact h1
  exact linkSettled_wf (setLink_wf h2)

theorem State.linkToDisabled_wf {n} (hs : s.MemWf) : (s.linkToDisabled n).MemWf := by
  unfold State.linkToDisabled
  extract_lets _ _ _
  exact linkSettled_wf (setLink_wf (leaveActive_wf hs))

theorem State.linkToQuarantine_wf {n cause} (hs : s.MemWf) : (s.linkToQuarantine n cause).MemWf := by
  unfold State.linkToQuarantine
  extract_lets _ _ _
  exact linkSettled_wf (raise_wf (setLink_wf (leaveActive_wf hs)))

theorem State.linkToIsolated_wf {n cause} (hs : s.MemWf) : (s.linkToIsolated n cause).MemWf := by
  unfold State.linkToIsolated
  extract_lets _ _ _
  exact raise_wf (setLink_wf (leaveActive_wf hs))

theorem State.mapLinks_wf {n} (hs : s.MemWf) : (s.mapLinks n).MemWf := by
  unfold State.mapLinks; exact ite_wf (linkToDisabled_wf hs) hs

theorem State.anomaly_wf {n a} (hs : s.MemWf) : (s.anomaly n a).MemWf := by
  unfold State.anomaly
  extract_lets _ s1 _
  have h1 : s1.MemWf := setF_wf hs
  exact ite_wf (linkToIsolated_wf h1) h1

theorem State.beginTraining_wf {n lanes} (hs : s.MemWf) : (s.beginTraining n lanes).MemWf := by
  unfold State.beginTraining; exact ite_wf (setLink_wf hs) hs

theorem State.trainingFails_wf {n} (hs : s.MemWf) : (s.trainingFails n).MemWf := by
  unfold State.trainingFails
  extract_lets _ _ _
  exact setLink_wf (linkToDown_wf hs)

theorem State.beginAdmission_wf {n} (hs : s.MemWf) : (s.beginAdmission n).MemWf := by
  unfold State.beginAdmission
  extract_lets _ _ _ _ _
  exact emit_wf (setLink_wf (bump_wf hs))

theorem State.trainingEnds_wf {n cap kept} (hs : s.MemWf) : (s.trainingEnds n cap kept).MemWf := by
  unfold State.trainingEnds
  split
  · exact trainingFails_wf hs
  · extract_lets _ _ _
    exact beginAdmission_wf (setReg_wf (setLink_wf hs))

theorem State.admissionSettles_wf {n} (hs : s.MemWf) : (s.admissionSettles n).MemWf := by
  unfold State.admissionSettles
  extract_lets _
  split
  · exact hs
  · split
    · exact linkToQuarantine_wf hs
    · exact linkToQuarantine_wf hs
    · extract_lets _
      exact linkSettled_wf (setLink_wf hs)
    · exact hs

theorem State.formVerdict_wf {n} (hs : s.MemWf) : (s.formVerdict n).MemWf := by
  unfold State.formVerdict
  extract_lets _
  split
  · refine ite_wf hs ?_
    extract_lets _ _
    exact admissionSettles_wf (emit_wf (setLink_wf hs))
  · exact hs

theorem State.admissionIn_wf {n m} (hs : s.MemWf) : (s.admissionIn n m).MemWf := by
  unfold State.admissionIn
  extract_lets _
  split
  · split
    · exact formVerdict_wf (emit_wf (setLink_wf hs))
    · refine ite_wf hs ?_
      extract_lets _
      exact formVerdict_wf (setLink_wf hs)
  · exact hs

theorem State.admitListChanged_wf (hs : s.MemWf) : s.admitListChanged.MemWf := by
  unfold State.admitListChanged
  refine foldl_wf (fun h => ?_) hs
  extract_lets _ _
  split
  · exact ite_wf h (linkToQuarantine_wf h)
  · exact ite_wf (beginAdmission_wf h) h
  · exact beginAdmission_wf h
  · exact h

theorem State.sendControl_wf {n nak} (hs : s.MemWf) : (s.sendControl n nak).MemWf := by
  unfold State.sendControl
  extract_lets _
  split
  · extract_lets _ _
    exact emit_wf (setLink_wf hs)

theorem State.replay_wf {n} (hs : s.MemWf) : (s.replay n).MemWf := by
  unfold State.replay
  extract_lets _ _
  exact ite_wf hs (foldl_wf emit_wf (raise_wf hs))

theorem State.beginFastRetrain_wf {n} (hs : s.MemWf) : (s.beginFastRetrain n).MemWf := by
  unfold State.beginFastRetrain; exact raise_wf (setLink_wf hs)

theorem State.resend_wf {n} (hs : s.MemWf) : (s.resend n).MemWf := by
  unfold State.resend
  extract_lets _ _ s2
  have h2 : s2.MemWf := setLink_wf (replay_wf hs)
  exact ite_wf hs (ite_wf (beginFastRetrain_wf h2) h2)

theorem State.dropLane_wf {n lane} (hs : s.MemWf) : (s.dropLane n lane).MemWf := by
  unfold State.dropLane
  extract_lets _ _
  exact ite_wf hs (ite_wf (linkToDown_wf hs) (beginFastRetrain_wf (raise_wf (setLink_wf hs))))

theorem State.fillTx_wf {n vc need fuel} (hs : s.MemWf) : (s.fillTx n vc need fuel).MemWf := by
  induction fuel generalizing s with
  | zero => exact hs
  | succ fuel ih =>
    unfold State.fillTx
    extract_lets _ _
    refine ite_wf hs ?_
    split
    · exact hs
    · exact ih (setLink_wf hs)

theorem State.putFlit_wf {n vc typ payload} (hs : s.MemWf) : (s.putFlit n vc typ payload).MemWf := by
  unfold State.putFlit
  extract_lets _
  split
  · extract_lets _ _ _
    exact emit_wf (setLink_wf hs)

theorem State.sendFlit_wf {n vc} (hs : s.MemWf) : (s.sendFlit n vc).MemWf := by
  unfold State.sendFlit
  extract_lets _ _ _ _ _ s2 _
  have h2 : s2.MemWf := fillTx_wf hs
  refine ite_wf hs ?_
  refine ite_wf (setLink_wf (putFlit_wf hs)) ?_
  refine ite_wf hs ?_
  split
  · refine ite_wf h2 ?_
    extract_lets _ _ _
    exact setLink_wf (putFlit_wf (setLink_wf h2))

theorem State.ackIn_wf {n ack} (hs : s.MemWf) : (s.ackIn n ack).MemWf := by
  unfold State.ackIn
  extract_lets _
  split
  · exact hs
  · exact setLink_wf hs

theorem State.gap_wf {n} (hs : s.MemWf) : (s.gap n).MemWf := by
  unfold State.gap
  extract_lets _
  exact ite_wf hs (sendControl_wf (setLink_wf hs))

theorem State.payloadIn_wf {n vc payload} (hs : s.MemWf) : (s.payloadIn n vc payload).MemWf := by
  unfold State.payloadIn
  refine ite_wf hs ?_
  refine ite_wf (drainDoneIn_wf hs) ?_
  extract_lets _
  split
  · extract_lets s1 s2
    have h1 : s1.MemWf := setLink_wf hs
    have h2 : s2.MemWf := sameMem h1
    exact ite_wf (anomaly_wf h2) h2

theorem State.returnCredits_wf {n vc} (hs : s.MemWf) : (s.returnCredits n vc).MemWf := by
  unfold State.returnCredits
  extract_lets _ _ _ _
  exact ite_wf hs (setLink_wf hs)

theorem State.goodFlit_wf {n bytes} (hs : s.MemWf) : (s.goodFlit n bytes).MemWf := by
  unfold State.goodFlit
  extract_lets _ _ _ _ _ s1 s2 credit _ opened _ s4
  have h1 : s1.MemWf := ackIn_wf hs
  have h2 : s2.MemWf := ite_wf (resend_wf h1) h1
  have h4 : s4.MemWf := by
    unfold s4
    unfold credit
    extract_lets _
    exact setLink_wf (setLink_wf h2)
  refine ite_wf (anomaly_wf hs) ?_
  split
  · unfold credit
    extract_lets 
    exact setLink_wf h2
  · refine ite_wf (ite_wf (gap_wf h2) h2) ?_
    clear_value opened
    split
    · exact gap_wf (anomaly_wf (raise_wf h2))
    · refine ite_wf (anomaly_wf h2) ?_
      extract_lets s5 s6
      have h5 : s5.MemWf := ite_wf h4 (payloadIn_wf h4)
      have h6 : s6.MemWf := ite_wf h5 (returnCredits_wf h5)
      exact ite_wf (sendControl_wf h6) h6

theorem State.flitIn_wf {n bytes corrected bad} (hs : s.MemWf) : (s.flitIn n bytes corrected bad).MemWf := by
  unfold State.flitIn
  extract_lets _ _ s2
  have h2 : s2.MemWf := setF_wf (setF_wf hs)
  exact ite_wf hs (ite_wf (gap_wf h2) (goodFlit_wf h2))

/-! ## Machine/Placement -/

theorem State.startUnit_wf {u b r c} (hs : s.MemWf) : (s.startUnit u b r c).MemWf := by
  unfold State.startUnit
  extract_lets _ _ _ _ _
  exact updUnit_wf (setCore_wf hs)

theorem State.reissue_wf {u} (hs : s.MemWf) : (s.reissue u).MemWf := by
  unfold State.reissue
  split
  · split
    · exact startUnit_wf (raise_wf (raise_wf hs))
    · exact hs
  · exact hs

theorem State.nodeLoss_wf (hs : s.MemWf) : s.nodeLoss.MemWf := by
  unfold State.nodeLoss; exact hs

theorem State.continuity_wf {f} (hs : s.MemWf) : (s.continuity f).MemWf := by
  unfold State.continuity; exact hs

theorem State.moveCore_wf {c d} (hs : s.MemWf) : (s.moveCore c d).MemWf := by
  unfold State.moveCore
  extract_lets _ _ _ _
  exact setCore_wf (setCore_wf (movePool_wf _ _ hs))

theorem State.stopUnit_wf {c} (hs : s.MemWf) : (s.stopUnit c).1.MemWf := by
  unfold State.stopUnit
  extract_lets _
  split
  · exact hs
  · exact setCore_wf hs

theorem State.stopUnits_wf {cs} (hs : s.MemWf) : (s.stopUnits cs).1.MemWf := by
  unfold State.stopUnits
  refine foldl_fst_wf (fun h => ?_) hs
  extract_lets _
  exact stopUnit_wf h

theorem State.setServe_wf {l r} (hs : s.MemWf) : (s.setServe l r).MemWf := by
  unfold State.setServe
  split <;> exact hs

theorem State.moveAll_wf {old new} (hs : s.MemWf) : (s.moveAll old new).MemWf := by
  unfold State.moveAll; exact foldl_wf (fun h => ite_wf h (moveCore_wf h)) hs

theorem State.reissueAll_wf {us} (hs : s.MemWf) : (s.reissueAll us).MemWf := by
  unfold State.reissueAll; exact foldl_wf (fun h => reissue_wf (updUnit_wf h)) hs

theorem State.noSpare_wf {l us} (hs : s.MemWf) : (s.noSpare l us).MemWf := by
  unfold State.noSpare
  extract_lets _
  refine foldl_wf (fun h => ?_) (foldl_wf updUnit_wf hs)
  split
  · split
    · split
      · refine ite_wf ?_ h
        extract_lets _ _ _
        exact schedSettle_wf (schedEnd_wf (continuity_wf h))
      · exact h
    · exact h
  · exact h

theorem State.clusterRemap_wf {l more} (hs : s.MemWf) : (s.clusterRemap l more).MemWf := by
  unfold State.clusterRemap
  split
  · exact hs
  · split
    · exact hs
    · split
      next _ s1 _ heq =>
        have h1 : s1.MemWf := fst_wf heq (stopUnits_wf hs)
        extract_lets _
        split
        · exact noSpare_wf h1
        · extract_lets _ _ _ _
          exact reissueAll_wf (continuity_wf (setServe_wf (moveAll_wf h1)))

theorem State.coreRemap_wf {c more} (hs : s.MemWf) : (s.coreRemap c more).MemWf := by
  unfold State.coreRemap
  extract_lets lc _ s2 _
  have h2 : s2.MemWf := continuity_wf (ite_wf hs (changeMap_wf hs))
  clear_value lc
  split
  · exact h2
  · extract_lets _
    split
    · exact h2
    · split
      · exact h2
      · refine ite_wf (clusterRemap_wf h2) ?_
        extract_lets _
        split
        next _ s3 _ heq =>
          have h3 : s3.MemWf := fst_wf heq (stopUnits_wf h2)
          extract_lets _ _
          exact reissueAll_wf (setServe_wf (moveAll_wf h3))

theorem State.checkFault_wf {c} (hs : s.MemWf) : (s.checkFault c).MemWf := by
  unfold State.checkFault
  extract_lets _ _ s2
  have h2 : s2.MemWf := setCore_wf (raise_wf (recordFault_wf hs))
  split
  · exact setCore_wf hs
  · split
    · exact hs
    · split
      · extract_lets s3
        have h3 : s3.MemWf := updUnit_wf h2
        exact schedSettle_wf (schedEnd_wf h3)
      · extract_lets s3
        have h3 : s3.MemWf := updUnit_wf h2
        exact ite_wf (reissue_wf h3) (coreRemap_wf h3)

theorem State.issueUnit_wf {u b r c} (hs : s.MemWf) : (s.issueUnit u b r c).MemWf := by
  unfold State.issueUnit
  extract_lets s1 _
  have h1 : s1.MemWf := startUnit_wf hs
  exact ite_wf (checkFault_wf (setCore_wf h1)) h1

/-! ## Machine/Contexts -/

theorem State.sendOn_wf {x op flags seq arg payload} (hs : s.MemWf) : (s.sendOn x op flags seq arg payload).MemWf := by
  unfold State.sendOn; exact transmit_wf hs

theorem State.noteSeq_wf {o seq} (hs : s.MemWf) : (s.noteSeq o seq).MemWf := by
  unfold State.noteSeq
  split <;> exact hs

theorem State.sendReq_wf {x r} (hs : s.MemWf) : (s.sendReq x r).MemWf := by
  unfold State.sendReq
  extract_lets _ _ _ _ _
  exact noteSeq_wf (transmit_wf (setCtx_wf hs))

theorem State.pump_wf {x n} (hs : s.MemWf) : (s.pump x n).MemWf := by
  induction n generalizing s with
  | zero => exact hs
  | succ n ih =>
    unfold State.pump
    extract_lets _
    split
    · exact hs
    · exact ite_wf (ih (sendReq_wf (setCtx_wf hs))) hs

theorem State.ctxRequest_wf {x op flags arg payload o} (hs : s.MemWf) :
    (s.ctxRequest x op flags arg payload o).MemWf := by
  unfold State.ctxRequest
  extract_lets _ _
  exact pump_wf (setCtx_wf hs)

theorem State.dropSignal_wf {j lc unit} (hs : s.MemWf) : (s.dropSignal j lc unit).MemWf := by
  unfold State.dropSignal; exact schedSettle_wf (schedEnd_wf (raise_wf hs))

theorem State.lateOn_wf {x} (hs : s.MemWf) : (s.lateOn x).MemWf := by
  unfold State.lateOn
  extract_lets _
  exact raise_wf (setCtx_wf hs)

theorem State.closeCtx_wf {x} (hs : s.MemWf) : (s.closeCtx x).MemWf := by
  unfold State.closeCtx; exact setCtx_wf hs

theorem State.finishAll_wf {status p} (hs : s.MemWf) : (s.finishAll status p).MemWf := by
  unfold State.finishAll; exact foldl_wf finishCmd_wf hs

theorem State.drainLink_wf {n tag epoch} (hs : s.MemWf) : (s.drainLink n tag epoch).MemWf := by
  unfold State.drainLink
  split
  · exact hs
  · refine ite_wf ?_ (closeFilter_wf hs)
    extract_lets s1
    have h1 : s1.MemWf := emit_wf hs
    exact ite_wf (closeFilter_wf h1) (setFilter_wf h1)

theorem State.teardownEnd_wf {j} (hs : s.MemWf) : (s.teardownEnd j).MemWf := by
  unfold State.teardownEnd
  split
  · exact hs
  · extract_lets _ s2 s3 s4 _ _ s5 s6
    have h2 : s2.MemWf := foldl_wf closeCtx_wf (finishAll_wf hs)
    have h3 : s3.MemWf := sameMem h2
    have h4 : s4.MemWf := foldl_wf drainLink_wf h3
    clear_value s4
    have h5 : s5.MemWf := sameMem h4
    clear_value s5
    have h6 : s6.MemWf := ite_wf (sameMem h5) h5
    split
    · exact finishCmd_wf h6
    · exact h6

theorem State.teardownCheck_wf {j} (hs : s.MemWf) : (s.teardownCheck j).MemWf := by
  unfold State.teardownCheck
  split
  · extract_lets _
    exact ite_wf (teardownEnd_wf hs) hs
  · exact hs

theorem State.teardownOf_wf {tag epoch} (hs : s.MemWf) : (s.teardownOf tag epoch).MemWf := by
  unfold State.teardownOf
  split
  · exact teardownCheck_wf hs
  · exact hs

/-! ## Machine/Access -/

theorem State.atomicAt_wf {a f x y} (hs : s.MemWf) : (s.atomicAt a f x y).1.MemWf := by
  unfold State.atomicAt
  extract_lets _
  split
  next _ s1 _ heq =>
    have h1 : s1.MemWf := fst_wf heq (load_wf hs)
    split
    · exact h1
    · extract_lets _ _ s2
      have h2 : s2.MemWf := store_wf _ _ h1
      exact ite_wf (raise_wf h2) h2

theorem State.globalTarget_wf {k p n rd wr} (hs : s.MemWf) : (s.globalTarget k p n rd wr).1.MemWf := by
  unfold State.globalTarget
  extract_lets _ _
  refine ite_fst_wf (mk_wf hs) ?_
  split
  · refine ite_fst_wf (mk_wf hs) ?_
    split
    next _ s1 _ heq =>
      have h1 : s1.MemWf := fst_wf heq (allowed_wf hs)
      split <;> exact h1
  · refine ite_fst_wf (mk_wf hs) ?_
    split
    · exact hs
    · extract_lets _
      exact ite_fst_wf (mk_wf hs) (ite_fst_wf (mk_wf hs) (mk_wf hs))

theorem State.sendAccess_wf {k x op size off payload c kind addr elem w} (hs : s.MemWf) :
    (s.sendAccess k x op size off payload c kind addr elem w).1.MemWf := by
  unfold State.sendAccess
  extract_lets _ _
  exact ctxRequest_wf hs

theorem State.loadAt_wf {k a n addr f} (hs : s.MemWf) : (s.loadAt k a n addr f).1.MemWf := by
  unfold State.loadAt
  extract_lets _
  split <;> exact load_wf hs

theorem State.journalAdd_wf {k op addr operand result pend} (hs : s.MemWf) :
    (s.journalAdd k op addr operand result pend).MemWf := by
  unfold State.journalAdd
  split
  · exact hs
  · exact ite_wf (updUnit_wf hs) (updUnit_wf hs)

theorem State.mapJournals_wf {f} (hs : s.MemWf) : (s.mapJournals f).MemWf := by
  unfold State.mapJournals; exact hs

theorem State.journalFill_wf {x q result} (hs : s.MemWf) : (s.journalFill x q result).MemWf := by
  unfold State.journalFill; exact mapJournals_wf hs

theorem State.journalDrop_wf {x q} (hs : s.MemWf) : (s.journalDrop x q).MemWf := by
  unfold State.journalDrop; exact mapJournals_wf hs

theorem State.coreReply_wf {x q status data} (hs : s.MemWf) : (s.coreReply x q status data).MemWf := by
  unfold State.coreReply
  extract_lets _ s1
  have h1 : s1.MemWf := ite_wf (journalFill_wf hs) (journalDrop_wf hs)
  split
  · exact ite_wf h1 (lateOn_wf h1)
  · exact ite_wf (setCore_wf h1) (progFault_wf h1)

theorem State.holdCore_wf {x q} (hs : s.MemWf) : (s.holdCore x q).MemWf := by
  unfold State.holdCore
  split
  · exact hs
  · extract_lets _ _
    exact setCore_wf (recordFault_wf hs)

theorem State.restartCore_wf {x q applied data} (hs : s.MemWf) : (s.restartCore x q applied data).MemWf := by
  unfold State.restartCore
  extract_lets s1
  have h1 : s1.MemWf := ite_wf (journalFill_wf hs) hs
  split
  · exact ite_wf h1 (journalDrop_wf h1)
  · extract_lets _ s3 _ _
    have h3 : s3.MemWf := raise_wf (recordFault_wf h1)
    exact ite_wf (setCore_wf h3) (ite_wf (setCore_wf h3) (ite_wf (journalDrop_wf (setCore_wf h3)) (setCore_wf h3)))

/-! ## Machine/Transfers -/

theorem State.tallyHit_wf {tag epoch t n} (hs : s.MemWf) : (s.tallyHit tag epoch t n).MemWf := by
  unfold State.tallyHit
  split
  · exact hs
  · exact ite_wf (addTally_wf hs) hs

theorem State.pushPieces_wf {y get retry base len off} (hs : s.MemWf) :
    (s.pushPieces y get retry base len off).1.MemWf := by
  unfold State.pushPieces
  split
  next _ s1 _ heq =>
    have h1 : s1.MemWf := fst_wf heq (ite_fst_wf (mk_wf (loadOff_wf hs)) (mk_wf hs))
    split
    · exact h1
    · exact sameMem h1

theorem State.updCopy_wf {i f} (hs : s.MemWf) : (s.updCopy i f).MemWf := by
  unfold State.updCopy; exact hs

theorem State.dropCopy_wf {i} (hs : s.MemWf) : (s.dropCopy i).MemWf := by
  unfold State.dropCopy; exact hs

theorem State.failReduction_wf {j id} (hs : s.MemWf) : (s.failReduction j id).MemWf := by
  unfold State.failReduction
  split
  · exact hs
  · extract_lets s1 _
    have h1 : s1.MemWf := raise_wf hs
    split
    exact schedSettle_wf (schedEnd_wf (sameMem h1))

theorem State.copyDone_wf {y} (hs : s.MemWf) : (s.copyDone y).MemWf := by
  unfold State.copyDone
  extract_lets s1
  have h1 : s1.MemWf := dropCopy_wf hs
  split
  · exact finish_wf h1
  · exact ite_wf (finish_wf h1) (finish_wf h1)
  · exact sameMem h1
  · exact h1
  · exact h1
  · exact h1
  · exact h1

theorem State.copyFail_wf {y status off} (hs : s.MemWf) : (s.copyFail y status off).MemWf := by
  unfold State.copyFail
  extract_lets s1 _
  have h1 : s1.MemWf := dropCopy_wf hs
  split
  · exact finish_wf h1
  · exact finish_wf h1
  · exact schedSettle_wf (schedEnd_wf (raise_wf h1))
  · exact failReduction_wf h1
  · extract_lets n
    exact setSnap_wf h1
  · extract_lets n
    exact setSnap_wf h1
  · exact h1

theorem State.abandon_wf {x} (hs : s.MemWf) : (s.abandon x).MemWf := by
  unfold State.abandon
  extract_lets _ s1 _
  have h1 : s1.MemWf := by
    unfold s1
    refine foldl_wf (fun h => ?_) hs
    split
    · exact dropSignal_wf h
    · exact h
  exact foldl_wf finish_wf (foldl_wf copyFail_wf h1)

theorem State.settleClose_wf {x} (hs : s.MemWf) : (s.settleClose x).MemWf := by
  unfold State.settleClose
  extract_lets _ s1
  have h1 : s1.MemWf := closeCtx_wf (abandon_wf hs)
  refine ite_wf ?_ hs
  split
  · exact finishCmd_wf h1
  · exact h1

theorem State.updReq_wf {x q f} (hs : s.MemWf) : (s.updReq x q f).MemWf := by
  unfold State.updReq
  extract_lets _
  exact setCtx_wf hs

theorem State.afterAnswer_wf {x} (hs : s.MemWf) : (s.afterAnswer x).MemWf := by
  unfold State.afterAnswer
  extract_lets _ _ _
  exact teardownOf_wf (settleClose_wf (pump_wf (setCtx_wf hs)))

theorem State.endReq_wf {x q} (hs : s.MemWf) : (s.endReq x q).MemWf := by
  unfold State.endReq
  extract_lets _
  exact afterAnswer_wf (setCtx_wf hs)

theorem State.openedReq_wf {x q} (hs : s.MemWf) : (s.openedReq x q).MemWf := by
  unfold State.openedReq; exact afterAnswer_wf (updReq_wf hs)

theorem State.finishCopy_wf {y} (hs : s.MemWf) : (s.finishCopy y).MemWf := by
  unfold State.finishCopy; exact endReq_wf (copyDone_wf hs)

theorem State.breakCopy_wf {y status off} (hs : s.MemWf) : (s.breakCopy y status off).MemWf := by
  unfold State.breakCopy; exact endReq_wf (copyFail_wf hs)

theorem State.pushFrom_wf {y off retry} (hs : s.MemWf) : (s.pushFrom y off retry).MemWf := by
  unfold State.pushFrom
  extract_lets s1
  have h1 : s1.1.MemWf := pushPieces_wf hs
  exact ite_wf h1 (breakCopy_wf h1)

theorem State.copyOpened_wf {y get next limit} (hs : s.MemWf) : (s.copyOpened y get next limit).MemWf := by
  unfold State.copyOpened
  refine ite_wf (breakCopy_wf hs) ?_
  extract_lets _ _ s1 _ _
  have h1 : s1.MemWf := updCopy_wf hs
  refine ite_wf ?_ (ite_wf (finishCopy_wf h1) (pushFrom_wf (openedReq_wf h1)))
  split
  · exact openedReq_wf (sendOn_wf h1)
  · exact openedReq_wf (setCtx_wf h1)

theorem State.replyTo_wf {x r status data} (hs : s.MemWf) : (s.replyTo x r status data).MemWf := by
  unfold State.replyTo
  refine ite_wf (updReq_wf hs) ?_
  split
  · exact ite_wf (endReq_wf (restartCore_wf hs)) (endReq_wf (coreReply_wf hs))
  · extract_lets s1
    have h1 : s1.MemWf := endReq_wf hs
    exact ite_wf h1 (dropSignal_wf h1)
  · split
    · exact endReq_wf hs
    · exact ite_wf (copyOpened_wf hs) (breakCopy_wf hs)
  · split
    · exact endReq_wf hs
    · exact ite_wf (copyOpened_wf hs) (breakCopy_wf hs)

theorem State.sendAgain_wf {x r} (hs : s.MemWf) : (s.sendAgain x r).MemWf := by
  unfold State.sendAgain
  extract_lets _ _
  exact pump_wf (setCtx_wf (endReq_wf hs))

theorem State.resolve_wf {x r applied data} (hs : s.MemWf) : (s.resolve x r applied data).MemWf := by
  unfold State.resolve
  extract_lets _ s1 _ s2
  have h1 : s1.MemWf := setReg_wf hs
  have h2 : s2.MemWf := endReq_wf h1
  split
  · exact ite_wf (endReq_wf (coreReply_wf h1)) (endReq_wf (restartCore_wf h1))
  · exact ite_wf (sendAgain_wf h1) (ite_wf h2 (dropSignal_wf h2))
  · split
    · exact h2
    · exact ite_wf (ite_wf (sendAgain_wf (updCopy_wf h1)) (breakCopy_wf h1))
        (ite_wf (breakCopy_wf h1) (copyOpened_wf h1))
  · split
    · exact h2
    · exact ite_wf (ite_wf (sendAgain_wf (updCopy_wf h1)) (breakCopy_wf h1))
        (ite_wf (breakCopy_wf h1) (copyOpened_wf h1))

theorem State.countResend_wf {x} (hs : s.MemWf) : (s.countResend x).MemWf := by
  unfold State.countResend
  extract_lets _
  exact raise_wf (setCtx_wf hs)

theorem State.unresolve_wf {x q} (hs : s.MemWf) : (s.unresolve x q).MemWf := by
  unfold State.unresolve
  extract_lets _ _ s2 s3
  have h2 : s2.MemWf := setCtx_wf (raise_wf (updReq_wf hs))
  have h3 : s3.MemWf := by
    unfold s3
    split
    · exact finishCmd_wf h2
    · exact h2
  exact teardownOf_wf (holdCore_wf h3)

theorem State.expireReq_wf {x r} (hs : s.MemWf) : (s.expireReq x r).MemWf := by
  unfold State.expireReq
  extract_lets _ _ _
  exact ite_wf (transmit_wf (countResend_wf (updReq_wf hs))) (unresolve_wf hs)

theorem State.expireCopy_wf {x r y} (hs : s.MemWf) : (s.expireCopy x r y).MemWf := by
  unfold State.expireCopy
  extract_lets _ _ s1
  have h1 : s1.MemWf := countResend_wf (updCopy_wf hs)
  refine ite_wf ?_ (unresolve_wf hs)
  refine ite_wf ?_ (pushFrom_wf h1)
  split
  · exact sendOn_wf h1
  · exact h1

/-! ## Machine/Reduce -/

theorem State.copyLocal_wf {tag epoch src dst len tally off fuel} (hs : s.MemWf) :
    (s.copyLocal tag epoch src dst len tally off fuel).1.MemWf := by
  induction fuel generalizing s off with
  | zero => exact hs
  | succ fuel ih =>
    unfold State.copyLocal
    refine ite_fst_wf (mk_wf hs) ?_
    extract_lets _ s1
    have h1 : s1.1.MemWf := loadOff_wf hs
    split
    · exact h1
    · exact ih (tallyHit_wf (storeOff_wf _ _ h1))

theorem State.startCopy_wf {o tag epoch src dst len x tally} (hs : s.MemWf) :
    (s.startCopy o tag epoch src dst len x tally).MemWf := by
  unfold State.startCopy
  extract_lets _ _ _ _ s2
  have h2 : s2.1.MemWf := copyLocal_wf hs
  exact ite_wf (ctxRequest_wf hs) (ite_wf (copyDone_wf h2) (copyFail_wf h2))

theorem State.acopyPlain_wf {k u r d} (hs : s.MemWf) : (s.acopyPlain k u r d).1.MemWf := by
  unfold State.acopyPlain
  refine ite_fst_wf (mk_wf hs) ?_
  extract_lets _ _
  refine ite_fst_wf ?_ (ite_fst_wf (mk_wf hs) (mk_wf (startCopy_wf hs)))
  split
  · exact hs
  · exact ite_fst_wf (ite_fst_wf (mk_wf hs) (mk_wf (startCopy_wf hs))) (mk_wf hs)

theorem State.acopyReduce_wf {k u r b d desc} (hs : s.MemWf) : (s.acopyReduce k u r b d desc).1.MemWf := by
  unfold State.acopyReduce
  extract_lets _ s1
  have h1 : s1.1.MemWf := loadOff_wf hs
  refine ite_fst_wf (mk_wf hs) ?_
  refine ite_fst_wf (mk_wf hs) ?_
  refine ite_fst_wf (mk_wf hs) ?_
  refine ite_fst_wf (mk_wf hs) ?_
  split
  · exact schedSettle_wf (schedEnd_wf (raise_wf h1))
  · exact updUnit_wf h1

theorem State.acopy_wf {k desc} (hs : s.MemWf) : (s.acopy k desc).1.MemWf := by
  unfold State.acopy
  split
  · exact hs
  · split
    · exact hs
    · extract_lets _
      exact ite_fst_wf (acopyPlain_wf hs) (ite_fst_wf (acopyReduce_wf hs) (mk_wf hs))

theorem State.updRed_wf {j id f} (hs : s.MemWf) : (s.updRed j id f).MemWf := by
  unfold State.updRed; exact hs

theorem State.contribute_wf {j lc unit desc data} (hs : s.MemWf) : (s.contribute j lc unit desc data).MemWf := by
  unfold State.contribute
  extract_lets _ _ _ _ _ _
  split
  · exact ite_wf hs (raise_wf hs)
  · exact ite_wf (updRed_wf hs) (raise_wf (updRed_wf hs))

theorem State.landReduction_wf {j b r bs} (hs : s.MemWf) : (s.landReduction j b r bs).MemWf := by
  unfold State.landReduction
  extract_lets _ x _
  refine ite_wf ?_ (ite_wf (failReduction_wf hs) (tallyHit_wf (storeOff_wf _ _ hs)))
  clear_value x
  split
  · exact failReduction_wf hs
  · extract_lets _ _
    exact ctxRequest_wf hs

theorem State.spanResult_wf {j b r p} (hs : s.MemWf) : (s.spanResult j b r p).MemWf := by
  unfold State.spanResult
  split
  · exact landReduction_wf hs
  · refine ite_wf (landReduction_wf hs) ?_
    split
    · exact updRed_wf hs
    · extract_lets _
      exact hs

theorem State.passOn_wf {j b r p} (hs : s.MemWf) : (s.passOn j b r p).MemWf := by
  unfold State.passOn; exact ite_wf (spanResult_wf hs) (ite_wf (landReduction_wf hs) (updRed_wf hs))

theorem State.deliverOrdered_wf {j b r p} (hs : s.MemWf) : (s.deliverOrdered j b r p).MemWf := by
  unfold State.deliverOrdered
  extract_lets _ _ _ _ s1
  have h1 : s1.MemWf := updRed_wf hs
  refine ite_wf ?_ (updRed_wf hs)
  split
  · exact passOn_wf h1
  · exact h1

theorem State.deliverFast_wf {j b r p} (hs : s.MemWf) : (s.deliverFast j b r p).MemWf := by
  unfold State.deliverFast
  extract_lets _ _ _ _ _ _ _
  exact ite_wf (passOn_wf (updRed_wf hs)) (updRed_wf hs)

theorem State.takePartial_wf {j r level child p t} (h : s.takePartial j r level child = some (p, t)) (hs : s.MemWf) :
    t.MemWf := by
  unfold State.takePartial at h
  split at h <;> split at h <;> cases h
  · exact hs
  · exact updRed_wf hs

theorem State.deliver_wf {j id level child} (hs : s.MemWf) : (s.deliver j id level child).MemWf := by
  unfold State.deliver
  extract_lets live
  split
  · exact hs
  · clear_value live
    split
    · exact hs
    · split
      · exact hs
      · split
        · exact hs
        next _ t heq =>
          have ht : t.MemWf := takePartial_wf heq hs
          split
          · exact ht
          · exact ite_wf (deliverOrdered_wf ht) (deliverFast_wf ht)

/-! ## Machine/Tensor -/

theorem State.setTerr_wf {c cause kind field} (hs : s.MemWf) : (s.setTerr c cause kind field).MemWf := by
  unfold State.setTerr; exact setReg_wf hs

theorem State.tensorFault_wf {c k w kind addr x5} (hs : s.MemWf) : (s.tensorFault c k w kind addr x5).1.MemWf := by
  unfold State.tensorFault
  split
  · exact setTerr_wf hs
  · exact hs
  · exact hs

theorem State.withDesc_wf {c k w kind f} (hf : ∀ {t d}, t.MemWf → (f t d).1.MemWf) (hs : s.MemWf) :
    (s.withDesc c k w kind f).1.MemWf := by
  unfold State.withDesc
  extract_lets _ _
  refine ite_fst_wf (mk_wf hs) ?_
  refine ite_fst_wf (mk_wf hs) ?_
  refine ite_fst_wf (tensorFault_wf hs) ?_
  split
  next _ _ heq => exact fst_wf heq (load_wf hs)
  next _ s1 _ heq =>
    have h1 : s1.MemWf := fst_wf heq (load_wf hs)
    exact ite_fst_wf (tensorFault_wf h1) (hf h1)

theorem State.readRow_wf {tag p n b} (hs : s.MemWf) : (s.readRow tag p n b).1.MemWf := by
  unfold State.readRow
  extract_lets _ _ _ _
  refine ite_fst_wf (mk_wf hs) ?_
  split
  · exact hs
  · split <;> exact loadOff_wf hs

theorem State.readRows_wf {tag p stride n b i m} (hs : s.MemWf) : (s.readRows tag p stride n b i m).1.MemWf := by
  induction m generalizing s i with
  | zero => exact hs
  | succ m ih =>
    unfold State.readRows
    split
    next _ _ _ heq => exact fst_wf heq (readRow_wf hs)
    next _ s1 _ heq =>
      have h1 : s1.MemWf := fst_wf heq (readRow_wf hs)
      split
      next _ _ _ heq => exact fst_wf heq (ih h1)
      next _ _ _ heq => exact fst_wf heq (ih h1)

theorem State.readScales_wf {tag fw p stride base len rows} (hs : s.MemWf) :
    (s.readScales tag fw p stride base len rows).1.MemWf := by
  unfold State.readScales
  refine ite_fst_wf (mk_wf hs) ?_
  split
  next _ _ _ heq => exact fst_wf heq (readRows_wf hs)
  next _ _ _ heq => exact fst_wf heq (readRows_wf hs)

theorem State.readVersion_wf {tag d} (hs : s.MemWf) : (s.readVersion tag d).1.MemWf := by
  unfold State.readVersion
  extract_lets _ _ _
  split
  next _ _ _ heq => exact fst_wf heq (readRows_wf hs)
  next _ s1 _ heq =>
    have h1 : s1.MemWf := fst_wf heq (readRows_wf hs)
    extract_lets s2
    have h2 : s2.1.MemWf := ite_fst_wf (readScales_wf h1) (readScales_wf h1)
    clear_value s2
    split
    · exact h2
    · extract_lets s2
      have h2 : s2.1.MemWf := ite_fst_wf (mk_wf h2) (readRow_wf h2)
      clear_value s2
      split
      · exact h2
      · extract_lets _
        exact h2

theorem State.rereadVersion_wf {tag v} (hs : s.MemWf) : (s.rereadVersion tag v).1.MemWf := by
  unfold State.rereadVersion
  split
  next _ _ _ heq => exact fst_wf heq (readVersion_wf hs)
  next _ _ _ _ heq => exact fst_wf heq (readVersion_wf hs)
  next _ _ _ _ heq => exact fst_wf heq (readVersion_wf hs)

theorem State.makeVersion_wf {c k w d} (hs : s.MemWf) : (s.makeVersion c k w d).1.MemWf := by
  unfold State.makeVersion
  split
  next _ s1 _ heq =>
    have h1 : s1.MemWf := fst_wf heq (readVersion_wf hs)
    exact tensorFault_wf h1
  next _ s1 _ heq =>
    have h1 : s1.MemWf := fst_wf heq (readVersion_wf hs)
    extract_lets _
    exact h1

theorem twloadStep_wf {c w k} (hs : s.MemWf) : (twloadStep c w s k).1.MemWf := by
  unfold twloadStep
  refine withDesc_wf (fun h => ?_) hs
  split
  · exact tensorFault_wf h
  · exact ite_fst_wf (mk_wf h) (makeVersion_wf h)

theorem tvacqStep_wf {c w k} (hs : s.MemWf) : (tvacqStep c w s k).1.MemWf := by
  unfold tvacqStep
  refine ite_fst_wf (mk_wf hs) ?_
  split
  · exact tensorFault_wf hs
  · split
    · exact hs
    · exact ite_fst_wf (tensorFault_wf hs) (mk_wf hs)

theorem tvrelStep_wf {c w k} (hs : s.MemWf) : (tvrelStep c w s k).1.MemWf := by
  unfold tvrelStep
  extract_lets _
  refine ite_fst_wf (mk_wf hs) ?_
  split
  · exact tensorFault_wf hs
  · split
    · exact hs
    · exact ite_fst_wf (tensorFault_wf hs) (mk_wf hs)

theorem State.noteFlags_wf {c t causes fe fk} (hs : s.MemWf) : (s.noteFlags c t causes fe fk).MemWf := by
  unfold State.noteFlags
  refine ite_wf hs ?_
  extract_lets _ _ _ _
  exact setF_wf (setF_wf (foldl_wf raise_wf hs))

theorem State.readOperand_wf {tag fw p stride sc scStride rows cols base alongRows zp} (hs : s.MemWf) :
    (s.readOperand tag fw p stride sc scStride rows cols base alongRows zp).1.MemWf := by
  unfold State.readOperand
  extract_lets _ _
  split
  next _ _ _ heq => exact fst_wf heq (readRows_wf hs)
  next _ s1 _ heq =>
    have h1 : s1.MemWf := fst_wf heq (readRows_wf hs)
    extract_lets s2
    have h2 : s2.1.MemWf := ite_fst_wf (readScales_wf h1) (readScales_wf h1)
    clear_value s2
    split
    · exact h2
    · extract_lets _
      exact h2

theorem State.streamInto_wf {c k x h left right} (hs : s.MemWf) : (s.streamInto c k x h left right).1.MemWf := by
  unfold State.streamInto
  refine foldl_fst_wf (fun h => ?_) hs
  extract_lets _ _
  exact noteFlags_wf h

theorem State.streamRun_wf {c k w x h zeros right}
    (hr : ∀ {t : State}, t.MemWf → (right t).1.MemWf) (hs : s.MemWf) :
    (s.streamRun c k w x h zeros right).1.MemWf := by
  unfold State.streamRun
  extract_lets _ _ _ _
  split
  · exact tensorFault_wf hs
  · split
    next _ s1 _ heq =>
      have h1 : s1.MemWf := fst_wf heq (readOperand_wf hs)
      exact tensorFault_wf h1
    next _ s1 _ heq =>
      have h1 : s1.MemWf := fst_wf heq (readOperand_wf hs)
      split
      next _ s2 _ heq =>
        have h2 : s2.MemWf := fst_wf heq (hr h1)
        exact tensorFault_wf h2
      next _ s2 _ heq =>
        have h2 : s2.MemWf := fst_wf heq (hr h1)
        extract_lets _ _
        exact streamInto_wf h2

theorem State.streamOuter_wf {c k w x} (hs : s.MemWf) : (s.streamOuter c k w x).1.MemWf := by
  unfold State.streamOuter
  extract_lets h
  refine streamRun_wf (fun h => ?_) hs
  split
  next _ _ _ heq => exact fst_wf heq (readOperand_wf h)
  next _ _ _ heq => exact fst_wf heq (readOperand_wf h)

theorem State.streamWeights_wf {c k w x i v} (hs : s.MemWf) : (s.streamWeights c k w x i v).1.MemWf := by
  unfold State.streamWeights
  split
  next _ s1 _ heq =>
    have h1 : s1.MemWf := fst_wf heq (ite_fst_wf (rereadVersion_wf hs) (mk_wf hs))
    extract_lets _ _ _ _
    split
    · exact h1
    · exact streamRun_wf id h1

theorem tstreamStep_wf {c w k} (hs : s.MemWf) : (tstreamStep c w s k).1.MemWf := by
  unfold tstreamStep
  refine withDesc_wf (fun h => ?_) hs
  extract_lets _ _
  refine ite_fst_wf (mk_wf h) ?_
  split
  · exact tensorFault_wf h
  · refine ite_fst_wf (streamOuter_wf h) ?_
    split
    · exact tensorFault_wf h
    · split
      · exact h
      · exact streamWeights_wf h

/-! ## Machine/Readout -/

theorem tcfgStep_wf {c w k} (hs : s.MemWf) : (tcfgStep c w s k).1.MemWf := by
  unfold tcfgStep
  refine withDesc_wf (fun h => ?_) hs
  extract_lets _ _ _ _ _ err _ _
  clear_value err
  split
  · exact tensorFault_wf h
  · exact h

theorem State.readAcc_wf {c k w x} (hs : s.MemWf) : (s.readAcc c k w x).1.MemWf := by
  unfold State.readAcc
  extract_lets _ _ _ _ _ _ _ _ bad _ _ _ _
  clear_value bad
  split
  · exact tensorFault_wf hs
  · exact foldl_wf (fun h => storeOff_wf _ _ h) (ite_wf hs (noteFlags_wf hs))

theorem treadaccStep_wf {c w k} (hs : s.MemWf) : (treadaccStep c w s k).1.MemWf := by
  unfold treadaccStep
  refine withDesc_wf (fun h => ?_) hs
  extract_lets _
  split
  · exact tensorFault_wf h
  · exact readAcc_wf h

theorem State.addRecordField_wf {o n} (hs : s.MemWf) : (s.addRecordField o n).MemWf := by
  unfold State.addRecordField
  refine ite_wf hs ?_
  split
  next _ s1 _ heq =>
    have h1 : s1.MemWf := fst_wf heq (loadOff_wf hs)
    exact storeOff_wf _ _ h1
  next _ _ _ _ heq => exact fst_wf heq (loadOff_wf hs)

theorem State.addRecord_wf {u} (hs : s.MemWf) : (s.addRecord u).MemWf := by
  unfold State.addRecord
  extract_lets s1
  have h1 : s1.MemWf := foldl_wf addRecordField_wf hs
  split
  next _ s2 _ heq =>
    have h2 : s2.MemWf := fst_wf heq (loadOff_wf h1)
    exact ite_wf h2 (storeOff_wf _ _ h2)
  next _ _ _ _ heq => exact fst_wf heq (loadOff_wf h1)

theorem State.applyTrack_wf {u} (hs : s.MemWf) : (s.applyTrack u).MemWf := by
  unfold State.applyTrack
  split
  · exact hs
  · extract_lets _ _ _
    exact foldl_wf raise_wf hs

/-! ## Machine/Commands -/

theorem State.runCmd_wf {op q seq f} (hf : ∀ {t c}, t.MemWf → (f t c).MemWf) (hs : s.MemWf) :
    (s.runCmd op q seq f).MemWf := by
  unfold State.runCmd
  split
  · exact ite_wf (hf hs) hs
  · exact hs

theorem State.runJobCmd_wf {op q seq f} (hf : ∀ {t c j b}, t.MemWf → (f t c j b).MemWf) (hs : s.MemWf) :
    (s.runJobCmd op q seq f).MemWf := by
  unfold State.runJobCmd
  refine runCmd_wf (fun h => ?_) hs
  split
  · exact hf h
  · exact finishCmd_wf h

theorem State.waitCmd_wf {c w} (hs : s.MemWf) : (s.waitCmd c w).MemWf := by
  unfold State.waitCmd; exact setStarted_wf hs

theorem State.beginDrain_wf {c reset} (hs : s.MemWf) : (s.beginDrain c reset).MemWf := by
  unfold State.beginDrain
  extract_lets _ _ _
  exact ite_wf (finishCmd_wf hs) (ite_wf (finishCmd_wf hs) (settle_wf (waitCmd_wf (setQueue_wf hs))))

theorem State.moveQueue_wf {c a b} (hs : s.MemWf) : (s.moveQueue c a b).MemWf := by
  unfold State.moveQueue
  extract_lets _ _
  exact ite_wf (finishCmd_wf hs) (ite_wf (finishCmd_wf hs)
    (ite_wf (ite_wf (setQueue_wf (finishCmd_wf hs)) (finishCmd_wf hs)) (finishCmd_wf (ite_wf (setQueue_wf hs) hs))))

/-! ## Machine/Responder -/

theorem State.takePacket_wf {n p t} (h : s.takePacket n p = some t) (hs : s.MemWf) : t.MemWf := by
  unfold State.takePacket at h
  split at h
  · obtain rfl := Option.some.inj h
    split
    · exact returnCredits_wf hs
    · exact hs
  · split at h
    · exact Option.some.inj h ▸ hs
    · cases h

theorem State.onPacket_wf {n p f} (hf : ∀ {t : State}, t.MemWf → (f t).MemWf) (hs : s.MemWf) :
    (s.onPacket n p f).MemWf := by
  unfold State.onPacket
  split
  · exact hs
  next t heq =>
    have h1 : t.MemWf := takePacket_wf heq hs
    refine ite_wf (anomaly_wf h1) ?_
    extract_lets _
    exact ite_wf (hf h1) (raise_wf h1)

theorem State.onCtx_wf {n p answer f} (hf : ∀ {t x}, t.MemWf → (f x t).MemWf) (hs : s.MemWf) :
    (s.onCtx n p answer f).MemWf := by
  unfold State.onCtx
  refine onPacket_wf (fun h => ?_) hs
  extract_lets _
  exact ite_wf (hf h) (raise_wf h)

theorem State.sendReply_wf {x q status data} (hs : s.MemWf) : (s.sendReply x q status data).MemWf := by
  unfold State.sendReply; exact sendOn_wf hs

theorem State.setSlot_wf {x r} (hs : s.MemWf) : (s.setSlot x r).MemWf := by
  unfold State.setSlot
  extract_lets _
  exact setCtx_wf hs

theorem State.replyCached_wf {x q} (hs : s.MemWf) : (s.replyCached x q).MemWf := by
  unfold State.replyCached
  extract_lets _
  exact ite_wf (sendOn_wf hs) (sendReply_wf hs)

theorem State.storeSlot_wf {x q op status data} (hs : s.MemWf) : (s.storeSlot x q op status data).MemWf := by
  unfold State.storeSlot; exact ite_wf hs (ite_wf (put_wf _ _ hs) (ite_wf (put_wf _ _ hs) (put_wf _ _ (bump_wf hs))))

theorem State.respond_wf {n x p run} (hr : ∀ {t : State}, t.MemWf → (run t).1.MemWf) (hs : s.MemWf) :
    (s.respond n x p run).MemWf := by
  unfold State.respond
  split
  · exact lateOn_wf hs
  · exact anomaly_wf hs
  · refine ite_wf ?_ (replyCached_wf hs)
    split
    next _ s1 _ _ heq =>
      have h1 : s1.MemWf := fst_wf heq (hr hs)
      exact sendReply_wf h1
    next _ _ heq => exact fst_wf heq (hr hs)
  · split
    next _ s1 heq =>
      have h1 : s1.MemWf := fst_wf heq (hr hs)
      exact raise_wf (sendReply_wf h1)
    next _ s1 _ _ heq =>
      have h1 : s1.MemWf := fst_wf heq (hr hs)
      extract_lets _ _ _
      exact sendReply_wf (storeSlot_wf (setSlot_wf (setCtx_wf h1)))

theorem State.remoteCheck_wf {tag o n rd wr} (hs : s.MemWf) : (s.remoteCheck tag o n rd wr).1.MemWf := by
  unfold State.remoteCheck
  split
  · exact hs
  · exact hs
  · exact hs
  · refine ite_fst_wf ?_ (mk_wf hs)
    extract_lets _
    exact allowed_wf hs

theorem State.runLoad_wf {p} (hs : s.MemWf) : (s.runLoad p).1.MemWf := by
  unfold State.runLoad
  extract_lets _ _ s1 _
  have h1 : s1.1.MemWf := remoteCheck_wf hs
  refine ite_fst_wf (mk_wf h1) ?_
  split <;> exact loadOff_wf h1

theorem State.runStore_wf {p} (hs : s.MemWf) : (s.runStore p).1.MemWf := by
  unfold State.runStore
  extract_lets _ s1
  have h1 : s1.1.MemWf := remoteCheck_wf hs
  exact ite_fst_wf (mk_wf h1) (mk_wf (storeOff_wf _ _ h1))

theorem State.runAtomic_wf {p} (hs : s.MemWf) : (s.runAtomic p).1.MemWf := by
  unfold State.runAtomic
  extract_lets _ _ _ s1 _
  have h1 : s1.1.MemWf := remoteCheck_wf hs
  refine ite_fst_wf (mk_wf h1) ?_
  refine ite_fst_wf (mk_wf h1) ?_
  split
  · exact h1
  · extract_lets _
    split <;> exact atomicAt_wf h1

theorem State.runSignal_wf {p} (hs : s.MemWf) : (s.runSignal p).1.MemWf := by
  unfold State.runSignal
  extract_lets _
  split
  · exact hs
  · exact ite_fst_wf (mk_wf (addTally_wf hs)) (mk_wf hs)

theorem State.runPut_wf {x p} (hs : s.MemWf) : (s.runPut x p).1.MemWf := by
  unfold State.runPut
  extract_lets _ _ _ s1 _ _
  have h1 : s1.1.MemWf := remoteCheck_wf hs
  exact ite_fst_wf (mk_wf hs) (ite_fst_wf (mk_wf h1) (mk_wf (setCtx_wf h1)))

theorem State.runGet_wf {x p} (hs : s.MemWf) : (s.runGet x p).1.MemWf := by
  unfold State.runGet
  extract_lets _ _ s1 s2 _ _
  have h1 : s1.1.MemWf := remoteCheck_wf hs
  have h2 : s2.1.MemWf := loadOff_wf h1
  refine ite_fst_wf (mk_wf hs) ?_
  refine ite_fst_wf (mk_wf h1) ?_
  split
  · exact h2
  · exact sameMem h2

theorem State.getPieces_wf {x q off retry} (hs : s.MemWf) : (s.getPieces x q off retry).MemWf := by
  unfold State.getPieces
  split
  · exact hs
  · extract_lets s1
    have h1 : s1.1.MemWf := pushPieces_wf hs
    exact ite_wf h1 (setSlot_wf (dropCopy_wf h1))

theorem State.recvDone_wf {rx} (hs : s.MemWf) : (s.recvDone rx).MemWf := by
  unfold State.recvDone
  split
  · exact hs
  · exact ite_wf (finish_wf hs) (finish_wf hs)

theorem State.runMsg_wf {x p} (hs : s.MemWf) : (s.runMsg x p).1.MemWf := by
  unfold State.runMsg
  extract_lets _ _
  refine ite_fst_wf (mk_wf hs) ?_
  split
  · exact hs
  · extract_lets _ _ _
    exact ite_fst_wf (mk_wf (recvDone_wf (setCtx_wf hs))) (mk_wf (setCtx_wf hs))

theorem State.pieceIn_wf {x p} (hs : s.MemWf) : (s.pieceIn x p).MemWf := by
  unfold State.pieceIn
  extract_lets _ _
  split
  · exact hs
  · extract_lets _ _ _ _ s2 _ s4 s5
    have h2 : s2.MemWf := setCtx_wf (tallyHit_wf (storeOff_wf _ _ hs))
    have h4 : s4.MemWf := sendOn_wf (ite_wf h2 (setSlot_wf h2))
    have h5 : s5.MemWf := by
      unfold s5
      split
      · exact updCopy_wf h4
      · exact h4
    refine ite_wf hs ?_
    refine ite_wf h5 ?_
    split
    · split
      · exact finishCopy_wf h5
      · exact h5
    · exact recvDone_wf h5

theorem State.pieceAckIn_wf {x p} (hs : s.MemWf) : (s.pieceAckIn x p).MemWf := by
  unfold State.pieceAckIn
  extract_lets _
  split
  · split
    · exact hs
    · exact ite_wf (dropCopy_wf hs) (ite_wf (updCopy_wf hs) (getPieces_wf hs))
  · split
    · exact hs
    · refine ite_wf ?_ hs
      extract_lets _ s1
      have h1 : s1.MemWf := updCopy_wf hs
      exact ite_wf (finishCopy_wf h1) h1

theorem State.queryIn_wf {n x p} (hs : s.MemWf) : (s.queryIn n x p).MemWf := by
  unfold State.queryIn
  extract_lets _ answer s1
  have h1 : s1.MemWf := setCtx_wf hs
  split
  · exact lateOn_wf hs
  · exact anomaly_wf hs
  · unfold answer
    extract_lets _ _
    exact ite_wf (sendOn_wf hs) (sendOn_wf hs)
  · unfold answer
    extract_lets _ _
    exact ite_wf (sendOn_wf (put_wf _ _ (bump_wf (setSlot_wf h1)))) (sendOn_wf (put_wf _ _ (bump_wf (setSlot_wf h1))))

theorem State.replyIn_wf {x p} (hs : s.MemWf) : (s.replyIn x p).MemWf := by
  unfold State.replyIn
  split
  · exact replyTo_wf hs
  · exact lateOn_wf hs

theorem State.queryReplyIn_wf {x p} (hs : s.MemWf) : (s.queryReplyIn x p).MemWf := by
  unfold State.queryReplyIn
  extract_lets _
  split
  · exact resolve_wf hs
  · split
    · exact resolve_wf hs
    · exact lateOn_wf hs

theorem State.sendBind_wf {x} (hs : s.MemWf) : (s.sendBind x).MemWf := by
  unfold State.sendBind
  extract_lets _
  exact sendOn_wf (setCtx_wf hs)

theorem State.bindIn_wf {p} (hs : s.MemWf) : (s.bindIn p).MemWf := by
  unfold State.bindIn
  extract_lets _ _
  split
  · extract_lets s1
    have h1 : s1.MemWf := setCtx_wf hs
    split
    · exact finish_wf h1
    · exact h1
  · split
    · exact ite_wf (sendBind_wf hs) hs
    · exact hs

theorem State.redPieceIn_wf {p} (hs : s.MemWf) : (s.redPieceIn p).MemWf := by
  unfold State.redPieceIn
  extract_lets _ _
  split
  · exact hs
  · extract_lets _ _ _ _
    exact ite_wf hs (ite_wf hs hs)

/-! ## Machine/Power -/

theorem State.statusBits_wf {r} (hs : s.MemWf) : (s.statusBits r).MemWf := by
  unfold State.statusBits
  extract_lets _
  exact setF_wf (setF_wf hs)

theorem State.applySet_wf {r} (hs : s.MemWf) : (s.applySet r).MemWf := by
  unfold State.applySet
  extract_lets _ _ _
  exact ite_wf (statusBits_wf (setF_wf hs)) (statusBits_wf (setF_wf (setF_wf hs)))

theorem State.ledgerWrite_wf {cause} (hs : s.MemWf) : (s.ledgerWrite cause).MemWf := by
  unfold State.ledgerWrite
  extract_lets _ _ _ _ s1 _
  have h1 : s1.MemWf := sameMem hs
  exact foldl_wf setRegion_wf (setReg_wf h1)

theorem State.noteHold_wf {r} (hs : s.MemWf) : (s.noteHold r).MemWf := by
  unfold State.noteHold; exact ite_wf hs (ite_wf (setRegion_wf hs) (ite_wf (setRegion_wf hs) hs))

theorem State.raiseVoltage_wf {r} (hs : s.MemWf) : (s.raiseVoltage r).MemWf := by
  unfold State.raiseVoltage
  extract_lets _
  exact applySet_wf (setRegion_wf hs)

theorem State.replanTaps_wf {r} (hs : s.MemWf) : (s.replanTaps r).MemWf := by
  unfold State.replanTaps; exact setF_wf hs

theorem State.markWeak_wf {r} (hs : s.MemWf) : (s.markWeak r).MemWf := by
  unfold State.markWeak
  extract_lets _ _
  exact ledgerWrite_wf (raise_wf (changeMap_wf (setRegion_wf hs)))

theorem State.replanWeak_wf {r} (hs : s.MemWf) : (s.replanWeak r).MemWf := by
  unfold State.replanWeak
  refine ite_wf hs ?_
  extract_lets _ _ s1
  have h1 : s1.MemWf := setF_wf hs
  exact ite_wf (markWeak_wf h1) h1

theorem State.replanDisable_wf {r} (hs : s.MemWf) : (s.replanDisable r).MemWf := by
  unfold State.replanDisable
  extract_lets _ _
  exact setRegion_wf hs

theorem State.replanMargin_wf {r} (hs : s.MemWf) : (s.replanMargin r).MemWf := by
  unfold State.replanMargin
  extract_lets _ s1 _ _
  have h1 : s1.MemWf := ite_wf (raise_wf hs) hs
  exact ite_wf h1 (setF_wf h1)

theorem State.replanRegion_wf {r} (hs : s.MemWf) : (s.replanRegion r).MemWf := by
  unfold State.replanRegion
  extract_lets _
  exact replanMargin_wf (replanDisable_wf (replanWeak_wf (replanTaps_wf (ite_wf (raiseVoltage_wf hs) hs))))

theorem State.replanEye_wf {n lane} (hs : s.MemWf) : (s.replanEye n lane).MemWf := by
  unfold State.replanEye
  extract_lets _ _ s1 _ _ s3 _ _
  have h1 : s1.MemWf := setF_wf (setF_wf (bump_wf hs))
  have h3 : s3.MemWf := raiseVoltage_wf (raise_wf (setLink_wf h1))
  exact ite_wf hs (ite_wf (ite_wf h3 (mapLinks_wf (changeMap_wf (dropLane_wf h3)))) (setLink_wf h1))

theorem State.opRequest_wf {p} (hs : s.MemWf) : (s.opRequest p).MemWf := by
  unfold State.opRequest
  refine ite_wf hs ?_
  extract_lets s1
  have h1 : s1.MemWf := setReg_wf hs
  exact sameMem h1

theorem State.takePoint_wf {p r} (hs : s.MemWf) : (s.takePoint p r).MemWf := by
  unfold State.takePoint
  extract_lets _ _
  exact ite_wf hs (applySet_wf (setRegion_wf hs))

theorem State.pointDone_wf {p} (hs : s.MemWf) : (s.pointDone p).MemWf := by
  unfold State.pointDone; exact ite_wf hs hs

theorem State.setTemp_wf {r t} (hs : s.MemWf) : (s.setTemp r t).MemWf := by
  unfold State.setTemp
  extract_lets _ _
  exact setRegion_wf (setF_wf hs)

theorem State.applyDisables_wf (hs : s.MemWf) : s.applyDisables.MemWf := by
  unfold State.applyDisables
  refine foldl_wf (fun h => ?_) hs
  refine foldl_wf (fun h => ?_) h
  extract_lets _ _
  exact ledgerWrite_wf (raise_wf (changeMap_wf (setRegion_wf h)))

/-! ## Machine/Tracking -/

theorem State.clamps_wf {cs} (hs : s.MemWf) : (s.clamps cs).MemWf := by
  unfold State.clamps; exact foldl_wf (fun h => ite_wf (raise_wf h) h) hs

theorem State.fenceUpdate_wf {track} (hs : s.MemWf) : (s.fenceUpdate track).MemWf := by
  unfold State.fenceUpdate
  split
  · exact hs
  · refine ite_wf hs ?_
    extract_lets _ _
    exact clamps_wf hs

theorem State.fenceTracked_wf {j} (hs : s.MemWf) : (s.fenceTracked j).MemWf := by
  unfold State.fenceTracked; exact foldl_wf fenceUpdate_wf hs

theorem State.spanUpdate_wf {j r} (hs : s.MemWf) : (s.spanUpdate j r).MemWf := by
  unfold State.spanUpdate
  split
  · exact hs
  · refine ite_wf hs ?_
    extract_lets _
    exact fenceUpdate_wf hs

theorem State.setHistory_wf {track t first recs} (hs : s.MemWf) : (s.setHistory track t first recs).MemWf := by
  unfold State.setHistory
  extract_lets _
  exact clamps_wf hs

/-! ## Machine/Token -/

theorem State.sendToken_wf {j k node t} (hs : s.MemWf) : (s.sendToken j k node t).MemWf := by
  unfold State.sendToken
  split
  · exact hs
  · extract_lets _
    exact hs

theorem State.passDown_wf {j b k t} (hs : s.MemWf) : (s.passDown j b k t).MemWf := by
  unfold State.passDown; exact foldl_wf sendToken_wf hs

/-! ## Machine/Snapshot -/

theorem State.releaseFrozen_wf {j} (hs : s.MemWf) : (s.releaseFrozen j).MemWf := by
  unfold State.releaseFrozen
  extract_lets _ _ _ s1
  have h1 : s1.MemWf := setSnap_wf hs
  exact releaseHeld_wf (sameMem h1)

theorem State.snapFail_wf {j status} (hs : s.MemWf) : (s.snapFail j status).MemWf := by
  unfold State.snapFail
  extract_lets s1 _ _ s3
  have h1 : s1.MemWf := releaseFrozen_wf hs
  have h3 : s3.MemWf := raise_wf (setSnap_wf (sameMem h1))
  split
  · exact finish_wf h3
  · exact h3

theorem State.signalTally_wf {j t x} (hs : s.MemWf) : (s.signalTally j t x).MemWf := by
  unfold State.signalTally
  split
  · exact hs
  · refine ite_wf hs ?_
    refine ite_wf (tallyHit_wf hs) ?_
    split
    · exact ite_wf (ctxRequest_wf hs) hs
    · exact hs

theorem State.snapDone_wf {j} (hs : s.MemWf) : (s.snapDone j).MemWf := by
  unfold State.snapDone
  extract_lets _ _ _ _ _ s2 _
  have h2 : s2.MemWf := raise_wf (setSnap_wf (signalTally_wf hs))
  split
  · exact finish_wf h2
  · exact h2

theorem State.snapBroken_wf {j status} (hs : s.MemWf) : (s.snapBroken j status).MemWf := by
  unfold State.snapBroken
  extract_lets _
  exact setSnap_wf hs

theorem State.snapWrite_wf {j off bs} (hs : s.MemWf) : (s.snapWrite j off bs).MemWf := by
  unfold State.snapWrite
  split
  · exact hs
  · extract_lets _ _ _ _ _
    exact ite_wf (ite_wf (snapBroken_wf hs) (storeOff_wf _ _ hs)) (ite_wf (snapBroken_wf hs) (ctxRequest_wf hs))

theorem State.writeManifest_wf {j b} (hs : s.MemWf) : (s.writeManifest j b).MemWf := by
  unfold State.writeManifest
  extract_lets _ _
  split
  · exact snapBroken_wf hs
  · extract_lets _
    exact snapWrite_wf (setSnap_wf (bump_wf hs))

theorem State.snapSettle_wf {j f} (hs : s.MemWf) : (s.snapSettle j f).MemWf := by
  induction f generalizing s with
  | zero => exact hs
  | succ f ih =>
    unfold State.snapSettle
    extract_lets _
    split
    · exact hs
    · exact ite_wf hs (ite_wf (snapFail_wf hs) (ite_wf hs (ite_wf (snapDone_wf hs) (ih (writeManifest_wf hs)))))

theorem State.pageBytes_wf {p} (hs : s.MemWf) : (s.pageBytes p).1.MemWf := by
  unfold State.pageBytes
  split
  · exact hs
  · exact hs
  · split
    · refine ite_fst_wf (mk_wf hs) ?_
      split
      next _ s1 _ heq =>
        have h1 : s1.MemWf := fst_wf heq (scan_wf hs)
        exact ite_fst_wf (mk_wf h1) (mk_wf (bump_wf h1))
    · exact hs

theorem State.updPage_wf {j i f} (hs : s.MemWf) : (s.updPage j i f).MemWf := by
  unfold State.updPage
  extract_lets _
  exact setSnap_wf hs

theorem State.sendPage_wf {j i} (hs : s.MemWf) : (s.sendPage j i).MemWf := by
  unfold State.sendPage
  split
  · exact hs
  · split
    next _ s1 _ heq =>
      have h1 : s1.MemWf := fst_wf heq (pageBytes_wf hs)
      exact updPage_wf (snapWrite_wf h1)

theorem State.pageDone_wf {j p} (hs : s.MemWf) : (s.pageDone j p).MemWf := by
  unfold State.pageDone
  split
  · exact ite_wf hs hs
  · refine ite_wf hs ?_
    split
    · exact ite_wf hs (releaseIf_wf _ hs)
    · exact hs

theorem State.verdictDown_wf {j t} (hs : s.MemWf) : (s.verdictDown j t).MemWf := by
  unfold State.verdictDown
  split
  · exact hs
  · extract_lets s1 _ _ _ s2 s3 _
    have h1 : s1.MemWf := passDown_wf hs
    have h2 : s2.MemWf := foldl_wf raise_wf h1
    have h3 : s3.MemWf := setSnap_wf h2
    exact ite_wf (snapFail_wf h1) (ite_wf (snapFail_wf (bump_wf h1))
      (snapSettle_wf (releaseFrozen_wf (foldl_wf sendPage_wf h3))))

theorem State.verdictTry_wf {j} (hs : s.MemWf) : (s.verdictTry j).MemWf := by
  unfold State.verdictTry
  extract_lets _ s1 _ _ _ s2
  have h1 : s1.MemWf := setSnap_wf hs
  have h2 : s2.MemWf := setSnap_wf h1
  split
  · exact hs
  · refine ite_wf hs ?_
    refine ite_wf hs ?_
    refine ite_wf h1 ?_
    split
    · exact sendToken_wf h2
    · exact verdictDown_wf h2

theorem State.takeCut_wf {j} (hs : s.MemWf) : (s.takeCut j).MemWf := by
  unfold State.takeCut
  split
  · exact hs
  · extract_lets _ _ _ _ _ _ _ _ _ s1
    have h1 : s1.MemWf := setSnap_wf hs
    exact ite_wf hs (ite_wf (verdictTry_wf (setSnap_wf hs)) (sameMem h1))

theorem State.snapFire_wf {j} (hs : s.MemWf) : (s.snapFire j).MemWf := by
  unfold State.snapFire
  extract_lets _
  exact ite_wf hs (ite_wf (setSnap_wf hs) (setSnap_wf hs))

theorem State.restDown_wf {j b t} (hs : s.MemWf) : (s.restDown j b t).MemWf := by
  unfold State.restDown
  extract_lets _ _ s2
  have h2 : s2.MemWf := setSnap_wf (passDown_wf hs)
  exact ite_wf (takeCut_wf h2) h2

theorem State.restStep_wf {j} (hs : s.MemWf) : (s.restStep j).MemWf := by
  unfold State.restStep
  split
  · exact hs
  · extract_lets _ _ _ _ _ s1
    have h1 : s1.MemWf := setSnap_wf hs
    refine ite_wf hs ?_
    split
    · exact sendToken_wf h1
    · exact restDown_wf h1

theorem State.snapStop_wf {j status} (hs : s.MemWf) : (s.snapStop j status).MemWf := by
  unfold State.snapStop
  extract_lets _
  split
  · exact snapFail_wf hs
  · exact verdictTry_wf (snapBroken_wf hs)
  · exact verdictTry_wf (snapBroken_wf hs)
  · exact snapSettle_wf (snapBroken_wf hs)
  · exact hs
  · exact hs

/-! ## Machine/Restore -/

theorem State.imageRead_wf {j b r c e o n} (hs : s.MemWf) : (s.imageRead j b r c e o n).1.MemWf := by
  unfold State.imageRead
  extract_lets _ _
  exact ite_fst_wf (mk_wf hs) (ite_fst_wf (mk_wf hs) (ite_fst_wf (mk_wf hs) (mk_wf (loadOff_wf hs))))

theorem State.fetchImage_wf {j b r c e o n} (hs : s.MemWf) : (s.fetchImage j b r c e o n).MemWf := by
  unfold State.fetchImage
  split
  · extract_lets _ _ _ _
    exact ite_wf (setSnap_wf hs) (ctxRequest_wf hs)

theorem State.manifest_wf {j b r c e} (hs : s.MemWf) : (s.manifest j b r c e).1.MemWf := by
  unfold State.manifest
  split
  next _ _ heq => exact fst_wf heq (imageRead_wf hs)
  next _ s1 _ heq =>
    have h1 : s1.MemWf := fst_wf heq (imageRead_wf hs)
    exact ite_fst_wf (imageRead_wf h1) (mk_wf h1)

theorem State.manifests_wf {j b r c} (hs : s.MemWf) : (s.manifests j b r c).1.MemWf := by
  unfold State.manifests
  refine foldl_fst_wf (fun h => ?_) hs
  extract_lets _
  exact manifest_wf h

theorem State.candBits_wf {j b r} (hs : s.MemWf) : (s.candBits j b r).1.MemWf := by
  unfold State.candBits
  split
  · exact hs
  · refine foldl_fst_wf (fun h => ?_) hs
    extract_lets _
    exact manifests_wf h

theorem State.pagesOk_wf {j b r c ms ps} (hs : s.MemWf) : (s.pagesOk j b r c ms ps).1.MemWf := by
  unfold State.pagesOk
  refine foldl_fst_wf (fun h => ?_) hs
  split
  · exact h
  · extract_lets _
    exact imageRead_wf h

theorem State.applyTracked_wf {j x} (hs : s.MemWf) : (s.applyTracked j x).MemWf := by
  unfold State.applyTracked
  extract_lets _ _ _ first _
  refine ite_wf hs ?_
  clear_value first
  split <;> exact hs

theorem State.applyState_wf {j b reslice bs} (hs : s.MemWf) : (s.applyState j b reslice bs).MemWf := by
  unfold State.applyState
  extract_lets _ _ s1
  have h1 : s1.MemWf := by
    unfold s1
    refine foldl_wf (fun h => ?_) hs
    extract_lets s2
    have h2 : s2.MemWf := foldl_wf setTally_wf h
    split
    · exact setCore_wf h2
    · exact h2
  exact ite_wf (foldl_wf applyTracked_wf hs) (foldl_wf applyTracked_wf h1)

theorem State.updRestore_wf {j f} (hs : s.MemWf) : (s.updRestore j f).MemWf := by
  unfold State.updRestore
  extract_lets _
  exact setSnap_wf hs

theorem State.restoreEnd_wf {j r a} (hs : s.MemWf) : (s.restoreEnd j r a).MemWf := by
  unfold State.restoreEnd
  extract_lets _ _ _ s2
  have h2 : s2.MemWf := Memory.wf_memClear _ _ hs
  exact finish_wf h2

theorem State.restoreCommit_wf {j b r c} (hs : s.MemWf) : (s.restoreCommit j b r c).MemWf := by
  unfold State.restoreCommit
  extract_lets _ s1 _ _
  have h1 : s1.1.MemWf := manifests_wf hs
  split
  · exact restoreEnd_wf h1
  · extract_lets _ s3 _ _ s4 s5 s6 _
    have h3 : s3.MemWf := by
      unfold s3
      refine foldl_wf (fun h => ?_) h1
      extract_lets _
      split
      next _ s8 _ heq =>
        have h8 : s8.MemWf := fst_wf heq (imageRead_wf h)
        exact storeOff_wf _ _ h8
      next _ _ heq => exact fst_wf heq (imageRead_wf h)
    have h4 : s4.MemWf := by
      unfold s4
      refine ite_wf h3 ?_
      split
      next _ s8 _ heq =>
        have h8 : s8.MemWf := fst_wf heq (imageRead_wf h3)
        exact applyState_wf h8
      next _ _ heq => exact fst_wf heq (imageRead_wf h3)
    have h5 : s5.MemWf := by
      unfold s5
      split
      · exact storeOff_wf _ _ h4
      · exact h4
    have h6 : s6.MemWf := by
      unfold s6
      split
      · exact setJob_wf h5
      · exact h5
    exact restoreEnd_wf (signalTally_wf h6)

theorem State.beginLoad_wf {j b r c} (hs : s.MemWf) : (s.beginLoad j b r c).MemWf := by
  unfold State.beginLoad
  extract_lets _ s2
  have h2 : s2.1.MemWf := manifests_wf (updRestore_wf hs)
  split
  · exact h2
  · split
    · exact h2
    · extract_lets _
      exact foldl_wf fetchImage_wf h2

theorem State.checkLoad_wf {j b r c} (hs : s.MemWf) : (s.checkLoad j b r c).MemWf := by
  unfold State.checkLoad
  extract_lets s1
  have h1 : s1.1.MemWf := manifests_wf hs
  split
  next heq =>
    refine updRestore_wf (fst_wf heq ?_)
    split
    · exact h1
    · split
      · exact h1
      · exact pagesOk_wf h1

theorem State.restoreDown_wf {j b r t} (hs : s.MemWf) : (s.restoreDown j b r t).MemWf := by
  unfold State.restoreDown
  extract_lets s1 goOn
  have h1 : s1.MemWf := passDown_wf hs
  have hgo : (goOn s1).MemWf := by
    unfold goOn
    split
    · exact beginLoad_wf h1
    · exact restoreEnd_wf h1
  clear_value goOn
  split
  · exact ite_wf hgo (restoreCommit_wf h1)
  · exact hgo

theorem State.restoreGo_wf {j f} (hs : s.MemWf) : (s.restoreGo j f).MemWf := by
  induction f generalizing s with
  | zero => exact hs
  | succ f ih =>
    unfold State.restoreGo
    split
    · extract_lets _ _ _ _ vote _ _ _ s2
      have hv {own} : (vote own).MemWf := by
        unfold vote
        split
        · exact hs
        · extract_lets _
          split
          · exact sendToken_wf (setSnap_wf hs)
          · exact ih (restoreDown_wf (setSnap_wf hs))
      have hfetch : s2.MemWf := foldl_wf (fun h => ite_wf (fetchImage_wf h) (updRestore_wf h)) hs
      clear_value vote s2
      split
      · exact ite_wf hs (ih (updRestore_wf hfetch))
      · exact ite_wf hs (ih (updRestore_wf (candBits_wf hs)))
      · exact hv
      · refine ite_wf hs ?_
        split
        · exact ih (checkLoad_wf hs)
        · exact hs
      · exact hv
    · exact hs

theorem State.snapsGoOn_wf (hs : s.MemWf) : s.snapsGoOn.MemWf := by
  unfold State.snapsGoOn; exact foldl_wf (fun h => restoreGo_wf (snapSettle_wf h)) hs

/-! ## Machine/Solver -/

theorem State.loadProblem_wf {b x i} (hs : s.MemWf) : (s.loadProblem b x i).1.MemWf := by
  unfold State.loadProblem
  split
  next _ s1 _ heq =>
    have h1 : s1.MemWf := fst_wf heq (loadOff_wf hs)
    extract_lets _ _ _ _ _ s2 s3 _ _
    have h2 : s2.1.MemWf := loadOff_wf h1
    have h3 : s3.1.MemWf := ite_fst_wf (mk_wf h2) (loadOff_wf h2)
    refine ite_fst_wf (mk_wf h1) ?_
    split
    · extract_lets _ _ _ _
      exact h3
    · exact h3
  next _ _ heq => exact fst_wf heq (loadOff_wf hs)
  next _ _ heq => exact fst_wf heq (loadOff_wf hs)

theorem State.updBatch_wf {x f} (hs : s.MemWf) : (s.updBatch x f).MemWf := by
  unfold State.updBatch; exact hs

theorem State.problemEnd_wf {x i rec} (hs : s.MemWf) : (s.problemEnd x i rec).MemWf := by
  unfold State.problemEnd
  extract_lets _ s1 s2 s3 s4
  have h1 : s1.MemWf := updBatch_wf hs
  have h2 : s2.MemWf := ite_wf (raise_wf h1) h1
  have h3 : s3.MemWf := ite_wf (raise_wf h2) h2
  have h4 : s4.MemWf := ite_wf (raise_wf h3) h3
  split
  · exact setReg_wf h4
  · exact h4

theorem State.writeOut_wf {o v} (hs : s.MemWf) : (s.writeOut o v).MemWf := by
  unfold State.writeOut; exact storeOff_wf _ _ hs

theorem State.runProblem_wf {x i k deadline p out} (hs : s.MemWf) : (s.runProblem x i k deadline p out).MemWf := by
  unfold State.runProblem
  extract_lets _ _
  exact problemEnd_wf (writeOut_wf hs)

theorem State.endBatch_wf {x a signal} (hs : s.MemWf) : (s.endBatch x a signal).MemWf := by
  unfold State.endBatch
  extract_lets s1 s2 _ _
  have h1 : s1.MemWf := foldl_wf (fun h => storeOff_wf _ _ h) hs
  have h2 : s2.MemWf := by
    unfold s2
    refine ite_wf ?_ h1
    split
    · exact signalTally_wf h1
    · exact h1
  exact finish_wf (setReg_wf (sameMem h2))

theorem State.settleBatch_wf {q seq} (hs : s.MemWf) : (s.settleBatch q seq).MemWf := by
  unfold State.settleBatch
  split
  · exact hs
  · refine ite_wf hs ?_
    extract_lets _ _ _ _ _
    exact endBatch_wf hs

theorem State.stopBatch_wf {x status signal} (hs : s.MemWf) : (s.stopBatch x status signal).MemWf := by
  unfold State.stopBatch
  extract_lets _ _
  exact endBatch_wf (raise_wf hs)

theorem State.startBatches_wf {j} (hs : s.MemWf) : (s.startBatches j).MemWf := by
  unfold State.startBatches
  split <;> exact hs

theorem State.cutEarly_wf {x i started p out warm} (hs : s.MemWf) : (s.cutEarly x i started p out warm).MemWf := by
  unfold State.cutEarly
  extract_lets _ _ _ _
  exact problemEnd_wf (writeOut_wf (bump_wf hs))

/-! ## Machine/Schedule -/

theorem State.openFilter_wf {n tag epoch} (hs : s.MemWf) : (s.openFilter n tag epoch).MemWf := by
  unfold State.openFilter
  split
  · exact hs
  · extract_lets _
    exact setFilter_wf hs

theorem State.clearTallies_wf {lo n t} (hs : s.MemWf) : (s.clearTallies lo n t).MemWf := by
  unfold State.clearTallies; exact hs

theorem State.clearVersions_wf {b} (hs : s.MemWf) : (s.clearVersions b).MemWf := by
  unfold State.clearVersions
  refine foldl_wf (fun h => ?_) hs
  split
  · exact setCore_wf h
  · exact h

theorem State.openJob_wf {c j} (hs : s.MemWf) : (s.openJob c j).MemWf := by
  unfold State.openJob
  extract_lets _ _ _ _ _ _ _
  exact finishCmd_wf (foldl_wf openFilter_wf (clearVersions_wf (clearTallies_wf (setSnap_wf (setJob_wf hs)))))

theorem State.loadCluster_wf {t step l} (hs : s.MemWf) : (s.loadCluster t step l).1.MemWf := by
  unfold State.loadCluster
  extract_lets s1
  have h1 : s1.1.MemWf := loadOff_wf hs
  split
  · exact h1
  · extract_lets _ _
    exact loadOff_wf h1

theorem State.loadStep_wf {j} (hs : s.MemWf) : (s.loadStep j).MemWf := by
  unfold State.loadStep
  split
  · exact hs
  · split
    · exact hs
    · split
      · exact hs
      · extract_lets s1 s2
        have h1 : s1.1.MemWf := by
          unfold s1
          refine foldl_fst_wf (fun h => ?_) hs
          extract_lets _
          split <;> exact loadCluster_wf h
        have h2 : s2.MemWf := updRun_wf h1
        split
        · exact h2
        · exact schedSettle_wf (schedEnd_wf h2)

theorem State.sendSignal_wf {j b t lc unit x} (hs : s.MemWf) : (s.sendSignal j b t lc unit x).MemWf := by
  unfold State.sendSignal
  refine ite_wf (ite_wf (addTally_wf hs) (dropSignal_wf hs)) ?_
  split
  · exact dropSignal_wf hs
  · extract_lets _
    exact ite_wf (ctxRequest_wf hs) (dropSignal_wf hs)

theorem State.stepReached_wf {j step} (hs : s.MemWf) : (s.stepReached j step).MemWf := by
  unfold State.stepReached; exact foldl_wf finishCmd_wf hs

theorem State.nextStep_wf {j} (hs : s.MemWf) : (s.nextStep j).MemWf := by
  unfold State.nextStep
  split
  · exact hs
  · split
    · exact hs
    · extract_lets _
      exact ite_wf (endRun_wf hs) (ite_wf (endRun_wf hs)
        (ite_wf (loadStep_wf (updRun_wf hs)) (loadStep_wf (updRun_wf hs))))

theorem State.fenceDone_wf {j t} (hs : s.MemWf) : (s.fenceDone j t).MemWf := by
  unfold State.fenceDone
  split
  · exact hs
  · split
    · exact hs
    · extract_lets s1 _ _ _ s4 s5
      have h1 : s1.MemWf := by
        unfold s1
        split
        · exact clearTallies_wf hs
        · exact hs
      have h4 : s4.MemWf := setSnap_wf (fenceTracked_wf (foldl_wf spanUpdate_wf (setJob_wf h1)))
      have h5 : s5.MemWf := startBatches_wf (stepReached_wf h4)
      exact nextStep_wf (ite_wf (takeCut_wf h5) h5)

theorem State.spanFenceDone_wf {j b t} (hs : s.MemWf) : (s.spanFenceDone j b t).MemWf := by
  unfold State.spanFenceDone; exact fenceDone_wf (passDown_wf hs)

theorem State.fenceTry_wf {j} (hs : s.MemWf) : (s.fenceTry j).MemWf := by
  unfold State.fenceTry
  split
  · exact hs
  · split
    · exact restStep_wf hs
    · split
      · exact hs
      · refine ite_wf hs ?_
        refine ite_wf (fenceDone_wf hs) ?_
        extract_lets s1 _ _ _ _ _ _ s2
        have h1 : s1.MemWf := snapFire_wf hs
        have h2 : s2.MemWf := setSnap_wf h1
        refine ite_wf h1 ?_
        split
        · exact updRun_wf (sendToken_wf h2)
        · exact spanFenceDone_wf h2

/-! ## Machine/Teardown -/

theorem State.filtersTeardown_wf {tag epoch} (hs : s.MemWf) : (s.filtersTeardown tag epoch).MemWf := by
  unfold State.filtersTeardown
  refine foldl_wf (fun h => ?_) hs
  split
  · exact setFilter_wf h
  · exact h

theorem State.endUnits_wf {j} (hs : s.MemWf) : (s.endUnits j).MemWf := by
  unfold State.endUnits
  extract_lets _
  exact updRun_wf (foldl_wf setCore_wf hs)

theorem State.snapTeardown_wf {j} (hs : s.MemWf) : (s.snapTeardown j).MemWf := by
  unfold State.snapTeardown
  extract_lets _ s1
  have h1 : s1.MemWf := by
    unfold s1
    split
    · exact restoreEnd_wf hs
    · exact hs
  exact ite_wf h1 (snapFail_wf h1)

theorem State.dropQueues_wf {tag epoch} (hs : s.MemWf) : (s.dropQueues tag epoch).MemWf := by
  unfold State.dropQueues; exact foldl_wf setCtx_wf hs

theorem State.beginTeardown_wf {j b} (hs : s.MemWf) : (s.beginTeardown j b).MemWf := by
  unfold State.beginTeardown
  extract_lets _ s2 _ _ _
  have h2 : s2.MemWf := schedSettle_wf (schedEnd_wf (endUnits_wf (filtersTeardown_wf (setJob_wf hs))))
  exact dropQueues_wf (finishAll_wf (snapTeardown_wf (foldl_wf stopBatch_wf h2)))

/-! ## Machine/MemCmds -/

theorem State.refill_wf (hs : s.MemWf) : s.refill.MemWf := by
  unfold State.refill
  refine ite_wf hs ?_
  extract_lets s1
  have h1 : s1.MemWf := setReg_wf hs
  exact sameMem h1

theorem State.moveCodewords_wf {es} (hs : s.MemWf) : (s.moveCodewords es).MemWf := by
  unfold State.moveCodewords
  refine foldl_wf (fun h => ?_) hs
  extract_lets s1
  have h1 : s1.MemWf := readErr_wf h
  split
  · exact h1
  · exact h1
  · exact sameMem h1
  · exact sameMem h1

theorem State.clearFailing_wf {p lo n} (hs : s.MemWf) : (s.clearFailing p lo n).MemWf := by
  unfold State.clearFailing
  extract_lets _
  exact setPc_wf hs

theorem State.reachMapOut_wf {p} (hs : s.MemWf) : (s.reachMapOut p).MemWf := by
  unfold State.reachMapOut; exact ite_wf hs (ite_wf (raise_wf hs) hs)

theorem State.retirePage_wf {p page} (hs : s.MemWf) : (s.retirePage p page).MemWf := by
  unfold State.retirePage
  split
  · exact raise_wf hs
  · exact hs

/-! ## Machine/Span -/

theorem State.servo_wf {err} (hs : s.MemWf) : (s.servo err).MemWf := by
  unfold State.servo
  extract_lets _ s1 _ _ s2 _ _ _
  have h1 : s1.MemWf := setF_wf hs
  have h2 : s2.MemWf := sameMem h1
  exact ite_wf (setReg_wf h2) (setReg_wf (bump_wf h2))

theorem State.beaconOut_wf {n hops root} (hs : s.MemWf) : (s.beaconOut n hops root).MemWf := by
  unfold State.beaconOut
  extract_lets _
  exact ite_wf (emit_wf hs) hs

theorem State.beaconsOut_wf {hops root} (hs : s.MemWf) : (s.beaconsOut hops root).MemWf := by
  unfold State.beaconsOut; exact foldl_wf beaconOut_wf hs

/-! ## Machine/Faults -/

theorem State.effectiveLimit_wf (hs : s.MemWf) : s.effectiveLimit.MemWf := by
  unfold State.effectiveLimit
  extract_lets _
  exact setF_wf hs

/-! ## Machine/Granite -/

theorem State.installBundle_wf {bs} (hs : s.MemWf) : (s.installBundle bs).MemWf := by
  unfold State.installBundle
  extract_lets _ _
  exact hs

theorem State.mbxEnd_wf {m r a} (hs : s.MemWf) : (s.mbxEnd m r a).MemWf := by
  unfold State.mbxEnd
  extract_lets _ s1 _
  have h1 : s1.MemWf := ite_wf (storeOff_wf _ _ hs) hs
  exact sameMem h1

theorem State.mbxSettle_wf {n} (hs : s.MemWf) : (s.mbxSettle n).MemWf := by
  induction n generalizing s with
  | zero => exact hs
  | succ n ih =>
    unfold State.mbxSettle
    split
    · exact hs
    · split
      · exact hs
      · extract_lets _
        split
        · exact hs
        · exact ih (mbxEnd_wf hs)

theorem State.mbxDoorbell_wf {m slot v} (hs : s.MemWf) : (s.mbxDoorbell m slot v).MemWf := by
  unfold State.mbxDoorbell
  refine ite_wf (raise_wf hs) ?_
  refine ite_wf (raise_wf hs) ?_
  extract_lets _ _
  refine ite_wf hs ?_
  split
  next _ s1 _ heq =>
    have h1 : s1.MemWf := fst_wf heq (loadOff_wf hs)
    extract_lets _ _
    exact ite_wf (sameMem h1) (mbxSettle_wf (sameMem h1))
  next _ s1 _ _ heq =>
    have h1 : s1.MemWf := fst_wf heq (loadOff_wf hs)
    exact sameMem h1

theorem State.mbxServe_wf {m req f} (hf : ∀ {t r}, t.MemWf → (f t r).1.MemWf) (hs : s.MemWf) :
    (s.mbxServe m req f).MemWf := by
  unfold State.mbxServe
  split
  · refine ite_wf ?_ hs
    split
    next _ s1 _ heq =>
      have h1 : s1.MemWf := fst_wf heq (hf hs)
      exact mbxSettle_wf (mbxEnd_wf h1)
  · exact hs

theorem State.mbxData_wf {m o n} (hs : s.MemWf) : (s.mbxData m o n).1.MemWf := by
  unfold State.mbxData
  refine ite_fst_wf (mk_wf hs) ?_
  split
  next _ _ _ heq => exact fst_wf heq (loadOff_wf hs)
  next _ _ _ _ heq => exact fst_wf heq (loadOff_wf hs)

theorem State.mbxPut_wf {m o bs} (hs : s.MemWf) : (s.mbxPut m o bs).1.MemWf := by
  unfold State.mbxPut; exact ite_fst_wf (mk_wf hs) (ite_fst_wf (mk_wf hs) (mk_wf (storeOff_wf _ _ hs)))

theorem State.stageBundle_wf {bs} (hs : s.MemWf) : (s.stageBundle bs).1.MemWf := by
  unfold State.stageBundle
  split
  · exact mk_wf (raise_wf hs)
  · exact mk_wf (raise_wf hs)
  · exact ite_fst_wf (mk_wf hs) (mk_wf (installBundle_wf hs))

theorem State.tpCommit_wf {record w} (hs : s.MemWf) : (s.tpCommit record w).MemWf := by
  unfold State.tpCommit
  extract_lets _ _ _ _ _ s3 _ s4 s5
  have h3 : s3.MemWf := ite_wf (admitListChanged_wf hs) hs
  have h4 : s4.MemWf := by
    unfold s4
    split
    · exact raise_wf (sameMem h3)
    · exact h3
  have h5 : s5.MemWf := by
    unfold s5
    split
    · exact installBundle_wf h4
    · exact h4
  exact raise_wf h5

theorem State.tpChecks_wf {bs xs} (hs : s.MemWf) : (s.tpChecks bs xs).1.MemWf := by
  unfold State.tpChecks
  extract_lets _ _ _ _ refuse _ _ _ _ _ _
  have hr : ∀ n d, (refuse n d).1.MemWf := fun _ _ => mk_wf (raise_wf hs)
  refine ite_fst_wf (mk_wf (raise_wf hs)) (ite_fst_wf (hr _ _) (ite_fst_wf (hr _ _)
    (ite_fst_wf (hr _ _) (ite_fst_wf (hr _ _) (ite_fst_wf (hr _ _) ?_)))))
  split
  · exact hr _ _
  · exact mk_wf (tpCommit_wf hs)

theorem State.tpPropose_wf {m bs} (hs : s.MemWf) : (s.tpPropose m bs).1.MemWf := by
  unfold State.tpPropose
  extract_lets refuse
  have hr : ∀ n, (refuse n).1.MemWf := fun _ => mk_wf (raise_wf hs)
  refine ite_fst_wf (hr _) ?_
  split
  · exact hr _
  · exact ite_fst_wf (hr _) (tpChecks_wf hs)

theorem State.spdmSign_wf (hs : s.MemWf) : s.spdmSign.1.MemWf := by
  unfold State.spdmSign; exact bump_wf (bump_wf hs)

theorem State.spdm_wf {t f} (hf : ∀ {t : State}, t.MemWf → (f t).1.MemWf) (hs : s.MemWf) :
    (s.spdm t f).MemWf := by
  unfold State.spdm
  refine ite_wf hs ?_
  split
  next _ s1 _ heq =>
    have h1 : s1.MemWf := fst_wf heq (hf hs)
    exact emit_wf h1

/-! ## Machine/Host -/

theorem State.setStage_wf {n} (hs : s.MemWf) : (s.setStage n).MemWf := by
  unfold State.setStage; exact setF_wf hs

theorem State.bootRegion_wf {e r} (hs : s.MemWf) : (s.bootRegion e r).MemWf := by
  unfold State.bootRegion
  extract_lets rec_ _ s1 _ _ _
  have h1 : s1.MemWf := by
    unfold s1
    clear_value rec_
    split
    · exact setF_wf hs
    · exact hs
  exact applySet_wf (setRegion_wf (setF_wf (setF_wf h1)))

theorem State.bootLedger_wf (hs : s.MemWf) : s.bootLedger.MemWf := by
  unfold State.bootLedger
  extract_lets e s1
  have h1 : s1.MemWf := foldl_wf bootRegion_wf hs
  clear_value e
  split
  · exact setReg_wf h1
  · exact raise_wf h1

theorem State.bootPairs_wf (hs : s.MemWf) : s.bootPairs.MemWf := by
  unfold State.bootPairs
  extract_lets _ _ _
  exact hs

theorem State.runSet_wf {sel b} (hs : s.MemWf) : (s.runSet sel b).MemWf := by
  unfold State.runSet; exact hs

theorem State.graniteBoot_wf (hs : s.MemWf) : s.graniteBoot.MemWf := by
  unfold State.graniteBoot
  extract_lets s1 _ _ run s2
  have h1 : s1.MemWf := setStage_wf (bootPairs_wf hs)
  have h2 : s2.MemWf := raise_wf h1
  split
  · unfold run
    extract_lets _ _ _ s4 s5
    have h4 : s4.MemWf := setReg_wf (setReg_wf (effectiveLimit_wf (bootLedger_wf (setStage_wf (runSet_wf h1)))))
    have h5 : s5.MemWf := foldl_wf mapLinks_wf h4
    exact ite_wf (nodeLoss_wf h5) h5
  · split
    · unfold run
      extract_lets _ _ _ s4 s5
      have h4 : s4.MemWf := setReg_wf (setReg_wf (effectiveLimit_wf (bootLedger_wf (setStage_wf (runSet_wf h2)))))
      have h5 : s5.MemWf := foldl_wf mapLinks_wf h4
      exact ite_wf (nodeLoss_wf h5) h5
    · exact nodeLoss_wf (raise_wf h2)

theorem State.release_wf (hs : s.MemWf) : s.release.MemWf := by
  unfold State.release
  refine ite_wf hs ?_
  extract_lets _ _
  exact setStage_wf hs

theorem State.nodeResetApply_wf {links} (hs : s.MemWf) : (s.nodeResetApply links).MemWf := by
  unfold State.nodeResetApply
  extract_lets _ s1 s2
  have h1 : s1.MemWf := Memory.wf_filter _ hs
  have h2 : s2.MemWf := setF_wf (setF_wf h1)
  exact ite_wf (foldl_wf (fun h => ite_wf h (linkToDown_wf h)) h2) h2

theorem State.nodeResetGo_wf {c links} (hs : s.MemWf) : (s.nodeResetGo c links).MemWf := by
  unfold State.nodeResetGo
  extract_lets _
  exact ite_wf hs (nodeResetApply_wf (answer_wf hs))

theorem State.nodeResetBegin_wf {c links} (hs : s.MemWf) : (s.nodeResetBegin c links).MemWf := by
  unfold State.nodeResetBegin
  extract_lets _ _
  refine foldl_wf (fun h => ?_) (finishAll_wf (waitCmd_wf hs))
  split
  · exact teardownCheck_wf (ite_wf h (beginTeardown_wf h))
  · exact h

theorem State.track_wf {line} (hs : s.MemWf) : (s.track line).MemWf := by
  unfold State.track
  extract_lets _ s1 _
  have h1 : s1.MemWf := by
    unfold s1
    refine ite_wf ?_ hs
    split
    · exact releaseHeld_wf (emit_wf hs)
    · exact hs
  exact ite_wf hs (sameMem h1)

theorem State.hostWrite_wf {a bs} (hs : s.MemWf) : (s.hostWrite a bs).MemWf := by
  unfold State.hostWrite
  extract_lets _ _ s1 _
  have h1 : s1.MemWf := storePart_wf _ _ hs
  exact sameMem h1

theorem State.dropLine_wf {line} (hs : s.MemWf) : (s.dropLine line).MemWf := by
  unfold State.dropLine; exact releaseHeld_wf hs

theorem State.ideSettle_wf {stream} (hs : s.MemWf) : (s.ideSettle stream).MemWf := by
  unfold State.ideSettle
  extract_lets _
  exact ite_wf hs (setF_wf hs)

theorem State.ideGo_wf {m o} (hs : s.MemWf) : (s.ideGo m o).MemWf := by
  unfold State.ideGo
  extract_lets _
  refine ite_wf (setF_wf hs) ?_
  split
  next _ s1 _ heq =>
    have h1 : s1.MemWf := fst_wf heq (loadOff_wf hs)
    extract_lets _ _ _ _ _ s2 _
    have h2 : s2.MemWf := sameMem h1
    exact ite_wf (setF_wf h1) (setF_wf (ideSettle_wf (ite_wf (setF_wf h2) h2)))
  next _ s1 _ _ heq =>
    have h1 : s1.MemWf := fst_wf heq (loadOff_wf hs)
    exact setF_wf h1

theorem State.hostLinkFails_wf (hs : s.MemWf) : s.hostLinkFails.MemWf := by
  unfold State.hostLinkFails
  extract_lets _ _
  exact raise_wf (ideSettle_wf (ideSettle_wf hs))

/-! ## Machine/Frontend -/

theorem State.withParams_wf {c} (hs : s.MemWf) : (s.withParams c).1.MemWf := by
  unfold State.withParams
  refine ite_fst_wf (mk_wf hs) ?_
  extract_lets _ _ _
  refine ite_fst_wf (mk_wf hs) ?_
  refine ite_fst_wf (mk_wf hs) ?_
  split
  next _ _ _ heq => exact fst_wf heq (loadOff_wf hs)
  next _ _ _ _ heq => exact fst_wf heq (loadOff_wf hs)

theorem State.startSlot_wf {q k bs} (hs : s.MemWf) : (s.startSlot q k bs).MemWf := by
  unfold State.startSlot
  extract_lets _ _ _ _
  refine ite_wf (putReply_wf (queueError_wf hs)) ?_
  refine ite_wf (finishCmd_wf hs) ?_
  split
  next _ s2 _ heq =>
    have h2 : s2.MemWf := fst_wf heq (withParams_wf hs)
    exact finishCmd_wf h2
  next _ s2 _ heq =>
    have h2 : s2.MemWf := fst_wf heq (withParams_wf hs)
    extract_lets _
    exact ite_wf (finishCmd_wf h2) (setStarted_wf h2)

/-! ## Machine/Registers -/

theorem State.controlAllowed_wf {m off rd wr} (hs : s.MemWf) : (s.controlAllowed m off rd wr).1.MemWf := by
  unfold State.controlAllowed; exact ite_fst_wf (mk_wf hs) (ite_fst_wf (mk_wf hs) (mk_wf (raise_wf hs)))

theorem State.controlRead_wf {m off size} (hs : s.MemWf) : (s.controlRead m off size).1.MemWf := by
  unfold State.controlRead
  split
  next _ s1 _ heq =>
    have h1 : s1.MemWf := fst_wf heq (controlAllowed_wf hs)
    refine ite_fst_wf (mk_wf h1) ?_
    split <;> exact h1

/-! ## Machine/Control -/

theorem State.doorbell_wf {m q v} (hs : s.MemWf) : (s.doorbell m q v).MemWf := by
  unfold State.doorbell
  extract_lets _ _
  exact ite_wf (raise_wf hs) (ite_wf (ite_wf hs (setQueue_wf hs)) (ite_wf (raise_wf hs) (queueError_wf hs)))

theorem State.chWrite_wf {q v} (hs : s.MemWf) : (s.chWrite q v).MemWf := by
  unfold State.chWrite
  extract_lets _ _
  exact ite_wf (settle_wf (flushHeld_wf (setQueue_wf hs))) (raise_wf hs)

theorem State.ring0Write_wf {completion v} (hs : s.MemWf) : (s.ring0Write completion v).MemWf := by
  unfold State.ring0Write
  extract_lets _ _ _ _
  exact ite_wf hs (ite_wf (setQueue_wf hs) (setQueue_wf hs))

theorem State.drain0_wf {r} (hs : s.MemWf) : (s.drain0 r).MemWf := by
  unfold State.drain0
  extract_lets _
  exact ite_wf hs (settle_wf (setQueue_wf hs))

theorem State.enable0_wf (hs : s.MemWf) : s.enable0.MemWf := by
  unfold State.enable0
  extract_lets _
  exact ite_wf hs (setQueue_wf hs)

theorem State.ctrl0Write_wf {v} (hs : s.MemWf) : (s.ctrl0Write v).MemWf := by
  unfold State.ctrl0Write
  extract_lets _ s1 s2
  have h1 : s1.MemWf := setQueue_wf hs
  have h2 : s2.MemWf := ite_wf (enable0_wf h1) (drain0_wf h1)
  exact ite_wf (drain0_wf h2) h2

theorem State.axlCtrlWrite_wf {n v} (hs : s.MemWf) : (s.axlCtrlWrite n v).MemWf := by
  unfold State.axlCtrlWrite
  extract_lets s1 s2 _
  have h1 : s1.MemWf := setF_wf hs
  have h2 : s2.MemWf := ite_wf h1 (setF_wf h1)
  exact ite_wf (ite_wf h2 (linkToDisabled_wf h2))
    (ite_wf (ite_wf h2 (setLink_wf h2)) (ite_wf (beginFastRetrain_wf h2) h2))

theorem State.axlVcWrite_wf {n vc v} (hs : s.MemWf) : (s.axlVcWrite n vc v).MemWf := by
  unfold State.axlVcWrite
  extract_lets s1
  have h1 : s1.MemWf := setF_wf hs
  exact ite_wf (setF_wf h1) h1

theorem State.replayCfgWrite_wf {n v} (hs : s.MemWf) : (s.replayCfgWrite n v).MemWf := by
  unfold State.replayCfgWrite
  extract_lets s1 _
  have h1 : s1.MemWf := ite_wf hs (setF_wf hs)
  exact ite_wf h1 (setF_wf h1)

theorem State.ctxSelectWrite_wf {v} (hs : s.MemWf) : (s.ctxSelectWrite v).MemWf := by
  unfold State.ctxSelectWrite
  extract_lets _ _
  exact foldl_wf setReg_wf (setReg_wf hs)

theorem State.nodeIdWrite_wf {v} (hs : s.MemWf) : (s.nodeIdWrite v).MemWf := by
  unfold State.nodeIdWrite
  refine ite_wf (raise_wf hs) ?_
  extract_lets s1
  have h1 : s1.MemWf := setF_wf hs
  exact ite_wf h1 (setF_wf h1)

theorem State.filterSelWrite_wf {v} (hs : s.MemWf) : (s.filterSelWrite v).MemWf := by
  unfold State.filterSelWrite
  extract_lets s1
  have h1 : s1.MemWf := setF_wf hs
  exact ite_wf h1 (setF_wf h1)

theorem State.ideKeyWrite_wf {m v} (hs : s.MemWf) : (s.ideKeyWrite m v).MemWf := by
  unfold State.ideKeyWrite
  extract_lets s1
  have h1 : s1.MemWf := setF_wf hs
  exact ite_wf (ideGo_wf h1) h1

theorem State.tflagWrite_wf {is v} (hs : s.MemWf) : (s.tflagWrite is v).MemWf := by
  unfold State.tflagWrite
  extract_lets _
  exact setReg_wf hs

theorem State.plainWrite_wf {t is v} (hs : s.MemWf) : (s.plainWrite t is v).MemWf := by
  unfold State.plainWrite
  extract_lets _ _
  exact setReg_wf hs

theorem State.gwWrite_wf {t is v} (hs : s.MemWf) : (s.gwWrite t is v).MemWf := by
  unfold State.gwWrite
  extract_lets _ s1 _ _ _
  have h1 : s1.MemWf := setReg_wf hs
  split
  · exact statusBits_wf h1
  · exact effectiveLimit_wf h1
  · exact ite_wf hs hs
  · exact h1

theorem State.writeReg_wf {m i3c t is v} (hs : s.MemWf) : (s.writeReg m i3c t is v).MemWf := by
  unfold State.writeReg
  extract_lets _ s1
  have h1 : s1.MemWf := ite_wf hs (ite_wf (gwWrite_wf hs) (ite_wf (raise_wf hs) hs))
  split
  · exact opRequest_wf h1
  · exact doorbell_wf h1
  · exact chWrite_wf h1
  · exact ite_wf (ring0Write_wf h1) h1
  · exact ite_wf (ring0Write_wf h1) h1
  · exact ite_wf (ctrl0Write_wf h1) h1
  · exact axlCtrlWrite_wf h1
  · exact axlVcWrite_wf h1
  · exact replayCfgWrite_wf h1
  · exact ctxSelectWrite_wf h1
  · exact ite_wf (setReg_wf h1) h1
  · exact nodeIdWrite_wf h1
  · exact ite_wf (setReg_wf h1) h1
  · exact filterSelWrite_wf h1
  · exact mbxDoorbell_wf h1
  · exact ideKeyWrite_wf h1
  · exact ite_wf (setReg_wf h1) (raise_wf h1)
  · exact tflagWrite_wf h1
  · exact plainWrite_wf h1

theorem State.controlWrite_wf {m i3c off size v} (hs : s.MemWf) : (s.controlWrite m i3c off size v).MemWf := by
  unfold State.controlWrite
  split
  next _ s1 _ heq =>
    have h1 : s1.MemWf := fst_wf heq (controlAllowed_wf hs)
    refine ite_wf h1 ?_
    split
    · exact writeReg_wf h1
    · exact h1

theorem State.setFlags_wf {off hw} (hs : s.MemWf) : (s.setFlags off hw).MemWf := by
  unfold State.setFlags
  split
  · exact hs
  · exact ite_wf hs (foldl_wf raise_wf hs)

theorem State.mgtServe_wf {t f} (hf : ∀ {t : State}, t.MemWf → (f t).MemWf) (hs : s.MemWf) :
    (s.mgtServe t f).MemWf := by
  unfold State.mgtServe
  exact ite_wf hs (ite_wf (hf hs) (raise_wf hs))

/-! ## Machine/CoreMem -/

theorem State.nearLoad_wf {c k ea n f} (hs : s.MemWf) : (s.nearLoad c k ea n f).1.MemWf := by
  unfold State.nearLoad
  split
  · exact loadAt_wf hs
  · exact hs
  · exact hs

theorem State.nearStore_wf {c k ea bs} (hs : s.MemWf) : (s.nearStore c k ea bs).1.MemWf := by
  unfold State.nearStore
  split
  · exact store_wf _ _ hs
  · exact hs
  · exact hs

theorem nearLoadStep_wf {c w k} (hs : s.MemWf) : (nearLoadStep c w s k).1.MemWf := by
  unfold nearLoadStep
  extract_lets _ _
  exact nearLoad_wf hs

theorem nearStoreStep_wf {c w k} (hs : s.MemWf) : (nearStoreStep c w s k).1.MemWf := by
  unfold nearStoreStep; exact nearStore_wf hs

theorem ldfStep_wf {c w k} (hs : s.MemWf) : (ldfStep c w s k).1.MemWf := by
  unfold ldfStep; exact nearLoad_wf hs

theorem stfStep_wf {c w k} (hs : s.MemWf) : (stfStep c w s k).1.MemWf := by
  unfold stfStep; exact nearStore_wf hs

theorem globalLoadStep_wf {c w k} (hs : s.MemWf) : (globalLoadStep c w s k).1.MemWf := by
  unfold globalLoadStep
  extract_lets _ _ _
  refine ite_fst_wf (mk_wf hs) ?_
  split
  next _ s1 _ heq =>
    have h1 : s1.MemWf := fst_wf heq (globalTarget_wf hs)
    exact loadAt_wf h1
  next _ s1 _ _ heq =>
    have h1 : s1.MemWf := fst_wf heq (globalTarget_wf hs)
    exact sendAccess_wf h1
  next _ _ _ heq => exact fst_wf heq (globalTarget_wf hs)
  next _ _ heq => exact fst_wf heq (globalTarget_wf hs)

theorem globalStoreStep_wf {c w k} (hs : s.MemWf) : (globalStoreStep c w s k).1.MemWf := by
  unfold globalStoreStep
  extract_lets _ _ _
  refine ite_fst_wf (mk_wf hs) ?_
  split
  next _ s1 _ heq =>
    have h1 : s1.MemWf := fst_wf heq (globalTarget_wf hs)
    exact store_wf _ _ h1
  next _ s1 _ _ heq =>
    have h1 : s1.MemWf := fst_wf heq (globalTarget_wf hs)
    exact sendAccess_wf h1
  next _ _ _ heq => exact fst_wf heq (globalTarget_wf hs)
  next _ _ heq => exact fst_wf heq (globalTarget_wf hs)

theorem State.checkStep_wf {c} (hs : s.MemWf) : (s.checkStep c).1.MemWf := by
  unfold State.checkStep
  extract_lets _
  exact checkFault_wf hs

theorem atomicStep_wf {c w k} (hs : s.MemWf) : (atomicStep c w s k).1.MemWf := by
  unfold atomicStep
  extract_lets _ _ _ _ _
  refine ite_fst_wf (mk_wf hs) ?_
  split
  next _ _ _ heq => exact fst_wf heq (globalTarget_wf hs)
  next _ s1 _ _ heq =>
    have h1 : s1.MemWf := fst_wf heq (globalTarget_wf hs)
    split
    · exact h1
    · exact checkStep_wf h1
    · exact h1
    · split
      · split
        next _ s2 _ heq =>
          have h2 : s2.MemWf := fst_wf heq (atomicAt_wf h1)
          exact journalAdd_wf h2
        next _ _ heq => exact fst_wf heq (atomicAt_wf h1)
      · extract_lets s2
        exact sendAccess_wf (journalAdd_wf h1)
      · exact h1

theorem acopyStep_wf {c w k} (hs : s.MemWf) : (acopyStep c w s k).1.MemWf := by
  unfold acopyStep
  extract_lets _ _
  refine ite_fst_wf (mk_wf hs) ?_
  refine ite_fst_wf (mk_wf hs) ?_
  split
  next _ s1 _ heq =>
    have h1 : s1.MemWf := fst_wf heq (globalTarget_wf hs)
    split
    next _ _ heq => exact fst_wf heq (load_wf h1)
    next _ s2 _ heq =>
      have h2 : s2.MemWf := fst_wf heq (load_wf h1)
      split
      · exact h2
      · extract_lets _
        exact journalAdd_wf (acopy_wf h2)
      · exact checkStep_wf h2
  next _ _ _ heq => exact fst_wf heq (globalTarget_wf hs)
  next _ _ _ _ _ heq => exact fst_wf heq (globalTarget_wf hs)

theorem State.vmTarget_wf {c k w i j} (hs : s.MemWf) : (s.vmTarget c k w i j).1.MemWf := by
  have hg {p} : (s.globalTarget k p (vmBytes w) (!vmStore w) (vmStore w)).1.MemWf := globalTarget_wf hs
  unfold State.vmTarget
  revert hg
  generalize s.globalTarget k = g
  intro hg
  exact ite_fst_wf (ite_fst_wf (mk_wf hs) (mk_wf hg)) (mk_wf hs)

theorem State.vmLoadElem_wf {c k w i got n} (hs : s.MemWf) : (s.vmLoadElem c k w i got n).1.MemWf := by
  induction n generalizing s got with
  | zero => exact hs
  | succ n ih =>
    unfold State.vmLoadElem
    extract_lets _ _
    split
    next _ s1 _ _ heq =>
      have h1 : s1.MemWf := fst_wf heq (vmTarget_wf hs)
      split
      next _ s2 _ heq =>
        have h2 : s2.MemWf := fst_wf heq (load_wf h1)
        exact ih h2
      next _ _ heq => exact fst_wf heq (load_wf h1)
    next _ s1 _ _ _ heq =>
      have h1 : s1.MemWf := fst_wf heq (vmTarget_wf hs)
      extract_lets s2
      have h2 : s2.1.MemWf := sendAccess_wf h1
      exact h2
    next _ _ _ _ heq => exact fst_wf heq (vmTarget_wf hs)
    next _ _ _ heq => exact fst_wf heq (vmTarget_wf hs)

theorem State.vmStoreElem_wf {c k w i j vs} (hs : s.MemWf) : (s.vmStoreElem c k w i j vs).1.MemWf := by
  induction vs generalizing s j with
  | nil => exact hs
  | cons v vs ih =>
    unfold State.vmStoreElem
    extract_lets _ _ _
    split
    next _ s1 _ _ heq =>
      have h1 : s1.MemWf := fst_wf heq (vmTarget_wf hs)
      exact ih (store_wf _ _ h1)
    next _ s1 _ _ _ heq =>
      have h1 : s1.MemWf := fst_wf heq (vmTarget_wf hs)
      extract_lets s2
      have h2 : s2.1.MemWf := sendAccess_wf h1
      exact h2
    next _ _ _ _ heq => exact fst_wf heq (vmTarget_wf hs)
    next _ _ _ heq => exact fst_wf heq (vmTarget_wf hs)

theorem State.vmElem_wf {c k w i} (hs : s.MemWf) : (s.vmElem c k w i).1.MemWf := by
  unfold State.vmElem
  refine ite_fst_wf ?_ (vmLoadElem_wf hs)
  extract_lets _ _ _
  split
  · exact vmTarget_wf hs
  · exact vmStoreElem_wf hs

theorem State.vmRun_wf {c w k i n} (hs : s.MemWf) : (s.vmRun c w k i n).1.MemWf := by
  induction n generalizing s k i with
  | zero => exact hs
  | succ n ih =>
    unfold State.vmRun
    refine ite_fst_wf (ih hs) ?_
    split
    next _ _ _ heq => exact fst_wf heq (vmElem_wf hs)
    next _ s1 _ heq =>
      have h1 : s1.MemWf := fst_wf heq (vmElem_wf hs)
      extract_lets _
      exact ih h1

theorem State.vmBroadcast_wf {c w k i n} (hs : s.MemWf) : (s.vmBroadcast c w k i n).1.MemWf := by
  induction n generalizing s k i with
  | zero => exact hs
  | succ n ih =>
    unfold State.vmBroadcast
    refine ite_fst_wf (ih hs) ?_
    split
    next _ _ _ heq => exact fst_wf heq (vmElem_wf hs)
    next _ s1 _ heq =>
      have h1 : s1.MemWf := fst_wf heq (vmElem_wf hs)
      extract_lets _
      exact h1

theorem vmStep_wf {c w k} (hs : s.MemWf) : (vmStep c w s k).1.MemWf := by
  unfold vmStep
  extract_lets _
  exact ite_fst_wf (mk_wf hs) (ite_fst_wf (vmBroadcast_wf hs) (vmRun_wf hs))

/-! ## Machine/Tick -/

theorem State.tick_wf (hs : s.MemWf) : s.tick.MemWf := by
  unfold State.tick; exact ite_wf hs hs


/-! ## Machine/Scalar -/

theorem execTwaitTimeout_wf {c} (hs : s.MemWf) : NextWf (execTwaitTimeout c s) := by
  unfold execTwaitTimeout
  refine next_wf ?_
  extract_lets _
  split
  · exact ite_wf (progFault_wf hs) hs
  · exact hs

/-! ## Machine/Tensor -/

theorem execTwloadProceed_wf {c} (hs : s.MemWf) : NextWf (execTwloadProceed c s) := by
  unfold execTwloadProceed
  refine next_wf ?_
  extract_lets _
  split
  · refine ite_wf hs ?_
    extract_lets s1
    have h1 : s1.1.MemWf := by
      unfold s1
      refine withDesc_wf (fun h => ?_) hs
      split
      · exact tensorFault_wf h
      · exact makeVersion_wf h
    exact applyStep_wf h1
  · exact hs

theorem execTwloadWaitTimeout_wf {c} (hs : s.MemWf) : NextWf (execTwloadWaitTimeout c s) := by
  unfold execTwloadWaitTimeout
  refine next_wf ?_
  extract_lets _
  split
  · refine ite_wf ?_ hs
    extract_lets _
    exact applyStep_wf (tensorFault_wf hs)
  · exact hs

/-! ## Machine/Commands -/

theorem execQCreate_wf {q seq} (hs : s.MemWf) : NextWf (execQCreate q seq s) := by
  unfold execQCreate
  refine next_wf (runCmd_wf (fun h => ?_) hs)
  extract_lets _ _ _ _
  exact ite_wf (finishCmd_wf h) (finishCmd_wf (setQueue_wf h))

theorem execDispatchCoreFail_wf {d q seq} (hs : s.MemWf) : NextWf (execDispatchCoreFail d q seq s) := by
  unfold execDispatchCoreFail
  refine next_wf (ite_wf hs ?_)
  extract_lets s1 _ _ s3
  have h1 : s1.MemWf := changeMap_wf hs
  have h3 : s3.MemWf := continuity_wf (sameMem h1)
  refine ite_wf (nodeLoss_wf h3) ?_
  split
  · exact ite_wf h3 (raise_wf h3)
  · exact h3

/-! ## Machine/Responder -/

theorem execCopyOpen_wf {n p} (hs : s.MemWf) : NextWf (execCopyOpen n p s) := by
  unfold execCopyOpen
  refine next_wf (onCtx_wf (fun h => ?_) hs)
  refine ite_wf ?_ (respond_wf runPut_wf h)
  extract_lets _ s1
  have h1 : s1.MemWf := respond_wf runGet_wf h
  exact ite_wf (getPieces_wf h1) h1

theorem execBindRepeat_wf {x} (hs : s.MemWf) : NextWf (execBindRepeat x s) := by
  unfold execBindRepeat
  refine next_wf ?_
  extract_lets _
  exact ite_wf (sendBind_wf hs) hs

theorem execBindTimeout_wf {x} (hs : s.MemWf) : NextWf (execBindTimeout x s) := by
  unfold execBindTimeout
  refine next_wf ?_
  extract_lets _ s1
  have h1 : s1.MemWf := closeCtx_wf hs
  refine ite_wf ?_ hs
  split
  · exact finish_wf h1
  · exact h1

theorem execRequestTimeout_wf {x seq} (hs : s.MemWf) : NextWf (execRequestTimeout x seq s) := by
  unfold execRequestTimeout
  refine next_wf ?_
  extract_lets _
  split
  · exact hs
  · refine ite_wf (ite_wf (expireReq_wf hs) hs) ?_
    split
    · exact ite_wf (expireCopy_wf hs) hs
    · exact hs

theorem execQueryTimer_wf {x} (hs : s.MemWf) : NextWf (execQueryTimer x s) := by
  unfold execQueryTimer
  refine next_wf ?_
  extract_lets _ _
  exact ite_wf (foldl_wf sendOn_wf (setCtx_wf hs)) hs

theorem execRnrResend_wf {x seq} (hs : s.MemWf) : NextWf (execRnrResend x seq s) := by
  unfold execRnrResend
  refine next_wf ?_
  extract_lets _
  split
  · exact hs
  · split
    · exact hs
    · exact ite_wf (transmit_wf (updReq_wf hs)) hs

/-! ## Machine/Power -/

theorem execLedgerRead_wf {q seq} (hs : s.MemWf) : NextWf (execLedgerRead q seq s) := by
  unfold execLedgerRead
  refine next_wf (runCmd_wf (fun h => ?_) hs)
  extract_lets _ _
  exact ite_wf (finishCmd_wf h) (finishCmd_wf (storeOff_wf _ _ h))

theorem execRateWindowEnd_wf {r rate} (hs : s.MemWf) : NextWf (execRateWindowEnd r rate s) := by
  unfold execRateWindowEnd
  refine next_wf ?_
  extract_lets _ s1 _ _ _
  have h1 : s1.MemWf := setF_wf hs
  exact ite_wf (noteHold_wf (statusBits_wf (setF_wf h1))) (statusBits_wf h1)

theorem execTelltaleReport_wf {r t delay tapChange} (hs : s.MemWf) :
    NextWf (execTelltaleReport r t delay tapChange s) := by
  unfold execTelltaleReport
  refine next_wf (ite_wf hs ?_)
  extract_lets s1 _ _ s2 _
  have h1 : s1.MemWf := setF_wf hs
  have h2 : s2.MemWf := raise_wf (setF_wf h1)
  exact ite_wf h1 (ite_wf (ite_wf (setRegion_wf h2) h2) (ite_wf (setF_wf h1) h1))

theorem execGraniteReplan_wf (hs : s.MemWf) : NextWf (execGraniteReplan s) := by
  unfold execGraniteReplan
  refine next_wf ?_
  extract_lets _
  exact foldl_wf (fun h => replanEye_wf (replanEye_wf h)) (foldl_wf replanRegion_wf hs)

theorem execOpPoint_wf {q seq} (hs : s.MemWf) : NextWf (execOpPoint q seq s) := by
  unfold execOpPoint
  refine next_wf (runCmd_wf (fun h => ?_) hs)
  extract_lets _
  exact finishCmd_wf (opRequest_wf h)

theorem execOpPointApply_wf (hs : s.MemWf) : NextWf (execOpPointApply s) := by
  unfold execOpPointApply
  refine next_wf ?_
  split
  · extract_lets _
    exact pointDone_wf (foldl_wf takePoint_wf hs)
  · exact hs

theorem execOpRaiseStep_wf (hs : s.MemWf) : NextWf (execOpRaiseStep s) := by
  unfold execOpRaiseStep
  refine next_wf ?_
  split
  · exact hs
  · extract_lets s1
    have h1 : s1.MemWf := by
      unfold s1
      refine foldl_wf (fun h => ?_) hs
      extract_lets _
      exact applySet_wf (setRegion_wf h)
    exact pointDone_wf h1

theorem execPowerLimitLower_wf {watts} (hs : s.MemWf) : NextWf (execPowerLimitLower watts s) := by
  unfold execPowerLimitLower
  refine next_wf (ite_wf hs ?_)
  extract_lets s1
  have h1 : s1.MemWf := by
    unfold s1
    refine foldl_wf (fun h => ?_) hs
    extract_lets _ _
    exact ite_wf h (applySet_wf (setRegion_wf h))
  exact ite_wf (raise_wf h1) h1

theorem execPowerLimitRaise_wf {watts} (hs : s.MemWf) : NextWf (execPowerLimitRaise watts s) := by
  unfold execPowerLimitRaise
  refine next_wf (ite_wf hs ?_)
  refine foldl_wf (fun h => ?_) hs
  extract_lets _
  split
  · exact h
  · exact applySet_wf (setRegion_wf h)

theorem execThermalLower_wf {r temp} (hs : s.MemWf) : NextWf (execThermalLower r temp s) := by
  unfold execThermalLower
  refine next_wf ?_
  extract_lets s1 _ _ _
  have h1 : s1.MemWf := setTemp_wf hs
  exact ite_wf h1 (raise_wf (applySet_wf (setRegion_wf h1)))

theorem execThermalRaise_wf {r temp} (hs : s.MemWf) : NextWf (execThermalRaise r temp s) := by
  unfold execThermalRaise
  refine next_wf ?_
  extract_lets s1 _
  have h1 : s1.MemWf := setTemp_wf hs
  split
  · exact h1
  · refine ite_wf h1 ?_
    extract_lets _
    exact applySet_wf (setRegion_wf h1)

theorem execThermalHold_wf {r temp} (hs : s.MemWf) : NextWf (execThermalHold r temp s) := by
  unfold execThermalHold
  refine next_wf ?_
  extract_lets s1 s2 _
  have h1 : s1.MemWf := setTemp_wf hs
  have h2 : s2.MemWf := raise_wf (sameMem h1)
  exact ite_wf h1 (ite_wf h2 (applySet_wf (setRegion_wf h2)))

theorem execThermalHoldLift_wf {r temp} (hs : s.MemWf) : NextWf (execThermalHoldLift r temp s) := by
  unfold execThermalHoldLift
  refine next_wf ?_
  extract_lets s1
  have h1 : s1.MemWf := setTemp_wf hs
  exact sameMem h1

theorem execThermalShutdown_wf {r temp} (hs : s.MemWf) : NextWf (execThermalShutdown r temp s) := by
  unfold execThermalShutdown
  refine next_wf ?_
  extract_lets s1
  have h1 : s1.MemWf := setTemp_wf hs
  exact ite_wf (nodeLoss_wf (powerOff_wf (emit_wf (nodeLoss_wf h1)))) h1

/-! ## Machine/Tracking -/

theorem execQntSetup_wf {q seq} (hs : s.MemWf) : NextWf (execQntSetup q seq s) := by
  unfold execQntSetup
  refine next_wf (runJobCmd_wf (fun h => ?_) hs)
  extract_lets _ _ _ _
  refine ite_wf (finishCmd_wf h) ?_
  refine ite_wf (finishCmd_wf h) ?_
  refine ite_wf (finishCmd_wf h) ?_
  split
  · exact finishCmd_wf h
  · extract_lets _
    exact finishCmd_wf h

theorem execQntRead_wf {q seq} (hs : s.MemWf) : NextWf (execQntRead q seq s) := by
  unfold execQntRead
  refine next_wf (runJobCmd_wf (fun h => ?_) hs)
  split
  · exact finishCmd_wf h
  · extract_lets _ _
    split
    · exact finishCmd_wf h
    · exact finishCmd_wf (storeOff_wf _ _ h)

theorem execQntHistorySet_wf {q seq} (hs : s.MemWf) : NextWf (execQntHistorySet q seq s) := by
  unfold execQntHistorySet
  refine next_wf (runJobCmd_wf (fun h => ?_) hs)
  refine ite_wf (finishCmd_wf h) ?_
  split
  · exact finishCmd_wf h
  · split
    · exact finishCmd_wf h
    · extract_lets s1
      have h1 : s1.1.MemWf := loadOff_wf h
      split
      · exact finishCmd_wf h1
      · extract_lets _
        exact ite_wf (finishCmd_wf h1) (finishCmd_wf (setHistory_wf h1))

theorem execQntReset_wf {q seq} (hs : s.MemWf) : NextWf (execQntReset q seq s) := by
  unfold execQntReset
  refine next_wf (runJobCmd_wf (fun h => ?_) hs)
  refine ite_wf (finishCmd_wf h) ?_
  split
  · exact finishCmd_wf h
  · extract_lets _
    exact finishCmd_wf (ite_wf h h)

/-! ## Machine/Snapshot -/

theorem execSnapTake_wf {q seq} (hs : s.MemWf) : NextWf (execSnapTake q seq s) := by
  unfold execSnapTake
  refine next_wf (runJobCmd_wf (fun h => ?_) hs)
  extract_lets _ _ s1 _ _
  have h1 : s1.1.MemWf := loadOff_wf h
  refine ite_wf (finishCmd_wf h) ?_
  split
  · exact finishCmd_wf h
  · split
    · exact finishCmd_wf h1
    · extract_lets _
      refine ite_wf (finishCmd_wf h1) ?_
      split
      · exact finishCmd_wf h1
      · exact ite_wf (finishCmd_wf h1) (ite_wf (finishCmd_wf h1) (restStep_wf (waitCmd_wf (setSnap_wf h1))))

theorem execSnapshotPageCopy_wf {j} (hs : s.MemWf) : NextWf (execSnapshotPageCopy j s) := by
  unfold execSnapshotPageCopy
  refine next_wf ?_
  extract_lets _
  refine ite_wf hs ?_
  refine ite_wf (verdictTry_wf hs) ?_
  split
  · exact verdictTry_wf hs
  · split
    · exact hs
    · split
      next _ s1 _ heq =>
        have h1 : s1.MemWf := fst_wf heq (pageBytes_wf hs)
        extract_lets s2 _
        have h2 : s2.MemWf := updPage_wf h1
        exact verdictTry_wf (ite_wf (pageDone_wf (updPage_wf (snapWrite_wf h2))) h2)

theorem execVerdictUp_wf {j from_ tok} (hs : s.MemWf) : NextWf (execVerdictUp j from_ tok s) := by
  unfold execVerdictUp
  refine next_wf ?_
  split
  · exact hs
  · extract_lets _ _
    exact verdictTry_wf (setSnap_wf hs)

theorem execVerdictDown_wf {j from_ tok} (hs : s.MemWf) : NextWf (execVerdictDown j from_ tok s) := by
  unfold execVerdictDown
  refine next_wf ?_
  split
  · exact hs
  · extract_lets _
    exact ite_wf (verdictDown_wf hs) hs

theorem execSnapAbort_wf {q seq} (hs : s.MemWf) : NextWf (execSnapAbort q seq s) := by
  unfold execSnapAbort
  refine next_wf (runJobCmd_wf (fun h => ?_) hs)
  extract_lets _
  exact ite_wf (finishCmd_wf h) (finishCmd_wf (snapStop_wf h))

/-! ## Machine/Restore -/

theorem execSnapRestore_wf {q seq} (hs : s.MemWf) : NextWf (execSnapRestore q seq s) := by
  unfold execSnapRestore
  refine next_wf (runJobCmd_wf (fun h => ?_) hs)
  extract_lets _ _ _ _ bad _ _ _ _ _ _
  refine ite_wf (finishCmd_wf h) ?_
  clear_value bad
  split
  · exact finishCmd_wf h
  · refine ite_wf (finishCmd_wf h) ?_
    split
    · exact finishCmd_wf h
    · exact ite_wf (finishCmd_wf h) (restoreGo_wf (foldl_wf fetchImage_wf (waitCmd_wf (setSnap_wf h))))

theorem execRestoreUp_wf {j from_ tok} (hs : s.MemWf) : NextWf (execRestoreUp j from_ tok s) := by
  unfold execRestoreUp
  refine next_wf ?_
  split
  · exact hs
  · extract_lets _ _
    exact restoreGo_wf (setSnap_wf hs)

theorem execRestoreDown_wf {j from_ tok} (hs : s.MemWf) : NextWf (execRestoreDown j from_ tok s) := by
  unfold execRestoreDown
  refine next_wf ?_
  split
  · exact ite_wf (restoreGo_wf (restoreDown_wf hs)) hs
  · exact hs

/-! ## Machine/Solver -/

theorem execSlvBatch_wf {q seq} (hs : s.MemWf) : NextWf (execSlvBatch q seq s) := by
  unfold execSlvBatch
  refine next_wf (runJobCmd_wf (fun h => ?_) hs)
  extract_lets _ _
  refine ite_wf (finishCmd_wf h) ?_
  refine ite_wf (finishCmd_wf h) ?_
  split
  · exact finishCmd_wf h
  · exact finishCmd_wf h
  · exact ite_wf (finishCmd_wf h) (startBatches_wf (waitCmd_wf h))

theorem execSolverProblem_wf {l} (hs : s.MemWf) : NextWf (execSolverProblem l s) := by
  unfold execSolverProblem
  refine next_wf ?_
  split
  · exact hs
  · split
    · extract_lets s1
      have h1 : s1.MemWf := by
        unfold s1
        split
        next _ s2 _ _ _ heq =>
          have h2 : s2.MemWf := fst_wf heq (loadProblem_wf hs)
          exact runProblem_wf h2
        next _ s2 heq =>
          have h2 : s2.MemWf := fst_wf heq (loadProblem_wf hs)
          exact problemEnd_wf h2
        next _ s2 heq =>
          have h2 : s2.MemWf := fst_wf heq (loadProblem_wf hs)
          exact problemEnd_wf (updBatch_wf h2)
      exact settleBatch_wf h1
    · exact hs

theorem execSlvDeadlineExpiry_wf {q seq progress} (hs : s.MemWf) : NextWf (execSlvDeadlineExpiry q seq progress s) := by
  unfold execSlvDeadlineExpiry
  refine next_wf ?_
  split
  · exact hs
  · split
    · refine ite_wf hs ?_
      extract_lets _ s1
      have h1 : s1.MemWf := by
        unfold s1
        refine foldl_wf (fun h => ?_) hs
        extract_lets inHand
        split
        next _ s2 heq =>
          have h2 : s2.MemWf := fst_wf heq (loadProblem_wf h)
          exact problemEnd_wf h2
        next _ s2 heq =>
          have h2 : s2.MemWf := fst_wf heq (loadProblem_wf h)
          exact problemEnd_wf (updBatch_wf h2)
        next _ s2 _ _ _ heq =>
          have h2 : s2.MemWf := fst_wf heq (loadProblem_wf h)
          clear_value inHand
          split
          · exact cutEarly_wf h2
          · exact cutEarly_wf h2
          · exact ite_wf (runProblem_wf h2) (runProblem_wf h2)
      exact settleBatch_wf h1
    · exact hs

theorem execSlvAbort_wf {q seq} (hs : s.MemWf) : NextWf (execSlvAbort q seq s) := by
  unfold execSlvAbort
  refine next_wf (runJobCmd_wf (fun h => ?_) hs)
  extract_lets _ _
  exact ite_wf (finishCmd_wf h) (finishCmd_wf (foldl_wf stopBatch_wf h))

/-! ## Machine/Schedule -/

theorem execJobBegin_wf {q seq} (hs : s.MemWf) : NextWf (execJobBegin q seq s) := by
  unfold execJobBegin
  refine next_wf (runCmd_wf (fun h => ?_) hs)
  refine ite_wf (finishCmd_wf h) ?_
  refine ite_wf (finishCmd_wf h) ?_
  refine ite_wf (finishCmd_wf h) ?_
  split
  · exact finishCmd_wf h
  · refine ite_wf (finishCmd_wf h) ?_
    refine ite_wf (openJob_wf h) ?_
    extract_lets s1
    have h1 : s1.MemWf := applyDisables_wf h
    clear_value s1
    split
    · exact openJob_wf (sameMem h1)
    · exact finishCmd_wf (nodeLoss_wf h1)

theorem execSchedLoad_wf {q seq} (hs : s.MemWf) : NextWf (execSchedLoad q seq s) := by
  unfold execSchedLoad
  refine next_wf (runJobCmd_wf (fun h => ?_) hs)
  extract_lets _ _ _ s1 _
  have h1 : s1.1.MemWf := loadOff_wf h
  refine ite_wf (finishCmd_wf h) ?_
  split
  · exact finishCmd_wf h1
  · extract_lets _
    split
    · exact finishCmd_wf h1
    · exact finishCmd_wf h1
    · exact finishCmd_wf (sameMem h1)

theorem execSchedUnload_wf {q seq} (hs : s.MemWf) : NextWf (execSchedUnload q seq s) := by
  unfold execSchedUnload
  refine next_wf (runJobCmd_wf (fun h => ?_) hs)
  extract_lets _ _
  exact ite_wf (finishCmd_wf h) (ite_wf (finishCmd_wf h) (ite_wf (finishCmd_wf h) (finishCmd_wf h)))

theorem execSchedRun_wf {q seq} (hs : s.MemWf) : NextWf (execSchedRun q seq s) := by
  unfold execSchedRun
  refine next_wf (runJobCmd_wf (fun h => ?_) hs)
  split
  · exact finishCmd_wf h
  · refine ite_wf (finishCmd_wf h) ?_
    refine ite_wf (finishCmd_wf h) ?_
    refine ite_wf (finishCmd_wf (setJob_wf h)) ?_
    extract_lets _
    exact loadStep_wf (setJob_wf (waitCmd_wf h))

theorem execSchedHalt_wf {q seq} (hs : s.MemWf) : NextWf (execSchedHalt q seq s) := by
  unfold execSchedHalt
  exact next_wf (runJobCmd_wf (fun h => ite_wf (finishCmd_wf h) (updRun_wf (waitCmd_wf h))) hs)

theorem execTallySet_wf {q seq} (hs : s.MemWf) : NextWf (execTallySet q seq s) := by
  unfold execTallySet
  refine next_wf (runJobCmd_wf (fun h => ?_) hs)
  extract_lets _
  exact ite_wf (finishCmd_wf h) (finishCmd_wf (wakeTally_wf (setTally_wf h)))

theorem execTallyRead_wf {q seq} (hs : s.MemWf) : NextWf (execTallyRead q seq s) := by
  unfold execTallyRead
  refine next_wf (runJobCmd_wf (fun h => ?_) hs)
  extract_lets _
  exact ite_wf (finishCmd_wf h) (finishCmd_wf h)

theorem execUnitIssue_wf {l k} (hs : s.MemWf) : NextWf (execUnitIssue l k s) := by
  unfold execUnitIssue
  refine next_wf ?_
  split
  · split
    · exact hs
    · split
      · exact hs
      · exact ite_wf (issueUnit_wf hs) hs
  · exact hs

theorem execUnitCommit_wf {c} (hs : s.MemWf) : NextWf (execUnitCommit c s) := by
  unfold execUnitCommit
  refine next_wf ?_
  extract_lets _ _ _
  refine ite_wf hs ?_
  split
  · exact hs
  · split
    · exact hs
    · extract_lets _ _ s4 s5 s6 _
      have h4 : s4.MemWf := setCore_wf (foldl_wf contribute_wf (foldl_wf applyTrack_wf (foldl_wf addRecord_wf hs)))
      have h5 : s5.MemWf := updUnit_wf h4
      have h6 : s6.MemWf := by
        unfold s6
        split
        · exact ite_wf (setJob_wf h5) h5
        · exact h5
      exact schedSettle_wf (foldl_wf sendSignal_wf (ite_wf (continuity_wf h6) h6))

theorem execFenceUp_wf {j from_ tok} (hs : s.MemWf) : NextWf (execFenceUp j from_ tok s) := by
  unfold execFenceUp
  refine next_wf ?_
  split
  · exact hs
  · extract_lets _ _
    exact fenceTry_wf (setSnap_wf hs)

theorem execFenceDown_wf {j from_ tok} (hs : s.MemWf) : NextWf (execFenceDown j from_ tok s) := by
  unfold execFenceDown
  refine next_wf ?_
  split
  · exact hs
  · refine ite_wf hs ?_
    split
    · exact ite_wf (spanFenceDone_wf hs) hs
    · exact ite_wf (restDown_wf hs) hs

theorem execStepTimeout_wf {j} (hs : s.MemWf) : NextWf (execStepTimeout j s) := by
  unfold execStepTimeout
  refine next_wf ?_
  split
  · exact hs
  · split
    · exact hs
    · exact ite_wf hs (schedSettle_wf (schedEnd_wf (raise_wf hs)))

/-! ## Machine/Teardown -/

theorem execJobTeardown_wf {q seq} (hs : s.MemWf) : NextWf (execJobTeardown q seq s) := by
  unfold execJobTeardown
  exact next_wf (runJobCmd_wf (fun h => teardownCheck_wf (waitCmd_wf (beginTeardown_wf h))) hs)

theorem execTeardownLimit_wf {j} (hs : s.MemWf) : NextWf (execTeardownLimit j s) := by
  unfold execTeardownLimit
  refine next_wf ?_
  extract_lets _ _
  exact ite_wf (teardownEnd_wf (raise_wf hs)) hs

/-! ## Machine/Transport -/

theorem execMemCopy_wf {q seq} (hs : s.MemWf) : NextWf (execMemCopy q seq s) := by
  unfold execMemCopy
  refine next_wf (runJobCmd_wf (fun h => ?_) hs)
  extract_lets _ _ _ _ _ _ _
  refine ite_wf (finishCmd_wf h) ?_
  refine ite_wf (finishCmd_wf h) ?_
  split
  · exact finishCmd_wf h
  · exact ite_wf (waitCmd_wf h) (startCopy_wf (ite_wf (waitCmd_wf h) h))

theorem execHostAccessTimeout_wf {q seq} (hs : s.MemWf) : NextWf (execHostAccessTimeout q seq s) := by
  unfold execHostAccessTimeout
  refine next_wf ?_
  split
  · exact hs
  · split
    · exact ite_wf hs (finishCmd_wf hs)
    · exact hs

theorem execCtxOpen_wf {q seq} (hs : s.MemWf) : NextWf (execCtxOpen q seq s) := by
  unfold execCtxOpen
  refine next_wf (runJobCmd_wf (fun h => ?_) hs)
  extract_lets _ _ _ _ _
  refine ite_wf (finishCmd_wf h) ?_
  refine ite_wf (finishCmd_wf h) ?_
  split
  · exact finishCmd_wf h
  · exact sendBind_wf (setCtx_wf (waitCmd_wf h))

theorem execCtxClose_wf {q seq} (hs : s.MemWf) : NextWf (execCtxClose q seq s) := by
  unfold execCtxClose
  refine next_wf (runJobCmd_wf (fun h => ?_) hs)
  extract_lets _ _
  exact ite_wf (finishCmd_wf h) (ite_wf (finishCmd_wf h)
    (ite_wf (finishCmd_wf h) (settleClose_wf (setCtx_wf (waitCmd_wf h)))))

theorem execCtxQuery_wf {q seq} (hs : s.MemWf) : NextWf (execCtxQuery q seq s) := by
  unfold execCtxQuery
  refine next_wf (runJobCmd_wf (fun h => ?_) hs)
  extract_lets _
  refine ite_wf (finishCmd_wf h) ?_
  split
  · exact finishCmd_wf h
  · exact finishCmd_wf (storeOff_wf _ _ h)

theorem execMsgSend_wf {q seq} (hs : s.MemWf) : NextWf (execMsgSend q seq s) := by
  unfold execMsgSend
  refine next_wf (runJobCmd_wf (fun h => ?_) hs)
  extract_lets _ _ _ s1 _
  have h1 : s1.MemWf := waitCmd_wf h
  refine ite_wf (finishCmd_wf h) ?_
  split
  · exact finishCmd_wf h
  · exact ctxRequest_wf (sameMem h1)

theorem execMsgRecvPost_wf {q seq} (hs : s.MemWf) : NextWf (execMsgRecvPost q seq s) := by
  unfold execMsgRecvPost
  refine next_wf (runJobCmd_wf (fun h => ?_) hs)
  extract_lets _ _ _
  refine ite_wf (finishCmd_wf h) ?_
  split
  · exact finishCmd_wf h
  · exact ite_wf (finishCmd_wf h) (setCtx_wf (waitCmd_wf h))

theorem execRouteLoad_wf {q seq} (hs : s.MemWf) : NextWf (execRouteLoad q seq s) := by
  unfold execRouteLoad
  refine next_wf (runJobCmd_wf (fun h => ?_) hs)
  extract_lets _ _ s1 _
  have h1 : s1.1.MemWf := loadOff_wf h
  split
  · exact finishCmd_wf h
  · split
    · exact finishCmd_wf h1
    · extract_lets _ _
      refine ite_wf (finishCmd_wf h1) ?_
      split
      · exact finishCmd_wf (setJob_wf h1)
      · exact ite_wf (finishCmd_wf (setJob_wf h1)) (finishCmd_wf h1)
      · exact ite_wf (finishCmd_wf h1) (finishCmd_wf (setJob_wf h1))

theorem execLinkReset_wf {q seq} (hs : s.MemWf) : NextWf (execLinkReset q seq s) := by
  unfold execLinkReset
  refine next_wf (runCmd_wf (fun h => ?_) hs)
  extract_lets _ s1 _ _
  have h1 : s1.MemWf := setReg_wf h
  exact ite_wf (finishCmd_wf h) (ite_wf (finishCmd_wf h1) (waitCmd_wf (setLink_wf (linkToDown_wf h1))))

/-! ## Machine/MemCmds -/

theorem execMemReserve_wf {q seq} (hs : s.MemWf) : NextWf (execMemReserve q seq s) := by
  unfold execMemReserve
  refine next_wf (runJobCmd_wf (fun h => ?_) hs)
  extract_lets s1 _ _ _
  have h1 : s1.MemWf := refill_wf h
  exact ite_wf (finishCmd_wf h1) (ite_wf (finishCmd_wf h1) (finishCmd_wf (zeroOff_wf _ _ (sameMem h1))))

theorem execMemRelease_wf {q seq} (hs : s.MemWf) : NextWf (execMemRelease q seq s) := by
  unfold execMemRelease
  refine next_wf (runJobCmd_wf (fun h => ?_) hs)
  extract_lets _
  exact ite_wf (finishCmd_wf (refill_wf h)) (finishCmd_wf (refill_wf h))

theorem execMemQuery_wf {q seq} (hs : s.MemWf) : NextWf (execMemQuery q seq s) := by
  unfold execMemQuery
  refine next_wf (runCmd_wf (fun h => ?_) hs)
  extract_lets _
  exact finishCmd_wf h

theorem execMemFill_wf {q seq} (hs : s.MemWf) : NextWf (execMemFill q seq s) := by
  unfold execMemFill
  refine next_wf (runJobCmd_wf (fun h => ?_) hs)
  extract_lets _ _ _ _
  refine ite_wf (finishCmd_wf h) ?_
  split
  · exact finishCmd_wf h
  · exact finishCmd_wf (storeOff_wf _ _ h)

theorem execPpr_wf {pc row} (hs : s.MemWf) : NextWf (execPpr pc row s) := by
  unfold execPpr
  refine next_wf ?_
  extract_lets _ s1 _ _
  have h1 : s1.MemWf := clearFailing_wf (moveCodewords_wf hs)
  exact ite_wf hs (raise_wf (bumpConfig_wf (sameMem h1)))

theorem execPageRetire_wf {pc page} (hs : s.MemWf) : NextWf (execPageRetire pc page s) := by
  unfold execPageRetire
  refine next_wf ?_
  extract_lets _ _ _
  exact ite_wf hs (ite_wf (retirePage_wf hs) (ite_wf (retirePage_wf (reachMapOut_wf hs)) (reachMapOut_wf hs)))

theorem execPageRetireDone_wf {i} (hs : s.MemWf) : NextWf (execPageRetireDone i s) := by
  unfold execPageRetireDone
  refine next_wf ?_
  split
  · exact hs
  · refine ite_wf hs ?_
    extract_lets s1 _ _
    have h1 : s1.MemWf := clearFailing_wf (moveCodewords_wf hs)
    exact raise_wf (bumpConfig_wf (sameMem h1))

theorem execMapOutBegin_wf {pc} (hs : s.MemWf) : NextWf (execMapOutBegin pc s) := by
  unfold execMapOutBegin
  refine next_wf ?_
  extract_lets _
  exact ite_wf (setPc_wf hs) hs

theorem execMapOut_wf {pc} (hs : s.MemWf) : NextWf (execMapOut pc s) := by
  unfold execMapOut
  refine next_wf ?_
  extract_lets _ _ _ s2 _ _ _
  have h2 : s2.MemWf := setPc_wf (moveCodewords_wf hs)
  exact ite_wf hs (raise_wf (changeMap_wf (setReg_wf (sameMem h2))))

theorem execFullRetrain_wf {pc} (hs : s.MemWf) : NextWf (execFullRetrain pc s) := by
  unfold execFullRetrain
  refine next_wf ?_
  extract_lets _
  split
  · exact hs
  · exact hs
  · exact raise_wf (setPc_wf hs)

theorem execFullRetrainEnd_wf {pc eye} (hs : s.MemWf) : NextWf (execFullRetrainEnd pc eye s) := by
  unfold execFullRetrainEnd
  refine next_wf ?_
  extract_lets _ _
  split
  · exact hs
  · extract_lets _ s2
    have h2 : s2.MemWf := setPc_wf (setReg_wf hs)
    exact ite_wf h2 (reachMapOut_wf h2)

/-! ## Machine/Span -/

theorem execBeaconArrival_wf {n b} (hs : s.MemWf) : NextWf (execBeaconArrival n b s) := by
  unfold execBeaconArrival
  refine next_wf (ite_wf hs ?_)
  extract_lets _ _ s1 _ s2 _ s3 s4
  have h1 : s1.MemWf := setLink_wf hs
  have h2 : s2.MemWf := setF_wf (setF_wf (setF_wf h1))
  clear_value s1 s2
  have h3 : s3.MemWf := sameMem h2
  have h4 : s4.MemWf := by
    unfold s4
    split
    · exact servo_wf h3
    · exact h3
  exact ite_wf h1 (beaconsOut_wf h4)

theorem execLockLost_wf (hs : s.MemWf) : NextWf (execLockLost s) := by
  unfold execLockLost
  refine next_wf ?_
  split
  · exact ite_wf (raise_wf (setF_wf hs)) hs
  · exact hs

theorem execPtpMessage_wf {peer p} (hs : s.MemWf) : NextWf (execPtpMessage peer p s) := by
  unfold execPtpMessage
  exact next_wf (ite_wf (raise_wf hs) (ite_wf hs (ite_wf (servo_wf hs) (ite_wf hs (servo_wf (setF_wf hs))))))

theorem execChunkOverdue_wf {tag epoch lowest grandparent} (hs : s.MemWf) :
    NextWf (execChunkOverdue tag epoch lowest grandparent s) := by
  unfold execChunkOverdue
  refine next_wf ?_
  extract_lets _ _
  split
  · exact hs
  · exact ite_wf hs (ite_wf hs (ite_wf (emit_wf hs) hs))

/-! ## Machine/Faults -/

theorem execHealthRead_wf {q seq} (hs : s.MemWf) : NextWf (execHealthRead q seq s) := by
  unfold execHealthRead
  refine next_wf (runCmd_wf (fun h => ?_) hs)
  refine ite_wf (finishCmd_wf h) ?_
  extract_lets _ _
  exact finishCmd_wf (storeOff_wf _ _ h)

theorem execTilePhaseFail_wf {t} (hs : s.MemWf) : NextWf (execTilePhaseFail t s) := by
  unfold execTilePhaseFail
  refine next_wf ?_
  extract_lets _ _ _ s2
  have h2 : s2.MemWf := effectiveLimit_wf (continuity_wf hs)
  exact ite_wf (nodeLoss_wf h2) h2

theorem execPdieCoreFault_wf {k} (hs : s.MemWf) : NextWf (execPdieCoreFault k s) := by
  unfold execPdieCoreFault
  refine next_wf (ite_wf hs ?_)
  extract_lets s1 _ _ s3
  have h1 : s1.MemWf := changeMap_wf hs
  have h3 : s3.MemWf := continuity_wf (sameMem h1)
  exact ite_wf (nodeLoss_wf h3) h3

theorem execClusterSchedulerFault_wf {l} (hs : s.MemWf) : NextWf (execClusterSchedulerFault l s) := by
  unfold execClusterSchedulerFault
  refine next_wf ?_
  split
  · exact hs
  · exact clusterRemap_wf (changeMap_wf hs)

theorem execSolverUnitCheckFault_wf {l} (hs : s.MemWf) : NextWf (execSolverUnitCheckFault l s) := by
  unfold execSolverUnitCheckFault
  refine next_wf ?_
  extract_lets on
  clear_value on
  split
  · extract_lets s1
    have h1 : s1.MemWf := continuity_wf (changeMap_wf hs)
    exact ite_wf (clusterRemap_wf h1) h1
  · exact hs

theorem execGraniteTakeover_wf (hs : s.MemWf) : NextWf (execGraniteTakeover s) := by
  unfold execGraniteTakeover
  refine next_wf ?_
  extract_lets _ s1 _ _ _ _
  have h1 : s1.MemWf := changeMap_wf hs
  exact ite_wf (continuity_wf (raise_wf (sameMem h1))) (nodeLoss_wf hs)

theorem execStandbyPairFail_wf (hs : s.MemWf) : NextWf (execStandbyPairFail s) := by
  unfold execStandbyPairFail
  refine next_wf (ite_wf ?_ hs)
  extract_lets s1 _ _
  have h1 : s1.MemWf := changeMap_wf hs
  exact continuity_wf (sameMem h1)

/-! ## Machine/Granite -/

theorem execPowerLimit_wf {m} (hs : s.MemWf) : NextWf (execPowerLimit m s) := by
  unfold execPowerLimit
  refine next_wf (mbxServe_wf (fun h => ?_) hs)
  extract_lets _ _
  exact ite_fst_wf (mk_wf h) (mk_wf (effectiveLimit_wf (setF_wf h)))

theorem execVerifyImage_wf {m} (hs : s.MemWf) : NextWf (execVerifyImage m s) := by
  unfold execVerifyImage
  refine next_wf (mbxServe_wf (fun h => ?_) hs)
  refine ite_fst_wf (mk_wf h) ?_
  split
  next _ _ _ heq => exact fst_wf heq (mbxData_wf h)
  next _ s1 _ heq =>
    have h1 : s1.MemWf := fst_wf heq (mbxData_wf h)
    extract_lets _ _
    split
    · exact h1
    · refine ite_fst_wf (mk_wf h1) ?_
      refine ite_fst_wf (mk_wf h1) ?_
      extract_lets _
      exact sameMem h1

theorem execKeyImport_wf {m} (hs : s.MemWf) : NextWf (execKeyImport m s) := by
  unfold execKeyImport
  refine next_wf (mbxServe_wf (fun h => ?_) hs)
  refine ite_fst_wf (mk_wf h) ?_
  split
  next _ _ _ heq => exact fst_wf heq (mbxData_wf h)
  next _ s1 _ heq =>
    have h1 : s1.MemWf := fst_wf heq (mbxData_wf h)
    extract_lets _ _
    refine ite_fst_wf (mk_wf h1) ?_
    split
    · exact h1
    · extract_lets _
      exact sameMem h1

theorem execKeyClear_wf {m} (hs : s.MemWf) : NextWf (execKeyClear m s) := by
  unfold execKeyClear
  refine next_wf (mbxServe_wf (fun h => ?_) hs)
  extract_lets _ _
  exact ite_fst_wf (mk_wf h) (mk_wf h)

theorem execAdmitRead_wf {m} (hs : s.MemWf) : NextWf (execAdmitRead m s) := by
  unfold execAdmitRead
  refine next_wf (mbxServe_wf (fun h => ?_) hs)
  extract_lets _ _ _
  exact ite_fst_wf (mk_wf h) (mbxPut_wf h)

theorem execPolicyRead_wf {m} (hs : s.MemWf) : NextWf (execPolicyRead m s) := by
  unfold execPolicyRead
  refine next_wf (mbxServe_wf (fun h => ?_) hs)
  refine ite_fst_wf (mk_wf h) ?_
  extract_lets _
  exact mbxPut_wf h

theorem execBundleStage_wf {m} (hs : s.MemWf) : NextWf (execBundleStage m s) := by
  unfold execBundleStage
  refine next_wf (mbxServe_wf (fun h => ?_) hs)
  refine ite_fst_wf (mk_wf h) ?_
  split
  next _ _ _ heq => exact fst_wf heq (mbxData_wf h)
  next _ s1 _ heq =>
    have h1 : s1.MemWf := fst_wf heq (mbxData_wf h)
    exact stageBundle_wf h1

theorem execSign_wf {m} (hs : s.MemWf) : NextWf (execSign m s) := by
  unfold execSign
  refine next_wf (mbxServe_wf (fun h => ?_) hs)
  extract_lets _ _
  refine ite_fst_wf (mk_wf h) ?_
  split
  next _ _ _ _ heq => exact fst_wf heq (mbxData_wf h)
  next _ _ s1 _ _ heq _ =>
    have h1 : s1.MemWf := fst_wf heq (mbxData_wf h)
    refine ite_fst_wf (mk_wf h1) ?_
    extract_lets _
    split
    next _ _ _ heq => exact fst_wf heq (mbxPut_wf (bump_wf h1))
  next _ _ _ _ heq _ => exact fst_wf heq (mbxData_wf h)

theorem execTwoPartyNonce_wf {q seq} (hs : s.MemWf) : NextWf (execTwoPartyNonce q seq s) := by
  unfold execTwoPartyNonce
  refine next_wf (runCmd_wf (fun h => ?_) hs)
  refine ite_wf (finishCmd_wf h) ?_
  extract_lets _ s1 _ _ _
  have h1 : s1.MemWf := bump_wf h
  exact finishCmd_wf (storeOff_wf _ _ (sameMem h1))

theorem execTwoPartyPropose_wf {q seq} (hs : s.MemWf) : NextWf (execTwoPartyPropose q seq s) := by
  unfold execTwoPartyPropose
  refine next_wf (runCmd_wf (fun h => ?_) hs)
  split
  next _ s1 _ heq =>
    have h1 : s1.MemWf := fst_wf heq (tpPropose_wf h)
    exact finishCmd_wf h1

theorem execChallenge_wf {t _req} (hs : s.MemWf) : NextWf (execChallenge t _req s) := by
  unfold execChallenge
  refine next_wf (spdm_wf (fun h => ?_) hs)
  split
  next _ _ _ heq => exact fst_wf heq (spdmSign_wf h)

theorem execGetMeasurements_wf {t _req} (hs : s.MemWf) : NextWf (execGetMeasurements t _req s) := by
  unfold execGetMeasurements
  refine next_wf (spdm_wf (fun h => ?_) hs)
  split
  next _ _ _ heq => exact fst_wf heq (spdmSign_wf h)

/-! ## Machine/Host -/

theorem execPowerOn_wf (hs : s.MemWf) : NextWf (execPowerOn s) := by
  unfold execPowerOn
  refine next_wf (ite_wf hs ?_)
  extract_lets s1 _
  have h1 : s1.MemWf := restart_wf hs
  exact graniteBoot_wf (sameMem h1)

theorem execConfigReady_wf {lanes mode} (hs : s.MemWf) : NextWf (execConfigReady lanes mode s) := by
  unfold execConfigReady
  refine next_wf ?_
  extract_lets _ _ _
  exact ite_wf hs (setF_wf (setF_wf hs))

theorem execHbmTrained_wf (hs : s.MemWf) : NextWf (execHbmTrained s) := by
  unfold execHbmTrained
  refine next_wf (ite_wf hs ?_)
  extract_lets s1 _ _
  have h1 : s1.MemWf := foldl_wf setPc_wf hs
  exact setStage_wf (sameMem h1)

theorem execWarmReset_wf {orderly} (hs : s.MemWf) : NextWf (execWarmReset orderly s) := by
  unfold execWarmReset
  refine next_wf (ite_wf hs ?_)
  extract_lets _
  exact graniteBoot_wf (setF_wf (restart_wf (ite_wf (ledgerWrite_wf hs) hs)))

theorem execNodeReset_wf {q seq} (hs : s.MemWf) : NextWf (execNodeReset q seq s) := by
  unfold execNodeReset
  refine next_wf ?_
  split
  · exact hs
  · refine ite_wf hs ?_
    split
    · extract_lets _
      exact nodeResetGo_wf (nodeResetBegin_wf hs)
    · exact nodeResetGo_wf hs
    · exact hs

theorem execClusterReset_wf {q seq} (hs : s.MemWf) : NextWf (execClusterReset q seq s) := by
  unfold execClusterReset
  refine next_wf (runCmd_wf (fun h => ?_) hs)
  extract_lets _ s1
  have h1 : s1.MemWf := Memory.wf_filter _ h
  exact ite_wf (finishCmd_wf h) (ite_wf (finishCmd_wf h) (finishCmd_wf h1))

theorem execFunctionLevelReset_wf (hs : s.MemWf) : NextWf (execFunctionLevelReset s) := by
  unfold execFunctionLevelReset
  refine next_wf ?_
  extract_lets _ _
  refine foldl_wf (fun h => ?_) hs
  extract_lets _
  exact ite_wf (setQueue_wf h) h

theorem execHdmAccess_wf {a data cache} (hs : s.MemWf) : NextWf (execHdmAccess a data cache s) := by
  unfold execHdmAccess
  refine next_wf ?_
  extract_lets _ s1 s2
  have h1 : s1.1.MemWf := allowed_wf hs
  have h2 : s2.1.MemWf := allowed_wf hs
  refine ite_wf hs ?_
  split
  · exact ite_wf (hostWrite_wf h1) h1
  · refine ite_wf (emit_wf h2) ?_
    split
    next _ s3 _ heq =>
      have h3 : s3.MemWf := fst_wf heq (load_wf h2)
      extract_lets _
      exact emit_wf (ite_wf (track_wf h3) h3)

theorem execBiTimeout_wf {a} (hs : s.MemWf) : NextWf (execBiTimeout a s) := by
  unfold execBiTimeout
  refine next_wf ?_
  split
  · exact ite_wf (raise_wf (dropLine_wf hs)) hs
  · exact hs

theorem execIdeFail_wf {stream} (hs : s.MemWf) : NextWf (execIdeFail stream s) := by
  unfold execIdeFail
  refine next_wf ?_
  extract_lets _ _ _
  exact ite_wf hs (raise_wf (setF_wf hs))

theorem execWidthDown_wf {lanes} (hs : s.MemWf) : NextWf (execWidthDown lanes s) := by
  unfold execWidthDown
  refine next_wf ?_
  extract_lets _ _
  exact ite_wf hs (ite_wf (hostLinkFails_wf hs) (raise_wf hs))

theorem execCxlDetectRetry_wf {lanes mode} (hs : s.MemWf) : NextWf (execCxlDetectRetry lanes mode s) := by
  unfold execCxlDetectRetry
  refine next_wf ?_
  extract_lets _ _ _ _
  exact ite_wf hs (ite_wf hs hs)

theorem execComponentRegisterWrite_wf {w} (hs : s.MemWf) : NextWf (execComponentRegisterWrite w s) := by
  unfold execComponentRegisterWrite
  refine next_wf (ite_wf hs ?_)
  split
  · exact hs
  · exact ideSettle_wf hs
  · refine ite_wf ?_ hs
    extract_lets _ _
    exact foldl_wf emit_wf hs
  · refine ite_wf hs ?_
    extract_lets _ _ _ _ _
    exact hs

/-! ## Machine/Frontend -/

theorem execCommandStart_wf (hs : s.MemWf) : NextWf (execCommandStart s) := by
  unfold execCommandStart
  refine next_wf ?_
  extract_lets _
  split
  · exact hs
  · split
    · exact hs
    · extract_lets _ _ _
      split
      next _ s1 _ heq =>
        have h1 : s1.MemWf := fst_wf heq (ite_fst_wf (mk_wf hs) (allowed_wf hs))
        refine ite_wf (queueError_wf h1) ?_
        split
        next _ s2 _ heq =>
          have h2 : s2.MemWf := fst_wf heq (loadOff_wf h1)
          extract_lets _ s3 _
          have h3 : s3.MemWf := setQueue_wf h2
          exact startSlot_wf (sameMem h3)
        next _ s2 _ _ heq =>
          have h2 : s2.MemWf := fst_wf heq (loadOff_wf h1)
          exact queueError_wf h2

/-! ## Machine/Control -/

theorem execMgtRegisterRead_wf {t off} (hs : s.MemWf) : NextWf (execMgtRegisterRead t off s) := by
  unfold execMgtRegisterRead
  refine next_wf (mgtServe_wf (fun h => ?_) hs)
  split
  next _ s1 _ heq =>
    have h1 : s1.MemWf := fst_wf heq (controlRead_wf h)
    exact emit_wf (bump_wf h1)

theorem execMgtSlotSubmit_wf {t slot} (hs : s.MemWf) : NextWf (execMgtSlotSubmit t slot s) := by
  unfold execMgtSlotSubmit
  refine next_wf (mgtServe_wf (fun h => ?_) hs)
  extract_lets _ _
  exact ite_wf (raise_wf h) (ite_wf h (controlWrite_wf (storeOff_wf _ _ h)))

/-! ## Machine/LinkEvents -/

theorem execSignalDetect_wf {n lanes} (hs : s.MemWf) : NextWf (execSignalDetect n lanes s) := by
  unfold execSignalDetect
  refine next_wf ?_
  extract_lets _
  exact ite_wf (beginTraining_wf hs) hs

theorem execTrainingTimeout_wf {n} (hs : s.MemWf) : NextWf (execTrainingTimeout n s) := by
  unfold execTrainingTimeout
  refine next_wf ?_
  extract_lets _
  exact ite_wf hs (ite_wf (trainingFails_wf hs) (ite_wf (linkSettled_wf hs) hs))

theorem execTrainingRetry_wf {n lanes} (hs : s.MemWf) : NextWf (execTrainingRetry n lanes s) := by
  unfold execTrainingRetry
  refine next_wf ?_
  extract_lets _
  split
  · exact ite_wf (beginTraining_wf hs) hs
  · exact hs

theorem execAdmissionVerdict_wf {n admitted} (hs : s.MemWf) : NextWf (execAdmissionVerdict n admitted s) := by
  unfold execAdmissionVerdict
  refine next_wf ?_
  extract_lets _
  split
  · exact admissionSettles_wf (setLink_wf hs)
  · exact hs

theorem execAdmitTimeout_wf {n} (hs : s.MemWf) : NextWf (execAdmitTimeout n s) := by
  unfold execAdmitTimeout
  refine next_wf ?_
  split
  · exact ite_wf (linkToQuarantine_wf hs) hs
  · exact hs

theorem execReplayTimeout_wf {n} (hs : s.MemWf) : NextWf (execReplayTimeout n s) := by
  unfold execReplayTimeout
  refine next_wf ?_
  extract_lets _
  exact ite_wf hs (resend_wf hs)

theorem execFastRetrain_wf {n expected} (hs : s.MemWf) : NextWf (execFastRetrain n expected s) := by
  unfold execFastRetrain
  refine next_wf ?_
  extract_lets _ _
  exact ite_wf hs (replay_wf (ackIn_wf (setLink_wf hs)))

theorem execFastRetrainTimeout_wf {n} (hs : s.MemWf) : NextWf (execFastRetrainTimeout n s) := by
  unfold execFastRetrainTimeout
  refine next_wf ?_
  split
  · exact ite_wf (linkSettled_wf (linkToDown_wf hs)) hs
  · exact hs

theorem execLaneDrop_wf {n lane} (hs : s.MemWf) : NextWf (execLaneDrop n lane s) := by
  unfold execLaneDrop
  refine next_wf ?_
  extract_lets s1
  have h1 : s1.MemWf := dropLane_wf hs
  exact ite_wf (linkSettled_wf h1) h1

theorem execLinkDown_wf {n} (hs : s.MemWf) : NextWf (execLinkDown n s) := by
  unfold execLinkDown
  refine next_wf ?_
  extract_lets _
  split
  · exact hs
  · exact hs
  · exact linkSettled_wf hs
  · exact linkSettled_wf (linkToDown_wf hs)

theorem execLinkRateWindow_wf {n} (hs : s.MemWf) : NextWf (execLinkRateWindow n s) := by
  unfold execLinkRateWindow
  refine next_wf ?_
  extract_lets _ _
  exact foldl_wf (fun h => ite_wf (anomaly_wf h) h) (setLink_wf hs)

theorem execDrainDoneResend_wf {n e} (hs : s.MemWf) : NextWf (execDrainDoneResend n e s) := by
  unfold execDrainDoneResend
  refine next_wf ?_
  extract_lets _
  exact ite_wf (emit_wf hs) hs


/-- Every command keeps the memory in canonical form: one lemma per meaning, applied arm by arm. -/
theorem exec_wf (i : Instr) (hs : s.MemWf) : NextWf (exec i s) := by
  unfold exec
  cases i with
  | registerWrite => exact next_wf (controlWrite_wf hs)
  | eventFlagClear => exact next_wf (setFlags_wf (controlWrite_wf hs))
  | rateWindowEnd => exact execRateWindowEnd_wf hs
  | telltaleReport => exact execTelltaleReport_wf hs
  | graniteReplan => exact execGraniteReplan_wf hs
  | opRequestWrite => exact next_wf (controlWrite_wf hs)
  | opPointApply => exact execOpPointApply_wf hs
  | opRaiseStep => exact execOpRaiseStep_wf hs
  | powerLimitLower => exact execPowerLimitLower_wf hs
  | powerLimitRaise => exact execPowerLimitRaise_wf hs
  | thermalLower => exact execThermalLower_wf hs
  | thermalRaise => exact execThermalRaise_wf hs
  | thermalHold => exact execThermalHold_wf hs
  | thermalHoldLift => exact execThermalHoldLift_wf hs
  | thermalShutdown => exact execThermalShutdown_wf hs
  | ledgerPeriodicWrite => exact next_wf (ite_wf (ledgerWrite_wf hs) (raise_wf hs))
  | queue0RingWrite | queue0Enable | queue0Disable | queue0Reset | doorbellWrite | chWrite =>
    exact next_wf (controlWrite_wf hs)
  | commandStart => exact execCommandStart_wf hs
  | qCreate => exact execQCreate_wf hs
  | qDestroy => exact next_wf (runCmd_wf beginDrain_wf hs)
  | qPause | qResume => exact next_wf (runCmd_wf moveQueue_wf hs)
  | qReset => exact next_wf (runCmd_wf beginDrain_wf hs)
  | qNop => exact next_wf (runCmd_wf finishCmd_wf hs)
  | dispatchCoreFail => exact execDispatchCoreFail_wf hs
  | memCopy => exact execMemCopy_wf hs
  | memFill => exact execMemFill_wf hs
  | memQuery => exact execMemQuery_wf hs
  | memReserve => exact execMemReserve_wf hs
  | memRelease => exact execMemRelease_wf hs
  | jobBegin => exact execJobBegin_wf hs
  | jobTeardown => exact execJobTeardown_wf hs
  | teardownLimit => exact execTeardownLimit_wf hs
  | schedLoad => exact execSchedLoad_wf hs
  | schedUnload => exact execSchedUnload_wf hs
  | schedRun => exact execSchedRun_wf hs
  | schedHalt => exact execSchedHalt_wf hs
  | stepWait => exact next_wf (runJobCmd_wf (fun h => ite_wf (finishCmd_wf h) (waitCmd_wf h)) hs)
  | tallySet => exact execTallySet_wf hs
  | tallyRead => exact execTallyRead_wf hs
  | unitIssue => exact execUnitIssue_wf hs
  | unitCommit => exact execUnitCommit_wf hs
  | fenceComplete => exact next_wf (fenceTry_wf hs)
  | stepTimeout => exact execStepTimeout_wf hs
  | integerAlu | addi | andi | ori | xori | shiftByImmediate | slti | lui | compareToPredicate | predicateLogic
  | scalarFp32 => exact next_wf (coreLocal_wf hs)
  | nearLoad => exact next_wf (coreExec_wf nearLoadStep_wf hs)
  | nearStore => exact next_wf (coreExec_wf nearStoreStep_wf hs)
  | ldf => exact next_wf (coreExec_wf ldfStep_wf hs)
  | stf => exact next_wf (coreExec_wf stfStep_wf hs)
  | globalLoad => exact next_wf (coreExec_wf globalLoadStep_wf hs)
  | globalStore => exact next_wf (coreExec_wf globalStoreStep_wf hs)
  | atomicInteger | cas | atomicFadd | gadd => exact next_wf (coreExec_wf atomicStep_wf hs)
  | acopy => exact next_wf (coreExec_wf acopyStep_wf hs)
  | branch | jal | jalr | loopStart | csrr | csrw | csrs | csrc | fence | end_ | trapUnit =>
    exact next_wf (coreLocal_wf hs)
  | twait => exact next_wf (coreExec_wf id hs)
  | twaitTimeout => exact execTwaitTimeout_wf hs
  | tread | tsig => exact next_wf (coreExec_wf id hs)
  | twload => exact next_wf (coreExec_wf twloadStep_wf hs)
  | twloadProceed => exact execTwloadProceed_wf hs
  | twloadWaitTimeout => exact execTwloadWaitTimeout_wf hs
  | tstream => exact next_wf (coreExec_wf tstreamStep_wf hs)
  | treadacc => exact next_wf (coreExec_wf treadaccStep_wf hs)
  | tvacq => exact next_wf (coreExec_wf tvacqStep_wf hs)
  | tvrel => exact next_wf (coreExec_wf tvrelStep_wf hs)
  | tvquery => exact next_wf (coreLocal_wf hs)
  | tcfg => exact next_wf (coreExec_wf tcfgStep_wf hs)
  | taTflagClear => exact next_wf (controlWrite_wf hs)
  | vectorInteger | vectorFp32 | vectorCompare | vsplat | vext | vredsum | vredmax | vredfsum | vredfmax
  | vectorWidening | vectorDot | fp32Pair => exact next_wf (coreLocal_wf hs)
  | vld | vst | vlds | vsts | vldbc | vgather | vscatter | vldStructure | vstStructure | vldD2p | vstP2d =>
    exact next_wf (coreExec_wf vmStep_wf hs)
  | vsetvl | vmov => exact next_wf (coreLocal_wf hs)
  | checkFault => exact next_wf (checkFault_wf hs)
  | qntSetup => exact execQntSetup_wf hs
  | qntRead => exact execQntRead_wf hs
  | qntHistorySet => exact execQntHistorySet_wf hs
  | qntReset => exact execQntReset_wf hs
  | slvBatch => exact execSlvBatch_wf hs
  | solverProblem => exact execSolverProblem_wf hs
  | slvDeadlineExpiry => exact execSlvDeadlineExpiry_wf hs
  | slvAbort => exact execSlvAbort_wf hs
  | patrolScrub => exact next_wf (scan_wf hs)
  | ppr => exact execPpr_wf hs
  | pageRetire => exact execPageRetire_wf hs
  | mapOutBegin => exact execMapOutBegin_wf hs
  | mapOut => exact execMapOut_wf hs
  | incrementalRetrain => exact next_wf hs
  | fullRetrain => exact execFullRetrain_wf hs
  | fullRetrainEnd => exact execFullRetrainEnd_wf hs
  | linkEnable | linkDisable | axlRetrain | vcAllocWrite => exact next_wf (controlWrite_wf hs)
  | signalDetect => exact execSignalDetect_wf hs
  | trainingTimeout => exact execTrainingTimeout_wf hs
  | trainingRetry => exact execTrainingRetry_wf hs
  | trainingDone => exact next_wf (ite_wf (trainingEnds_wf hs) hs)
  | admissionMessage => exact next_wf (ite_wf (admissionIn_wf hs) hs)
  | admissionVerdict => exact execAdmissionVerdict_wf hs
  | admitTimeout => exact execAdmitTimeout_wf hs
  | flitSend => exact next_wf (sendFlit_wf hs)
  | flitReceive => exact next_wf (flitIn_wf hs)
  | replayTimeout => exact execReplayTimeout_wf hs
  | fastRetrain => exact execFastRetrain_wf hs
  | fastRetrainTimeout => exact execFastRetrainTimeout_wf hs
  | laneDrop => exact execLaneDrop_wf hs
  | linkDown => exact execLinkDown_wf hs
  | linkRateWindow => exact execLinkRateWindow_wf hs
  | routeLoad => exact execRouteLoad_wf hs
  | linkReset => exact execLinkReset_wf hs
  | ctxOpen => exact execCtxOpen_wf hs
  | bindRepeat => exact execBindRepeat_wf hs
  | bindTimeout => exact execBindTimeout_wf hs
  | ctxClose => exact execCtxClose_wf hs
  | ctxQuery => exact execCtxQuery_wf hs
  | ctxSelectWrite => exact next_wf (controlWrite_wf hs)
  | bindPacket => exact next_wf (onPacket_wf bindIn_wf hs)
  | loadPacket => exact next_wf (onCtx_wf (fun h => respond_wf runLoad_wf h) hs)
  | storePacket => exact next_wf (onCtx_wf (fun h => respond_wf runStore_wf h) hs)
  | atomicPacket => exact next_wf (onCtx_wf (fun h => respond_wf runAtomic_wf h) hs)
  | signalPacket => exact next_wf (onCtx_wf (fun h => respond_wf runSignal_wf h) hs)
  | copyOpen => exact execCopyOpen_wf hs
  | piecePacket => exact next_wf (onCtx_wf (fun h => snapsGoOn_wf (pieceIn_wf h)) hs)
  | msgPacket => exact next_wf (onCtx_wf (fun h => respond_wf runMsg_wf h) hs)
  | redPiece => exact next_wf (onCtx_wf redPieceIn_wf hs)
  | replyPacket => exact next_wf (onCtx_wf (fun h => snapsGoOn_wf (replyIn_wf h)) hs)
  | pieceAck => exact next_wf (onCtx_wf (fun h => snapsGoOn_wf (pieceAckIn_wf h)) hs)
  | queryPacket => exact next_wf (onCtx_wf queryIn_wf hs)
  | queryReply => exact next_wf (onCtx_wf (fun h => snapsGoOn_wf (queryReplyIn_wf h)) hs)
  | requestTimeout => exact execRequestTimeout_wf hs
  | queryTimer => exact execQueryTimer_wf hs
  | rnrResend => exact execRnrResend_wf hs
  | msgSend => exact execMsgSend_wf hs
  | msgRecvPost => exact execMsgRecvPost_wf hs
  | confluenceDelivery => exact next_wf (deliver_wf hs)
  | snapTake => exact execSnapTake_wf hs
  | snapTrigger => exact next_wf (ite_wf hs (snapFire_wf hs))
  | fenceUp => exact execFenceUp_wf hs
  | fenceDown => exact execFenceDown_wf hs
  | snapshotPageCopy => exact execSnapshotPageCopy_wf hs
  | stageFullResume => exact next_wf (ite_wf hs (releaseIf_wf _ hs))
  | verdictUp => exact execVerdictUp_wf hs
  | verdictDown => exact execVerdictDown_wf hs
  | snapAbort => exact execSnapAbort_wf hs
  | snapStatus => exact next_wf (runJobCmd_wf finishCmd_wf hs)
  | snapRestore => exact execSnapRestore_wf hs
  | restoreUp => exact execRestoreUp_wf hs
  | restoreDown => exact execRestoreDown_wf hs
  | nodeIdWrite => exact next_wf (controlWrite_wf hs)
  | drainDone => exact next_wf (ite_wf (drainDoneIn_wf hs) hs)
  | drainDoneResend => exact execDrainDoneResend_wf hs
  | beaconSend => exact next_wf (ite_wf (beaconsOut_wf hs) hs)
  | beaconArrival => exact execBeaconArrival_wf hs
  | lockLost => exact execLockLost_wf hs
  | ptpMessage => exact execPtpMessage_wf hs
  | healthSummary => exact next_wf (emit_wf hs)
  | healthRead => exact execHealthRead_wf hs
  | ledgerRead => exact execLedgerRead_wf hs
  | opPoint => exact execOpPoint_wf hs
  | tilePhaseFail => exact execTilePhaseFail_wf hs
  | graniteTakeover => exact execGraniteTakeover_wf hs
  | pdieCoreFault => exact execPdieCoreFault_wf hs
  | mbxDbWrite => exact next_wf (controlWrite_wf hs)
  | powerLimit => exact execPowerLimit_wf hs
  | verifyImage => exact execVerifyImage_wf hs
  | keyImport => exact execKeyImport_wf hs
  | keyClear => exact execKeyClear_wf hs
  | admitRead => exact execAdmitRead_wf hs
  | policyRead => exact execPolicyRead_wf hs
  | configRead => exact next_wf (mbxServe_wf (fun h => ite_fst_wf (mk_wf h) (mbxPut_wf h)) hs)
  | bundleStage => exact execBundleStage_wf hs
  | sign => exact execSign_wf hs
  | twoPartyNonce => exact execTwoPartyNonce_wf hs
  | twoPartyPropose => exact execTwoPartyPropose_wf hs
  | twoPartyStatus => exact next_wf (runCmd_wf finishCmd_wf hs)
  | powerOn => exact execPowerOn_wf hs
  | perstDeassert => exact next_wf (ite_wf hs (release_wf hs))
  | configReady => exact execConfigReady_wf hs
  | hbmTrained => exact execHbmTrained_wf hs
  | memoryActive => exact next_wf (ite_wf hs (setF_wf (setF_wf (setStage_wf (zeroHbm_wf hs)))))
  | warmReset => exact execWarmReset_wf hs
  | nodeReset => exact execNodeReset_wf hs
  | clusterReset => exact execClusterReset_wf hs
  | functionLevelReset => exact execFunctionLevelReset_wf hs
  | hostSnoop => exact next_wf (ite_wf (emit_wf hs) hs)
  | hdmAccess => exact execHdmAccess_wf hs
  | birsp => exact next_wf (ite_wf (dropLine_wf hs) hs)
  | biTimeout => exact execBiTimeout_wf hs
  | ideKeyLoad => exact next_wf (controlWrite_wf hs)
  | ideFail => exact execIdeFail_wf hs
  | widthDown => exact execWidthDown_wf hs
  | hostLinkDown => exact next_wf (ite_wf hs (hostLinkFails_wf hs))
  | cxlDetectRetry => exact execCxlDetectRetry_wf hs
  | hostAccessTimeout => exact execHostAccessTimeout_wf hs
  | mgtRegisterRead => exact execMgtRegisterRead_wf hs
  | mgtRegisterWrite => exact next_wf (mgtServe_wf controlWrite_wf hs)
  | mgtSlotSubmit => exact execMgtSlotSubmit_wf hs
  | mgtPeerWrite => exact next_wf (controlWrite_wf hs)
  | getVersion | getCapabilities | negotiateAlgorithms | getDigests | getCertificate => exact next_wf (spdm_wf id hs)
  | challenge => exact execChallenge_wf hs
  | getMeasurements => exact execGetMeasurements_wf hs
  | undervoltage | overvoltage => exact next_wf (ite_wf (powerOff_wf hs) hs)
  | refclk156Present => exact next_wf (release_wf hs)
  | solverUnitCheckFault => exact execSolverUnitCheckFault_wf hs
  | clusterSchedulerFault => exact execClusterSchedulerFault_wf hs
  | standbyPairFail => exact execStandbyPairFail_wf hs
  | pageRetireDone => exact execPageRetireDone_wf hs
  | chunkOverdue => exact execChunkOverdue_wf hs
  | componentRegisterWrite => exact execComponentRegisterWrite_wf hs

theorem step_wf (hs : s.MemWf) : NextWf (step s) := by
  unfold step
  split
  · exact next_wf (tick_wf hs)
  next c rest _ =>
    have hrest : State.MemWf { s with pending := rest } := hs
    split
    · exact exec_wf c hrest
    · intro _ h; cases h

end Sys2Proof.Machine

namespace Sys2Proof

/-- Settles O4: one lemma for each operation of the model, one case for each command, and the edge of the clock. -/
theorem memoryStaysCanonical : Obligations.MemoryStaysCanonical := by
  unfold Obligations.MemoryStaysCanonical
  exact fun _ t h e => Machine.step_wf h t e

end Sys2Proof

/-! # What reset leaves -/

namespace Sys2Proof.Machine

theorem reset_reg (t : RegTag) (is : List Nat) : State.reset.reg t is = t.resetAt is := rfl

/-- A telltale's taps stand at 8 and 3 after reset, whatever its region (R64). -/
theorem reset_taps (is : List Nat) :
    State.reset.getF .telRgTaps is 23 16 = 8 ∧ State.reset.getF .telRgTaps is 15 8 = 3 := by
  have h : RegTag.resetAt .telRgTaps is = BitVec.ofNat 64 (RegTag.info .telRgTaps).reset := rfl
  rw [State.getF, State.getF, reset_reg, h]
  decide

theorem reset_nodeNo : State.reset.nodeNo = 0x1FFF := by decide

end Sys2Proof.Machine

namespace Sys2Proof

open Machine

/-- Settles O3: every collection of the reset state is empty, and a key that is not listed reads as its default. -/
theorem resetState : Obligations.ResetState := by
  unfold Obligations.ResetState
  have queues : ∀ q, (State.reset.queue q).st = .disabled := fun _ => rfl
  have ctxs : ∀ x, (State.reset.ctx x).st = .closed := fun _ => rfl
  have filters : ∀ n e, (State.reset.filter n e).st = .closed := fun _ _ => rfl
  have jobs : ∀ j, State.reset.job j = none := fun _ => rfl
  have tallies : ∀ l k t, State.reset.tally l k t = 0 := fun _ _ _ => rfl
  have memory : ∀ a, mget 0#8 State.reset.mem a = 0 := fun _ => rfl
  exact ⟨reset_reg, fun _ _ => reset_taps _, queues, ctxs, filters, jobs, rfl, tallies, rfl, reset_nodeNo,
    by decide, State.reset_wf, memory, rfl⟩

end Sys2Proof

/-! # Register writes by access code, and event flags -/

namespace Sys2Proof.Machine

open Claims

variable {s : State}

/-! ## A write that is let through -/

/-- The registers with a write of their own. -/
def ownWrites : List RegTag :=
  [.telOpRequest, .cqDb, .cqCh, .cqQRing, .cqQCring, .cqQCtrl, .axlCtrl, .axlVc, .axlReplayCfg, .ctxSelect, .snpShare,
   .timeNodeId, .timeTeardownLimit, .timeFilterSel, .grnMbxDb, .hstIdeKey, .hstMgtPeer, .taTflag]

theorem plainReg_iff (t : RegTag) : plainReg t = true ↔ t.info.gw = 0 ∧ t ∉ ownWrites := by
  simp [plainReg, ownWrites]

/-- What a write does to the GW fields before the rest of the register (R10, R431). -/
def State.gwPart (s : State) (m : Master) (t : RegTag) (is : List Nat) (v : Word) : State :=
  if t.info.gw = 0 then s
  else if m = 7 then s.gwWrite t is v
  else if s.gwDenied t is v then s.raise .grnGwDenied else s

theorem writeReg_of_not_own {m i3c t is v} (h : t ∉ ownWrites) :
    s.writeReg m i3c t is v = (s.gwPart m t is v).plainWrite t is v := by
  unfold State.writeReg
  extract_lets i s'
  split
  case h_19 => rfl
  all_goals simp [ownWrites] at h

theorem controlWrite_reaches {m i3c t is v} (h : reaches s m t is) :
    s.controlWrite m i3c (t.off is) 8 v = s.writeReg m i3c t is v := by
  obtain ⟨allowed, reg⟩ := h
  simp only [State.controlWrite, allowed, reg, Bool.not_true, Bool.false_eq_true, if_false]

theorem regAt_of_controlReg {off size r} (h : s.controlReg off size = some r) : regAt off = some r := by
  unfold State.controlReg at h
  split at h
  · cases h
  · split at h
    · cases h
    next e =>
      rw [e]
      dsimp only at h
      split at h
      · exact h
      · split at h
        · cases h
        · split at h
          · cases h
          · exact h

theorem regAt_of_reaches {m t is} (h : reaches s m t is) : regAt (t.off is) = some (t, is) := by
  obtain ⟨-, reg⟩ := h
  exact regAt_of_controlReg reg

/-- A register with no write of its own and no GW fields takes a write by its access codes alone. -/
theorem controlWrite_of_plain {m i3c t is v} (h : reaches s m t is) (p : plainReg t = true) :
    s.controlWrite m i3c (t.off is) 8 v = s.plainWrite t is v := by
  obtain ⟨gw, own⟩ := (plainReg_iff t).1 p
  rw [controlWrite_reaches h, writeReg_of_not_own own, State.gwPart, if_pos gw]

/-! ## A write that is discarded -/

theorem controlReg_eq_none {off size} (h : size ≠ 8 ∨ off % 8 ≠ 0 ∨ regAt off = none) :
    s.controlReg off size = none := by
  unfold State.controlReg
  split
  · rfl
  next aligned =>
    simp only [Bool.or_eq_true, decide_eq_true_eq, not_or, not_not] at aligned
    obtain ⟨size8, off8⟩ := aligned
    have reserved : regAt off = none := (h.resolve_left (not_not_intro size8)).resolve_left (not_not_intro off8)
    rw [reserved]

theorem controlWrite_of_none {m i3c off size v} (h : s.controlAllowed m off false true = (s, true))
    (reserved : s.controlReg off size = none) : s.controlWrite m i3c off size v = s := by
  simp only [State.controlWrite, h, reserved, Bool.not_true, Bool.false_eq_true, if_false]

theorem controlWrite_of_denied {m i3c off size v}
    (h : (s.masterOn m.val && s.policy m.val false off false true 0) = false) :
    s.controlWrite m i3c off size v = s.raise .grnPolicyDenied := by
  have denied : s.controlAllowed m off false true = (s.raise .grnPolicyDenied, false) := by
    simp only [State.controlAllowed, h, Bool.not_true, Bool.false_and, Bool.false_eq_true, if_false]
  simp only [State.controlWrite, denied, Bool.not_false, if_true]

/-! ## What raising a flag changes -/

theorem idxOff_take (ds : List (Nat × Nat)) (is : List Nat) : idxOff ds (is.take ds.length) = idxOff ds is := by
  induction ds generalizing is with
  | nil => simp [idxOff]
  | cons d ds ih => cases is with
    | nil => rfl
    | cons i is => simp [idxOff, ih]

/-- The indices of an event flag's counter, from those of its register. -/
def Ev.counterIdx (e : Ev) (is : List Nat) : List Nat := is.take e.info.2.2.info.dims.length

/-- The count of an event. -/
def State.count (s : State) (e : Ev) (is : List Nat) : Nat := (s.reg e.info.2.2 (e.counterIdx is)).toNat

theorem counter_off {e : Ev} {t : RegTag} (is : List Nat) (h : e.info.2.2.info.dims = t.info.dims) :
    e.info.2.2.off (e.counterIdx is) = e.info.2.2.info.base + idxOff t.info.dims is := by
  rw [RegTag.off, Ev.counterIdx, idxOff_take, h]

/-- The table of the event flags: each has a W1C bit below 64 that is not RW, and a counter in an array like its register's,
but apart from it. -/
theorem event_table : ∀ e ∈ Ev.all, e.info.1 ≠ .taTflag →
    e.info.2.2.info.dims = e.info.1.info.dims ∧ e.info.2.2.info.base ≠ e.info.1.info.base ∧ e.info.2.1 < 64 ∧
    e.info.1.info.w1c.testBit e.info.2.1 = true ∧ e.info.1.info.rw.testBit e.info.2.1 = false := by
  decide +kernel

/-- No two events have a flag of one register and bit, or a counter at one base. -/
theorem events_apart : ∀ e ∈ Ev.all, ∀ f ∈ Ev.all, e.info.1 = f.info.1 →
    (e.info.2.1 = f.info.2.1 ∨ e.info.2.2.info.base = f.info.2.2.info.base) → e = f := by
  decide +kernel

theorem events_nodup : Ev.all.Nodup := by decide +kernel

theorem counter_off_ne {e : Ev} (is : List Nat) (he : e ∈ Ev.all) (h : e.info.1 ≠ .taTflag) :
    e.info.2.2.off (e.counterIdx is) ≠ e.info.1.off is := by
  obtain ⟨dims, base, -⟩ := event_table e he h
  rw [counter_off is dims, RegTag.off]
  omega

theorem raise_eq (e : Ev) (is : List Nat) :
    s.raise e is =
      (s.setReg e.info.1 is (s.reg e.info.1 is ||| BitVec.ofNat 64 (2 ^ e.info.2.1))).setReg e.info.2.2 (e.counterIdx is)
        (BitVec.ofNat 64 (satInc 64
          ((s.setReg e.info.1 is (s.reg e.info.1 is ||| BitVec.ofNat 64 (2 ^ e.info.2.1))).count e is))) := rfl

theorem reg_raise {e is t is'} (hr : t.off is' ≠ e.info.1.off is) (hc : t.off is' ≠ e.info.2.2.off (e.counterIdx is)) :
    (s.raise e is).reg t is' = s.reg t is' := by
  rw [raise_eq, State.reg_setReg_ne _ _ hc, State.reg_setReg_ne _ _ hr]

theorem reg_raise_flag {e is} (h : e.info.2.2.off (e.counterIdx is) ≠ e.info.1.off is) :
    (s.raise e is).reg e.info.1 is = s.reg e.info.1 is ||| BitVec.ofNat 64 (2 ^ e.info.2.1) := by
  rw [raise_eq, State.reg_setReg_ne _ _ h.symm, State.reg_setReg_same]

theorem count_setReg {e : Ev} {t is is' v} (h : e.info.2.2.off (e.counterIdx is) ≠ t.off is') :
    (s.setReg t is' v).count e is = s.count e is := by
  rw [State.count, State.reg_setReg_ne _ _ h, State.count]

theorem count_raise {e is} (h : e.info.2.2.off (e.counterIdx is) ≠ e.info.1.off is) :
    (s.raise e is).count e is = satInc 64 (s.count e is) := by
  have small : satInc 64 (s.count e is) < 2 ^ 64 := by
    unfold satInc
    omega
  rw [raise_eq, count_setReg h, State.count, State.reg_setReg_same, BitVec.toNat_ofNat, Nat.mod_eq_of_lt small]

/-! ## Hardware's settings of the flags of one register -/

section
variable {t : RegTag} {is : List Nat} (ht : t ≠ .taTflag)
include ht

theorem count_raise_ne {e f : Ev} (he : e ∈ Ev.all) (hf : f ∈ Ev.all) (het : e.info.1 = t) (hft : f.info.1 = t)
    (ne : f ≠ e) : (s.raise e is).count f is = s.count f is := by
  subst hft
  obtain ⟨dims, -⟩ := event_table f hf ht
  obtain ⟨dims', -⟩ := event_table e he (het ▸ ht)
  have hr : f.info.2.2.off (f.counterIdx is) ≠ e.info.1.off is := het ▸ counter_off_ne is hf ht
  have hc : f.info.2.2.off (f.counterIdx is) ≠ e.info.2.2.off (e.counterIdx is) := by
    have base : f.info.2.2.info.base ≠ e.info.2.2.info.base := fun b => ne (events_apart f hf e he het.symm (.inr b))
    rw [counter_off is dims, counter_off is (dims'.trans (by rw [het]))]
    omega
  rw [State.count, reg_raise hr hc, State.count]

theorem foldl_raise_flag {es : List Ev} (hes : ∀ e ∈ es, e ∈ Ev.all ∧ e.info.1 = t) (b : Nat) :
    ((es.foldl (fun s e => s.raise e is) s).reg t is).getLsbD b =
      ((s.reg t is).getLsbD b || es.any (fun e => e.info.2.1 == b)) := by
  induction es generalizing s with
  | nil => simp
  | cons e es ih =>
    obtain ⟨he, rfl⟩ := hes e List.mem_cons_self
    obtain ⟨-, -, small, -⟩ := event_table e he ht
    have bit : (BitVec.ofNat 64 (2 ^ e.info.2.1)).getLsbD b = (e.info.2.1 == b) := by
      rw [BitVec.getLsbD_ofNat, Nat.testBit_two_pow]
      by_cases hb : e.info.2.1 = b
      · simp [← hb, small]
      · simp [hb]
    rw [List.foldl_cons, ih (fun f hf => hes f (List.mem_cons_of_mem _ hf)), reg_raise_flag (counter_off_ne is he ht),
      BitVec.getLsbD_or, bit, List.any_cons, Bool.or_assoc]

theorem foldl_raise_count {es : List Ev} {f : Ev} (hes : ∀ e ∈ es, e ∈ Ev.all ∧ e.info.1 = t) (hf : f ∈ Ev.all)
    (hft : f.info.1 = t) (nodup : es.Nodup) :
    (es.foldl (fun s e => s.raise e is) s).count f is = if f ∈ es then satInc 64 (s.count f is) else s.count f is := by
  induction es generalizing s with
  | nil => simp
  | cons e es ih =>
    obtain ⟨he, het⟩ := hes e List.mem_cons_self
    obtain ⟨notin, nodup'⟩ := List.nodup_cons.1 nodup
    rw [List.foldl_cons, ih (fun f hf => hes f (List.mem_cons_of_mem _ hf)) nodup']
    by_cases h : f = e
    · subst h
      rw [if_neg notin, if_pos List.mem_cons_self, count_raise (counter_off_ne is he (het ▸ ht))]
    · rw [count_raise_ne ht he hf het hft h]
      simp [h]

end

/-! ## A write of 1s in the handshake in which hardware sets flags -/

theorem tbit_toNat (w : Word) (i : Nat) : tbit w.toNat i = w.getLsbD i := by
  rw [BitVec.getLsbD, Nat.testBit_eq_decide_div_mod_eq, tbit, Nat.shiftRight_eq_div_pow]
  rfl

/-- The event flags of a register that a mask names. -/
def namedFlags (t : RegTag) (hw : Word) : List Ev := Ev.all.filter (fun e => e.info.1 == t && tbit hw.toNat e.info.2.1)

theorem mem_namedFlags {t hw e} :
    e ∈ namedFlags t hw ↔ e ∈ Ev.all ∧ e.info.1 = t ∧ hw.getLsbD e.info.2.1 = true := by
  simp [namedFlags, tbit_toNat]

theorem setFlags_eq {off hw t is} (reg : regAt off = some (t, is)) (h : t ≠ .taTflag) :
    s.setFlags off hw = (namedFlags t hw).foldl (fun s e => s.raise e is) s := by
  rw [State.setFlags, reg]
  exact if_neg h

theorem any_namedFlags {hw e} (he : e ∈ Ev.all) :
    (namedFlags e.info.1 hw).any (fun f => f.info.2.1 == e.info.2.1) = hw.getLsbD e.info.2.1 := by
  rw [Bool.eq_iff_iff, List.any_eq_true]
  constructor
  · rintro ⟨f, hf, bit⟩
    obtain ⟨-, -, set⟩ := mem_namedFlags.1 hf
    rwa [← beq_iff_eq.1 bit]
  · intro set
    exact ⟨e, mem_namedFlags.2 ⟨he, rfl, set⟩, beq_self_eq_true _⟩

theorem reg_plainWrite_flag {e is v} (he : e ∈ Ev.all) (h : e.info.1 ≠ .taTflag) :
    ((s.plainWrite e.info.1 is v).reg e.info.1 is).getLsbD e.info.2.1 =
      ((s.reg e.info.1 is).getLsbD e.info.2.1 && !v.getLsbD e.info.2.1) := by
  obtain ⟨-, -, small, clears, plain⟩ := event_table e he h
  rw [State.plainWrite, State.reg_setReg_same]
  simp only [BitVec.getLsbD_and, BitVec.getLsbD_or, BitVec.getLsbD_not, BitVec.getLsbD_ofNat, small, clears, plain,
    decide_true, Bool.true_and, Bool.and_true, Bool.and_false, Bool.not_false, Bool.or_false]

theorem count_plainWrite {e is v} (he : e ∈ Ev.all) (h : e.info.1 ≠ .taTflag) :
    (s.plainWrite e.info.1 is v).count e is = s.count e is :=
  count_setReg (counter_off_ne is he h)

section
variable {e : Ev} {is : List Nat} (he : e ∈ Ev.all) (h : e.info.1 ≠ .taTflag)
include he h

/-- The set wins: a flag is 1 where hardware sets it, or where it stood and no 1 was written (R11). -/
theorem flag_after_clear {v hw} :
    (((namedFlags e.info.1 hw).foldl (fun s e => s.raise e is) (s.plainWrite e.info.1 is v)).reg e.info.1 is).getLsbD
      e.info.2.1 = (hw.getLsbD e.info.2.1 || ((s.reg e.info.1 is).getLsbD e.info.2.1 && !v.getLsbD e.info.2.1)) := by
  have named : ∀ f ∈ namedFlags e.info.1 hw, f ∈ Ev.all ∧ f.info.1 = e.info.1 := fun f hf =>
    ⟨(mem_namedFlags.1 hf).1, (mem_namedFlags.1 hf).2.1⟩
  rw [foldl_raise_flag h named, any_namedFlags he, reg_plainWrite_flag he h, Bool.or_comm]

/-- The counter counts hardware's setting alone (R11, R12). -/
theorem count_after_clear {v hw} :
    ((namedFlags e.info.1 hw).foldl (fun s e => s.raise e is) (s.plainWrite e.info.1 is v)).count e is =
      if hw.getLsbD e.info.2.1 then satInc 64 (s.count e is) else s.count e is := by
  have named : ∀ f ∈ namedFlags e.info.1 hw, f ∈ Ev.all ∧ f.info.1 = e.info.1 := fun f hf =>
    ⟨(mem_namedFlags.1 hf).1, (mem_namedFlags.1 hf).2.1⟩
  have mem : e ∈ namedFlags e.info.1 hw ↔ hw.getLsbD e.info.2.1 = true := by simp [mem_namedFlags, he]
  rw [foldl_raise_count h named he rfl (events_nodup.filter _), count_plainWrite he h]
  simp only [mem]

end

/-! ## A write to a register of GW fields alone -/

theorem gwPart_of_denied {m t is v} (hm : m ≠ 7) (gw : t.info.gw ≠ 0) (rw0 : t.info.rw = 0) (w1c : t.info.w1c = 0)
    (wo : t.info.wo = 0) : s.gwPart m t is v = s.raise .grnGwDenied := by
  have denied : s.gwDenied t is v = true := by simp [State.gwDenied, gw, rw0, w1c, wo]
  rw [State.gwPart, if_neg gw, if_neg hm, if_pos denied]

theorem plainWrite_of_no_access {t is v} (rw0 : t.info.rw = 0) (w1c : t.info.w1c = 0) :
    s.plainWrite t is v = s.setReg t is (s.reg t is) := by
  rw [State.plainWrite, rw0, w1c]
  simp only [BitVec.and_zero, BitVec.or_zero, BitVec.not_zero, BitVec.and_allOnes]

theorem not_own_of_gw_alone {t : RegTag} (gw : t.info.gw ≠ 0) (rw0 : t.info.rw = 0) : t ∉ ownWrites := by
  intro own
  have mixed : ∀ x ∈ ownWrites, x.info.gw ≠ 0 → x.info.rw ≠ 0 := by decide +kernel
  exact mixed t own gw rw0

theorem off_ne_of_regAt {t t' : RegTag} {is is' : List Nat} (reg : regAt (t.off is) = some (t, is))
    (reg' : regAt (t'.off is') = some (t', is')) (ne : t ≠ t') : t.off is ≠ t'.off is' := by
  intro same
  rw [same, reg'] at reg
  exact ne (congrArg Prod.fst (Option.some.inj reg)).symm

theorem controlWrite_of_gw_alone {m i3c t is v} (h : reaches s m t is) (hm : m ≠ 7) (gw : t.info.gw ≠ 0)
    (rw0 : t.info.rw = 0) (w1c : t.info.w1c = 0) (wo : t.info.wo = 0) :
    s.controlWrite m i3c (t.off is) 8 v = (s.raise .grnGwDenied).setReg t is ((s.raise .grnGwDenied).reg t is) := by
  rw [controlWrite_reaches h, writeReg_of_not_own (not_own_of_gw_alone gw rw0), gwPart_of_denied hm gw rw0 w1c wo,
    plainWrite_of_no_access rw0 w1c]

theorem fld_bit (w : Word) (b : Nat) : fld w b b = (w.getLsbD b).toNat := by
  rw [fld, bits, BitVec.getLsbD, Nat.toNat_testBit, Nat.shiftRight_eq_div_pow, Nat.add_sub_cancel_left, pow_one]

theorem raised_gwDenied {t is v} (hflag : RegTag.off .grnEvents [] ≠ t.off is)
    (hcount : RegTag.off .grnCntGwDenied [] ≠ t.off is) :
    raised s ((s.raise .grnGwDenied).setReg t is v) .grnGwDenied [] := by
  have apart : Ev.grnGwDenied.info.2.2.off (Ev.grnGwDenied.counterIdx []) ≠ Ev.grnGwDenied.info.1.off [] := by decide
  refine ⟨?_, ?_⟩
  · have flag : ((s.raise .grnGwDenied).setReg t is v).reg .grnEvents [] =
        s.reg .grnEvents [] ||| BitVec.ofNat 64 (2 ^ Ev.grnGwDenied.info.2.1) := by
      rw [State.reg_setReg_ne _ _ hflag]
      exact reg_raise_flag apart
    change fld (((s.raise .grnGwDenied).setReg t is v).reg .grnEvents []) 0 0 = 1
    rw [fld_bit, flag]
    simp [Ev.info]
  · have counted : ((s.raise .grnGwDenied).setReg t is v).count .grnGwDenied [] = satInc 64 (s.count .grnGwDenied []) := by
      rw [count_setReg (e := .grnGwDenied) hcount, count_raise apart]
    exact counted

end Sys2Proof.Machine

namespace Sys2Proof

open Machine Claims

/-- Settles O10: a write that reaches a plain register is `plainWrite`, the discarded ones leave `controlWrite` before it,
and the flags that hardware sets are raised after it, each with a counter of its own. -/
theorem registerWritesAndEventFlags : Obligations.RegisterWritesAndEventFlags := by
  unfold Obligations.RegisterWritesAndEventFlags
  refine ⟨⟨?plain, ?reserved, ?refused, ?gw⟩, ?flags⟩
  case plain =>
    intro s m t is v h p
    exact congrArg Host.Outcome.next (controlWrite_of_plain h p)
  case reserved =>
    intro s m off size v allowed h
    exact congrArg Host.Outcome.next (controlWrite_of_none allowed (controlReg_eq_none h))
  case refused =>
    intro s m off size v denied
    exact congrArg Host.Outcome.next (controlWrite_of_denied denied)
  case gw =>
    intro s m t is v h hm gw rw0 w1c wo _
    have apart {t' : RegTag} (reg : regAt (t'.off []) = some (t', [])) (gw' : t'.info.gw = 0) : t'.off [] ≠ t.off is :=
      (off_ne_of_regAt (regAt_of_reaches h) reg (fun e => gw (e ▸ gw'))).symm
    refine ⟨_, congrArg Host.Outcome.next (controlWrite_of_gw_alone h hm gw rw0 w1c wo), ?_, fun hflag hcount => ?_⟩
    · exact raised_gwDenied (apart (by decide +kernel) rfl) (apart (by decide +kernel) rfl)
    · rw [State.reg_setReg_same, reg_raise hflag hcount]
  case flags =>
    intro s m t is v hw h p
    have tflag : t ≠ .taTflag := fun e => ((plainReg_iff t).1 p).2 (e ▸ by decide)
    have run := (congrArg (State.setFlags · (t.off is) hw) (controlWrite_of_plain (i3c := false) (v := v) h p)).trans
      (setFlags_eq (regAt_of_reaches h) tflag)
    refine ⟨_, congrArg Host.Outcome.next run, fun e he het => ?_⟩
    subst het
    refine ⟨flag_after_clear he tflag, (count_after_clear he tflag).trans ?_⟩
    rfl

end Sys2Proof

/-! # The placement loop -/

namespace Sys2Proof.Machine

/-! ## Lists of the library and of the model -/

theorem upFrom_eq_range' (lo n : Nat) : upFrom lo n = List.range' lo n := by
  induction n generalizing lo with
  | zero => rfl
  | succ n ih => rw [upFrom, ih, List.range'_succ]

theorem mem_upFrom {lo n p : Nat} : p ∈ upFrom lo n ↔ lo ≤ p ∧ p < lo + n := by
  rw [upFrom_eq_range', List.mem_range'_1]

theorem upFrom_pairwise (lo n : Nat) : (upFrom lo n).Pairwise (· < ·) := by
  rw [upFrom_eq_range']
  exact List.pairwise_lt_range'

theorem upFrom_nodup (lo n : Nat) : (upFrom lo n).Nodup := (upFrom_pairwise lo n).imp Nat.ne_of_lt

theorem upFrom_take (lo : Nat) {k n : Nat} (h : k ≤ n) : (upFrom lo n).take k = upFrom lo k := by
  refine List.ext_getElem? fun i => ?_
  rw [List.getElem?_take, getElem?_upFrom, getElem?_upFrom]
  by_cases inside : i < k
  · rw [if_pos inside, if_pos inside, if_pos (by omega)]
  · rw [if_neg inside, if_neg inside]

theorem mfind_zipIdx {α : Type} (xs : List α) (n i : Nat) :
    mfind ((xs.zipIdx n).map (fun r => (r.2, r.1))) (n + i) = xs[i]? := by
  induction xs generalizing n i with
  | nil => rfl
  | cons x xs ih => cases i with
    | zero => simp [mfind]
    | succ i =>
      have next := ih (n + 1) i
      rw [Nat.add_right_comm, Nat.add_assoc] at next
      simpa [mfind] using next

theorem getElem?_flatMap_of_length {α β : Type} {f : α → List β} {k : Nat} {xs : List α}
    (len : ∀ x ∈ xs, (f x).length = k) {x : α} {j i : Nat} (hx : xs[j]? = some x) (hi : i < k) :
    (xs.flatMap f)[k * j + i]? = (f x)[i]? := by
  induction xs generalizing j with
  | nil => simp at hx
  | cons y ys ih =>
    have hy : (f y).length = k := len y List.mem_cons_self
    rw [List.flatMap_cons]
    cases j with
    | zero =>
      cases hx
      rw [Nat.mul_zero, Nat.zero_add, List.getElem?_append_left (by omega)]
    | succ j =>
      have later : k * (j + 1) + i = (f y).length + (k * j + i) := by rw [hy]; ring
      rw [later, List.getElem?_append_right (Nat.le_add_right _ _), Nat.add_sub_cancel_left]
      exact ih (fun z hz => len z (List.mem_cons_of_mem _ hz)) hx

theorem filter_contains_take {xs : List Nat} (nodup : xs.Nodup) (k : Nat) :
    xs.filter (fun p => (xs.take k).contains p) = xs.take k := by
  have split := List.take_append_drop k xs
  have apart : ∀ p ∈ xs.drop k, p ∉ xs.take k := by
    intro p hp hp'
    rw [← split] at nodup
    exact (List.nodup_append.1 nodup).2.2 p hp' p hp rfl
  conv_lhs => arg 2; rw [← split]
  rw [List.filter_append, List.filter_eq_self.2 (by simp), List.filter_eq_nil_iff.2 (by simpa using apart),
    List.append_nil]

/-! ## The order of the placement loop (R18, R21) -/

variable {m : UnitMap} {d : Nat}

/-- A cluster comes before another in (rank, physical number). -/
def UnitMap.before (m : UnitMap) (p q : Nat) : Prop :=
  ∃ a b, m.rank p = some a ∧ m.rank q = some b ∧ (a < b ∨ (a = b ∧ p < q))

theorem UnitMap.not_before_self (p : Nat) : ¬ m.before p p := by
  rintro ⟨a, b, ha, hb, lt | ⟨-, lt⟩⟩
  · rw [ha] at hb
    exact absurd (Option.some.inj hb) (Nat.ne_of_lt lt)
  · exact absurd lt (Nat.lt_irrefl p)

theorem UnitMap.rank_of_not_placeable {p : Nat} (h : m.placeable p = false) : m.rank p = none := by
  simp [UnitMap.rank, h]

theorem UnitMap.rank_of_placeable {p : Nat} (h : m.placeable p = true) :
    m.rank p = some 0 ∨ m.rank p = some 1 ∨ m.rank p = some 2 := by
  rw [UnitMap.rank, h, Bool.not_true, if_neg Bool.false_ne_true]
  split_ifs <;> simp

theorem UnitMap.placeable_of_rank {p r : Nat} (h : m.rank p = some r) : m.placeable p = true := by
  by_contra no
  rw [UnitMap.rank_of_not_placeable (Bool.eq_false_iff.2 no)] at h
  cases h

/-- The clusters of a C-die that have a rank, by physical number. -/
def UnitMap.ofRank (m : UnitMap) (d r : Nat) : List Nat := (upFrom (168 * d) 168).filter (fun p => m.rank p == some r)

theorem UnitMap.candidates_eq : m.candidates d = m.ofRank d 0 ++ m.ofRank d 1 ++ m.ofRank d 2 := rfl

theorem UnitMap.mem_ofRank {r p : Nat} : p ∈ m.ofRank d r ↔ p ∈ upFrom (168 * d) 168 ∧ m.rank p = some r := by
  simp [UnitMap.ofRank]

theorem UnitMap.ofRank_pairwise (r : Nat) : (m.ofRank d r).Pairwise m.before := by
  refine List.Pairwise.imp_of_mem ?_ ((upFrom_pairwise _ _).filter _)
  intro p q hp hq lt
  exact ⟨r, r, (mem_ofRank.1 hp).2, (mem_ofRank.1 hq).2, .inr ⟨rfl, lt⟩⟩

theorem UnitMap.before_of_rank_lt {a b p q : Nat} (lt : a < b) (hp : p ∈ m.ofRank d a) (hq : q ∈ m.ofRank d b) :
    m.before p q :=
  ⟨a, b, (mem_ofRank.1 hp).2, (mem_ofRank.1 hq).2, .inl lt⟩

theorem UnitMap.candidates_pairwise : (m.candidates d).Pairwise m.before := by
  rw [candidates_eq, List.pairwise_append, List.pairwise_append]
  refine ⟨⟨ofRank_pairwise 0, ofRank_pairwise 1, ?_⟩, ofRank_pairwise 2, ?_⟩
  · exact fun p hp q hq => before_of_rank_lt (by decide) hp hq
  · intro p hp q hq
    rcases List.mem_append.1 hp with h0 | h1
    · exact before_of_rank_lt (by decide) h0 hq
    · exact before_of_rank_lt (by decide) h1 hq

theorem UnitMap.candidates_nodup : (m.candidates d).Nodup :=
  candidates_pairwise.imp (by rintro p _ h rfl; exact not_before_self p h)

theorem UnitMap.mem_candidates {p : Nat} : p ∈ m.candidates d ↔ p ∈ upFrom (168 * d) 168 ∧ m.placeable p = true := by
  simp only [candidates_eq, List.mem_append, mem_ofRank, ← and_or_left]
  refine and_congr_right fun _ => ⟨?_, fun h => or_assoc.2 (rank_of_placeable h)⟩
  rintro ((h | h) | h) <;> exact placeable_of_rank h

theorem UnitMap.candidates_perm : (m.candidates d).Perm ((upFrom (168 * d) 168).filter m.placeable) :=
  (List.perm_ext_iff_of_nodup candidates_nodup ((upFrom_nodup _ _).filter _)).2 fun _ =>
    mem_candidates.trans List.mem_filter.symm

/-! ## The clusters chosen -/

theorem UnitMap.chosen_eq_none_iff :
    m.chosen d = none ↔ ((upFrom (168 * d) 168).filter m.placeable).length < 160 := by
  rw [← candidates_perm.length_eq]
  simp [UnitMap.chosen]

theorem UnitMap.chosen_eq_some_iff {cs : List Nat} : m.chosen d = some cs ↔ 160 ≤ (m.candidates d).length ∧
    cs = (upFrom (168 * d) 168).filter (fun p => ((m.candidates d).take 160).contains p) := by
  simp [UnitMap.chosen, eq_comm]

section
variable {cs : List Nat} (h : m.chosen d = some cs)
include h

theorem UnitMap.mem_chosen {p : Nat} : p ∈ cs ↔ p ∈ (m.candidates d).take 160 := by
  obtain ⟨-, rfl⟩ := chosen_eq_some_iff.1 h
  rw [List.mem_filter, List.contains_iff_mem, and_iff_right_iff_imp]
  exact fun hp => (mem_candidates.1 (List.mem_of_mem_take hp)).1

theorem UnitMap.chosen_pairwise : cs.Pairwise (· < ·) := by
  obtain ⟨-, rfl⟩ := chosen_eq_some_iff.1 h
  exact (upFrom_pairwise _ _).filter _

theorem UnitMap.chosen_length : cs.length = 160 := by
  obtain ⟨enough, -⟩ := chosen_eq_some_iff.1 h
  have perm : cs.Perm ((m.candidates d).take 160) :=
    (List.perm_ext_iff_of_nodup ((chosen_pairwise h).imp Nat.ne_of_lt)
      (candidates_nodup.sublist (List.take_sublist _ _))).2 fun _ => mem_chosen h
  rw [perm.length_eq, List.length_take, Nat.min_eq_left enough]

theorem UnitMap.chosen_placeable {p : Nat} (hp : p ∈ cs) : 168 * d ≤ p ∧ p < 168 * d + 168 ∧ m.placeable p = true := by
  obtain ⟨onDie, placeable⟩ := mem_candidates.1 (List.mem_of_mem_take ((mem_chosen h).1 hp))
  obtain ⟨low, high⟩ := mem_upFrom.1 onDie
  exact ⟨low, high, placeable⟩

/-- No cluster left out comes before a chosen one (R21). -/
theorem UnitMap.chosen_before {p q : Nat} (hp : p ∈ cs) (hq : q ∈ m.candidates d) (out : q ∉ cs) : m.before p q := by
  have split := List.take_append_drop 160 (m.candidates d)
  have later : q ∈ (m.candidates d).drop 160 := by
    rw [← split, List.mem_append, ← mem_chosen h] at hq
    exact hq.resolve_left out
  have order := candidates_pairwise (m := m) (d := d)
  rw [← split, List.pairwise_append] at order
  exact order.2.2 p ((mem_chosen h).1 hp) q later

end

/-! ## The placement made from them (R21, R109) -/

theorem UnitMap.chosen_isSome {d : Nat} (h : m.failedDies = []) (hd : d < 4) : ∃ cs, m.chosen d = some cs := by
  have ok := List.filter_eq_nil_iff.1 h d (List.mem_range.2 hd)
  rw [Option.isNone_iff_eq_none] at ok
  exact Option.ne_none_iff_exists'.1 ok

/-- Logical cluster 160d + i is the i-th chosen cluster of C-die d, in both tables. -/
theorem UnitMap.mfind_placement {i p : Nat} {cs : List Nat} (h : m.failedDies = []) (hd : d < 4) (hi : i < 160)
    (hcs : m.chosen d = some cs) (hp : cs[i]? = some p) :
    mfind m.placement.place (160 * d + i) = some (m.record p) ∧
    mfind m.placement.serve (160 * d + i) = some (m.record p) := by
  have len : ∀ x ∈ List.range 4, ((m.chosen x).getD []).length = 160 := by
    intro x hx
    obtain ⟨xs, hxs⟩ := chosen_isSome h (List.mem_range.1 hx)
    rw [hxs, Option.getD_some, chosen_length hxs]
  have found : mfind m.placement.place (0 + (160 * d + i)) = some (m.record p) := by
    refine (mfind_zipIdx _ 0 _).trans ?_
    rw [List.getElem?_map, getElem?_flatMap_of_length len (List.getElem?_range hd) hi, hcs, Option.getD_some, hp,
      Option.map_some]
  rw [Nat.zero_add] at found
  exact ⟨found, found⟩

theorem UnitMap.record_cores_length {p : Nat} (h : m.placeable p = true) : (m.record p).cores.length = 16 := by
  simp only [UnitMap.placeable, Bool.and_eq_true, decide_eq_true_eq] at h
  obtain ⟨-, enough⟩ := h
  rw [UnitMap.record, List.length_take, Nat.min_eq_left enough]

theorem UnitMap.record_cores_pairwise (p : Nat) : (m.record p).cores.Pairwise (· < ·) :=
  (List.pairwise_lt_range.filter _).sublist (List.take_sublist _ _)

theorem UnitMap.enabled_of_mem_record {p x : Nat} (h : x ∈ (m.record p).cores) : x < 17 ∧ 17 * p + x ∉ m.cores := by
  have enabled : x ∈ m.coresOf p := List.mem_of_mem_take h
  simpa [UnitMap.coresOf] using enabled

/-! ## A map that marks nothing (R21) -/

theorem UnitMap.coresOf_of_unmarked (cores : m.cores = []) (p : Nat) : m.coresOf p = List.range 17 := by
  simp [UnitMap.coresOf, cores]

theorem UnitMap.record_of_unmarked (cores : m.cores = []) (p : Nat) :
    m.record p = { phys := p, cores := List.range 16, spare := some 16 } := by
  rw [UnitMap.record, coresOf_of_unmarked cores]
  rfl

section
variable (clusters : m.clusters = []) (cores : m.cores = [])
include clusters cores

theorem UnitMap.rank_of_unmarked (p : Nat) : m.rank p = some 0 := by
  have good : m.cluster p = .good := by rw [UnitMap.cluster, clusters, mget]
  simp [UnitMap.rank, UnitMap.placeable, good, coresOf_of_unmarked cores]

theorem UnitMap.chosen_of_unmarked (d : Nat) : m.chosen d = some (upFrom (168 * d) 160) := by
  have cand : m.candidates d = upFrom (168 * d) 168 := by
    simp [candidates_eq, UnitMap.ofRank, rank_of_unmarked clusters cores]
  rw [chosen_eq_some_iff, cand, filter_contains_take (upFrom_nodup _ _), upFrom_take _ (by decide), upFrom_length]
  exact ⟨by decide, rfl⟩

theorem UnitMap.failedDies_of_unmarked : m.failedDies = [] := by
  simp [UnitMap.failedDies, chosen_of_unmarked clusters cores]

end

/-- The placement made reads the clusters' states and the cores alone of the map. -/
theorem UnitMap.placement_congr {m n : UnitMap} (clusters : m.clusters = n.clusters) (cores : m.cores = n.cores) :
    m.placement.place = n.placement.place := by
  obtain ⟨_, _, _⟩ := m
  obtain ⟨_, _, _⟩ := n
  cases clusters
  cases cores
  rfl

end Sys2Proof.Machine

namespace Sys2Proof

open Machine

/-- Settles O15: the candidates of a C-die stand in the order of (rank, physical number), the first 160 of them are chosen,
and the i-th of these by number is found at 160d + i. -/
theorem placementLoopChooses : Obligations.PlacementLoopChooses := by
  unfold Obligations.PlacementLoopChooses
  refine ⟨?chosen, ?placed, ?unmarked, fun _ _ => UnitMap.placement_congr⟩
  case chosen =>
    intro m d _
    refine ⟨Option.isNone_iff_eq_none.trans UnitMap.chosen_eq_none_iff, fun cs h => ?_⟩
    refine ⟨UnitMap.chosen_length h, UnitMap.chosen_pairwise h, fun p => UnitMap.chosen_placeable h, ?_⟩
    intro p q hp low high placeable out
    exact UnitMap.chosen_before h hp (UnitMap.mem_candidates.2 ⟨mem_upFrom.2 ⟨low, high⟩, placeable⟩) out
  case placed =>
    refine fun m ok => ⟨rfl, fun d i hd hi => ?_⟩
    obtain ⟨cs, h⟩ := UnitMap.chosen_isSome ok hd
    have inside : i < cs.length := by rwa [UnitMap.chosen_length h]
    have hp : cs[i]? = some cs[i] := List.getElem?_eq_getElem inside
    obtain ⟨place, serve⟩ := UnitMap.mfind_placement ok hd hi h hp
    obtain ⟨-, -, placeable⟩ := UnitMap.chosen_placeable h (List.getElem_mem inside)
    exact ⟨cs, cs[i], h, hp, place, serve, rfl, UnitMap.record_cores_length placeable, UnitMap.record_cores_pairwise _,
      fun _ => UnitMap.enabled_of_mem_record⟩
  case unmarked =>
    intro m d i clusters cores hd hi
    have hp : (upFrom (168 * d) 160)[i]? = some (168 * d + i) := by rw [getElem?_upFrom, if_pos hi]
    rw [← UnitMap.record_of_unmarked cores]
    exact (UnitMap.mfind_placement (UnitMap.failedDies_of_unmarked clusters cores) hd hi
      (UnitMap.chosen_of_unmarked clusters cores d) hp).1

end Sys2Proof

/-! # Re-planning, the ledger and their commands -/

namespace Sys2Proof.Machine

open Claims

-- As many declarations elaborated at once would need more threads than the check allows.
set_option Elab.async false

variable {s : State}

/-! ## What a re-plan leaves alone -/

/-- What runs on the node, with the operating point in force. -/
def State.running (s : State) := (s.cores, s.jobs, s.placement, s.tallies, s.flash.map.pcs, s.point)

/-- Of each voltage region: that it is marked weak, and the tell-tales its delay controller ignores (R66, R67). -/
def State.marks (s : State) : Nat → Bool × List Nat := fun r => ((s.region r).weak, (s.region r).ignored)

/-- What a re-plan decides and what it must not touch. Replies, notifications and links that fall leave all of it alone. -/
@[irreducible] def State.plan (s : State) :=
  (s.running, s.flash.map.clusters, s.marks, fun r : Fin 84 => s.reg .telRgTaps [r.val])

theorem plan_eq_iff {s t : State} : t.plan = s.plan ↔ t.running = s.running ∧ t.flash.map.clusters = s.flash.map.clusters ∧
    t.marks = s.marks ∧ ∀ r, r < 84 → t.reg .telRgTaps [r] = s.reg .telRgTaps [r] := by
  simp [State.plan, funext_iff, Fin.forall_iff]

theorem plan_same {s t : State} (running : t.running = s.running := by rfl)
    (clusters : t.flash.map.clusters = s.flash.map.clusters := by rfl) (marks : t.marks = s.marks := by rfl)
    (regs : t.regs = s.regs := by rfl) : t.plan = s.plan :=
  plan_eq_iff.2 ⟨running, clusters, marks, fun _ _ => by rw [State.reg, regs]; rfl⟩

theorem plan_setReg {t is v} (h : ∀ r, r < 84 → RegTag.off .telRgTaps [r] ≠ t.off is) :
    (s.setReg t is v).plan = s.plan :=
  plan_eq_iff.2 ⟨rfl, rfl, rfl, fun r hr => State.reg_setReg_ne _ _ (h r hr)⟩

/-- The registers of the regions lie behind the first 4 KiB of their 64 KiB of the control space. -/
theorem taps_off_ne {o : Nat} (low : o % 0x10000 < 0x1000) (r : Nat) (hr : r < 84) : RegTag.off .telRgTaps [r] ≠ o := by
  have off : RegTag.off .telRgTaps [r] = 0x8001010 + r * 0x40 := rfl
  omega

theorem plan_raise {e is} (hr : e.info.1.off is % 0x10000 < 0x1000)
    (hc : e.info.2.2.off (e.counterIdx is) % 0x10000 < 0x1000) : (s.raise e is).plan = s.plan := by
  rw [raise_eq, plan_setReg (taps_off_ne hc), plan_setReg (taps_off_ne hr)]

theorem plan_raise_link {e : Ev} (n : Nat) (h : e ∈ [Ev.axlLinkDown, .axlLaneDrop, .axlRetrain, .axlEyeLow]) :
    (s.raise e [n]).plan = s.plan := by
  simp only [List.mem_cons, List.not_mem_nil, or_false] at h
  rcases h with rfl | rfl | rfl | rfl <;>
    exact plan_raise (by simp [RegTag.off, RegTag.info, Ev.info, idxOff])
      (by simp [RegTag.off, RegTag.info, Ev.info, Ev.counterIdx, idxOff])

theorem plan_foldl {β : Type} {f : State → β → State} (h : ∀ t x, (f t x).plan = t.plan) (l : List β) :
    (l.foldl f s).plan = s.plan :=
  foldl_keeps (fun t => t.plan = s.plan) f (fun t x ht => (h t x).trans ht) l s rfl

theorem plan_ite {c : Prop} [Decidable c] {s t u : State} (ht : t.plan = s.plan) (hu : u.plan = s.plan) :
    (if c then t else u).plan = s.plan := by
  split <;> assumption

theorem plan_fst {α : Type} {s t : State} {x : α} (h : t.plan = s.plan) : (t, x).1.plan = s.plan := h

theorem plan_setQueue {q v} : (s.setQueue q v).plan = s.plan := plan_same
theorem plan_setPc {p v} : (s.setPc p v).plan = s.plan := plan_same
theorem plan_setLink {n v} : (s.setLink n v).plan = s.plan := plan_same
theorem plan_setFilter {n e v} : (s.setFilter n e v).plan = s.plan := plan_same
theorem plan_bump : s.bump.plan = s.plan := plan_same
theorem plan_failRow {a} : (s.failRow a).plan = s.plan := plan_same

theorem plan_emit {o} : (s.emit o).plan = s.plan := by
  unfold State.emit
  exact plan_ite rfl plan_same

theorem plan_refusedBy {m} : (s.refusedBy m).plan = s.plan := by
  unfold State.refusedBy
  exact plan_ite rfl (plan_raise (by decide) (by decide))

theorem plan_allowed {m node a rd wr tag} : (s.allowed m node a rd wr tag).1.plan = s.plan := by
  unfold State.allowed
  split
  · rfl
  · exact plan_fst (plan_raise (by decide) (by decide))

/-! ### Memory -/

theorem plan_errLast {a} : (s.errLast a).plan = s.plan := by
  unfold State.errLast
  exact plan_setReg (taps_off_ne (by decide))

theorem plan_correctHbm {a} : (s.correctHbm a).plan = s.plan := by
  unfold State.correctHbm
  extract_lets s1 s2 p cw s3 c
  have counted : s2.plan = s.plan := (plan_raise (by decide) (by decide)).trans plan_same
  exact plan_setPc.trans (plan_ite (plan_failRow.trans counted) counted)

theorem plan_correctSram {a again} : (s.correctSram a again).plan = s.plan := by
  unfold State.correctSram
  extract_lets s1 c
  have counted : s1.plan = s.plan := (plan_raise (by decide) (by decide)).trans plan_same
  exact plan_ite (plan_ite counted ((plan_same).trans counted)) counted

theorem plan_readErr {a e} : (s.readErr a e).1.plan = s.plan := by
  have hbm : (((s.raise .memHbmUncorr).errLast a).failRow a).plan = s.plan :=
    (plan_failRow.trans plan_errLast).trans (plan_raise (by decide) (by decide))
  have sram : ((s.raise .memShaleUncorr).errLast a).plan = s.plan :=
    plan_errLast.trans (plan_raise (by decide) (by decide))
  unfold State.readErr
  split
  · split
    · exact plan_fst plan_correctHbm
    · exact plan_fst plan_correctHbm
    · exact plan_fst hbm
    · rfl
  · split
    · exact plan_fst plan_correctSram
    · exact plan_fst plan_correctSram
    · exact plan_fst sram
    · exact plan_fst sram

theorem plan_mergeErr {a e} : (s.mergeErr a e).plan = s.plan := by
  have hbm : (((s.raise .memHbmUncorr).errLast a).failRow a).plan = s.plan :=
    (plan_failRow.trans plan_errLast).trans (plan_raise (by decide) (by decide))
  have sram : ((s.raise .memShaleUncorr).errLast a).plan = s.plan :=
    plan_errLast.trans (plan_raise (by decide) (by decide))
  unfold State.mergeErr
  split
  · exact plan_readErr
  · exact plan_readErr
  · exact plan_ite rfl sram
  · exact plan_ite ((plan_same).trans hbm) sram

theorem plan_rewriteErrs {a n} : (s.rewriteErrs a n).plan = s.plan := by
  unfold State.rewriteErrs
  exact plan_foldl (fun _ _ => plan_ite plan_same plan_mergeErr) _

theorem plan_put {a bs} : (s.put a bs).plan = s.plan := by
  unfold State.put
  exact (plan_same).trans plan_rewriteErrs

theorem plan_storePart {a bs} : (s.storePart a bs).plan = s.plan := by
  unfold State.storePart
  extract_lets hold frozen copied sent now port held
  have hold_plan (t : State) : (hold t).plan = t.plan := plan_same
  have copied_plan : copied.plan = s.plan := by
    unfold copied
    split
    · exact plan_ite plan_same rfl
    · rfl
  have held_plan : held.plan = s.plan := (hold_plan _).trans ((plan_same).trans copied_plan)
  refine plan_ite ((plan_raise (by decide) (by decide)).trans (hold_plan s)) (plan_ite (hold_plan s) (plan_ite ?_ ?_))
  · exact plan_ite held_plan (plan_emit.trans held_plan)
  · exact plan_put.trans copied_plan

theorem plan_store {a bs} : (s.store a bs).plan = s.plan := by
  unfold State.store
  exact plan_ite plan_put (plan_foldl (fun _ _ => plan_storePart) _)

theorem plan_storeOff {o bs} : (s.storeOff o bs).plan = s.plan := by
  unfold State.storeOff
  split
  · rfl
  · exact foldl_keeps (fun r : State × List Byte => r.1.plan = s.plan) _ (fun _ _ h => plan_store.trans h) _ _ rfl

/-! ### Replies -/

theorem plan_queueError {q status opcode seq} : (s.queueError q status opcode seq).plan = s.plan := by
  unfold State.queueError
  extract_lets k s1 s2
  have noted : s2.plan = s.plan := (plan_setReg (taps_off_ne (by decide))).trans plan_setQueue
  exact plan_ite rfl ((plan_raise (by decide) (by decide)).trans noted)

theorem plan_pdieTarget {k} : (s.pdieTarget k).1.plan = s.plan := by
  unfold State.pdieTarget
  split
  · exact plan_bump
  · rfl

theorem plan_notify {q} : (s.notify q).plan = s.plan := by
  unfold State.notify
  extract_lets c v e
  refine plan_ite (plan_ite plan_emit plan_same) (plan_ite (plan_raise (by decide) (by decide)) ?_)
  exact plan_emit.trans plan_pdieTarget

theorem plan_writeReply {q r} : (s.writeReply q r).plan = s.plan := by
  unfold State.writeReply
  extract_lets k a
  split
  next s1 ok heq =>
    have asked : (if s.unreachable a 32 then (s, false)
        else s.allowed r.master.val true a false true 0).1.plan = s.plan := by
      split
      · rfl
      · exact plan_allowed
    rw [heq] at asked
    extract_lets s2 s3 s4 k'
    have stored : s3.plan = s.plan := (plan_setQueue.trans plan_storeOff).trans asked
    have told : s4.plan = s.plan := plan_ite (plan_notify.trans stored) stored
    exact plan_ite (plan_queueError.trans asked) (plan_ite (plan_setQueue.trans told) told)

theorem plan_putReply {q r} : (s.putReply q r).plan = s.plan := by
  unfold State.putReply
  exact plan_ite ((plan_raise (by decide) (by decide)).trans plan_setQueue) plan_writeReply

theorem plan_answer {c a} : (s.answer c a).plan = s.plan := by
  unfold State.answer
  extract_lets s1 s2 job s3
  have ended : s1.plan = s.plan := plan_same
  have denied : s2.plan = s.plan := plan_ite ((plan_raise (by decide) (by decide)).trans ended) ended
  have refused : s3.plan = s.plan := plan_ite (plan_refusedBy.trans denied) denied
  exact plan_ite refused (plan_putReply.trans refused)

theorem plan_applyQ {q reset} : (s.applyQ q reset).plan = s.plan := by
  unfold State.applyQ
  exact plan_ite plan_setQueue plan_setQueue

theorem plan_abortDrains {q reset} : (s.abortDrains q reset).plan = s.plan := by
  unfold State.abortDrains
  exact plan_ite rfl (plan_foldl (fun _ _ => plan_answer) _)

theorem plan_settleQueue0 : s.settleQueue0.plan = s.plan := by
  unfold State.settleQueue0
  split
  · rfl
  · exact plan_ite rfl (plan_abortDrains.trans plan_applyQ)

theorem plan_settleQueues {n} : (s.settleQueues n).plan = s.plan := by
  induction n generalizing s with
  | zero => rfl
  | succ n ih =>
    unfold State.settleQueues
    split
    · rfl
    · split
      · exact ((ih.trans plan_abortDrains).trans plan_answer).trans plan_applyQ
      · exact ((ih.trans plan_abortDrains).trans plan_applyQ).trans plan_answer
      · rfl

theorem plan_finishCmd {c a} : (s.finishCmd c a).plan = s.plan := by
  unfold State.finishCmd State.settle
  exact (plan_settleQueue0.trans plan_settleQueues).trans plan_answer

/-! ### Links -/

theorem plan_linkSettled {n} : (s.linkSettled n).plan = s.plan := by
  unfold State.linkSettled
  exact plan_foldl (fun _ _ => plan_finishCmd) _

theorem plan_openWaiting {n} : (s.openWaiting n).plan = s.plan := by
  unfold State.openWaiting
  exact plan_foldl (fun _ _ => plan_ite plan_setFilter rfl) _

theorem plan_closeDraining {n} : (s.closeDraining n).plan = s.plan := by
  unfold State.closeDraining
  exact plan_openWaiting.trans (plan_foldl (fun _ _ => plan_ite plan_setFilter rfl) _)

theorem plan_leaveActive {n} : (s.leaveActive n).plan = s.plan := by
  unfold State.leaveActive
  exact plan_ite rfl (plan_closeDraining.trans plan_setLink)

theorem plan_linkToDisabled {n} : (s.linkToDisabled n).plan = s.plan := by
  unfold State.linkToDisabled
  exact (plan_linkSettled.trans plan_setLink).trans plan_leaveActive

theorem plan_linkToDown {n} : (s.linkToDown n).plan = s.plan := by
  unfold State.linkToDown
  extract_lets l s1 s2
  have left : s1.plan = s.plan := plan_leaveActive
  have counted : (s1.raise .axlLinkDown [n]).plan = s.plan := (plan_raise_link n (by simp)).trans left
  have down : s2.plan = s.plan := by
    unfold s2
    split
    · exact counted
    · exact counted
    · exact counted
    · exact counted
    · exact left
  exact (plan_linkSettled.trans plan_setLink).trans down

theorem plan_mapLinks {n} : (s.mapLinks n).plan = s.plan := by
  unfold State.mapLinks
  exact plan_ite plan_linkToDisabled rfl

theorem plan_beginFastRetrain {n} : (s.beginFastRetrain n).plan = s.plan := by
  unfold State.beginFastRetrain
  exact (plan_raise_link n (by simp)).trans plan_setLink

theorem plan_dropLane {n lane} : (s.dropLane n lane).plan = s.plan := by
  unfold State.dropLane
  refine plan_ite rfl (plan_ite plan_linkToDown ?_)
  exact (plan_beginFastRetrain.trans (plan_raise_link n (by simp))).trans plan_setLink

/-! ## The eye checks of a re-plan (R323) -/

theorem marks_congr {t : State} (h : t.regions = s.regions) : t.marks = s.marks := by
  funext r
  simp only [State.marks, State.region, h]

theorem marks_setRegion {r : Nat} {g : Region} (weak : g.weak = (s.region r).weak)
    (ignored : g.ignored = (s.region r).ignored) : (s.setRegion r g).marks = s.marks := by
  funext x
  by_cases h : x = r
  · subst h
    rw [State.marks, State.region_setRegion_same, weak, ignored, State.marks]
  · rw [State.marks, State.region_setRegion_ne _ _ h, State.marks]

theorem plan_setRegion {r : Nat} {g : Region} (weak : g.weak = (s.region r).weak)
    (ignored : g.ignored = (s.region r).ignored) : (s.setRegion r g).plan = s.plan :=
  plan_same rfl rfl (marks_setRegion weak ignored)

theorem plan_setF_low {t is hi lo v} (low : t.off is % 0x10000 < 0x1000) : (s.setF t is hi lo v).plan = s.plan :=
  plan_setReg (taps_off_ne low)

/-- The registers of the regions other than TAPS. -/
theorem plan_setF_region {t hi lo v} (r : Nat) (h : t ∈ [RegTag.telRgSet, .telRgStatus, .telRgMargin]) :
    (s.setF t [r] hi lo v).plan = s.plan := by
  refine plan_setReg fun x _ => ?_
  simp only [List.mem_cons, List.not_mem_nil, or_false] at h
  rcases h with rfl | rfl | rfl <;> simp only [RegTag.off, RegTag.info, idxOff] <;> omega

theorem plan_statusBits {r} : (s.statusBits r).plan = s.plan := by
  unfold State.statusBits
  exact (plan_setF_region r (by simp)).trans (plan_setF_region r (by simp))

theorem plan_applySet {r} : (s.applySet r).plan = s.plan := by
  unfold State.applySet
  refine plan_ite ?_ ?_
  · exact plan_statusBits.trans (plan_setF_region r (by simp))
  · exact (plan_statusBits.trans (plan_setF_region r (by simp))).trans (plan_setF_region r (by simp))

theorem plan_raiseVoltage {r} : (s.raiseVoltage r).plan = s.plan := by
  unfold State.raiseVoltage
  exact plan_applySet.trans (plan_setRegion rfl rfl)

theorem plan_replanEye {n lane} (h : lane < 2) : (s.replanEye n lane).plan = s.plan := by
  have low : RegTag.off .axlEye [n, lane] % 0x10000 < 0x1000 := by
    simp only [RegTag.off, RegTag.info, idxOff]
    omega
  unfold State.replanEye
  extract_lets l m s1 k s2 s3 s4 s5
  have measured : s1.plan = s.plan := ((plan_setF_low low).trans (plan_setF_low low)).trans plan_bump
  have counted : s2.plan = s.plan := ((plan_raise_link n (by simp)).trans plan_setLink).trans measured
  have raised : s3.plan = s.plan := plan_raiseVoltage.trans counted
  refine plan_ite rfl (plan_ite (plan_ite raised ?_) (plan_setLink.trans measured))
  exact (plan_mapLinks.trans plan_same).trans (plan_dropLane.trans raised)

/-! ## The ledger (R70) -/

/-- The entry that Granite writes next. -/
def State.ledgerEntry (s : State) (cause : Nat) : LedgerEntry :=
  { seq := BitVec.ofNat 32 (s.getF .telLedger [] 63 32 + 1),
    hours := BitVec.ofNat 32 (s.getF .telLedger [] 31 0 + (s.now - s.ledgerAt) / hourNs),
    mapVersion := s.flash.map.version, cause := BitVec.ofNat 32 cause, records := (List.range 84).map s.ledgerRecord }

/-- The flash with another ledger entry. -/
def Flash.addEntry (f : Flash) (e : LedgerEntry) : Flash :=
  if f.ledgerFirst.isNone then { f with ledgerFirst := some e } else { f with ledger := (e :: f.ledger).take ledgerRoom }

theorem Flash.addEntry_map (f : Flash) (e : LedgerEntry) : (f.addEntry e).map = f.map := by
  unfold Flash.addEntry
  split <;> rfl

/-- Writes of regions change the regions alone. -/
theorem foldl_setRegion (f : State → Nat → Region) (l : List Nat) (t : State) :
    ∃ rs, l.foldl (fun s r => s.setRegion r (f s r)) t = { t with regions := rs } := by
  induction l generalizing t with
  | nil => exact ⟨t.regions, rfl⟩
  | cons r l ih =>
    obtain ⟨rs, h⟩ := ih (t.setRegion r (f t r))
    exact ⟨rs, h⟩

theorem marks_foldl_setRegion {f : State → Nat → Region} (weak : ∀ t r, (f t r).weak = (t.region r).weak)
    (ignored : ∀ t r, (f t r).ignored = (t.region r).ignored) (l : List Nat) (t : State) :
    (l.foldl (fun s r => s.setRegion r (f s r)) t).marks = t.marks :=
  foldl_keeps (fun u : State => u.marks = t.marks) (fun s r => s.setRegion r (f s r))
    (fun u r h => (marks_setRegion (weak u r) (ignored u r)).trans h) l t rfl

/-- TEL.LEDGER as it shows the entry that is written next (R72). -/
def State.ledgerWord (s : State) : Word :=
  BitVec.ofNat 64 ((s.getF .telLedger [] 63 32 + 1) * 2 ^ 32 +
    (s.getF .telLedger [] 31 0 + (s.now - s.ledgerAt) / hourNs) % 2 ^ 32)

/-- An entry added to the ledger, with TEL.LEDGER and the time up to which powered hours are counted. -/
def State.addEntry (s : State) (e : LedgerEntry) (shown : Word) (since : Nat) : State :=
  ({ s with ledgerAt := since, flash := s.flash.addEntry e } : State).setReg .telLedger [] shown

/-- The time up to which powered hours are counted once an entry is written. -/
def State.ledgerSince (s : State) : Nat := s.ledgerAt + (s.now - s.ledgerAt) / hourNs * hourNs

theorem ledgerWrite_def (s : State) (cause : Nat) : s.ledgerWrite cause =
    (List.range 84).foldl (fun t r => t.setRegion r { t.region r with maxTemp := t.temp r })
      (s.addEntry (s.ledgerEntry cause) s.ledgerWord s.ledgerSince) := rfl

/-- A write of the ledger changes the flash, TEL.LEDGER, the hours counted, and the highest temperatures of the regions. -/
theorem ledgerWrite_eq (s : State) (cause : Nat) : ∃ rs, s.ledgerWrite cause =
    { s.addEntry (s.ledgerEntry cause) s.ledgerWord s.ledgerSince with regions := rs } := by
  rw [ledgerWrite_def]
  exact foldl_setRegion (fun t r => { t.region r with maxTemp := t.temp r }) _ _

theorem marks_addEntry {e shown since} : (s.addEntry e shown since).marks = s.marks := marks_congr rfl

theorem marks_ledgerWrite (cause : Nat) : (s.ledgerWrite cause).marks = s.marks := by
  rw [ledgerWrite_def]
  exact (marks_foldl_setRegion (f := fun t r => { t.region r with maxTemp := t.temp r }) (fun _ _ => rfl) (fun _ _ => rfl)
    _ _).trans marks_addEntry

theorem map_ledgerWrite (cause : Nat) : (s.ledgerWrite cause).flash.map = s.flash.map := by
  obtain ⟨rs, h⟩ := ledgerWrite_eq s cause
  rw [h]
  exact Flash.addEntry_map _ _

theorem regs_ledgerWrite (cause : Nat) : (s.ledgerWrite cause).regs = (s.setReg .telLedger [] s.ledgerWord).regs := by
  obtain ⟨rs, h⟩ := ledgerWrite_eq s cause
  rw [h]
  rfl

theorem running_addEntry {e shown since} : (s.addEntry e shown since).running = s.running := by
  have pcs : (s.addEntry e shown since).flash.map.pcs = s.flash.map.pcs := congrArg UnitMap.pcs (Flash.addEntry_map _ _)
  rw [State.running, pcs]
  rfl

theorem running_ledgerWrite (cause : Nat) : (s.ledgerWrite cause).running = s.running := by
  obtain ⟨rs, h⟩ := ledgerWrite_eq s cause
  have regions (t : State) : ({ t with regions := rs } : State).running = t.running := rfl
  rw [h, regions, running_addEntry]

/-! ## One region of a re-plan: what it leaves of the others (R65 to R68) -/

/-- The registers of a region. -/
def regionRegs : List RegTag := [.telRgSet, .telRgStatus, .telRgTaps, .telRgTelltale, .telRgMargin]

/-- A region's registers share 64 bytes of the control space. -/
theorem off_region {t : RegTag} (r : Nat) (h : t ∈ regionRegs) : t.off [r] / 64 = 0x200040 + r := by
  simp only [regionRegs, List.mem_cons, List.not_mem_nil, or_false] at h
  rcases h with rfl | rfl | rfl | rfl | rfl <;> simp only [RegTag.off, RegTag.info, idxOff] <;> omega

/-- A region as a re-plan reads it: its registers and its marks. -/
def State.rg (s : State) (r : Nat) : (Nat → Option Word) × Bool × List Nat :=
  (fun o => if o / 64 = 0x200040 + r then mfind s.regs o else none, s.marks r)

theorem reg_of_rg {t u : State} {x : Nat} {tag : RegTag} (h : t.rg x = u.rg x) (mem : tag ∈ regionRegs) :
    t.reg tag [x] = u.reg tag [x] := by
  have at_ := congrFun (congrArg Prod.fst h) (tag.off [x])
  simp only [State.rg, off_region x mem, if_true] at at_
  rw [State.reg, State.reg, mget_eq_mfind, mget_eq_mfind, at_]

theorem marks_of_rg {t u : State} {x : Nat} (h : t.rg x = u.rg x) : t.marks x = u.marks x := congrArg Prod.snd h

theorem rg_of {t : State} {x : Nat} (regs : t.regs = s.regs) (marks : t.marks x = s.marks x) : t.rg x = s.rg x := by
  rw [State.rg, State.rg, regs, marks]

theorem rg_setReg {t is v x} (h : t.off is / 64 ≠ 0x200040 + x) : (s.setReg t is v).rg x = s.rg x := by
  refine Prod.ext (funext fun o => ?_) rfl
  simp only [State.rg]
  by_cases ho : o / 64 = 0x200040 + x
  · rw [if_pos ho, if_pos ho, State.mfind_setReg_ne]
    rintro rfl
    exact h ho
  · rw [if_neg ho, if_neg ho]

theorem rg_raise {e is x} (hr : e.info.1.off is / 64 < 0x200040) (hc : e.info.2.2.off (e.counterIdx is) / 64 < 0x200040) :
    (s.raise e is).rg x = s.rg x := by
  rw [raise_eq, rg_setReg (by omega), rg_setReg (by omega)]

theorem rg_ite {c : Prop} [Decidable c] {t u : State} {x : Nat} (ht : t.rg x = s.rg x) (hu : u.rg x = s.rg x) :
    (if c then t else u).rg x = s.rg x := by
  split <;> assumption

theorem marks_setReg {t is v} : (s.setReg t is v).marks = s.marks := rfl

theorem rg_ledgerWrite {cause x : Nat} : (s.ledgerWrite cause).rg x = s.rg x := by
  have shown (w : Word) : (s.setReg .telLedger [] w).rg x = s.rg x :=
    rg_setReg (by simp only [RegTag.off, RegTag.info, idxOff]; omega)
  rw [← shown s.ledgerWord]
  exact rg_of (regs_ledgerWrite cause) (by rw [marks_ledgerWrite, marks_setReg])

section
variable {r x : Nat} (ne : x ≠ r)
include ne

theorem rg_setF_other {t hi lo v} (h : t ∈ regionRegs) : (s.setF t [r] hi lo v).rg x = s.rg x :=
  rg_setReg (by rw [off_region r h]; omega)

theorem rg_setRegion_other {g} : (s.setRegion r g).rg x = s.rg x :=
  rg_of rfl (by rw [State.marks, State.region_setRegion_ne _ _ ne, State.marks])

theorem rg_applySet_other : (s.applySet r).rg x = s.rg x := by
  have status {t : State} : (t.statusBits r).rg x = t.rg x := by
    unfold State.statusBits
    exact (rg_setF_other ne (by simp [regionRegs])).trans (rg_setF_other ne (by simp [regionRegs]))
  unfold State.applySet
  refine rg_ite ?_ ?_
  · exact status.trans (rg_setF_other ne (by simp [regionRegs]))
  · exact (status.trans (rg_setF_other ne (by simp [regionRegs]))).trans (rg_setF_other ne (by simp [regionRegs]))

theorem rg_raiseVoltage_other : (s.raiseVoltage r).rg x = s.rg x := by
  unfold State.raiseVoltage
  exact (rg_applySet_other ne).trans (rg_setRegion_other ne)

theorem rg_markWeak_other : (s.markWeak r).rg x = s.rg x := by
  unfold State.markWeak
  extract_lets g s1
  have marked : s1.rg x = s.rg x := rg_setRegion_other ne
  have mapped {f} : (s1.changeMap f).rg x = s1.rg x := rg_of rfl (congrFun (marks_congr rfl) x)
  have counted {t : State} : (t.raise .telWeak).rg x = t.rg x := rg_raise (by decide) (by decide)
  exact ((rg_ledgerWrite.trans counted).trans mapped).trans marked

theorem rg_replanWeak_other : (s.replanWeak r).rg x = s.rg x := by
  unfold State.replanWeak
  extract_lets low n s1
  have counted : s1.rg x = s.rg x := rg_setF_other ne (by simp [regionRegs])
  exact rg_ite rfl (rg_ite ((rg_markWeak_other ne).trans counted) counted)

theorem rg_replanMargin_other : (s.replanMargin r).rg x = s.rg x := by
  unfold State.replanMargin
  extract_lets below s1 v remain
  have flagged : s1.rg x = s.rg x := rg_ite (rg_raise (by decide) (by decide)) rfl
  exact rg_ite flagged ((rg_setF_other ne (by simp [regionRegs])).trans flagged)

/-- A region's re-plan leaves every other region as it is. -/
theorem rg_replanRegion_other : (s.replanRegion r).rg x = s.rg x := by
  unfold State.replanRegion
  extract_lets s1
  have raised : s1.rg x = s.rg x := rg_ite (rg_raiseVoltage_other ne) rfl
  have taps : (s1.replanTaps r).rg x = s1.rg x := rg_setF_other ne (by simp [regionRegs])
  have disable {t : State} : (t.replanDisable r).rg x = t.rg x := rg_setRegion_other ne
  exact (((rg_replanMargin_other ne).trans disable).trans (rg_replanWeak_other ne)).trans (taps.trans raised)

end

/-! ## One region of a re-plan: weak clusters (R19, R66) -/

/-- No cluster changes its state between two maps but from good to weak. -/
def UnitMap.weakens (m n : UnitMap) : Prop :=
  ∀ p, n.cluster p = m.cluster p ∨ (m.cluster p = .good ∧ n.cluster p = .weak)

theorem UnitMap.weakens_refl (m : UnitMap) : m.weakens m := fun _ => .inl rfl

theorem UnitMap.weakens.trans {m n k : UnitMap} (h : m.weakens n) (h' : n.weakens k) : m.weakens k := by
  intro p
  rcases h p with same | ⟨good, weak⟩
  · rw [← same]
    exact h' p
  · rcases h' p with same | ⟨good', -⟩
    · exact .inr ⟨good, same.trans weak⟩
    · rw [weak] at good'
      cases good'

theorem UnitMap.weakens.keeps_weak {m n : UnitMap} {p : Nat} (h : m.weakens n) (weak : m.cluster p = .weak) :
    n.cluster p = .weak := by
  rcases h p with same | ⟨good, -⟩
  · rw [same, weak]
  · rw [weak] at good
    cases good

theorem UnitMap.cluster_weaken (m : UnitMap) (p q : Nat) :
    (m.weaken p).cluster q = if q = p ∧ m.cluster p = .good then .weak else m.cluster q := by
  unfold UnitMap.weaken
  by_cases good : m.cluster p = .good
  · by_cases same : q = p
    · subst same
      rw [if_pos good, if_pos ⟨rfl, good⟩]
      exact mget_minsert_same ..
    · rw [if_pos good, if_neg (fun h => same h.1)]
      exact mget_minsert_ne _ _ _ same
  · rw [if_neg good, if_neg (fun h => good h.2)]

theorem UnitMap.weakens_weaken (m : UnitMap) (p : Nat) : m.weakens (m.weaken p) := by
  intro q
  rw [cluster_weaken]
  split
  next h =>
    obtain ⟨rfl, good⟩ := h
    exact .inr ⟨good, rfl⟩
  next => exact .inl rfl

theorem UnitMap.weakens_foldl (m : UnitMap) (l : List Nat) : m.weakens (l.foldl UnitMap.weaken m) :=
  foldl_keeps m.weakens UnitMap.weaken (fun n p h => h.trans (n.weakens_weaken p)) l m m.weakens_refl

theorem UnitMap.foldl_weaken_marks {l : List Nat} {p : Nat} (hp : p ∈ l) (m : UnitMap) (good : m.cluster p = .good) :
    (l.foldl UnitMap.weaken m).cluster p = .weak := by
  induction l generalizing m with
  | nil => cases hp
  | cons q l ih =>
    rw [List.foldl_cons]
    by_cases same : p = q
    · subst same
      refine (weakens_foldl (m.weaken p) l).keeps_weak ?_
      rw [cluster_weaken, if_pos ⟨rfl, good⟩]
    · refine ih ((List.mem_cons.1 hp).resolve_left same) _ ?_
      rw [cluster_weaken, if_neg (fun h => same h.1), good]

theorem UnitMap.pcs_foldl_weaken (m : UnitMap) (l : List Nat) : (l.foldl UnitMap.weaken m).pcs = m.pcs := by
  have step (n : UnitMap) (p : Nat) : (n.weaken p).pcs = n.pcs := by
    unfold UnitMap.weaken
    split <;> rfl
  exact foldl_keeps (fun n => n.pcs = m.pcs) UnitMap.weaken (fun n p h => (step n p).trans h) l m rfl

/-! ## One region of a re-plan: what it does -/

theorem running_setF {t is hi lo v} : (s.setF t is hi lo v).running = s.running := rfl

theorem region_setF {t is hi lo v r} : (s.setF t is hi lo v).region r = s.region r := rfl

theorem running_of_plan {t : State} (h : t.plan = s.plan) : t.running = s.running := (plan_eq_iff.1 h).1

theorem taps_of_plan {t : State} (h : t.plan = s.plan) {x : Nat} (hx : x < 84) :
    t.reg .telRgTaps [x] = s.reg .telRgTaps [x] := by
  obtain ⟨-, -, -, taps⟩ := plan_eq_iff.1 h
  exact taps x hx

theorem marks_of_plan {t : State} (h : t.plan = s.plan) : t.marks = s.marks := by
  obtain ⟨-, -, marks, -⟩ := plan_eq_iff.1 h
  exact marks

theorem weakens_of_plan {t : State} (h : t.plan = s.plan) : s.flash.map.weakens t.flash.map := by
  obtain ⟨-, clusters, -⟩ := plan_eq_iff.1 h
  intro p
  rw [UnitMap.cluster, UnitMap.cluster, clusters]
  exact .inl rfl

theorem plan_replanDisable {r} : (s.replanDisable r).plan = s.plan := by
  unfold State.replanDisable
  exact plan_setRegion rfl rfl

theorem plan_replanMargin {r} : (s.replanMargin r).plan = s.plan := by
  unfold State.replanMargin
  extract_lets below s1 v remain
  have flagged : s1.plan = s.plan := plan_ite (plan_raise (by decide) (by decide)) rfl
  exact plan_ite flagged ((plan_setF_region r (by simp)).trans flagged)

theorem cluster_changeMap (f : UnitMap → UnitMap) (p : Nat) :
    (s.changeMap f).flash.map.cluster p = (f s.flash.map).cluster p := rfl

theorem cluster_markWeak {r} (p : Nat) :
    (s.markWeak r).flash.map.cluster p = ((regionClusters r).foldl UnitMap.weaken s.flash.map).cluster p := by
  unfold State.markWeak
  rw [map_ledgerWrite, State.raise_flash, cluster_changeMap, State.setRegion_flash]

theorem running_markWeak {r} : (s.markWeak r).running = s.running := by
  unfold State.markWeak
  extract_lets g s1
  rw [running_ledgerWrite]
  have counted {t : State} : (t.raise .telWeak).running = t.running := rfl
  have mapped {t : State} {f : UnitMap → UnitMap} (pcs : (f t.flash.map).pcs = t.flash.map.pcs) :
      (t.changeMap f).running = t.running :=
    congrArg (fun ps => (t.cores, t.jobs, t.placement, t.tallies, ps, t.point)) pcs
  rw [counted, mapped (UnitMap.pcs_foldl_weaken _ _)]
  rfl

theorem marks_markWeak {r} : (s.markWeak r).marks r = (true, (s.region r).ignored) := by
  unfold State.markWeak
  extract_lets g s1
  rw [marks_ledgerWrite]
  have marks : s1.marks r = (true, (s.region r).ignored) := by
    rw [State.marks, State.region_setRegion_same]
  exact marks

theorem taps_markWeak {r x} (h : x < 84) : (s.markWeak r).reg .telRgTaps [x] = s.reg .telRgTaps [x] := by
  unfold State.markWeak
  extract_lets g s1
  have shown {t : State} : (t.ledgerWrite 2).reg .telRgTaps [x] = t.reg .telRgTaps [x] := by
    rw [State.reg, regs_ledgerWrite]
    exact State.reg_setReg_ne _ _ (taps_off_ne (by decide) x h)
  have counted {t : State} : (t.raise .telWeak).reg .telRgTaps [x] = t.reg .telRgTaps [x] :=
    reg_raise (taps_off_ne (by decide) x h) (taps_off_ne (by decide) x h)
  rw [shown, counted]
  rfl

/-- The third re-plan of a region in this state marks it weak (R66). -/
def State.turnsWeak (s : State) (r : Nat) : Prop :=
  isClusterRegion r = true ∧ s.point ≠ 0 ∧ s.atCeiling r = true ∧ s.rate r < minRate r ∧
  2 ≤ s.getF .telRgMargin [r] 23 16 ∧ (s.region r).weak = false

/-- A region's re-plan counts, and marks the region weak or leaves it. -/
theorem replanWeak_cases (s : State) (r : Nat) : (s.replanWeak r).plan = s.plan ∧ ¬ s.turnsWeak r ∨
    ∃ n, s.replanWeak r = (s.setF .telRgMargin [r] 23 16 n).markWeak r := by
  unfold State.replanWeak State.turnsWeak
  by_cases economy : s.point = 0
  · rw [if_pos economy]
    exact .inl ⟨rfl, fun ⟨_, powered, _⟩ => powered economy⟩
  · rw [if_neg economy]
    extract_lets low n s1
    split
    · exact .inr ⟨n, rfl⟩
    next stays =>
      refine .inl ⟨plan_setF_region r (by simp), fun ⟨cluster, _, ceiling, slow, twice, good⟩ => stays ?_⟩
      have counted : n = min 255 (s.getF .telRgMargin [r] 23 16 + 1) := by simp [n, low, ceiling, slow]
      have third : 3 ≤ n := by omega
      have unmarked : (s1.region r).weak = false := by rw [region_setF, good]
      simp [cluster, third, unmarked]

theorem running_replanWeak {r} : (s.replanWeak r).running = s.running := by
  rcases replanWeak_cases s r with ⟨same, -⟩ | ⟨n, h⟩
  · exact running_of_plan same
  · rw [h, running_markWeak, running_setF]

theorem weakens_replanWeak {r} : s.flash.map.weakens (s.replanWeak r).flash.map := by
  rcases replanWeak_cases s r with ⟨same, -⟩ | ⟨n, h⟩
  · exact weakens_of_plan same
  · intro p
    rw [h, cluster_markWeak, State.setF_flash]
    exact UnitMap.weakens_foldl s.flash.map (regionClusters r) p

theorem taps_replanWeak {r x} (h : x < 84) : (s.replanWeak r).reg .telRgTaps [x] = s.reg .telRgTaps [x] := by
  rcases replanWeak_cases s r with ⟨same, -⟩ | ⟨n, e⟩
  · exact taps_of_plan same h
  · have counted : (s.setF .telRgMargin [r] 23 16 n).plan = s.plan := plan_setF_region r (by simp)
    rw [e, taps_markWeak h, taps_of_plan counted h]

/-- The first step of a region's re-plan raises a voltage and leaves the plan alone (R65). -/
theorem plan_raiseIf {r} : (if !s.rateLoop r && decide (s.rate r < minRate r) then s.raiseVoltage r else s).plan = s.plan :=
  plan_ite plan_raiseVoltage rfl

theorem running_replanRegion {r} : (s.replanRegion r).running = s.running := by
  unfold State.replanRegion
  extract_lets s1
  have raised : s1.running = s.running := running_of_plan plan_raiseIf
  have taps : (s1.replanTaps r).running = s1.running := running_setF
  rw [running_of_plan plan_replanMargin, running_of_plan plan_replanDisable, running_replanWeak, taps, raised]

theorem weakens_replanRegion {r} : s.flash.map.weakens (s.replanRegion r).flash.map := by
  unfold State.replanRegion
  extract_lets s1
  have raised : s.flash.map.weakens s1.flash.map := weakens_of_plan plan_raiseIf
  have taps : s1.flash.map.weakens (s1.replanTaps r).flash.map := UnitMap.weakens_refl _
  exact (raised.trans taps).trans
    (weakens_replanWeak.trans ((weakens_of_plan plan_replanDisable).trans (weakens_of_plan plan_replanMargin)))

theorem logicDelay_congr {t : State} {r : Nat} (regs : t.reg .telRgTelltale [r] = s.reg .telRgTelltale [r])
    (ignored : (t.region r).ignored = (s.region r).ignored) : t.logicDelay r = s.logicDelay r := by
  rw [State.logicDelay, State.logicDelay, ignored]
  simp only [State.getF, regs]

theorem logicDelay_setF_ne {t is hi lo v r} (h : RegTag.off .telRgTelltale [r] ≠ t.off is) :
    (s.setF t is hi lo v).logicDelay r = s.logicDelay r :=
  logicDelay_congr (State.reg_setReg_ne _ _ h) rfl

theorem logicDelay_statusBits {r} : (s.statusBits r).logicDelay r = s.logicDelay r := by
  unfold State.statusBits
  exact (logicDelay_setF_ne (by simp [RegTag.off, RegTag.info])).trans
    (logicDelay_setF_ne (by simp [RegTag.off, RegTag.info]))

theorem logicDelay_applySet {r} : (s.applySet r).logicDelay r = s.logicDelay r := by
  unfold State.applySet
  extract_lets g low v
  split
  · exact logicDelay_statusBits.trans (logicDelay_setF_ne (by simp [RegTag.off, RegTag.info]))
  · exact (logicDelay_statusBits.trans (logicDelay_setF_ne (by simp [RegTag.off, RegTag.info]))).trans
      (logicDelay_setF_ne (by simp [RegTag.off, RegTag.info]))

theorem logicDelay_raiseVoltage {r} : (s.raiseVoltage r).logicDelay r = s.logicDelay r := by
  unfold State.raiseVoltage
  exact logicDelay_applySet.trans (logicDelay_congr rfl (by rw [State.region_setRegion_same]))

theorem fld_ofNat_putBits (n hi lo v : Nat) (h : lo ≤ hi + 1) (width : hi < 64) :
    fld (BitVec.ofNat 64 (putBits n hi lo v)) hi lo = v % 2 ^ (hi + 1 - lo) := by
  rw [← bits_putBits n hi lo v h, fld, BitVec.toNat_ofNat]
  refine Nat.eq_of_testBit_eq fun i => ?_
  simp only [bits, Nat.testBit_mod_two_pow, Nat.testBit_shiftRight]
  by_cases inside : i < hi + 1 - lo
  · have below : lo + i < 64 := by omega
    simp [below]
  · simp [inside]

theorem getF_setF_same {t is hi lo v} (h : lo ≤ hi + 1) (width : hi < 64) :
    (s.setF t is hi lo v).getF t is hi lo = v % 2 ^ (hi + 1 - lo) := by
  rw [State.getF, State.setF, State.reg_setReg_same, fld_ofNat_putBits _ _ _ _ h width]

/-- A region's re-plan sets its taps to the largest logic delay plus the guard, at most 255 (R65). -/
theorem taps_replanRegion {r : Nat} (h : r < 84) : (s.replanRegion r).getF .telRgTaps [r] 7 0 =
    min 255 (s.logicDelay r + s.getF .telRgTaps [r] 23 16) := by
  unfold State.replanRegion
  extract_lets s1
  have delay : s1.logicDelay r = s.logicDelay r := by
    unfold s1
    split
    · exact logicDelay_raiseVoltage
    · rfl
  have guard : s1.getF .telRgTaps [r] 23 16 = s.getF .telRgTaps [r] 23 16 := by
    rw [State.getF, taps_of_plan plan_raiseIf h, State.getF]
  have later (t : State) : (((t.replanWeak r).replanDisable r).replanMargin r).getF .telRgTaps [r] 7 0 =
      t.getF .telRgTaps [r] 7 0 := by
    rw [State.getF, taps_of_plan plan_replanMargin h, taps_of_plan plan_replanDisable h, taps_replanWeak h, State.getF]
  rw [later, State.replanTaps, getF_setF_same (by decide) (by decide), delay, guard]
  omega

/-- A region in the rate loop that turns weak is marked, and its good clusters are (R66). -/
theorem replanRegion_turnsWeak {r : Nat} (loop : s.rateLoop r = true) (h : s.turnsWeak r) :
    ((s.replanRegion r).region r).weak = true ∧
    ∀ p ∈ regionClusters r, s.flash.map.cluster p = .good → (s.replanRegion r).flash.map.cluster p = .weak := by
  have still : (s.replanTaps r).turnsWeak r := by
    have reg {t : RegTag} (ht : t = .telRgStatus ∨ t = .telRgMargin) : (s.replanTaps r).reg t [r] = s.reg t [r] := by
      refine State.reg_setReg_ne _ _ ?_
      rcases ht with rfl | rfl <;> simp [RegTag.off, RegTag.info]
    unfold State.turnsWeak State.atCeiling State.rate State.getF at h ⊢
    rw [reg (.inl rfl), reg (.inr rfl)]
    exact h
  unfold State.replanRegion
  rw [loop]
  simp only [Bool.not_true, Bool.false_and, Bool.false_eq_true, if_false]
  rcases replanWeak_cases (s.replanTaps r) r with ⟨-, stays⟩ | ⟨n, e⟩
  · exact absurd still stays
  · rw [e]
    have marks (t : State) : ((t.replanDisable r).replanMargin r).marks = t.marks :=
      (marks_of_plan plan_replanMargin).trans (marks_of_plan plan_replanDisable)
    have map (t : State) : t.flash.map.weakens ((t.replanDisable r).replanMargin r).flash.map :=
      (weakens_of_plan plan_replanDisable).trans (weakens_of_plan plan_replanMargin)
    generalize hu : (s.replanTaps r).setF .telRgMargin [r] 23 16 n = u
    have same : u.flash.map = s.flash.map := by rw [← hu, State.setF_flash, State.replanTaps, State.setF_flash]
    refine ⟨?_, fun p hp good => (map _).keeps_weak ?_⟩
    · have marked := (congrFun (marks (u.markWeak r)) r).trans marks_markWeak
      exact congrArg Prod.fst marked
    · rw [cluster_markWeak, same]
      exact UnitMap.foldl_weaken_marks hp s.flash.map good

/-! ## The whole of a re-plan (R65, R66, R323) -/

theorem running_foldl_replanRegion (l : List Nat) : (l.foldl State.replanRegion s).running = s.running :=
  foldl_keeps (fun t => t.running = s.running) State.replanRegion (fun _ _ h => running_replanRegion.trans h) l s rfl

theorem weakens_foldl_replanRegion (l : List Nat) : s.flash.map.weakens (l.foldl State.replanRegion s).flash.map :=
  foldl_keeps (fun t => s.flash.map.weakens t.flash.map) State.replanRegion (fun _ _ h => h.trans weakens_replanRegion) l s
    s.flash.map.weakens_refl

theorem rg_foldl_others {l : List Nat} {x : Nat} (h : x ∉ l) : (l.foldl State.replanRegion s).rg x = s.rg x := by
  induction l generalizing s with
  | nil => rfl
  | cons r l ih =>
    obtain ⟨ne, rest⟩ := not_or.1 (mt List.mem_cons.2 h)
    exact (ih rest).trans (rg_replanRegion_other ne)

/-- In a re-plan of the regions each has one turn: it finds itself as it was at first, and stays as its turn leaves it. -/
theorem exists_turn {l : List Nat} (nodup : l.Nodup) {r : Nat} (hr : r ∈ l) : ∃ u : State,
    u.rg r = s.rg r ∧ u.running = s.running ∧ s.flash.map.weakens u.flash.map ∧
    (l.foldl State.replanRegion s).rg r = (u.replanRegion r).rg r ∧
    (u.replanRegion r).flash.map.weakens (l.foldl State.replanRegion s).flash.map := by
  obtain ⟨before, after, rfl⟩ := List.append_of_mem hr
  obtain ⟨-, nodupAfter, apart⟩ := List.nodup_append.1 nodup
  obtain ⟨notAfter, -⟩ := List.nodup_cons.1 nodupAfter
  have notBefore : r ∉ before := fun h => apart r h r List.mem_cons_self rfl
  rw [List.foldl_append, List.foldl_cons]
  exact ⟨before.foldl State.replanRegion s, rg_foldl_others notBefore, running_foldl_replanRegion _,
    weakens_foldl_replanRegion _, rg_foldl_others notAfter, weakens_foldl_replanRegion _⟩

theorem getF_of_rg {t : State} {r : Nat} {tag : RegTag} (h : t.rg r = s.rg r) (mem : tag ∈ regionRegs) (hi lo : Nat) :
    t.getF tag [r] hi lo = s.getF tag [r] hi lo := by
  rw [State.getF, reg_of_rg h mem, State.getF]

theorem logicDelay_of_rg {t : State} {r : Nat} (h : t.rg r = s.rg r) : t.logicDelay r = s.logicDelay r :=
  logicDelay_congr (reg_of_rg h (by simp [regionRegs])) (congrArg Prod.snd (marks_of_rg h))

theorem turnsWeak_of_rg {t : State} {r : Nat} (h : t.rg r = s.rg r) (point : t.point = s.point) :
    t.turnsWeak r ↔ s.turnsWeak r := by
  have weak : (t.region r).weak = (s.region r).weak := congrArg Prod.fst (marks_of_rg h)
  simp only [State.turnsWeak, State.atCeiling, State.rate, point, weak,
    getF_of_rg h (tag := .telRgStatus) (by simp [regionRegs]), getF_of_rg h (tag := .telRgMargin) (by simp [regionRegs])]

theorem running_eq_iff {s t : State} : t.running = s.running ↔ t.cores = s.cores ∧ t.jobs = s.jobs ∧
    t.placement = s.placement ∧ t.tallies = s.tallies ∧ t.flash.map.pcs = s.flash.map.pcs ∧ t.point = s.point := by
  simp [State.running]

theorem weak_eq_marks (s : State) (r : Nat) : (s.region r).weak = (s.marks r).1 := rfl

/-- The state that GRANITE_REPLAN leaves. -/
def State.replanned (s : State) : State :=
  (List.range 48).foldl (fun s n => (s.replanEye n 0).replanEye n 1) ((List.range 84).foldl State.replanRegion s)

theorem plan_replanned : s.replanned.plan = ((List.range 84).foldl State.replanRegion s).plan :=
  plan_foldl (fun _ _ => (plan_replanEye (by decide)).trans (plan_replanEye (by decide))) _

theorem running_replanned : s.replanned.running = s.running :=
  (running_of_plan plan_replanned).trans (running_foldl_replanRegion _)

theorem weakens_replanned : s.flash.map.weakens s.replanned.flash.map :=
  (weakens_foldl_replanRegion _).trans (weakens_of_plan plan_replanned)

theorem taps_replanned {r : Nat} (h : r < 84) : s.replanned.getF .telRgTaps [r] 7 0 =
    min 255 (s.logicDelay r + s.getF .telRgTaps [r] 23 16) := by
  obtain ⟨u, found, -, -, left, -⟩ := exists_turn (s := s) List.nodup_range (List.mem_range.2 h)
  have taps : RegTag.telRgTaps ∈ regionRegs := by simp [regionRegs]
  rw [State.getF, taps_of_plan plan_replanned h, ← State.getF, getF_of_rg left taps, taps_replanRegion h,
    logicDelay_of_rg found, getF_of_rg found taps]

theorem replanned_turnsWeak {r : Nat} (hr : r < 84) (loop : s.rateLoop r = true) (h : s.turnsWeak r) :
    (s.replanned.region r).weak = true ∧
    ∀ p ∈ regionClusters r, s.flash.map.cluster p = .good → s.replanned.flash.map.cluster p = .weak := by
  obtain ⟨u, found, running, before, left, after⟩ := exists_turn (s := s) List.nodup_range (List.mem_range.2 hr)
  have loop' : u.rateLoop r = true := by
    rw [State.rateLoop, getF_of_rg found (by simp [regionRegs])]
    exact loop
  obtain ⟨-, -, -, -, -, point⟩ := running_eq_iff.1 running
  obtain ⟨weak, clusters⟩ := replanRegion_turnsWeak loop' ((turnsWeak_of_rg found point).2 h)
  refine ⟨?_, fun p hp good => ?_⟩
  · rw [weak_eq_marks, marks_of_plan plan_replanned, marks_of_rg left]
    exact weak
  · refine (after.trans (weakens_of_plan plan_replanned)).keeps_weak ?_
    rcases before p with same | ⟨-, already⟩
    · exact clusters p hp (same.trans good)
    · exact weakens_replanRegion.keeps_weak already

/-! ## What a ledger entry shows (R70, R92) -/

theorem Flash.mem_addEntry (f : Flash) (e : LedgerEntry) :
    if f.ledgerFirst.isNone then (f.addEntry e).ledgerFirst = some e else (f.addEntry e).ledger.head? = some e := by
  unfold Flash.addEntry
  split
  · rfl
  · have room : ledgerRoom ≠ 0 := by decide
    exact List.head?_take.trans (if_neg room)

theorem ledgerWord_eq (s : State) (cause : Nat) : s.ledgerWord =
    BitVec.ofNat 64 ((s.ledgerEntry cause).seq.toNat * 2 ^ 32 + (s.ledgerEntry cause).hours.toNat) := by
  refine BitVec.eq_of_toNat_eq ?_
  simp only [State.ledgerWord, State.ledgerEntry, BitVec.toNat_ofNat]
  omega

/-- Everything but the registers, the regions, the flash and the count of hours. -/
theorem addEntry_frame (s : State) (e : LedgerEntry) (shown : Word) (since : Nat) (rs : SMap Region) :
    { ({ s.addEntry e shown since with regions := rs } : State) with
      regs := s.regs, regions := s.regions, flash := s.flash, ledgerAt := s.ledgerAt } = s := rfl

theorem regsBut_setReg (s : State) (t : RegTag) (is : List Nat) (v : Word) : regsBut s (s.setReg t is v) [t.off is] :=
  fun _ ho => State.mfind_setReg_ne s t is v (fun e => ho (List.mem_singleton.2 e))

theorem ledgerWrite_periodic (s : State) : ∃ e : LedgerEntry,
    (if s.flash.ledgerFirst.isNone then (s.ledgerWrite 1).flash.ledgerFirst = some e
      else (s.ledgerWrite 1).flash.ledger.head? = some e) ∧
    e = s.ledgerEntry 1 ∧
    (s.ledgerWrite 1).reg .telLedger = BitVec.ofNat 64 (e.seq.toNat * 2 ^ 32 + e.hours.toNat) ∧
    regsBut s (s.ledgerWrite 1) [RegTag.telLedger.off []] ∧
    { s.ledgerWrite 1 with regs := s.regs, regions := s.regions, flash := s.flash, ledgerAt := s.ledgerAt } = s := by
  obtain ⟨rs, h⟩ := ledgerWrite_eq s 1
  have flash : (s.ledgerWrite 1).flash = s.flash.addEntry (s.ledgerEntry 1) := by rw [h]; rfl
  refine ⟨s.ledgerEntry 1, ?_, rfl, ?_, ?_, ?_⟩
  · rw [flash]
    exact Flash.mem_addEntry _ _
  · rw [← ledgerWord_eq, State.reg, regs_ledgerWrite]
    exact State.reg_setReg_same _ _ _ _
  · rw [regsBut, regs_ledgerWrite]
    exact regsBut_setReg _ _ _ _
  · rw [h]
    exact addEntry_frame _ _ _ _ _

end Sys2Proof.Machine

namespace Sys2Proof

open Machine Claims

/-- Settles O9: each region has one turn in a re-plan, in which it finds itself as it was; the eye checks after it leave
taps, marks and cluster states alone. The ledger's clauses are what one write of it does. -/
theorem replanLedgerAndPointCommands : Obligations.ReplanLedgerAndPointCommands := by
  unfold Obligations.ReplanLedgerAndPointCommands
  refine ⟨?replan, ?periodic, fun _ => rfl, ?read, ?point⟩
  case replan =>
    intro s
    obtain ⟨cores, jobs, placement, tallies, pcs, -⟩ := running_eq_iff.1 (running_replanned (s := s))
    refine ⟨s.replanned, rfl, fun r => taps_replanned, ?_, weakens_replanned, pcs, cores, jobs, placement, tallies⟩
    intro r hr cluster loop point ceiling slow twice unmarked
    have slow' : s.rate r < minRate r := by rwa [minRate, if_pos hr]
    exact replanned_turnsWeak (by omega) loop ⟨cluster, point, ceiling, slow', twice, unmarked⟩
  case periodic =>
    intro s
    obtain ⟨e, newest, rfl, shown, regs, frame⟩ := ledgerWrite_periodic s
    exact ⟨s.ledgerWrite 1, s.ledgerEntry 1, rfl, newest, rfl, rfl, rfl, rfl, rfl, shown, regs, frame⟩
  case read =>
    intro s q seq c ⟨started, op, wait⟩ reachable
    have run : exec (.ledgerRead q seq) s = execLedgerRead q seq s := rfl
    rw [run, execLedgerRead, State.runCmd_of_ready _ started op wait, reachable, if_neg Bool.false_ne_true,
      List.length_take]
  case point =>
    intro s q seq c ⟨started, op, wait⟩
    have run : exec (.opPoint q seq) s = execOpPoint q seq s := rfl
    rw [run, execOpPoint, State.runCmd_of_ready _ started op wait, State.opRequest]
    split <;> rfl

end Sys2Proof

/-! # Elastic time: the reference clock, the voltage regions, operating points and the power and thermal limits -/

namespace Sys2Proof.Machine

variable {s : State}

/-! ## The reference clock (R55) -/

/-- The state at a time and a phase of the reference clock. -/
def State.atEdge (s : State) (now : Word) (phase : Nat) : State :=
  { s with clock := { s.clock with now := now, phase := phase } }

theorem step_of_idle (idle : s.pending = []) : step s = .next s.tick := by
  unfold step
  rw [idle]

theorem tick_of_running (on : (s.package.power && s.package.refclk) = true) :
    s.tick = s.atEdge (s.clock.now + BitVec.ofNat 64 (edgeNs s.clock.phase)) ((s.clock.phase + 1) % 5) := if_pos on

theorem tick_of_stopped (off : (s.package.power && s.package.refclk) = false) : s.tick = s :=
  if_neg (ne_true_of_eq_false off)

theorem edgeNs_word (phase : Nat) : BitVec.ofNat 64 (edgeNs phase) = if phase % 2 = 1 then 7 else 6 := by
  unfold edgeNs
  split <;> rfl

/-- A step of an idle node that runs is one edge, wherever the clock stands. -/
theorem step_atEdge (idle : s.pending = []) (on : (s.package.power && s.package.refclk) = true) (now : Word) (phase : Nat) :
    step (s.atEdge now phase) = .next (s.atEdge (now + BitVec.ofNat 64 (edgeNs phase)) ((phase + 1) % 5)) :=
  (step_of_idle (s := s.atEdge now phase) idle).trans (congrArg Host.Outcome.next (tick_of_running (s := s.atEdge now phase) on))

end Sys2Proof.Machine

namespace Sys2Proof

open Machine Claims

/-- Settles O2: an idle node stays the same but for the clock, so five edges chain from phase 0. -/
theorem idleStepIsReferenceEdge : Obligations.IdleStepIsReferenceEdge := by
  unfold Obligations.IdleStepIsReferenceEdge
  refine ⟨?edge, ?stopped, ?five⟩
  case edge =>
    intro s idle on
    refine ⟨s.tick, step_of_idle idle, ?_⟩
    rw [tick_of_running on, edgeNs_word]
    exact ⟨rfl, rfl, rfl, rfl⟩
  case stopped =>
    intro s idle off
    rw [step_of_idle idle, tick_of_stopped off]
  case five =>
    intro s idle on first
    have start : s = s.atEdge s.clock.now 0 := by rw [← first]; rfl
    have edge := step_atEdge idle on
    refine ⟨_, _, _, _, _, (congrArg step start).trans (edge _ 0), edge _ 1, edge _ 2, edge _ 3, edge _ 4, ?_⟩
    have sum : s.clock.now + 6 + 7 + 6 + 7 + 6 = s.clock.now + 32 := by bv_omega
    exact (congrArg (s.atEdge · 0) sum).trans (by rw [← first]; rfl)

end Sys2Proof

namespace Sys2Proof.Machine

open Claims

variable {s t u : State}

/-! ## Fields of one register beside each other -/

/-- A number with a field replaced, cut at the field. -/
theorem putBits_eq (n hi lo v : Nat) (h : lo ≤ hi + 1) : putBits n hi lo v =
    2 ^ lo * (2 ^ (hi + 1 - lo) * (n / 2 ^ (hi + 1)) + v % 2 ^ (hi + 1 - lo)) + n % 2 ^ lo := by
  have cut := cut_at_bits n hi lo h
  have width : 2 ^ (hi + 1) = 2 ^ lo * 2 ^ (hi + 1 - lo) := by
    rw [← pow_add, Nat.add_sub_cancel' h]
  have rest : n - bits n hi lo * 2 ^ lo = n / 2 ^ (hi + 1) * 2 ^ (hi + 1) + n % 2 ^ lo := by omega
  rw [putBits, rest, width]
  ring

theorem testBit_putBits (n hi lo v i : Nat) (h : lo ≤ hi + 1) : (putBits n hi lo v).testBit i =
    if lo ≤ i ∧ i ≤ hi then v.testBit (i - lo) else n.testBit i := by
  rw [putBits_eq n hi lo v h, Nat.testBit_two_pow_mul_add _ (Nat.mod_lt n (Nat.two_pow_pos lo)), Nat.testBit_mod_two_pow]
  by_cases below : i < lo
  · simp [below, Nat.not_le.2 below]
  · rw [if_neg below, Nat.testBit_two_pow_mul_add _ (Nat.mod_lt v (Nat.two_pow_pos _)), Nat.testBit_mod_two_pow,
      Nat.testBit_div_two_pow]
    by_cases inside : i ≤ hi
    · rw [if_pos (by omega), if_pos (by omega), decide_eq_true (by omega), Bool.true_and]
    · rw [if_neg (by omega), if_neg (by omega)]
      congr 1
      omega

theorem fld_ofNat_putBits_apart (w : Word) {hi lo hi' lo' : Nat} (v : Nat) (h : lo ≤ hi + 1)
    (apart : hi' < lo ∨ hi < lo') : fld (BitVec.ofNat 64 (putBits w.toNat hi lo v)) hi' lo' = fld w hi' lo' := by
  rw [fld, fld, BitVec.toNat_ofNat]
  refine Nat.eq_of_testBit_eq fun i => ?_
  simp only [bits, Nat.testBit_mod_two_pow, Nat.testBit_shiftRight, testBit_putBits _ _ _ _ _ h]
  by_cases inside : i < hi' + 1 - lo'
  · rw [if_neg (by omega)]
    by_cases word : lo' + i < 64
    · simp [word]
    · simp [word, Nat.testBit_lt_two_pow (w.isLt.trans_le (Nat.pow_le_pow_right two_pos (Nat.not_lt.1 word)))]
  · simp [inside]

/-- Writing a field leaves the other fields of its register as they are. -/
theorem getF_setF_apart {tag is hi lo v hi' lo'} (h : lo ≤ hi + 1) (apart : hi' < lo ∨ hi < lo') :
    (s.setF tag is hi lo v).getF tag is hi' lo' = s.getF tag is hi' lo' := by
  rw [State.getF, State.setF, State.reg_setReg_same, fld_ofNat_putBits_apart _ _ h apart, State.getF]

theorem getF_setF_ne {tag tag' : RegTag} {is is' hi lo v hi' lo'} (h : tag'.off is' ≠ tag.off is) :
    (s.setF tag is hi lo v).getF tag' is' hi' lo' = s.getF tag' is' hi' lo' := by
  rw [State.getF, State.setF, State.reg_setReg_ne _ _ h, State.getF]

theorem getF_lt (tag : RegTag) (is : List Nat) (hi lo : Nat) : s.getF tag is hi lo < 2 ^ (hi + 1 - lo) := bits_lt _ _ _

/-! ## An event that has been counted -/

theorem raised_raise {e : Ev} {is : List Nat} (small : e.info.2.1 < 64)
    (apart : e.info.2.2.off (e.counterIdx is) ≠ e.info.1.off is) : raised s (s.raise e is) e is := by
  refine ⟨?_, count_raise apart⟩
  rw [State.getF, fld_bit, reg_raise_flag apart, BitVec.getLsbD_or, BitVec.getLsbD_ofNat, Nat.testBit_two_pow_self]
  simp [small]

/-- Whether an event has been counted shows in its flag's register and its counter alone. -/
theorem raised_congr {s' t' : State} {e : Ev} {is : List Nat} (h : raised s t e is)
    (before : s'.count e is = s.count e is) (flag : t'.reg e.info.1 is = t.reg e.info.1 is)
    (after : t'.count e is = t.count e is) : raised s' t' e is := by
  obtain ⟨set, counted⟩ := h
  refine ⟨?_, ?_⟩
  · rw [State.getF, flag]
    exact set
  · exact after.trans (counted.trans (congrArg (satInc 64) before.symm))

/-! ## What a change of some regions leaves alone -/

/-- The state but for its registers and its regions. -/
def State.besides (s : State) : State := { s with regs := [], regions := [] }

theorem frame_of_besides (h : t.besides = s.besides) : { t with regs := s.regs, regions := s.regions } = s :=
  congrArg (fun u : State => { u with regs := s.regs, regions := s.regions }) h

/-- A part of the state that is neither its registers nor its regions. -/
theorem eq_of_besides {α : Type} (f : State → α) (h : t.besides = s.besides)
    (apart : ∀ s, f s.besides = f s := by exact fun _ => rfl) : f t = f s := by
  rw [← apart t, h, apart s]

/-- Nothing differs between two states but the listed regions and the registers at the listed offsets. -/
structure Touches (s t : State) (rs os : List Nat) : Prop where
  regs : regsBut s t os
  others : ∀ x, x ∉ rs → t.region x = s.region x
  rest : t.besides = s.besides

/-- The offsets of the registers that bring a region's setpoint in force. -/
def setOffs (r : Nat) : List Nat := [RegTag.telRgSet.off [r], RegTag.telRgStatus.off [r]]

namespace Touches

variable {rs os : List Nat} {r : Nat}

theorem refl (s : State) (rs os : List Nat) : Touches s s rs os := ⟨fun _ _ => rfl, fun _ _ => rfl, rfl⟩

theorem trans (h : Touches s t rs os) (h' : Touches t u rs os) : Touches s u rs os :=
  ⟨fun o ho => (h'.regs o ho).trans (h.regs o ho), fun x hx => (h'.others x hx).trans (h.others x hx),
    h'.rest.trans h.rest⟩

theorem mono {rs' os' : List Nat} (h : Touches s t rs os) (regions : rs ⊆ rs') (offs : os ⊆ os') : Touches s t rs' os' :=
  ⟨fun o ho => h.regs o (mt (@offs o) ho), fun x hx => h.others x (mt (@regions x) hx), h.rest⟩

theorem ite {c : Prop} [Decidable c] (ht : Touches s t rs os) (hu : Touches s u rs os) :
    Touches s (if c then t else u) rs os := by
  split <;> assumption

/-- Where every region of a list has one turn, the listed regions and the registers of their setpoints change alone. -/
theorem foldl {f : State → Nat → State} (turn : ∀ t r, Touches t (f t r) [r] (setOffs r)) (l : List Nat) (s : State) :
    Touches s (l.foldl f s) l (l.flatMap setOffs) := by
  induction l generalizing s with
  | nil => exact refl _ _ _
  | cons r l ih =>
    have first := (turn s r).mono (rs' := r :: l) (os' := (r :: l).flatMap setOffs) (by simp) (by simp)
    exact first.trans ((ih (f s r)).mono (by simp) (by simp))

theorem setReg (h : Touches s t rs os) {tag : RegTag} {is v} (mem : tag.off is ∈ os) : Touches s (t.setReg tag is v) rs os :=
  h.trans ⟨fun _ ho => State.mfind_setReg_ne _ _ _ _ (fun same => ho (same ▸ mem)), fun _ _ => rfl, rfl⟩

theorem setF (h : Touches s t rs os) {tag : RegTag} {is hi lo v} (mem : tag.off is ∈ os) :
    Touches s (t.setF tag is hi lo v) rs os := h.setReg mem

theorem raise (h : Touches s t rs os) {e : Ev} {is} (flag : e.info.1.off is ∈ os)
    (counter : e.info.2.2.off (e.counterIdx is) ∈ os) : Touches s (t.raise e is) rs os := by
  rw [raise_eq]
  exact (h.setReg flag).setReg counter

theorem setRegion (h : Touches s t rs os) {g} (mem : r ∈ rs) : Touches s (t.setRegion r g) rs os :=
  h.trans ⟨fun _ _ => rfl, fun _ hx => State.region_setRegion_ne _ _ (fun same => hx (same ▸ mem)), rfl⟩

theorem statusBits (h : Touches s t rs os) (mem : RegTag.telRgStatus.off [r] ∈ os) : Touches s (t.statusBits r) rs os :=
  (h.setF mem).setF mem

theorem applySet (h : Touches s t rs os) (mem : setOffs r ⊆ os) : Touches s (t.applySet r) rs os := by
  have set : RegTag.telRgSet.off [r] ∈ os := mem (by simp [setOffs])
  have status : RegTag.telRgStatus.off [r] ∈ os := mem (by simp [setOffs])
  unfold State.applySet
  exact ((h.setF set).statusBits status).ite (((h.setF set).setF status).statusBits status)

theorem frame (h : Touches s t rs os) : { t with regs := s.regs, regions := s.regions } = s := frame_of_besides h.rest

theorem reg (h : Touches s t rs os) {tag : RegTag} {is} (out : tag.off is ∉ os) : t.reg tag is = s.reg tag is := by
  rw [State.reg, State.reg, mget_eq_mfind, mget_eq_mfind, h.regs _ out]

theorem getF (h : Touches s t rs os) {tag : RegTag} {is} (out : tag.off is ∉ os) (hi lo : Nat) :
    t.getF tag is hi lo = s.getF tag is hi lo := by
  rw [State.getF, h.reg out, State.getF]

/-- An event counted after a change that leaves its counter alone. -/
theorem raised_after {e : Ev} {is : List Nat} (h : Touches s t rs os) (small : e.info.2.1 < 64)
    (apart : e.info.2.2.off (e.counterIdx is) ≠ e.info.1.off is) (out : e.info.2.2.off (e.counterIdx is) ∉ os) :
    raised s (t.raise e is) e is :=
  raised_congr (raised_raise small apart) (by rw [State.count, State.count, h.reg out]) rfl rfl

end Touches

/-! ## The registers of one region -/

theorem reg_congr (h : t.regs = s.regs) (tag : RegTag) (is : List Nat) : t.reg tag is = s.reg tag is := by
  rw [State.reg, State.reg, h]

theorem getF_congr (h : t.regs = s.regs) (tag : RegTag) (is : List Nat) (hi lo : Nat) :
    t.getF tag is hi lo = s.getF tag is hi lo := by
  rw [State.getF, State.getF, reg_congr h]

theorem off_region_ne {tag tag' : RegTag} (h : tag ∈ regionRegs) (h' : tag' ∈ regionRegs) (ne : tag ≠ tag') (r : Nat) :
    tag.off [r] ≠ tag'.off [r] := by
  have apart : ∀ x ∈ regionRegs, ∀ y ∈ regionRegs, x ≠ y → x.info.base ≠ y.info.base := by decide
  have stride : ∀ x ∈ regionRegs, x.info.dims = [(84, 0x40)] := by decide
  have bases := apart tag h tag' h' ne
  simp only [RegTag.off, stride tag h, stride tag' h']
  omega

/-- The registers of TEL before the regions' lie apart from those of every region. -/
theorem off_region_ne_low {tag : RegTag} (h : tag ∈ regionRegs) {o : Nat} (low : o < 0x8001000) (r : Nat) : tag.off [r] ≠ o := by
  have region := off_region r h
  omega

/-- Counting an event changes its flag's register and its counter alone. -/
theorem touches_raise {e : Ev} {is : List Nat} :
    Touches s (s.raise e is) [] [e.info.1.off is, e.info.2.2.off (e.counterIdx is)] :=
  (Touches.refl _ _ _).raise (by simp) (by simp)

theorem reg_raise_tel {e : Ev} {tag : RegTag} {r : Nat} (h : tag ∈ regionRegs) (flag : e.info.1.off [] < 0x8001000)
    (counter : e.info.2.2.off (e.counterIdx []) < 0x8001000) : (s.raise e []).reg tag [r] = s.reg tag [r] :=
  reg_raise (off_region_ne_low h flag r) (off_region_ne_low h counter r)

/-- VOLT_MV, RATE and TEMP stand above the bits that follow them. -/
theorem getF_statusBits {r hi lo : Nat} (h : 2 ≤ lo) :
    (s.statusBits r).getF .telRgStatus [r] hi lo = s.getF .telRgStatus [r] hi lo := by
  unfold State.statusBits
  rw [getF_setF_apart (by decide) (.inr (by omega)), getF_setF_apart (by decide) (.inr (by omega))]

theorem atCeiling_statusBits {r : Nat} : (s.statusBits r).atCeiling r = decide (s.ceiling r ≤ s.volt r) := by
  unfold State.statusBits State.atCeiling
  rw [getF_setF_apart (by decide) (.inr (by decide)), getF_setF_same (by decide) (by decide)]
  by_cases full : s.ceiling r ≤ s.volt r <;> simp [full, b2n]

theorem belowSet_statusBits {r : Nat} : (s.statusBits r).getF .telRgStatus [r] 0 0 = 1 ↔
    s.rateLoop r = true ∧ s.rate r < s.getF .telRgSet [r] 23 12 := by
  have set {v hi lo} : (s.setF .telRgStatus [r] 1 1 v).getF .telRgSet [r] hi lo = s.getF .telRgSet [r] hi lo :=
    getF_setF_ne (off_region_ne (by decide) (by decide) (by decide) r)
  unfold State.statusBits State.rateLoop State.rate
  rw [getF_setF_same (by decide) (by decide), set, set, getF_setF_apart (by decide) (.inr (by decide))]
  by_cases low : s.getF .telRgStatus [r] 23 12 < s.getF .telRgSet [r] 23 12 <;>
    by_cases loop : s.getF .telRgSet [r] 0 0 = 0 <;> simp [low, loop, b2n]

/-! ## The end of a rate window (R58) -/

/-- The supply that the rate loop sets after a window that measured `n`. -/
def State.loopVolt (s : State) (r n : Nat) : Nat :=
  max 600 (if n < s.getF .telRgSet [r] 23 12 then min (s.volt r + 5) (s.ceiling r)
    else if s.getF .telRgSet [r] 23 12 < n then s.volt r - 5 else s.volt r)

/-- The supply stays within its field, as the ceiling does. -/
theorem loopVolt_lt (s : State) (r n : Nat) : s.loopVolt r n < 4096 := by
  have volt : s.volt r < 4096 := getF_lt _ _ _ _
  have ceiling : s.ceiling r < 4096 := getF_lt _ _ _ _
  unfold State.loopVolt
  split
  · omega
  · split <;> omega

/-- The model bounds a lowered supply before the loop's own bound, which changes nothing. -/
theorem loopVolt_eq (s : State) (r n : Nat) :
    max 600 (if n < s.getF .telRgSet [r] 23 12 then min (s.volt r + 5) (s.ceiling r)
      else if s.getF .telRgSet [r] 23 12 < n then max (s.volt r - 5) 600 else s.volt r) = s.loopVolt r n := by
  unfold State.loopVolt
  split
  · omega
  · split <;> omega

theorem regs_noteHold {r : Nat} : (s.noteHold r).regs = s.regs := by
  unfold State.noteHold
  split_ifs <;> rfl

theorem touches_noteHold {rs os : List Nat} {r : Nat} (mem : r ∈ rs) : Touches s (s.noteHold r) rs os := by
  have kept := Touches.refl s rs os
  unfold State.noteHold
  exact kept.ite ((kept.setRegion mem).ite ((kept.setRegion mem).ite kept))

/-- What a window leaves in a region's status: the measured rate and the supply, and after them the bits that follow. -/
theorem execRateWindowEnd_cases (s : State) (r : RegionId) (rate : BitVec 12) : ∃ t u,
    execRateWindowEnd r rate s = .next t ∧ t.regs = (u.statusBits r).regs ∧
    Touches s t [r.val] [RegTag.telRgStatus.off [r.val]] ∧ Touches s u [r.val] [RegTag.telRgStatus.off [r.val]] ∧
    u.rate r = rate.toNat ∧ u.temp r = s.temp r ∧
    u.volt r = if s.rateLoop r then s.loopVolt r rate.toNat else s.volt r := by
  let m := s.setF .telRgStatus [r.val] 23 12 rate.toNat
  have touch : Touches s m [r.val] [RegTag.telRgStatus.off [r.val]] := (Touches.refl _ _ _).setF (by simp)
  have set (hi lo : Nat) : m.getF .telRgSet [r.val] hi lo = s.getF .telRgSet [r.val] hi lo :=
    getF_setF_ne (off_region_ne (by decide) (by decide) (by decide) r.val)
  have status {hi lo : Nat} (above : 23 < lo) : m.getF .telRgStatus [r.val] hi lo = s.getF .telRgStatus [r.val] hi lo :=
    getF_setF_apart (by decide) (.inr above)
  have measured : m.rate r = rate.toNat := (getF_setF_same (by decide) (by decide)).trans (Nat.mod_eq_of_lt rate.isLt)
  have temp : m.temp r = s.temp r := by rw [State.temp, status (by decide), State.temp]
  have loop : m.rateLoop r = s.rateLoop r := by rw [State.rateLoop, set, State.rateLoop]
  have volt : m.loopVolt r rate.toNat = s.loopVolt r rate.toNat := by
    simp only [State.loopVolt, State.volt, State.ceiling, set, status (by decide : 23 < 36)]
  by_cases inLoop : s.rateLoop r = true
  · let u := m.setF .telRgStatus [r.val] 47 36 (m.loopVolt r rate.toNat)
    have run : execRateWindowEnd r rate s = .next ((u.statusBits r).noteHold r) := by
      have value := loopVolt_eq m r rate.toNat
      exact congrArg Host.Outcome.next ((if_pos (loop.trans inLoop)).trans
        (congrArg (fun v => ((m.setF .telRgStatus [r.val] 47 36 v).statusBits r).noteHold r) value))
    have touched : Touches s u [r.val] [RegTag.telRgStatus.off [r.val]] := touch.setF (by simp)
    refine ⟨_, u, run, regs_noteHold, (touched.statusBits (by simp)).trans (touches_noteHold (by simp)), touched, ?_, ?_, ?_⟩
    · exact (getF_setF_apart (by decide) (.inl (by decide))).trans measured
    · rw [State.temp, getF_setF_apart (by decide) (.inr (by decide)), ← State.temp, temp]
    · rw [if_pos inLoop, State.volt, getF_setF_same (by decide) (by decide), volt]
      exact Nat.mod_eq_of_lt (loopVolt_lt _ _ _)
  · have run : execRateWindowEnd r rate s = .next (m.statusBits r) :=
      congrArg Host.Outcome.next (if_neg (by rw [loop]; exact inLoop))
    refine ⟨_, m, run, rfl, touch.statusBits (by simp), touch, measured, temp, ?_⟩
    rw [if_neg inLoop, State.volt, status (by decide), State.volt]

/-! ## A tell-tale's report (R63, R64, R69) -/

/-- The registers that the delay controller of a region writes. -/
def holdMarginOffs (r : Nat) : List Nat := [RegTag.telRgTaps.off [r], RegTag.telEvents.off [], RegTag.telCntFloor.off []]

theorem telltale_not_mem_holdMarginOffs {r : Nat} : RegTag.telRgTelltale.off [r] ∉ holdMarginOffs r := by
  simp only [holdMarginOffs, List.mem_cons, List.not_mem_nil, or_false, not_or]
  exact ⟨off_region_ne (by decide) (by decide) (by decide) r, off_region_ne_low (by decide) (by decide) r,
    off_region_ne_low (by decide) (by decide) r⟩

/-- The taps of a region lengthened, as far as there is a code for them. -/
def State.lengthen (s : State) (r k : Nat) : State :=
  s.setF .telRgTaps [r] 7 0 (min 255 (s.getF .telRgTaps [r] 7 0 + k))

/-- A margin below the floor: the taps grow by 4 with FLOOR, and at the ceiling a weak region's group gets a pending disable
(R64, R67). -/
def State.belowFloor (s : State) (r n : Nat) : State :=
  let s := (s.lengthen r 4).raise .telFloor
  let g := s.region r
  if g.weak && s.atCeiling r then s.setRegion r { g with pendingDisable := sinsert g.pendingDisable n } else s

/-- What the delay controller of a region does once tell-tale `n` has reported (R64). -/
def State.holdMargin (s : State) (r n : Nat) : State :=
  if s.margin r < s.getF .telRgTaps [r] 15 8 then s.belowFloor r n
  else if s.margin r < s.getF .telRgTaps [r] 23 16 then s.lengthen r 1
  else s

theorem execTelltaleReport_kept {r : RegionId} {n : Fin 4} {delay : BitVec 8}
    (kept : (s.region r).ignored.contains n.val = false) :
    execTelltaleReport r n delay false s =
      .next ((s.setF .telRgTelltale [r.val] (8 * n.val + 7) (8 * n.val) delay.toNat).holdMargin r n.val) :=
  congrArg Host.Outcome.next (if_neg (ne_true_of_eq_false kept))

theorem touches_lengthen {r k : Nat} : Touches s (s.lengthen r k) [r] [RegTag.telRgTaps.off [r]] :=
  (Touches.refl _ _ _).setF (by simp)

theorem taps_lengthen {r k : Nat} : (s.lengthen r k).getF .telRgTaps [r] 7 0 = min 255 (s.getF .telRgTaps [r] 7 0 + k) := by
  rw [State.lengthen, getF_setF_same (by decide) (by decide)]
  omega

/-- Lengthening the taps leaves the registers of TEL before the regions' alone. -/
theorem low_lengthen {tag : RegTag} {is r k} (low : tag.off is < 0x8001000) : (s.lengthen r k).reg tag is = s.reg tag is :=
  touches_lengthen.reg (by simpa using (off_region_ne_low (by decide) low r).symm)

theorem regs_belowFloor {r n : Nat} : (s.belowFloor r n).regs = ((s.lengthen r 4).raise .telFloor).regs := by
  unfold State.belowFloor
  extract_lets counted g
  split <;> rfl

theorem touches_belowFloor {r n : Nat} : Touches s (s.belowFloor r n) [r] (holdMarginOffs r) := by
  have longer : Touches s (s.lengthen r 4) [r] (holdMarginOffs r) := touches_lengthen.mono (by simp) (by simp [holdMarginOffs])
  have floor : Touches s ((s.lengthen r 4).raise .telFloor) [r] (holdMarginOffs r) :=
    longer.raise (by simp [holdMarginOffs, Ev.info]) (by simp [holdMarginOffs, Ev.info, Ev.counterIdx])
  exact (floor.setRegion (by simp)).ite floor

theorem taps_belowFloor {r n : Nat} : (s.belowFloor r n).getF .telRgTaps [r] 7 0 = min 255 (s.getF .telRgTaps [r] 7 0 + 4) := by
  rw [getF_congr regs_belowFloor, State.getF, reg_raise_tel (by decide) (by decide) (by decide), ← State.getF]
  exact taps_lengthen

theorem raised_belowFloor {r n : Nat} : raised s (s.belowFloor r n) .telFloor [] := by
  have floor : raised (s.lengthen r 4) ((s.lengthen r 4).raise .telFloor) .telFloor [] := raised_raise (by decide) (by decide)
  have before : s.count .telFloor [] = (s.lengthen r 4).count .telFloor [] :=
    congrArg BitVec.toNat (low_lengthen (tag := .telCntFloor) (is := []) (by decide)).symm
  exact raised_congr floor before (reg_congr regs_belowFloor _ _) (congrArg BitVec.toNat (reg_congr regs_belowFloor _ _))

theorem touches_holdMargin {r n : Nat} : Touches s (s.holdMargin r n) [r] (holdMarginOffs r) :=
  touches_belowFloor.ite ((touches_lengthen.mono (by simp) (by simp [holdMarginOffs])).ite (Touches.refl _ _ _))

theorem taps_holdMargin {r n : Nat} : (s.holdMargin r n).getF .telRgTaps [r] 7 0 =
    if s.margin r < s.getF .telRgTaps [r] 15 8 then min 255 (s.getF .telRgTaps [r] 7 0 + 4)
    else if s.margin r < s.getF .telRgTaps [r] 23 16 then min 255 (s.getF .telRgTaps [r] 7 0 + 1)
    else s.getF .telRgTaps [r] 7 0 := by
  unfold State.holdMargin
  split
  · exact taps_belowFloor
  · split
    · exact taps_lengthen
    · rfl

theorem raised_holdMargin {r n : Nat} (low : s.margin r < s.getF .telRgTaps [r] 15 8) :
    raised s (s.holdMargin r n) .telFloor [] := by
  rw [State.holdMargin, if_pos low]
  exact raised_belowFloor

/-- A margin that is not below the floor counts no event. -/
theorem low_holdMargin {r n : Nat} (high : ¬ s.margin r < s.getF .telRgTaps [r] 15 8) {tag : RegTag} {is}
    (low : tag.off is < 0x8001000) : (s.holdMargin r n).reg tag is = s.reg tag is := by
  rw [State.holdMargin, if_neg high]
  split
  · exact low_lengthen low
  · rfl

end Sys2Proof.Machine

namespace Sys2Proof

open Machine Claims

/-- Settles O6: the supply is what the rate loop computes from the measured rate, and the status bits follow it; a report that
is kept is the delay controller's one action on the state with the delay noted. -/
theorem regionSupplyAndTaps : Obligations.RegionSupplyAndTaps := by
  unfold Obligations.RegionSupplyAndTaps
  refine ⟨?window, fun s r n delay => ⟨rfl, ?report⟩⟩
  case window =>
    intro s r rate
    obtain ⟨t, u, run, regs, touched, before, measured, temp, volt⟩ := execRateWindowEnd_cases s r rate
    have status {lo : Nat} (hi : Nat) (above : 2 ≤ lo) : t.getF .telRgStatus [r.val] hi lo = u.getF .telRgStatus [r.val] hi lo :=
      (getF_congr regs _ _ _ _).trans (getF_statusBits above)
    have set (hi lo : Nat) : u.getF .telRgSet [r.val] hi lo = s.getF .telRgSet [r.val] hi lo :=
      before.getF (by simpa using off_region_ne (by decide) (by decide) (by decide) r.val) hi lo
    have supply : t.volt r = u.volt r := status 47 (by decide)
    refine ⟨t, run, ?_, ?_, ?_, ?_, ?_, ?_, touched.regs, fun x hx => touched.others x (by simpa using hx), touched.frame⟩
    · exact (status 23 (by decide)).trans measured
    · intro loop
      rw [supply, volt, if_pos loop, State.loopVolt]
    · intro loop
      rw [supply, volt, if_neg (by simp [loop])]
    · rw [State.atCeiling, getF_congr regs, ← State.atCeiling, atCeiling_statusBits, supply, State.ceiling, set, State.ceiling]
    · rw [getF_congr regs, belowSet_statusBits, measured, State.rateLoop, set, set, State.rateLoop]
    · rw [State.temp, status 58 (by decide), ← State.temp, temp]
  case report =>
    extract_lets s1 taps floor guard
    intro kept
    have delayed : s1.getF .telRgTelltale [r.val] (8 * n.val + 7) (8 * n.val) = delay.toNat := by
      have width : 8 * n.val + 7 + 1 - 8 * n.val = 8 := by omega
      rw [getF_setF_same (by omega) (by omega), width]
      exact Nat.mod_eq_of_lt delay.isLt
    have same (hi lo : Nat) : s1.getF .telRgTaps [r.val] hi lo = s.getF .telRgTaps [r.val] hi lo :=
      getF_setF_ne (off_region_ne (by decide) (by decide) (by decide) r.val)
    have noted {tag : RegTag} (low : tag.off [] < 0x8001000) : s1.reg tag [] = s.reg tag [] :=
      State.reg_setReg_ne _ _ (off_region_ne_low (by decide) low r.val).symm
    have floor' : (s1.getF .telRgTaps [r.val] 15 8 : Int) = floor := by rw [same]
    have guard' : (s1.getF .telRgTaps [r.val] 23 16 : Int) = guard := by rw [same]
    have touched : Touches s (s1.holdMargin r n.val) [r.val] (RegTag.telRgTelltale.off [r.val] :: holdMarginOffs r.val) :=
      ((Touches.refl _ _ _).setF List.mem_cons_self).trans (touches_holdMargin.mono (by simp) (by simp))
    refine ⟨s1.holdMargin r n.val, execTelltaleReport_kept kept, ?_, ?_, fun low => ?_, fun high => ?_, touched.regs,
      fun x hx => touched.others x (by simpa using hx), touched.frame⟩
    · exact (touches_holdMargin.getF telltale_not_mem_holdMarginOffs _ _).trans delayed
    · rw [taps_holdMargin, floor', guard', same]
    · rw [← floor'] at low
      exact raised_congr (raised_holdMargin low) (congrArg BitVec.toNat (noted (tag := .telCntFloor) (by decide)).symm) rfl rfl
    · rw [← floor'] at high
      have same {tag : RegTag} (low : tag.off [] < 0x8001000) : (s1.holdMargin r n.val).reg tag [] = s.reg tag [] :=
        (low_holdMargin high low).trans (noted low)
      exact ⟨same (by decide), same (by decide)⟩

end Sys2Proof

namespace Sys2Proof.Machine

open Claims

variable {s t u : State}

/-! ## A region's setpoint brought in force (R58, R60 to R62) -/

/-- A region's part of the state replaced, and the setpoint it gives brought in force. -/
def State.enforce (s : State) (r : Nat) (g : Region) : State := (s.setRegion r g).applySet r

theorem mem_setOffs {o r : Nat} (h : o ∈ setOffs r) : o / 64 = 0x200040 + r := by
  simp only [setOffs, List.mem_cons, List.not_mem_nil, or_false] at h
  rcases h with rfl | rfl <;> exact off_region r (by decide)

theorem not_mem_setOffs_low {o r : Nat} (low : o < 0x8001000) : o ∉ setOffs r := by
  intro h
  have region := mem_setOffs h
  omega

theorem touches_enforce {r : Nat} {g : Region} : Touches s (s.enforce r g) [r] (setOffs r) :=
  ((Touches.refl _ _ _).setRegion (by simp)).applySet (List.Subset.refl _)

theorem region_applySet {r x : Nat} : (s.applySet r).region x = s.region x :=
  ((Touches.refl s [] (setOffs r)).applySet (List.Subset.refl _)).others x List.not_mem_nil

theorem region_enforce {r : Nat} {g : Region} : (s.enforce r g).region r = g :=
  region_applySet.trans (State.region_setRegion_same _ _ _)

/-- The temperature stands apart from what follows the setpoint. -/
theorem temp_enforce {r : Nat} {g : Region} : (s.enforce r g).temp r = s.temp r := by
  have apart : RegTag.telRgStatus.off [r] ≠ RegTag.telRgSet.off [r] := off_region_ne (by decide) (by decide) (by decide) r
  have region : (s.setRegion r g).temp r = s.temp r := rfl
  rw [State.enforce, ← region]
  unfold State.temp State.applySet
  extract_lets g' low v
  split
  · rw [getF_statusBits (by decide), getF_setF_ne apart]
  · rw [getF_statusBits (by decide), getF_setF_apart (by decide) (.inr (by decide)), getF_setF_ne apart]

/-- Under a power-limit setpoint a C-die region runs at the lowest of what the point, the limit and the thermal policy give. -/
theorem setpoint_enforce {r p : Nat} {g : Region} (cdie : isCdie r = true) (power : g.power = some p) (small : p < 4096) :
    (s.enforce r g).setpoint r = min (min g.point p) (g.thermal.getD 4095) := by
  have apart : RegTag.telRgSet.off [r] ≠ RegTag.telRgStatus.off [r] := off_region_ne (by decide) (by decide) (by decide) r
  have status {w : State} {hi lo : Nat} : (w.statusBits r).getF .telRgSet [r] hi lo = w.getF .telRgSet [r] hi lo :=
    ((Touches.refl w [] [RegTag.telRgStatus.off [r]]).statusBits (by simp)).getF (by simpa using apart) _ _
  unfold State.enforce State.applySet State.setpoint
  simp only [cdie, if_true, State.region_setRegion_same, power]
  rw [status, getF_setF_same (by decide) (by decide)]
  cases g.thermal with
  | none =>
    change min g.point p % 4096 = min (min g.point p) 4095
    omega
  | some v =>
    change min (min g.point p) v % 4096 = min (min g.point p) v
    omega

theorem setpoint_congr {r : Nat} (h : t.reg .telRgSet [r] = s.reg .telRgSet [r]) : t.setpoint r = s.setpoint r := by
  simp only [State.setpoint, State.getF, h]

/-! ## An event of TEL beside the regions -/

theorem setpoint_raise_tel {e : Ev} {r : Nat} (flag : e.info.1.off [] < 0x8001000)
    (counter : e.info.2.2.off (e.counterIdx []) < 0x8001000) : (s.raise e []).setpoint r = s.setpoint r :=
  setpoint_congr (reg_raise_tel (by decide) flag counter)

theorem temp_raise_tel {e : Ev} {r : Nat} (flag : e.info.1.off [] < 0x8001000)
    (counter : e.info.2.2.off (e.counterIdx []) < 0x8001000) : (s.raise e []).temp r = s.temp r := by
  rw [State.temp, State.getF, reg_raise_tel (by decide) flag counter, ← State.getF, State.temp]

/-! ## Regions that have one turn each -/

theorem setpoint_untouched {rs : List Nat} (h : Touches s t rs (rs.flatMap setOffs)) {r : Nat} (out : r ∉ rs) :
    t.setpoint r = s.setpoint r := by
  refine setpoint_congr (h.reg fun mem => ?_)
  obtain ⟨x, hx, offs⟩ := List.mem_flatMap.1 mem
  have same : r = x := by
    have own := off_region (t := .telRgSet) r (by decide)
    have other := mem_setOffs offs
    omega
  exact out (same ▸ hx)

/-- Where every region of a list has one turn, it finds its part and its setpoint as they were, and they stay as its turn leaves
them. -/
theorem foldl_turn {f : State → Nat → State} (turn : ∀ t r, Touches t (f t r) [r] (setOffs r)) {l : List Nat}
    (nodup : l.Nodup) {r : Nat} (hr : r ∈ l) : ∃ u : State, u.region r = s.region r ∧ u.setpoint r = s.setpoint r ∧
      (l.foldl f s).region r = (f u r).region r ∧ (l.foldl f s).setpoint r = (f u r).setpoint r := by
  obtain ⟨before, after, rfl⟩ := List.append_of_mem hr
  obtain ⟨-, nodupAfter, apart⟩ := List.nodup_append.1 nodup
  obtain ⟨notAfter, -⟩ := List.nodup_cons.1 nodupAfter
  have notBefore : r ∉ before := fun h => apart r h r List.mem_cons_self rfl
  rw [List.foldl_append, List.foldl_cons]
  have first := Touches.foldl turn before s
  have last := Touches.foldl turn after (f (before.foldl f s) r)
  exact ⟨before.foldl f s, first.others r notBefore, setpoint_untouched first notBefore, last.others r notAfter,
    setpoint_untouched last notAfter⟩

theorem not_mem_flatMap_low {o : Nat} {l : List Nat} (low : o < 0x8001000) : o ∉ l.flatMap setOffs := by
  intro h
  obtain ⟨r, -, hr⟩ := List.mem_flatMap.1 h
  exact not_mem_setOffs_low low hr

/-! ## Changes of the operating point (R60) -/

/-- A write that reaches TEL.OP_REQUEST requests a point. -/
theorem execOpRequestWrite_reaches {m : Master} {v : Word} (h : reaches s m .telOpRequest []) :
    execOpRequestWrite m v s = .next (s.opRequest (fld v 1 0)) :=
  congrArg Host.Outcome.next (controlWrite_reaches h)

/-- A region's rate setpoint one step up (R60). -/
def State.raisePoint (s : State) (p r : Nat) : State :=
  s.enforce r { s.region r with point := min ((s.region r).point + 50) (pointSet r p) }

theorem touches_takePoint {p : Nat} (s : State) (r : Nat) : Touches s (s.takePoint p r) [r] (setOffs r) :=
  (Touches.refl _ _ _).ite touches_enforce

theorem point_takePoint {p r : Nat} : ((s.takePoint p r).region r).point =
    if isCdie r ∧ (s.region r).point < pointSet r p then (s.region r).point else pointSet r p := by
  by_cases higher : isCdie r ∧ (s.region r).point < pointSet r p
  · rw [State.takePoint, if_pos (by simpa using higher), if_pos higher]
  · have taken : s.takePoint p r = s.enforce r { s.region r with point := pointSet r p } := if_neg (by simpa using higher)
    rw [taken, region_enforce, if_neg higher]

theorem touches_raisePoint {p : Nat} (s : State) (r : Nat) : Touches s (s.raisePoint p r) [r] (setOffs r) := touches_enforce

theorem region_raisePoint {p r : Nat} : (s.raisePoint p r).region r =
    { s.region r with point := min ((s.region r).point + 50) (pointSet r p) } := region_enforce

theorem pointDone_eq (s : State) (p : Nat) : ∃ c, s.pointDone p = { s with change := c } := by
  unfold State.pointDone
  split
  · exact ⟨none, rfl⟩
  · exact ⟨s.change, rfl⟩

theorem region_pointDone {p r : Nat} : (s.pointDone p).region r = s.region r := by
  unfold State.pointDone
  split <;> rfl

/-- A change is finished once every region has its setpoint. -/
theorem change_pointDone {p q : Nat} (progress : s.change = some q) :
    (s.pointDone p).change = none ↔ ∀ r, r < 84 → ((s.pointDone p).region r).point = pointSet r p := by
  simp only [region_pointDone]
  have all : (List.range 84).all (fun r => decide ((s.region r).point = pointSet r p)) = true ↔
      ∀ r, r < 84 → (s.region r).point = pointSet r p := by
    simp [List.all_eq_true]
  rw [← all, State.pointDone]
  split
  next done => exact ⟨fun _ => done, fun _ => rfl⟩
  next waits => exact ⟨fun h => absurd (progress.symm.trans h) (Option.some_ne_none q), fun h => absurd h waits⟩

/-- The state in which a point has been put in force and no region has taken it. -/
def State.pointSelected (s : State) (p : Nat) : State := { s with point := p, request := none, change := some p }

/-- The state in which every region has taken a point, or waits for its raise. -/
def State.pointTaken (s : State) (p : Nat) : State := (List.range 84).foldl (fun s r => s.takePoint p r) (s.pointSelected p)

/-- The state in which every C-die region has been raised by a step. -/
def State.pointRaised (s : State) (p : Nat) : State := (List.range 64).foldl (fun s r => s.raisePoint p r) s

theorem touches_pointTaken {p : Nat} :
    Touches (s.pointSelected p) (s.pointTaken p) (List.range 84) ((List.range 84).flatMap setOffs) :=
  Touches.foldl touches_takePoint _ _

theorem touches_pointRaised {p : Nat} : Touches s (s.pointRaised p) (List.range 64) ((List.range 64).flatMap setOffs) :=
  Touches.foldl touches_raisePoint _ _

theorem point_pointTaken {p r : Nat} (hr : r < 84) : ((s.pointTaken p).region r).point =
    if isCdie r ∧ (s.region r).point < pointSet r p then (s.region r).point else pointSet r p := by
  obtain ⟨u, found, -, left, -⟩ := foldl_turn (s := s.pointSelected p) (touches_takePoint (p := p)) List.nodup_range
    (List.mem_range.2 hr)
  have same : u.region r = s.region r := found
  rw [State.pointTaken, left, point_takePoint, same]

theorem point_pointRaised {p r : Nat} (hr : r < 64) :
    ((s.pointRaised p).region r).point = min ((s.region r).point + 50) (pointSet r p) := by
  obtain ⟨u, found, -, left, -⟩ := foldl_turn (s := s) (touches_raisePoint (p := p)) List.nodup_range (List.mem_range.2 hr)
  rw [State.pointRaised, left, region_raisePoint, found]

/-- Taking a point changes the registers and the regions, and ends the change or leaves it in progress. -/
theorem besides_pointDone {p : Nat} (h : t.besides = s.besides) :
    ∃ c, (t.pointDone p).besides = { s.besides with change := c } := by
  obtain ⟨c, done⟩ := pointDone_eq t p
  exact ⟨c, (congrArg State.besides done).trans (congrArg (fun u : State => { u with change := c }) h)⟩

theorem besides_pointApplied {p : Nat} :
    ∃ c, ((s.pointTaken p).pointDone p).besides = { s.besides with point := p, request := none, change := c } :=
  besides_pointDone touches_pointTaken.rest

theorem change_pointTaken {p : Nat} : (s.pointTaken p).change = some p := eq_of_besides State.change touches_pointTaken.rest

theorem execOpPointApply_of_request {p : Nat} (request : s.request = some p) (change : s.change = none) :
    execOpPointApply s = .next ((s.pointTaken p).pointDone p) := by
  unfold execOpPointApply
  rw [request, change]
  rfl

theorem execOpPointApply_of_change {p q : Nat} (request : s.request = some p) (change : s.change = some q) :
    execOpPointApply s = .next s := by
  unfold execOpPointApply
  rw [request, change]

theorem execOpRaiseStep_of_change {p : Nat} (change : s.change = some p) :
    execOpRaiseStep s = .next ((s.pointRaised p).pointDone p) := by
  unfold execOpRaiseStep
  rw [change]
  rfl

/-! ## The power limit (R61) -/

/-- A C-die region lowered by the power limit. -/
def State.lowerPower (s : State) (r : Nat) : State :=
  if s.setpoint r ≤ 850 then s else s.enforce r { s.region r with power := some (max 850 (s.setpoint r - 50)) }

/-- A C-die region raised again by the power limit, and lifted where it reaches the point's value. -/
def State.raisePower (s : State) (r : Nat) : State :=
  match (s.region r).power with
  | none => s
  | some v => s.enforce r { s.region r with power := if (s.region r).point ≤ v + 50 then none else some (v + 50) }

theorem touches_lowerPower (s : State) (r : Nat) : Touches s (s.lowerPower r) [r] (setOffs r) :=
  (Touches.refl _ _ _).ite touches_enforce

theorem touches_raisePower (s : State) (r : Nat) : Touches s (s.raisePower r) [r] (setOffs r) := by
  unfold State.raisePower
  split
  · exact Touches.refl _ _ _
  · exact touches_enforce

theorem region_lowerPower {r : Nat} : (s.lowerPower r).region r =
    if s.setpoint r ≤ 850 then s.region r else { s.region r with power := some (max 850 (s.setpoint r - 50)) } := by
  unfold State.lowerPower
  split
  · rfl
  · exact region_enforce

theorem setpoint_lt (s : State) (r : Nat) : s.setpoint r < 4096 := by
  unfold State.setpoint
  split <;> exact getF_lt _ _ _ _

theorem setpoint_lowerPower {r : Nat} (cdie : isCdie r = true) : (s.lowerPower r).setpoint r =
    if s.setpoint r ≤ 850 then s.setpoint r
    else min (min (s.region r).point (max 850 (s.setpoint r - 50))) ((s.region r).thermal.getD 4095) := by
  have small := setpoint_lt s r
  unfold State.lowerPower
  split
  · rfl
  · exact setpoint_enforce cdie rfl (by omega)

theorem power_raisePower {r : Nat} : ((s.raisePower r).region r).power =
    (s.region r).power.bind (fun v => if (s.region r).point ≤ v + 50 then none else some (v + 50)) := by
  unfold State.raisePower
  split
  next free => rw [free]; rfl
  next v held => rw [region_enforce, held]; rfl

/-- The state of a node whose C-die regions the power limit has lowered. -/
def State.powerLowered (s : State) : State := (List.range 64).foldl State.lowerPower s

theorem touches_powerLowered : Touches s s.powerLowered (List.range 64) ((List.range 64).flatMap setOffs) :=
  Touches.foldl touches_lowerPower _ _

theorem region_powerLowered {r : Nat} (hr : r < 64) : s.powerLowered.region r =
    if s.setpoint r ≤ 850 then s.region r else { s.region r with power := some (max 850 (s.setpoint r - 50)) } := by
  obtain ⟨u, found, foundSet, left, -⟩ := foldl_turn (s := s) touches_lowerPower List.nodup_range (List.mem_range.2 hr)
  rw [State.powerLowered, left, region_lowerPower, found, foundSet]

theorem setpoint_powerLowered {r : Nat} (hr : r < 64) : s.powerLowered.setpoint r =
    if s.setpoint r ≤ 850 then s.setpoint r
    else min (min (s.region r).point (max 850 (s.setpoint r - 50))) ((s.region r).thermal.getD 4095) := by
  obtain ⟨u, found, foundSet, -, left⟩ := foldl_turn (s := s) touches_lowerPower List.nodup_range (List.mem_range.2 hr)
  have cdie : isCdie r = true := decide_eq_true hr
  rw [State.powerLowered, left, setpoint_lowerPower cdie, found, foundSet]

/-- Some C-die region's setpoint can still be lowered. -/
def State.anyAbove (s : State) : Bool := (List.range 64).any (fun r => 850 < s.setpoint r)

theorem anyAbove_iff : s.anyAbove = true ↔ ∃ r, r < 64 ∧ 850 < s.setpoint r := by
  simp [State.anyAbove]

/-- The state that POWER_LIMIT_LOWER leaves above the limit. -/
def State.powerLimited (s : State) : State := if s.anyAbove then s.powerLowered.raise .telThrottle else s.powerLowered

theorem execPowerLimitLower_above {w : Nat} (above : s.powerLimit < w) :
    execPowerLimitLower w s = .next s.powerLimited := congrArg Host.Outcome.next (if_neg (Nat.not_le.2 above))

/-- The state of a node whose C-die regions the power limit has raised again. -/
def State.powerReleased (s : State) : State := (List.range 64).foldl State.raisePower s

theorem touches_powerReleased : Touches s s.powerReleased (List.range 64) ((List.range 64).flatMap setOffs) :=
  Touches.foldl touches_raisePower _ _

theorem power_powerReleased {r : Nat} (hr : r < 64) : (s.powerReleased.region r).power =
    (s.region r).power.bind (fun v => if (s.region r).point ≤ v + 50 then none else some (v + 50)) := by
  obtain ⟨u, found, -, left, -⟩ := foldl_turn (s := s) touches_raisePower List.nodup_range (List.mem_range.2 hr)
  rw [State.powerReleased, left, power_raisePower, found]

theorem execPowerLimitRaise_below {w : Nat} (below : 100 * w < 97 * s.powerLimit) : execPowerLimitRaise w s =
    .next s.powerReleased :=
  congrArg Host.Outcome.next (if_neg (Nat.not_le.2 below))

theorem region_powerLimited {r : Nat} : s.powerLimited.region r = s.powerLowered.region r := by
  unfold State.powerLimited
  split
  · exact touches_raise.others r List.not_mem_nil
  · rfl

theorem setpoint_powerLimited {r : Nat} : s.powerLimited.setpoint r = s.powerLowered.setpoint r := by
  unfold State.powerLimited
  split
  · exact setpoint_raise_tel (by decide) (by decide)
  · rfl

theorem besides_powerLimited : s.powerLimited.besides = s.besides := by
  unfold State.powerLimited
  split
  · exact touches_raise.rest.trans touches_powerLowered.rest
  · exact touches_powerLowered.rest

theorem raised_powerLimited (above : ∃ r, r < 64 ∧ 850 < s.setpoint r) : raised s s.powerLimited .telThrottle [] := by
  rw [State.powerLimited, if_pos (anyAbove_iff.2 above)]
  exact touches_powerLowered.raised_after (by decide) (by decide) (not_mem_flatMap_low (by decide))

end Sys2Proof.Machine

namespace Sys2Proof

open Machine Claims

/-- Settles O7: each region has one turn in a change of point and in a step of the power limit, and its turn reads nothing of
the others. -/
theorem operatingPointAndPowerLimit : Obligations.OperatingPointAndPowerLimit := by
  unfold Obligations.OperatingPointAndPowerLimit
  refine ⟨⟨?request, ?apply, ?waits, ?step⟩, ?lower, ?within, ?raise⟩
  case request =>
    intro s m v h
    have run : exec (.opRequestWrite m v) s = execOpRequestWrite m v s := rfl
    rw [run, execOpRequestWrite_reaches h, State.opRequest]
  case apply =>
    intro s p request change
    obtain ⟨c, rest⟩ := besides_pointApplied (s := s) (p := p)
    refine ⟨(s.pointTaken p).pointDone p, execOpPointApply_of_request request change, congrArg State.point rest,
      congrArg State.request rest, fun r hr => ?_, change_pointDone change_pointTaken, ?_⟩
    · rw [region_pointDone, point_pointTaken hr]
    · exact congrArg (fun u : State => { u with
        regs := s.regs, regions := s.regions, point := s.point, request := s.request, change := s.change }) rest
  case waits => exact fun s p q request change => execOpPointApply_of_change request change
  case step =>
    intro s p change
    obtain ⟨c, rest⟩ := besides_pointDone (p := p) (touches_pointRaised (s := s) (p := p)).rest
    have progress := (eq_of_besides State.change (touches_pointRaised (p := p)).rest).trans change
    refine ⟨(s.pointRaised p).pointDone p, execOpRaiseStep_of_change change, fun r hr => ?_, fun r hr => ?_,
      change_pointDone progress, ?_⟩
    · rw [region_pointDone, point_pointRaised hr]
    · rw [region_pointDone, touches_pointRaised.others r (by simpa using hr)]
    · exact congrArg (fun u : State => { u with regs := s.regs, regions := s.regions, change := s.change }) rest
  case lower =>
    intro s w above
    refine ⟨s.powerLimited, execPowerLimitLower_above above, fun r hr => ?_, fun r hr => ?_, fun r hr => ?_, fun r hr => ?_,
      raised_powerLimited, frame_of_besides besides_powerLimited⟩
    · rw [region_powerLimited, region_powerLowered hr]
      split <;> rfl
    · rw [region_powerLimited, region_powerLowered hr]
      split <;> exact ⟨rfl, rfl⟩
    · rw [setpoint_powerLimited, setpoint_powerLowered hr]
    · rw [region_powerLimited, touches_powerLowered.others r (by simpa using hr)]
  case within => exact fun s w h => congrArg Host.Outcome.next (if_pos h)
  case raise =>
    intro s w below
    exact ⟨s.powerReleased, execPowerLimitRaise_below below, fun r => power_powerReleased,
      fun r hr => touches_powerReleased.others r (by simpa using hr), touches_powerReleased.frame⟩

end Sys2Proof

namespace Sys2Proof.Machine

open Claims

variable {s t u : State}

/-! ## A region's sensor reading (R57) -/

theorem touches_setTemp {r : Nat} {k : BitVec 11} : Touches s (s.setTemp r k) [r] [RegTag.telRgStatus.off [r]] :=
  ((Touches.refl _ _ _).setF (by simp)).setRegion (by simp)

theorem sext_toNat (k : BitVec 11) : sext 11 k.toNat = k.toInt := by
  have small := k.isLt
  rw [sext, Nat.mod_eq_of_lt small, BitVec.toInt_eq_toNat_cond]
  split <;> split <;> omega

theorem getF_setRegion {r : Nat} {g : Region} {tag is hi lo} : (s.setRegion r g).getF tag is hi lo = s.getF tag is hi lo := rfl

theorem temp_setTemp {r : Nat} {k : BitVec 11} : (s.setTemp r k).temp r = k.toInt := by
  unfold State.setTemp State.temp
  rw [getF_setRegion, getF_setF_same (by decide) (by decide)]
  exact (congrArg (sext 11) (Nat.mod_eq_of_lt k.isLt)).trans (sext_toNat k)

theorem setpoint_setTemp {r : Nat} {k : BitVec 11} : (s.setTemp r k).setpoint r = s.setpoint r :=
  setpoint_congr (touches_setTemp.reg (by simpa using off_region_ne (by decide) (by decide) (by decide) r))

theorem region_setTemp {r : Nat} {k : BitVec 11} : (s.setTemp r k).region r =
    { s.region r with maxTemp := max (s.region r).maxTemp k.toInt } := by
  unfold State.setTemp
  rw [State.region_setRegion_same, region_setF]

/-! ## The thermal policy (R62) -/

/-- A region's thermal setpoint replaced and brought in force. -/
def State.setThermal (s : State) (r : Nat) (v : Option Nat) : State := s.enforce r { s.region r with thermal := v }

theorem thermal_setThermal {r : Nat} {v : Option Nat} : ((s.setThermal r v).region r).thermal = v := by
  rw [State.setThermal, region_enforce]

/-- A reading and the thermal setpoint that follows from it. -/
theorem touches_setTemp_setThermal {r : Nat} {k : BitVec 11} {v : Option Nat} :
    Touches s ((s.setTemp r k).setThermal r v) [r] (setOffs r) :=
  (touches_setTemp.mono (by simp) (by simp [setOffs])).trans touches_enforce

theorem temp_setTemp_setThermal {r : Nat} {k : BitVec 11} {v : Option Nat} :
    ((s.setTemp r k).setThermal r v).temp r = k.toInt := temp_enforce.trans temp_setTemp

/-- A region above 95 °C and above the economy point's setpoint is lowered by a step. -/
theorem execThermalLower_hot {r : RegionId} {k : BitVec 11} (hot : 760 < k.toInt) (above : pointSet r 0 < s.setpoint r) :
    execThermalLower r k s = .next
      (((s.setTemp r k).setThermal r (some (max (pointSet r 0) (s.setpoint r - thermalStep r)))).raise .telThrottle) := by
  have high : ¬ (decide (k.toInt ≤ 760) || decide (s.setpoint r ≤ pointSet r 0)) = true := by
    simp only [Bool.or_eq_true, decide_eq_true_eq]
    omega
  unfold execThermalLower
  simp only [setpoint_setTemp, if_neg high]
  rfl

/-- A lowered region below 92 °C is raised by a step, or freed. -/
theorem execThermalRaise_cool {r : RegionId} {k : BitVec 11} {v : Nat} (cool : k.toInt < 736)
    (lowered : (s.region r).thermal = some v) :
    execThermalRaise r k s = .next ((s.setTemp r k).setThermal r
      (if (s.region r).point + (s.region r).bump ≤ v + thermalStep r then none else some (v + thermalStep r))) := by
  unfold execThermalRaise
  simp only [region_setTemp, lowered, if_neg (Int.not_le.2 cool)]
  rw [State.setThermal, region_setTemp]
  rfl

/-- The node with a hold that a region begins now. -/
def State.addHold (s : State) (r : Nat) : State := { s with hold := s.hold ++ [(r, s.now)] }

/-- The state in which a region's hold has been counted. -/
def State.holdBegun (s : State) (r : Nat) (k : BitVec 11) : State := ((s.setTemp r k).addHold r).raise .telHold

theorem hold_setTemp {r : Nat} {k : BitVec 11} : (s.setTemp r k).hold = s.hold := eq_of_besides State.hold touches_setTemp.rest

theorem now_setTemp {r : Nat} {k : BitVec 11} : (s.setTemp r k).now = s.now := eq_of_besides State.now touches_setTemp.rest

theorem execThermalHold_hot {r : RegionId} {k : BitVec 11} (hot : 840 ≤ k.toInt) (fresh : ∀ h ∈ s.hold, h.1 ≠ r.val) :
    execThermalHold r k s = .next
      (if isCdie r then s.holdBegun r k else (s.holdBegun r k).setThermal r (some (pointSet r 0))) := by
  have begins : ¬ (decide (k.toInt < 840) || (s.setTemp r k).hold.any (fun h => h.1 == r.val)) = true := by
    simp only [hold_setTemp, Bool.or_eq_true, decide_eq_true_eq, List.any_eq_true, beq_iff_eq, not_or]
    exact ⟨by omega, fun ⟨h, mem, same⟩ => fresh h mem same⟩
  exact congrArg Host.Outcome.next (if_neg begins)

theorem besides_addHold {r : Nat} (h : t.besides = s.besides) : (t.addHold r).besides = (s.addHold r).besides :=
  congrArg (State.addHold · r) h

theorem temp_addHold {r x : Nat} : (s.addHold r).temp x = s.temp x := rfl

theorem region_addHold {r x : Nat} : (s.addHold r).region x = s.region x := rfl

theorem reg_addHold {r : Nat} {tag is} : (s.addHold r).reg tag is = s.reg tag is := rfl

theorem heldCluster_addHold {r p : Nat} :
    (s.addHold r).heldCluster p = (s.heldCluster p || !isCdie r || r / 16 == p / 168) := by
  simp [State.heldCluster, State.addHold, Bool.or_assoc]

/-- What THERMAL_HOLD leaves of a region that begins a hold. -/
theorem execThermalHold_cases {r : RegionId} {k : BitVec 11} (hot : 840 ≤ k.toInt) (fresh : ∀ h ∈ s.hold, h.1 ≠ r.val) :
    ∃ t, execThermalHold r k s = .next t ∧ t.besides = (s.addHold r).besides ∧ t.temp r = k.toInt ∧
      raised s t .telHold [] ∧ (t.region r).thermal = if isCdie r then (s.region r).thermal else some (pointSet r 0) := by
  have read : Touches s (s.setTemp r k) [r.val] (setOffs r) := touches_setTemp.mono (by simp) (by simp [setOffs])
  have before : s.count .telHold [] = ((s.setTemp r k).addHold r).count .telHold [] :=
    congrArg BitVec.toNat (reg_addHold.trans (read.reg (not_mem_setOffs_low (by decide)))).symm
  have counted : raised s (s.holdBegun r k) .telHold [] :=
    raised_congr (raised_raise (by decide) (by decide)) before rfl rfl
  have temp : (s.holdBegun r k).temp r = k.toInt :=
    ((temp_raise_tel (by decide) (by decide)).trans temp_addHold).trans temp_setTemp
  have rest : (s.holdBegun r k).besides = (s.addHold r).besides := touches_raise.rest.trans (besides_addHold read.rest)
  refine ⟨_, execThermalHold_hot hot fresh, ?_⟩
  by_cases cdie : isCdie r = true
  · have thermal : ((s.holdBegun r k).region r).thermal = (s.region r).thermal := by
      rw [State.holdBegun, touches_raise.others r List.not_mem_nil, region_addHold, region_setTemp]
    rw [if_pos cdie, if_pos cdie]
    exact ⟨rest, temp, counted, thermal⟩
  · rw [if_neg cdie, if_neg cdie]
    have enforced : Touches (s.holdBegun r k) ((s.holdBegun r k).setThermal r (some (pointSet r 0))) [r.val] (setOffs r) :=
      touches_enforce
    refine ⟨enforced.rest.trans rest, temp_enforce.trans temp, ?_, thermal_setThermal⟩
    refine raised_congr counted rfl (enforced.reg (not_mem_setOffs_low (by decide))) ?_
    exact congrArg BitVec.toNat (enforced.reg (not_mem_setOffs_low (by decide)))

/-- The holds that stay: those with a region at or above 100 °C in their scope. -/
def State.liftHolds (s : State) : State :=
  { s with hold := s.hold.filter (fun h => (holdScope h.1).any (fun x => decide (800 ≤ s.temp x))) }

theorem execThermalHoldLift_eq (s : State) (r : RegionId) (k : BitVec 11) :
    execThermalHoldLift r k s = .next (s.setTemp r k).liftHolds := rfl

theorem temp_liftHolds {x : Nat} : s.liftHolds.temp x = s.temp x := rfl

theorem mem_hold_liftHolds {h : Nat × Nat} :
    h ∈ s.liftHolds.hold ↔ h ∈ s.hold ∧ ∃ x ∈ holdScope h.1, 800 ≤ s.liftHolds.temp x := by
  simp only [temp_liftHolds]
  simp [State.liftHolds]

theorem frame_liftHolds (h : t.besides = s.besides) :
    { t.liftHolds with regs := s.regs, regions := s.regions, hold := s.hold } = s :=
  congrArg (fun u : State => { u with regs := s.regs, regions := s.regions, hold := s.hold }) h

/-- The node that a thermal shutdown leaves. -/
def State.shutDown (s : State) : State := ((s.nodeLoss.emit .thermTrip).powerOff).nodeLoss

/-- A thermal shutdown says so outward, and the flashes and the queue of commands outlast it. -/
theorem shutDown_keeps : s.shutDown.out = .thermTrip :: s.out ∧ s.shutDown.flash = s.flash ∧ s.shutDown.pending = s.pending :=
  ⟨rfl, rfl, rfl⟩

theorem execThermalShutdown_due {r : RegionId} {k : BitVec 11}
    (due : 880 ≤ k.toInt ∨ ∃ h ∈ s.hold, h.2 + 1000000000 ≤ s.now) :
    execThermalShutdown r k s = .next (s.setTemp r k).shutDown := by
  have trips : (decide (880 ≤ k.toInt) ||
      (s.setTemp r k).hold.any (fun h => decide (h.2 + 1000000000 ≤ (s.setTemp r k).now))) = true := by
    simpa [hold_setTemp, now_setTemp] using due
  exact congrArg Host.Outcome.next (if_pos trips)

end Sys2Proof.Machine

namespace Sys2Proof

open Machine Claims

/-- Settles O8: each row is the reading of the sensor followed by the change of one thermal setpoint, of the holds, or the
shutdown. -/
theorem thermalPolicyActs : Obligations.ThermalPolicyActs := by
  unfold Obligations.ThermalPolicyActs
  refine ⟨?lower, ?raise, ?hold, ?lift, ?shutdown⟩
  case lower =>
    intro s r k hot above
    have lowered := touches_setTemp_setThermal (s := s) (r := r.val) (k := k)
      (v := some (max (pointSet r 0) (s.setpoint r - thermalStep r)))
    refine ⟨_, execThermalLower_hot hot above, ?_, ?_, ?_, fun x hx => ?_, ?_⟩
    · exact (temp_raise_tel (by decide) (by decide)).trans temp_setTemp_setThermal
    · rw [touches_raise.others r List.not_mem_nil]
      exact thermal_setThermal
    · exact lowered.raised_after (by decide) (by decide) (not_mem_setOffs_low (by decide))
    · rw [touches_raise.others x List.not_mem_nil]
      exact lowered.others x (by simpa using hx)
    · exact frame_of_besides (touches_raise.rest.trans lowered.rest)
  case raise =>
    intro s r k v cool lowered
    have raised := touches_setTemp_setThermal (s := s) (r := r.val) (k := k)
      (v := if (s.region r).point + (s.region r).bump ≤ v + thermalStep r then none else some (v + thermalStep r))
    exact ⟨_, execThermalRaise_cool cool lowered, temp_setTemp_setThermal, thermal_setThermal,
      fun x hx => raised.others x (by simpa using hx), raised.frame⟩
  case hold =>
    intro s r k hot fresh
    obtain ⟨t, run, rest, temp, counted, thermal⟩ := execThermalHold_cases hot fresh
    have hold : t.hold = (s.addHold r).hold := eq_of_besides State.hold rest
    refine ⟨t, run, temp, hold, counted, thermal, fun p => ?_, ?_⟩
    · rw [State.heldCluster, hold, ← State.heldCluster, heldCluster_addHold]
    · exact congrArg (fun u : State => { u with regs := s.regs, regions := s.regions, hold := s.hold }) rest
  case lift =>
    intro s r k
    refine ⟨(s.setTemp r k).liftHolds, execThermalHoldLift_eq s r k, temp_liftHolds.trans temp_setTemp, fun h => ?_,
      frame_liftHolds touches_setTemp.rest⟩
    rw [mem_hold_liftHolds, hold_setTemp]
  case shutdown =>
    intro s r k due
    obtain ⟨out, flash, pending⟩ := shutDown_keeps (s := s.setTemp r k)
    have same {α : Type} (f : State → α) (apart : ∀ s, f s.besides = f s) : f (s.setTemp r k) = f s :=
      eq_of_besides f touches_setTemp.rest apart
    refine ⟨_, execThermalShutdown_due due, rfl, rfl, ?_, ?_, rfl, rfl, ?_⟩
    · rw [out, same State.out fun _ => rfl]
    · rw [flash, same State.flash fun _ => rfl]
    · rw [pending, same State.pending fun _ => rfl]

end Sys2Proof

/-! # Tallies: their commands, the signals that add to them, and the tally instructions -/

namespace Sys2Proof.Machine

open Claims

variable {s : State}

/-! ## A started command whose row runs -/

theorem runCmd_of_readyCmd {op : Nat} {q : QueueId} {seq : W32} {c : Started} (f : State → Started → State)
    (h : ready s op q seq c) : s.runCmd op q.val seq f = f s c := by
  obtain ⟨started, opcode, wait⟩ := h
  exact State.runCmd_of_ready f started opcode wait

theorem runJobCmd_of_readyJob {op : Nat} {q : QueueId} {seq : W32} {c : Started} {j : Nat} {b : JobSlot}
    (f : State → Started → Nat → JobSlot → State) (h : readyJob s op q seq c j b) :
    s.runJobCmd op q.val seq f = f s c j b := by
  obtain ⟨⟨started, opcode, wait⟩, status, found, -⟩ := h
  exact State.runJobCmd_of_ready f started opcode wait status found

/-! ## A TWAIT that its tally wakes (R125) -/

/-- Waking a TWAIT changes cores alone. -/
theorem wakeTally_eq (s : State) (l k t : Nat) : ∃ cs, s.wakeTally l k t = { s with cores := cs } := by
  unfold State.wakeTally
  split
  · exact ⟨s.cores, rfl⟩
  · dsimp only
    split
    · split
      · exact ⟨_, rfl⟩
      · exact ⟨s.cores, rfl⟩
    · exact ⟨s.cores, rfl⟩

/-- A part of the state that is not its cores. -/
theorem eq_wakeTally {α : Type} (f : State → α) (l k t : Nat)
    (apart : ∀ (s : State) (cs : SMap Core), f { s with cores := cs } = f s := by exact fun _ _ => rfl) :
    f (s.wakeTally l k t) = f s := by
  obtain ⟨cs, woken⟩ := wakeTally_eq s l k t
  rw [woken, apart]

/-- The core that serves a logical core goes on from its TWAIT once the tally has reached the threshold. -/
theorem phase_wakeTally {l k t c thr t0 : Nat} (serving : s.servingCore l k = some c)
    (phase : (s.core c).phase = .waitTally t thr t0) (here : (s.core c).whereId = 16 * l + k) :
    ((s.wakeTally l k t).core c).phase = if thr ≤ s.tally l k t then .running else .waitTally t thr t0 := by
  simp only [State.wakeTally, serving, phase, here, true_and, and_true, Bool.and_eq_true, decide_eq_true_eq]
  split
  · rw [State.core_setCore_same]
    rfl
  · exact phase

/-! ## An amount added to a tally (R100) -/

/-- The state once an addition has counted its saturation, where it saturates. -/
def State.tallySat (s : State) (v : Nat) : State := if 2 ^ 32 ≤ v then s.raise .schTallySat else s

theorem addTally_eq (s : State) (l k t n : Nat) : s.addTally l k t n =
    ((s.tallySat (s.tally l k t + n)).setTally l k t (min (s.tally l k t + n) (2 ^ 32 - 1))).wakeTally l k t := rfl

/-- Counting the saturation changes registers alone. -/
theorem tallySat_eq (s : State) (v : Nat) : ∃ rs, s.tallySat v = { s with regs := rs } := by
  unfold State.tallySat
  split
  · exact ⟨_, rfl⟩
  · exact ⟨s.regs, rfl⟩

theorem tallySat_tallies {v : Nat} : (s.tallySat v).tallies = s.tallies := by
  obtain ⟨rs, counted⟩ := tallySat_eq s v
  rw [counted]

/-- Adding to a tally changes tallies, cores and registers alone. -/
theorem addTally_frame (s : State) (l k t n : Nat) :
    { s.addTally l k t n with tallies := s.tallies, cores := s.cores, regs := s.regs } = s := by
  obtain ⟨rs, counted⟩ := tallySat_eq s (s.tally l k t + n)
  obtain ⟨cs, woken⟩ := wakeTally_eq
    ((s.tallySat (s.tally l k t + n)).setTally l k t (min (s.tally l k t + n) (2 ^ 32 - 1))) l k t
  rw [addTally_eq, woken, counted]
  rfl

theorem tally_addTally_same {l k t n : Nat} :
    (s.addTally l k t n).tally l k t = min (s.tally l k t + n) 0xFFFFFFFF := by
  rw [addTally_eq, eq_wakeTally (fun u => u.tally l k t), State.tally_setTally_same]
  rfl

theorem tally_addTally_ne {l k t n l' k' t' : Nat} (hk : k < 16) (ht : t < 256) (hk' : k' < 16) (ht' : t' < 256)
    (ne : (l', k', t') ≠ (l, k, t)) : (s.addTally l k t n).tally l' k' t' = s.tally l' k' t' := by
  rw [addTally_eq, eq_wakeTally (fun u => u.tally l' k' t'), State.tally_setTally_ne _ _ hk ht hk' ht' ne, State.tally,
    tallySat_tallies, State.tally]

theorem regs_addTally {l k t n : Nat} : (s.addTally l k t n).regs = (s.tallySat (s.tally l k t + n)).regs := by
  rw [addTally_eq, eq_wakeTally State.regs]
  rfl

/-- A TWAIT on the tally goes on once the sum reaches its threshold. -/
theorem phase_addTally {l k t n c thr t0 : Nat} (serving : s.servingCore l k = some c)
    (phase : (s.core c).phase = .waitTally t thr t0) (here : (s.core c).whereId = 16 * l + k) :
    ((s.addTally l k t n).core c).phase =
      if thr ≤ min (s.tally l k t + n) 0xFFFFFFFF then .running else .waitTally t thr t0 := by
  obtain ⟨rs, counted⟩ := tallySat_eq s (s.tally l k t + n)
  rw [addTally_eq, counted, phase_wakeTally (by exact serving) (by exact phase) (by exact here), State.tally_setTally_same]
  rfl

/-! ## Targets of the tally commands and signals (R85, R98) -/

theorem bits_mod_two_pow (n : Nat) {hi lo w : Nat} (h : hi < w) : bits (n % 2 ^ w) hi lo = bits n hi lo := by
  refine Nat.eq_of_testBit_eq fun i => ?_
  simp only [bits, Nat.testBit_mod_two_pow, Nat.testBit_shiftRight]
  by_cases inside : i < hi + 1 - lo
  · simp [inside, show lo + i < w by omega]
  · simp [inside]

theorem tbit_eq_bits (n i : Nat) : tbit n i = (bits n i i == 1) := by
  simp [tbit, bits]

theorem JobSlot.holds_iff {b : JobSlot} {l : Nat} : b.holds l = true ↔ b.first ≤ l ∧ l < b.first + b.count := by
  simp [JobSlot.holds]

/-- The targets that TALLY_SET and TALLY_READ accept, by their fields. -/
theorem tallyTarget_iff {b : JobSlot} {x : Nat} : s.tallyTarget b x = true ↔
    tbit x 63 = true ∧ bits x 62 48 = 0 ∧ bits x 12 0 = 0 ∧ s.isSelf (bits x 47 35) = true ∧
      b.first ≤ bits x 34 25 ∧ bits x 34 25 < b.first + b.count := by
  have valid : tallyValid (BitVec.ofNat 64 x) = tbit x 63 := by
    rw [tallyValid, BitVec.toNat_ofNat, tbit_eq_bits, tbit_eq_bits, bits_mod_two_pow x (by decide)]
  have form : tallyForm (BitVec.ofNat 64 x) =
      if tbit x 63 then bits x 62 48 = 0 && bits x 12 0 = 0 else BitVec.ofNat 64 x = 0 := by
    rw [tallyForm, valid, fld, sigAdd, BitVec.toNat_ofNat, bits_mod_two_pow x (by decide), bits_mod_two_pow x (by decide)]
  rw [State.tallyTarget, valid, form, sigNode, sigCluster]
  cases tbit x 63 <;> simp [JobSlot.holds_iff, and_assoc]

/-- The signals that a unit of a job may not send, by their fields (R94, R126). -/
theorem sigBad_iff {first count x : Nat} : s.sigBad first count x = true ↔
    bits x 12 0 = 0 ∨ (4096 ≤ bits x 47 35 ∧ bits x 47 35 ≤ 8190) ∨
      (s.isSelf (bits x 47 35) = true ∧ ¬ (first ≤ bits x 34 25 ∧ bits x 34 25 < first + count)) ∨
      (s.isSelf (bits x 47 35) = false ∧ 639 < bits x 34 25) := by
  rw [State.sigBad, sigAdd, sigNode, sigCluster, reservedNode]
  cases s.isSelf (bits x 47 35) <;> simp [or_assoc, imp_iff_not_or]

/-! ## TALLY_SET and TALLY_READ (R92) -/

section

variable {q : QueueId} {seq : W32} {c : Started} {j : Nat} {b : JobSlot}

theorem exec_tallySet (h : readyJob s 0x0308 q seq c j b) : exec (.tallySet q seq) s = .next (
    if !s.tallyTarget b (c.arg 0) then s.finishCmd c (.st 0x0103)
    else ((s.setTally (bits (c.arg 0) 34 25) (bits (c.arg 0) 24 21) (bits (c.arg 0) 20 13) (c.arg 1)).wakeTally
      (bits (c.arg 0) 34 25) (bits (c.arg 0) 24 21) (bits (c.arg 0) 20 13)).finishCmd c (.ok)) :=
  congrArg Host.Outcome.next (runJobCmd_of_readyJob _ h)

theorem exec_tallyRead (h : readyJob s 0x0309 q seq c j b) : exec (.tallyRead q seq) s = .next (
    if !s.tallyTarget b (c.arg 0) then s.finishCmd c (.st 0x0103)
    else s.finishCmd c (.ok (s.tally (bits (c.arg 0) 34 25) (bits (c.arg 0) 24 21) (bits (c.arg 0) 20 13)))) :=
  congrArg Host.Outcome.next (runJobCmd_of_readyJob _ h)

/-- A target that is refused, by the field that is at fault. -/
theorem tallyTarget_refused {x : Nat} (h : tbit x 63 = false ∨ bits x 62 48 ≠ 0 ∨ bits x 12 0 ≠ 0 ∨
    s.isSelf (bits x 47 35) = false ∨ bits x 34 25 < b.first ∨ b.first + b.count ≤ bits x 34 25) :
    (!s.tallyTarget b x) = true := by
  rw [Bool.not_eq_true', ← Bool.not_eq_true, tallyTarget_iff]
  rintro ⟨valid, high, add, self, low, up⟩
  rcases h with h | h | h | h | h | h
  · exact Bool.noConfusion (h.symm.trans valid)
  · exact h high
  · exact h add
  · exact Bool.noConfusion (h.symm.trans self)
  · omega
  · omega

end

/-! ## The tally instructions (R125, R126) -/

theorem coreExec_of_atInstr {op : CoreOp} {c : CoreId} {w : W32} (f : State → Core → State × Step1) (h : atInstr s op c w) :
    coreExec op c.val w s f = (f s (s.core c.val)).1.applyStep c.val (f s (s.core c.val)).2 := by
  obtain ⟨running, fetched, delivered, row, body, vstart⟩ := h
  exact coreExec_of_ready f running fetched delivered row body vstart

theorem mset_mset {α : Type} [DecidableEq α] {d : α} {m : List (Nat × α)} {i : Nat} {u v : α} (h : u ≠ d) :
    mset d (mset d m i u) i v = mset d m i v := by
  rw [mset, mset, if_neg h, merase_minsert, minsert_minsert, mset]

theorem setCore_setCore {c : Nat} {k k' : Core} (h : k ≠ Core.zero) : (s.setCore c k).setCore c k' = s.setCore c k' :=
  congrArg (fun cs => { s with cores := cs }) (mset_mset h)

/-- A program fault of a running core is the same after a step that left the core as it was. -/
theorem progFault_setCore_self {c code aux : Nat} {fa : Word} (running : (s.core c).phase = .running) :
    (s.setCore c (s.core c)).progFault c code aux fa = s.progFault c code aux fa := by
  have busy : s.core c ≠ Core.zero := fun idle => by rw [idle] at running; cases running
  have recorded : (s.setCore c (s.core c)).recordFault c 0 code aux fa = s.recordFault c 0 code aux fa := by
    rw [State.recordFault, State.core_setCore_same, setCore_setCore busy, ← State.recordFault]
  rw [State.progFault, recorded, ← State.progFault]

/-- A running core that faults with its registers as they were. -/
theorem applyStep_fault_self {c code aux : Nat} {fa : Word} (running : (s.core c).phase = .running) :
    s.applyStep c (.fault (s.core c) code aux fa) = s.progFault c code aux fa := progFault_setCore_self running

section

variable {c : CoreId} {w : W32}

theorem exec_twait (h : atInstr s .twait c w) :
    exec (.twait c w) s = .next (s.applyStep c.val (twaitStep w s (s.core c.val))) :=
  congrArg Host.Outcome.next (coreExec_of_atInstr _ h)

theorem exec_tread (h : atInstr s .tread c w) :
    exec (.tread c w) s = .next (s.applyStep c.val (treadStep w s (s.core c.val))) :=
  congrArg Host.Outcome.next (coreExec_of_atInstr _ h)

theorem exec_tsig (h : atInstr s .tsig c w) :
    exec (.tsig c w) s = .next (s.applyStep c.val (tsigStep w s (s.core c.val))) :=
  congrArg Host.Outcome.next (coreExec_of_atInstr _ h)

/-- What TSIG comes to in a unit of a job, its ignored fields 0. -/
theorem tsigStep_of_unit {k : Core} {u : UnitRef} {b : JobSlot} {r : SchedRun} {tb : TableSlot}
    (unit : s.unitTable k = some (u, b, r, tb)) (high : wf w 20 13 = 0) (low : wf w 9 0 = 0) :
    tsigStep w s k =
      (let x := (k.rg (fd w)).toNat % 2 ^ 48
       if s.sigBad b.first b.count x then illegalW k w
       else if s.isSelf (bits x 47 35) = false ∧ s.tableCtx k (bits x 47 35) = none then .fault k 0x06 0 (BitVec.ofNat 64 x)
       else if 16 ≤ k.sigq.length then .fault k 0x04 0 0
       else .done { k with sigq := k.sigq ++ [BitVec.ofNat 48 x] }) := by
  simp only [tsigStep, unit, high, low, sigNode, State.isOther, FaultCode.noContext, FaultCode.sigOverflow]
  simp

theorem exec_twaitTimeout {t thr t0 : Nat} (phase : (s.core c.val).phase = .waitTally t thr t0) :
    exec (.twaitTimeout c) s = .next (
      if (s.core c.val).csrs.twaitLimit ≠ 0 ∧ t0 + (s.core c.val).csrs.twaitLimit.toNat ≤ s.now then
        s.progFault c.val 0x05 0 (BitVec.ofNat 64 t)
      else s) := by
  have run : exec (.twaitTimeout c) s = execTwaitTimeout c s := rfl
  rw [run, execTwaitTimeout]
  simp only [phase]
  rfl

end

end Sys2Proof.Machine

namespace Sys2Proof

open Machine Claims

/-- Settles O23: the commands set or read the one tally of their target; an addition writes one tally and wakes the core
that waits for it; the instructions are what their steps come to. -/
theorem tallies : Obligations.Tallies := by
  unfold Obligations.Tallies
  refine ⟨⟨?set, ?read, ?refuse⟩, ?add, ?twait, ?timeout, ?tread, ?tsig⟩
  case set =>
    intro s q seq c j b h target
    refine ⟨_, (exec_tallySet h).trans (by rw [target]; rfl), ?_, fun l k x hk hx ne => ?_, ?_⟩
    · rw [eq_wakeTally (fun u => u.tally _ _ _), State.tally_setTally_same]
    · rw [eq_wakeTally (fun u => u.tally _ _ _), State.tally_setTally_ne _ _ (bits_lt _ 24 21) (bits_lt _ 20 13) hk hx ne]
    · exact eq_wakeTally (fun u : State => { u with tallies := s.tallies, cores := s.cores }) _ _ _
  case read =>
    intro s q seq c j b h target
    rw [exec_tallyRead h, target]
    rfl
  case refuse =>
    intro s q seq c j b i op row h fault
    simp only [List.mem_cons, List.not_mem_nil, or_false, Prod.mk.injEq] at row
    rcases row with ⟨rfl, rfl⟩ | ⟨rfl, rfl⟩
    · rw [exec_tallySet h, if_pos (tallyTarget_refused fault)]
    · rw [exec_tallyRead h, if_pos (tallyTarget_refused fault)]
  case add =>
    intro s l k t n hk ht _
    refine ⟨tally_addTally_same, fun l' k' t' hk' ht' ne => tally_addTally_ne hk ht hk' ht' ne, fun above => ?_,
      fun fits => ?_, fun c thr t0 serving phase here => phase_addTally serving phase here, addTally_frame s l k t n⟩
    · have saturated : s.tallySat (s.tally l k t + n) = s.raise .schTallySat := if_pos (by omega)
      refine raised_congr (raised_raise (s := s) (by decide) (by decide)) rfl ?_ ?_
      · exact reg_congr (regs_addTally.trans (congrArg State.regs saturated)) _ _
      · exact congrArg BitVec.toNat (reg_congr (regs_addTally.trans (congrArg State.regs saturated)) _ _)
    · exact regs_addTally.trans (congrArg State.regs (if_neg (by omega)))
  case twait =>
    intro s c w h low
    rw [exec_twait h, twaitStep, if_neg (not_not_intro low)]
    by_cases reached : ((s.core c.val).rg (fd w)).toNat % 2 ^ 32 ≤ s.ownTally (s.core c.val) (tallyIx (s.core c.val) w)
    · rw [if_pos reached]
      exact congrArg (fun k => Host.Outcome.next (s.setCore c.val k)) (if_pos reached).symm
    · rw [if_neg reached]
      exact congrArg (fun k => Host.Outcome.next (s.setCore c.val k)) (if_neg reached).symm
  case timeout =>
    intro s c t thr t0 phase
    rw [exec_twaitTimeout phase]
    refine ⟨fun limit late => congrArg Host.Outcome.next (if_pos ⟨limit, late⟩), fun waits =>
      congrArg Host.Outcome.next (if_neg fun ⟨limit, late⟩ => ?_)⟩
    exact waits.elim limit (Nat.not_lt.2 late)
  case tread =>
    intro s c w h low
    rw [exec_tread h, treadStep, if_neg (not_not_intro low)]
    rfl
  case tsig =>
    intro s c w u b r tb h unit high low
    obtain ⟨running, -⟩ := id h
    have reachable {node : Nat} (known : s.isSelf node = true ∨ s.tableCtx (s.core c.val) node ≠ none) :
        ¬ (s.isSelf node = false ∧ s.tableCtx (s.core c.val) node = none) := fun ⟨other, unmapped⟩ =>
      known.elim (fun self => Bool.noConfusion (other.symm.trans self)) (fun mapped => mapped unmapped)
    rw [exec_tsig h, tsigStep_of_unit unit high low]
    refine ⟨fun bad => ?_, fun good other unmapped => ?_, fun good known full => ?_, fun good known room => ?_⟩
    · rw [if_pos (sigBad_iff.2 bad)]
      exact congrArg Host.Outcome.next (applyStep_fault_self running)
    · rw [if_neg (mt sigBad_iff.1 good), if_pos ⟨other, unmapped⟩]
      exact congrArg Host.Outcome.next (applyStep_fault_self running)
    · rw [if_neg (mt sigBad_iff.1 good), if_neg (reachable known), if_pos full]
      exact congrArg Host.Outcome.next (applyStep_fault_self running)
    · rw [if_neg (mt sigBad_iff.1 good), if_neg (reachable known), if_neg (Nat.not_le.2 room)]
      rfl

end Sys2Proof

/-! # Queues: their rings, doorbells and replies, and the commands that act on them -/

namespace Sys2Proof.Machine

open Claims

variable {s t : State}

/-! ## One queue written -/

/-- A state has one queue written, and nothing else but wait counts differs. -/
structure SetsQueue (s : State) (q : Nat) (v : Queue) (t : State) : Prop where
  queue : t.queue q = v
  others : ∀ x, x ≠ q → t.queue x = s.queue x
  frame : { t with queues := s.queues, waits := s.waits } = s

theorem setsQueue_setQueue {q : Nat} {v : Queue} : SetsQueue s q v (s.setQueue q v) :=
  ⟨State.queue_setQueue_same _ _ _, fun _ h => State.queue_setQueue_ne _ _ h, rfl⟩

/-- Of two writes of one queue the last shows. -/
theorem SetsQueue.again {q : Nat} {u v : Queue} (h : SetsQueue s q u t) : SetsQueue s q v (t.setQueue q v) :=
  ⟨State.queue_setQueue_same _ _ _, fun x hx => (State.queue_setQueue_ne _ _ hx).trans (h.others x hx), h.frame⟩

/-! ## Nothing waits for a queue (R78) -/

/-- No started command waits for a queue's other commands. -/
def NoDrain (s : State) : Prop := ∀ c ∈ s.started, (∀ t r, c.wait ≠ .drain t r) ∧ ∀ r, c.wait ≠ .selfDrain r

theorem NoDrain.sub (h : NoDrain s) (sub : ∀ d ∈ t.started, d ∈ s.started) : NoDrain t := fun d hd => h d (sub d hd)

theorem drained_of_noDrain (h : NoDrain s) : s.drained = none := by
  refine List.find?_eq_none.2 fun c hc => ?_
  obtain ⟨drain, selfDrain⟩ := h c hc
  cases wait : c.wait with
  | drain t r => exact absurd wait (drain t r)
  | selfDrain r => exact absurd wait (selfDrain r)
  | _ => exact Bool.false_ne_true

theorem settleQueues_of_drained_none (h : s.drained = none) (n : Nat) : s.settleQueues n = s := by
  cases n with
  | zero => rfl
  | succ n => rw [State.settleQueues, h]

theorem settle_of_noDrain (h : NoDrain s) : s.settle = s.settleQueue0 := by
  rw [State.settle, settleQueues_of_drained_none (drained_of_noDrain h)]

theorem settleQueue0_of_none (due : (s.queue 0).due = none) : s.settleQueue0 = s := by
  rw [State.settleQueue0, due]

/-- Where nothing waits for a queue, settling leaves the state as it is. -/
theorem settle_of_calm (h : calm s) : s.settle = s := by
  rw [settle_of_noDrain h.1, settleQueue0_of_none h.2]

/-- Changing a queue's counts leaves a calm state calm. -/
theorem calm_setQueue {q : Nat} {k : Queue} (due : k.due = (s.queue q).due) (h : calm s) : calm (s.setQueue q k) := by
  refine ⟨NoDrain.sub h.1 fun _ hd => hd, ?_⟩
  by_cases zero : 0 = q
  · subst zero
    exact (congrArg Queue.due (State.queue_setQueue_same _ _ _)).trans (due.trans h.2)
  · exact (congrArg Queue.due (State.queue_setQueue_ne _ _ zero)).trans h.2

theorem abortDrains_of_noDrain (h : NoDrain s) (q : Nat) (reset : Bool) : s.abortDrains q reset = s := by
  unfold State.abortDrains
  split
  · rfl
  · rw [List.filter_eq_nil_iff.2, List.foldl_nil]
    intro d hd
    cases wait : d.wait with
    | drain u r => exact absurd wait ((h d hd).1 u r)
    | _ => exact Bool.false_ne_true

/-! ## The registers of queue 0 (R73, R78, R108) -/

section

variable {m : Master} {v : Word}

theorem exec_queue0RingWrite {completion : Bool} (h : reaches s m (if completion then .cqQCring else .cqQRing) [0]) :
    exec (.queue0RingWrite m completion v) s = .next (s.ring0Write completion v) := by
  cases completion <;> exact congrArg Host.Outcome.next (controlWrite_reaches h)

theorem exec_queue0Enable (h : reaches s m .cqQCtrl [0]) : exec (.queue0Enable m v) s = .next (s.ctrl0Write v) :=
  congrArg Host.Outcome.next (controlWrite_reaches h)

theorem exec_queue0Disable (h : reaches s m .cqQCtrl [0]) : exec (.queue0Disable m v) s = .next (s.ctrl0Write v) :=
  congrArg Host.Outcome.next (controlWrite_reaches h)

theorem exec_queue0Reset (h : reaches s m .cqQCtrl [0]) : exec (.queue0Reset m v) s = .next (s.ctrl0Write v) :=
  congrArg Host.Outcome.next (controlWrite_reaches h)

end

/-- Queue 0 with the RW fields of CQ.Q_CTRL written. -/
def State.ctrl0Fields (s : State) (v : Word) : State :=
  s.setQueue 0 { s.queue 0 with ctrl := ((s.queue 0).ctrl &&& ~~~0x1FFE30#64) ||| (v &&& 0x1FFE30#64) }

theorem queue_ctrl0Fields {v : Word} : (s.ctrl0Fields v).queue 0 =
    { s.queue 0 with ctrl := ((s.queue 0).ctrl &&& ~~~0x1FFE30#64) ||| (v &&& 0x1FFE30#64) } :=
  State.queue_setQueue_same _ _ _

theorem ctrl0Write_eq (s : State) (v : Word) : s.ctrl0Write v =
    (let u := if v.getLsbD 0 then (s.ctrl0Fields v).enable0 else (s.ctrl0Fields v).drain0 false
     if v.getLsbD 1 then u.drain0 true else u) := by
  simp only [State.ctrl0Write, tbit_toNat]
  rfl

/-- Queue 0 on its way to a reset (`r`) or to its disabling. -/
def State.stopping0 (s : State) (r : Bool) : State := s.setQueue 0 { s.queue 0 with stopping := true, due := some r }

theorem drain0_eq {r : Bool} (on : (s.queue 0).st ≠ .disabled) (due : (s.queue 0).due = none) (h : NoDrain s) :
    s.drain0 r = (s.stopping0 r).settleQueue0 := by
  have fresh : (r && (s.queue 0).due != some false) = r := by
    rw [due]
    exact Bool.and_true r
  rw [State.drain0, if_neg on, fresh]
  exact settle_of_noDrain (NoDrain.sub h fun _ hd => hd)

/-- With no command started and no reply held the reset or disabling is applied at once. -/
theorem drain0_of_idle {r : Bool} (on : (s.queue 0).st ≠ .disabled) (due : (s.queue 0).due = none)
    (started : s.started = []) (held : (s.queue 0).held = []) : s.drain0 r = (s.stopping0 r).applyQ 0 r := by
  have h : ∀ u : State, u.started = [] → NoDrain u := fun u none d hd => by rw [none] at hd; cases hd
  have due' : ((s.stopping0 r).queue 0).due = some r := congrArg Queue.due (State.queue_setQueue_same _ _ _)
  have held' : ((s.stopping0 r).queue 0).held = [] := (congrArg Queue.held (State.queue_setQueue_same _ _ _)).trans held
  have started' : (s.stopping0 r).started = [] := started
  rw [drain0_eq on due (h s started), State.settleQueue0, due']
  simp only [started', held', List.any_nil, List.isEmpty_nil, Bool.not_true, Bool.or_false, Bool.false_eq_true, if_false]
  refine abortDrains_of_noDrain (h _ ?_) _ _
  cases r <;> exact started

/-- With a command of queue 0 started it waits. -/
theorem drain0_of_busy {r : Bool} (on : (s.queue 0).st ≠ .disabled) (h : calm s) (busy : ∃ c ∈ s.started, c.q = 0) :
    s.drain0 r = s.stopping0 r := by
  have due' : ((s.stopping0 r).queue 0).due = some r := congrArg Queue.due (State.queue_setQueue_same _ _ _)
  have some_started : (s.stopping0 r).started.any (fun d => d.q == 0) = true := by simpa [State.stopping0] using busy
  rw [drain0_eq on h.2 h.1, State.settleQueue0, due']
  simp only [some_started, Bool.true_or, if_true]

/-! ## A command that completes (R81, R84, R87) -/

/-- A command is no longer started. -/
def State.dropCmd (s : State) (c : Started) : State :=
  { s with started := s.started.filter (fun d => !(d.q == c.q && d.seq == c.seq)) }

theorem mem_dropCmd {c d : Started} (h : d ∈ (s.dropCmd c).started) : d ∈ s.started := List.mem_of_mem_filter h

theorem calm_dropCmd {c : Started} (h : calm s) : calm (s.dropCmd c) := ⟨NoDrain.sub h.1 fun _ => mem_dropCmd, h.2⟩

theorem answer_success {c : Started} {a : Answer} (success : a.status = 0) :
    s.answer c a = if tbit c.flags.toNat 2 then s.dropCmd c else (s.dropCmd c).putReply c.q (c.reply a) := by
  simp [State.answer, success, Status.denied, Status.addrError, State.dropCmd]

/-- A success under QUIET writes no reply. -/
theorem answer_quiet {c : Started} {a : Answer} (success : a.status = 0) (quiet : tbit c.flags.toNat 2 = true) :
    s.answer c a = s.dropCmd c := by rw [answer_success success, if_pos quiet]

theorem finishCmd_quiet {c : Started} {a : Answer} (success : a.status = 0) (quiet : tbit c.flags.toNat 2 = true) (h : calm s) :
    s.finishCmd c a = s.dropCmd c := by
  rw [State.finishCmd, answer_quiet success quiet, settle_of_calm (calm_dropCmd h)]

/-! ## Memory that is written at once -/

theorem nth_eq_getElem {α : Type} (d : α) (xs : List α) {i : Nat} (h : i < xs.length) : nth d xs i = xs[i] := by
  simp [nth, h]

theorem memRead_memWrite (m : List Host.Cell) (a : Nat) (bs : List Byte) : memRead (memWrite m a bs) a bs.length = bs := by
  refine List.ext_getElem? fun i => ?_
  rw [getElem?_memRead]
  by_cases h : i < bs.length
  · rw [if_pos h, mget_memWrite, if_pos ⟨by omega, by omega⟩, Nat.add_sub_cancel_left, nth_eq_getElem _ _ h,
      List.getElem?_eq_getElem h]
  · rw [if_neg h, List.getElem?_eq_none (Nat.not_lt.1 h)]

theorem segments_hbm {a n : Nat} (lies : inWindow .hbm a n = true) (some_bytes : n ≠ 0) :
    s.segments a n = some [(a, n)] := by
  obtain ⟨first, last⟩ := Bool.and_eq_true_iff.1 lies
  rw [beq_iff_eq] at first last
  rw [State.segments, if_neg some_bytes, first, last]
  simp [State.phys, first]

theorem unreachable_hbm {a n : Nat} (lies : inWindow .hbm a n = true) (some_bytes : n ≠ 0) : s.unreachable a n = false := by
  obtain ⟨first, -⟩ := Bool.and_eq_true_iff.1 lies
  rw [State.unreachable, segments_hbm lies some_bytes, eq_of_beq first]
  rfl

/-- A write to HBM3E of a node without words in error, frozen pages or tracked lines. -/
theorem storeOff_hbm {a : Nat} {bs : List Byte} (lies : inWindow .hbm a bs.length = true) (some_bytes : bs.length ≠ 0)
    (errs : s.errs = []) (pages : s.pages = []) (snoop : s.hostPort.snoop = []) :
    s.storeOff a bs = { s with mem := memWrite s.mem a bs } := by
  have clean : s.rewriteErrs a bs.length = s := by
    rw [State.rewriteErrs, State.errsIn, errs]
    rfl
  rw [State.storeOff, segments_hbm lies some_bytes]
  simp [State.store, pages, snoop, State.put, clean]

/-! ## A reply that is written (R81, R87) -/

/-- Where the next reply of a queue goes. -/
def Queue.replyAt (k : Queue) : Nat := cringBase k.cring + k.cproducer.toNat % 2 ^ ringLog2 k.cring * 32

@[simp] theorem replyBytes_length (q : Nat) (k : Queue) (r : Reply) : (replyBytes q k r).length = 32 := by
  simp [replyBytes]

/-- Memory replaced. -/
def State.withMem (s : State) (m : List Host.Cell) : State := { s with mem := m }

/-- A reply written in the ring, and counted. -/
def State.replied (s : State) (q : Nat) (r : Reply) : State :=
  (s.withMem (memWrite s.mem (s.queue q).replyAt (replyBytes q (s.queue q) r))).setQueue q
    { s.queue q with cproducer := (s.queue q).cproducer + 1 }

/-- A reply to a completion ring with room in HBM3E, of a completion that asks for no notification. -/
theorem putReply_hbm {q : Nat} {r : Reply} (room : (s.queue q).cringFull = false) (held : (s.queue q).held = [])
    (lies : inWindow .hbm (s.queue q).replyAt 32 = true) (on : s.masterOn r.master.val = true)
    (policy : s.policy r.master.val true (s.queue q).replyAt false true 0 = true) (errs : s.errs = []) (pages : s.pages = [])
    (snoop : s.hostPort.snoop = []) (silent : r.notify = false) (completes : isCompletion r.status.toNat = true) :
    s.putReply q r = s.replied q r := by
  have allowed : s.allowed r.master.val true (s.queue q).replyAt false true 0 = (s, true) := by
    rw [State.allowed, if_pos on, policy]
  have stored := storeOff_hbm (s := s) (bs := replyBytes q (s.queue q) r) (by rwa [replyBytes_length])
    (by rw [replyBytes_length]; decide) errs pages snoop
  have written : s.putReply q r = s.writeReply q r := by simp [State.putReply, room, held]
  rw [Queue.replyAt] at allowed stored lies
  rw [written, State.writeReply]
  simp only [unreachable_hbm lies (by decide), Bool.false_eq_true, if_false, allowed, stored, silent, completes, Bool.not_true,
    Bool.and_false, Bool.false_and]
  rfl

theorem mem_replied {q : Nat} {r : Reply} :
    (s.replied q r).mem = memWrite s.mem (s.queue q).replyAt (replyBytes q (s.queue q) r) := rfl

theorem queue_replied {q : Nat} {r : Reply} :
    (s.replied q r).queue q = { s.queue q with cproducer := (s.queue q).cproducer + 1 } := State.queue_setQueue_same _ _ _

theorem queue_replied_ne {q x : Nat} {r : Reply} (h : x ≠ q) : (s.replied q r).queue x = s.queue x :=
  State.queue_setQueue_ne _ _ h

theorem memRead_replied {q : Nat} {r : Reply} :
    memRead (s.replied q r).mem (s.queue q).replyAt 32 = replyBytes q (s.queue q) r := by
  have read := memRead_memWrite s.mem (s.queue q).replyAt (replyBytes q (s.queue q) r)
  rwa [replyBytes_length] at read

/-- A reply changes no byte outside its entry of the ring. -/
theorem mget_replied {q x : Nat} {r : Reply} (out : x < (s.queue q).replyAt ∨ (s.queue q).replyAt + 32 ≤ x) :
    mget 0#8 (s.replied q r).mem x = mget 0#8 s.mem x := by
  rw [mem_replied, mget_memWrite, replyBytes_length, if_neg (by omega)]

theorem started_replied {q : Nat} {r : Reply} : (s.replied q r).started = s.started := State.setQueue_started _ _ _

theorem frame_withMem_setQueue {m : List Host.Cell} {q : Nat} {v : Queue} :
    { (s.withMem m).setQueue q v with mem := s.mem, queues := s.queues, waits := s.waits } = s := rfl

theorem frame_replied {q : Nat} {r : Reply} :
    { s.replied q r with mem := s.mem, queues := s.queues, waits := s.waits } = s := by
  unfold State.replied
  exact frame_withMem_setQueue

theorem frame_of_dropCmd {c : Started}
    (h : { t with mem := (s.dropCmd c).mem, queues := (s.dropCmd c).queues, waits := (s.dropCmd c).waits } = s.dropCmd c) :
    { t with mem := s.mem, queues := s.queues, waits := s.waits, started := s.started } = s :=
  congrArg (fun u : State => { u with started := s.started }) h

/-- The reply of a command of hardware that succeeds without results. -/
theorem replyBytes_ok {q : Nat} {k : Queue} {c : Started} (hardware : hwOpcodes.contains c.opcode.toNat = true) :
    replyBytes q k (c.reply (.ok)) =
      leBytes 2 0 ++ leBytes 2 c.opcode.toNat ++ leBytes 4 c.seq.toNat ++
      leBytes 2 ((if k.cproducer.toNat / 2 ^ ringLog2 k.cring % 2 = 0 then 0x8000 else 0) + q) ++
      leBytes 2 c.tag.toNat ++ leBytes 1 c.epoch.toNat ++ leBytes 1 0 ++ leBytes 2 0 ++ leBytes 8 0 ++ leBytes 8 0 := by
  have phase : (if k.cproducer.toNat / 2 ^ ringLog2 k.cring % 2 = 0 then 1 else 0) * 2 ^ 15 + q =
      (if k.cproducer.toNat / 2 ^ ringLog2 k.cring % 2 = 0 then 0x8000 else 0) + q := by split <;> rfl
  have path : b2n (c.reply (.ok)).path = 0 := by rw [Started.reply, hardware]; rfl
  simp only [replyBytes, path, phase]
  rfl

/-- A success without QUIET or NOTIFY, where nothing waits for a queue and the ring has room in HBM3E. -/
theorem finishCmd_replied {c : Started} (calm : calm s) (quiet : tbit c.flags.toNat 2 = false)
    (silent : tbit c.flags.toNat 3 = false) (held : (s.queue c.q).held = []) (room : (s.queue c.q).cringFull = false)
    (lies : inWindow .hbm (s.queue c.q).replyAt 32 = true) (on : s.masterOn c.master.val = true)
    (policy : s.policy c.master.val true (s.queue c.q).replyAt false true 0 = true) (errs : s.errs = []) (pages : s.pages = [])
    (snoop : s.hostPort.snoop = []) : s.finishCmd c (.ok) = (s.dropCmd c).replied c.q (c.reply (.ok)) := by
  rw [State.finishCmd, answer_success rfl, if_neg (Bool.eq_false_iff.1 quiet)]
  have reply : (s.dropCmd c).putReply c.q (c.reply (.ok)) = (s.dropCmd c).replied c.q (c.reply (.ok)) :=
    putReply_hbm room held lies on policy errs pages snoop silent rfl
  rw [reply]
  exact settle_of_calm (calm_setQueue rfl (calm_dropCmd calm))

/-! ## Doorbells and consumed counts (R76, R78, R81) -/

theorem exec_doorbellWrite {m : Master} {q : QueueId} {v : Word} (h : reaches s m .cqDb [q.val]) :
    exec (.doorbellWrite m q v) s = .next (s.doorbell m q.val v) := congrArg Host.Outcome.next (controlWrite_reaches h)

theorem exec_chWrite {m : Master} {q : QueueId} {v : Word} (h : reaches s m .cqCh [q.val]) :
    exec (.chWrite m q v) s = .next (s.chWrite q.val v) := congrArg Host.Outcome.next (controlWrite_reaches h)

/-- A doorbell value that the ring can hold (R76). -/
def Queue.Fits (k : Queue) (new : W32) : Prop :=
  (new - k.producer).toNat ≤ 2 ^ 31 ∧ (new - k.consumer).toNat ≤ 2 ^ ringLog2 k.ring

section

variable {m : Master} {q : Nat} {v : Word}

theorem doorbell_of_disabled (off : (s.queue q).st = .disabled) : s.doorbell m q v = s.raise .cqDbDiscard := if_pos off

/-- A doorbell that fits moves PRODUCER, with a mark of its master where it moves it. -/
theorem doorbell_of_fits (on : (s.queue q).st ≠ .disabled) (fits : (s.queue q).Fits (BitVec.ofNat 32 v.toNat)) :
    s.doorbell m q v = if BitVec.ofNat 32 v.toNat = (s.queue q).producer then s
      else s.setQueue q { s.queue q with
        producer := BitVec.ofNat 32 v.toNat, marks := (s.queue q).marks ++ [(BitVec.ofNat 32 v.toNat, m)] } := by
  rw [State.doorbell, if_neg on]
  exact if_pos (by simpa [Queue.Fits] using fits)

theorem doorbell_of_not_fits (on : (s.queue q).st ≠ .disabled) (above : ¬ (s.queue q).Fits (BitVec.ofNat 32 v.toNat)) :
    s.doorbell m q v = if (s.queue q).st = .error then s.raise .cqDbDiscard
      else s.queueError q 0x010B 0 (BitVec.ofNat 32 v.toNat).toNat := by
  rw [State.doorbell, if_neg on]
  exact if_neg (by simpa [Queue.Fits] using above)

/-- A count beyond CPRODUCER is discarded. -/
theorem chWrite_of_invalid
    (invalid : ¬ (BitVec.ofNat 32 v.toNat - (s.queue q).consumed).toNat ≤ ((s.queue q).cproducer - (s.queue q).consumed).toNat) :
    s.chWrite q v = s.raise .cqDbDiscard := if_neg invalid

theorem chWrite_of_valid
    (valid : (BitVec.ofNat 32 v.toNat - (s.queue q).consumed).toNat ≤ ((s.queue q).cproducer - (s.queue q).consumed).toNat) :
    s.chWrite q v = ((s.setQueue q { s.queue q with consumed := BitVec.ofNat 32 v.toNat }).flushHeld q
      (s.queue q).held.length).settle := if_pos valid

theorem chWrite_of_calm (h : calm s) (held : (s.queue q).held = [])
    (valid : (BitVec.ofNat 32 v.toNat - (s.queue q).consumed).toNat ≤ ((s.queue q).cproducer - (s.queue q).consumed).toNat) :
    s.chWrite q v = s.setQueue q { s.queue q with consumed := BitVec.ofNat 32 v.toNat } := by
  have none_held : (s.queue q).held.length = 0 := by rw [held, List.length_nil]
  rw [chWrite_of_valid valid, none_held, State.flushHeld]
  exact settle_of_calm (calm_setQueue rfl h)

end

/-- A queue that is not in ERROR enters it. -/
theorem queueError_eq {q status opcode seq : Nat} (fresh : (s.queue q).st ≠ .error) : s.queueError q status opcode seq =
    (((s.setQueue q { s.queue q with
        st := .error, err := BitVec.ofNat 64 (status * 2 ^ 48 + opcode * 2 ^ 32 + seq) }).setReg .cqErrLast []
      (BitVec.ofNat 64 (q * 2 ^ 48 + status * 2 ^ 16))).raise .cqQueueError) := if_neg fresh

theorem queue_raise {e : Ev} {is : List Nat} {x : Nat} : (s.raise e is).queue x = s.queue x := rfl

theorem queue_setReg {tag : RegTag} {is : List Nat} {w : Word} {x : Nat} : (s.setReg tag is w).queue x = s.queue x := rfl

theorem frame_raise_setReg {e : Ev} {tag : RegTag} {is is' : List Nat} {w : Word}
    (h : { t with queues := s.queues, waits := s.waits } = s) :
    { (t.setReg tag is w).raise e is' with queues := s.queues, waits := s.waits, regs := s.regs } = s :=
  congrArg (fun u : State => { u with regs := s.regs }) h

section

variable {q status opcode seq : Nat} (fresh : (s.queue q).st ≠ .error)

include fresh

theorem queue_queueError : (s.queueError q status opcode seq).queue q = { s.queue q with
    st := .error, err := BitVec.ofNat 64 (status * 2 ^ 48 + opcode * 2 ^ 32 + seq) } := by
  rw [queueError_eq fresh, queue_raise, queue_setReg, State.queue_setQueue_same]

theorem queue_queueError_ne {x : Nat} (h : x ≠ q) : (s.queueError q status opcode seq).queue x = s.queue x := by
  rw [queueError_eq fresh, queue_raise, queue_setReg, State.queue_setQueue_ne _ _ h]

theorem frame_queueError :
    { s.queueError q status opcode seq with queues := s.queues, waits := s.waits, regs := s.regs } = s := by
  rw [queueError_eq fresh]
  exact frame_raise_setReg setsQueue_setQueue.frame

theorem raised_queueError :
    raised s (s.queueError q status opcode seq) .cqQueueError [] := by
  rw [queueError_eq fresh]
  exact raised_congr (raised_raise (by decide) (by decide)) (count_setReg (by decide)).symm rfl rfl

theorem errLast_queueError :
    (s.queueError q status opcode seq).reg .cqErrLast = BitVec.ofNat 64 (q * 2 ^ 48 + status * 2 ^ 16) := by
  rw [queueError_eq fresh, reg_raise (by decide) (by decide), State.reg_setReg_same]

end

/-! ## Commands on queues (R78, R91, R92) -/

theorem eq_of_findStarted {q : Nat} {seq : W32} {c : Started} (h : s.findStarted q seq = some c) : c.q = q ∧ c.seq = seq := by
  simpa using List.find?_some h

section

variable {q : QueueId} {seq : W32} {c : Started}

theorem exec_qNop (h : ready s 0x0106 q seq c) : exec (.qNop q seq) s = .next (s.finishCmd c (.ok)) :=
  congrArg Host.Outcome.next (runCmd_of_readyCmd _ h)

end

end Sys2Proof.Machine

namespace Sys2Proof

open Machine Claims

/-- Settles O12: a doorbell and a consumed count are one write of the queue or one event; Q_NOP's reply is one write of
memory and one of its queue. -/
theorem doorbellsAndReplies : Obligations.DoorbellsAndReplies := by
  unfold Obligations.DoorbellsAndReplies
  refine ⟨⟨?doorbell, ?consumed⟩, ?reply, ?quiet⟩
  case doorbell =>
    intro s m q v h
    rw [exec_doorbellWrite h]
    refine ⟨fun off => by rw [doorbell_of_disabled off], fun on fits => ?_, fun error above => ?_, fun on above => ?_⟩
    · rw [doorbell_of_fits on fits]
      split
      next same =>
        refine ⟨s, rfl, ?_, fun _ _ => rfl, rfl⟩
        rw [same]
      next moved =>
        obtain ⟨queue, others, frame⟩ := setsQueue_setQueue
        exact ⟨_, rfl, queue, others, frame⟩
    · have on : (s.queue q.val).st ≠ .disabled := by rw [error]; decide
      rw [doorbell_of_not_fits on above, if_pos error]
    · have fresh : (s.queue q.val).st ≠ .error := by rcases on with on | on <;> rw [on] <;> decide
      have on : (s.queue q.val).st ≠ .disabled := by rcases on with on | on <;> rw [on] <;> decide
      rw [doorbell_of_not_fits on above, if_neg fresh]
      exact ⟨_, rfl, by rw [queue_queueError fresh, Nat.zero_mul, Nat.add_zero], raised_queueError fresh,
        errLast_queueError fresh, fun x hx => queue_queueError_ne fresh hx, frame_queueError fresh⟩
  case consumed =>
    intro s m q v h
    rw [exec_chWrite h]
    refine ⟨fun invalid => congrArg Host.Outcome.next (chWrite_of_invalid invalid),
      fun valid => congrArg Host.Outcome.next (chWrite_of_valid valid),
      fun valid held calm => congrArg Host.Outcome.next (chWrite_of_calm calm held valid)⟩
  case reply =>
    intro s q seq c h calm k a quiet silent held room lies on policy errs pages snoop
    obtain ⟨started, opcode, -⟩ := id h
    obtain ⟨own, same⟩ := eq_of_findStarted started
    have hardware : hwOpcodes.contains c.opcode.toNat = true := by rw [opcode]; decide
    have reply := finishCmd_replied calm quiet silent (by rwa [own]) (by rwa [own]) (by rwa [own]) on (by rwa [own]) errs pages
      snoop
    have read : memRead ((s.dropCmd c).replied q.val (c.reply (.ok))).mem a 32 = replyBytes q.val k (c.reply (.ok)) :=
      memRead_replied
    rw [exec_qNop h, reply, own]
    refine ⟨_, rfl, ?_, fun x out => mget_replied out, queue_replied, fun x hx => queue_replied_ne hx, ?_,
      frame_of_dropCmd frame_replied⟩
    · rw [read, replyBytes_ok hardware]
    · rw [started_replied, State.dropCmd, own, same]
  case quiet =>
    intro s q seq c h calm quiet
    obtain ⟨own, same⟩ := eq_of_findStarted h.1
    rw [exec_qNop h, finishCmd_quiet rfl quiet calm, State.dropCmd, own, same]

end Sys2Proof

namespace Sys2Proof.Machine

open Claims

variable {s : State}

/-! ## Queue 0's rings and its control register (R73, R108) -/

theorem ring0Write_eq (s : State) (completion : Bool) (v : Word) : s.ring0Write completion v =
    (let w := v &&& (if completion then 0x7FFFFFFFFFFFF else 0x7FFFFFFFFFFDF)
     let out := ringLog2 w < 6 ∨ 16 < ringLog2 w ∨
       ringPlaced (if completion then cringBase w else ringBase w) (if completion then 32 else 64) (ringLog2 w) = false
     if out then s
     else s.setQueue 0 (if completion then { s.queue 0 with cring := w } else { s.queue 0 with ring := w })) := by
  cases completion <;> simp [State.ring0Write, or_assoc]

/-! ### What disabling and reset leave of a queue (R78) -/

section

variable {t : State} {q : Nat} {k : Queue}

theorem SetsQueue.applyQDestroy (h : SetsQueue s q k t) : SetsQueue s q
    { k with st := .disabled, stopping := false, held := [], marks := [], due := none } (t.applyQDestroy q) := by
  rw [State.applyQDestroy, h.queue]
  exact h.again

theorem SetsQueue.applyQReset (h : SetsQueue s q k t) : SetsQueue s q
    { k with st := .active, producer := 0, consumer := 0, cproducer := 0, consumed := 0, stopping := false, held := [],
             marks := [], due := none } (t.applyQReset q) := by
  rw [State.applyQReset, h.queue]
  exact h.again

theorem SetsQueue.stopping0 {r : Bool} (h : SetsQueue s 0 k t) :
    SetsQueue s 0 { k with stopping := true, due := some r } (t.stopping0 r) := by
  rw [State.stopping0, h.queue]
  exact h.again

end

/-! ### Writes of CQ.Q_CTRL (R108) -/

/-- Queue 0's record with the RW fields of CQ.Q_CTRL written. -/
def Queue.withFields (k : Queue) (v : Word) : Queue := { k with ctrl := (k.ctrl &&& ~~~0x1FFE30#64) ||| (v &&& 0x1FFE30#64) }

theorem setsQueue_ctrl0Fields {v : Word} : SetsQueue s 0 ((s.queue 0).withFields v) (s.ctrl0Fields v) := setsQueue_setQueue

section

variable {v : Word}

/-- ENABLE of a queue 0 whose rings are set up. -/
theorem ctrl0Write_enable (off : (s.queue 0).st = .disabled) (enable : v.getLsbD 0 = true) (reset : v.getLsbD 1 = false)
    (ring : ringLog2 (s.queue 0).ring ≠ 0) (cring : ringLog2 (s.queue 0).cring ≠ 0) :
    SetsQueue s 0 { (s.queue 0).withFields v with st := .active } (s.ctrl0Write v) := by
  have enabled : s.ctrl0Write v = (s.ctrl0Fields v).setQueue 0 { (s.queue 0).withFields v with st := .active } := by
    rw [ctrl0Write_eq, enable, reset, State.enable0, setsQueue_ctrl0Fields.queue]
    simp [Queue.withFields, off, ring, cring]
  rw [enabled]
  exact setsQueue_ctrl0Fields.again

section

variable (on : (s.queue 0).st ≠ .disabled) (h : calm s)

include on h

/-- ENABLE written 0 with nothing of queue 0 under way. -/
theorem ctrl0Write_disable_idle (enable : v.getLsbD 0 = false) (reset : v.getLsbD 1 = false) (started : s.started = [])
    (held : (s.queue 0).held = []) : SetsQueue s 0
      { (s.queue 0).withFields v with st := .disabled, stopping := false, held := [], marks := [], due := none }
      (s.ctrl0Write v) := by
  have disabled : s.ctrl0Write v = ((s.ctrl0Fields v).stopping0 false).applyQDestroy 0 := by
    rw [ctrl0Write_eq, enable, reset]
    exact drain0_of_idle (by rwa [queue_ctrl0Fields]) (by rw [queue_ctrl0Fields]; exact h.2) started
      (by rwa [queue_ctrl0Fields])
  rw [disabled]
  exact setsQueue_ctrl0Fields.stopping0.applyQDestroy

/-- RESET written 1 with nothing of queue 0 under way. -/
theorem ctrl0Write_reset_idle (enable : v.getLsbD 0 = true) (reset : v.getLsbD 1 = true) (started : s.started = [])
    (held : (s.queue 0).held = []) : SetsQueue s 0
      { (s.queue 0).withFields v with
        st := .active, producer := 0, consumer := 0, cproducer := 0, consumed := 0, stopping := false, held := [], marks := []
        due := none } (s.ctrl0Write v) := by
  have stays : (s.ctrl0Fields v).enable0 = s.ctrl0Fields v := by
    rw [State.enable0, setsQueue_ctrl0Fields.queue]
    simp [Queue.withFields, on]
  have done : s.ctrl0Write v = ((s.ctrl0Fields v).stopping0 true).applyQReset 0 := by
    rw [ctrl0Write_eq, enable, reset]
    dsimp only
    rw [if_pos rfl, if_pos rfl, stays]
    exact drain0_of_idle (by rwa [queue_ctrl0Fields]) (by rw [queue_ctrl0Fields]; exact h.2) started
      (by rwa [queue_ctrl0Fields])
  rw [done]
  exact setsQueue_ctrl0Fields.stopping0.applyQReset

/-- ENABLE written 0 while commands of queue 0 are started. -/
theorem ctrl0Write_disable_busy (enable : v.getLsbD 0 = false) (reset : v.getLsbD 1 = false)
    (busy : ∃ c ∈ s.started, c.q = 0) :
    SetsQueue s 0 { (s.queue 0).withFields v with stopping := true, due := some false } (s.ctrl0Write v) := by
  have waits : s.ctrl0Write v = (s.ctrl0Fields v).stopping0 false := by
    rw [ctrl0Write_eq, enable, reset]
    exact drain0_of_busy (by rwa [queue_ctrl0Fields]) (calm_setQueue rfl h) busy
  rw [waits]
  exact setsQueue_ctrl0Fields.stopping0

end

end

/-! ## Q_RESET and Q_DESTROY (R78) -/

section

variable {α : Type} {p g : α → Bool} {a b : α} {xs : List α}

theorem find?_updFirst (found : xs.find? p = some a) (accepted : g b = true) (others : ∀ x ∈ xs, g x = false) :
    (updFirst p (fun _ => b) xs).find? g = some b := by
  induction xs with
  | nil => cases found
  | cons x xs ih =>
    by_cases first : p x = true
    · simp [updFirst, first, accepted]
    · rw [List.find?_cons_of_neg first] at found
      have later := ih found fun y hy => others y (List.mem_cons_of_mem _ hy)
      simp [updFirst, first, others x List.mem_cons_self, later]

theorem filter_updFirst (taken : p b = true) :
    (updFirst p (fun _ => b) xs).filter (fun x => !p x) = xs.filter (fun x => !p x) := by
  induction xs with
  | nil => rfl
  | cons x xs ih => by_cases first : p x = true <;> simp [updFirst, first, taken, ih]

theorem mem_updFirst {x : α} (h : x ∈ updFirst p (fun _ => b) xs) : x = b ∨ x ∈ xs := by
  induction xs with
  | nil => cases h
  | cons y ys ih =>
    by_cases first : p y = true
    · rw [updFirst, if_pos first] at h
      exact (List.mem_cons.1 h).imp_right (List.mem_cons_of_mem _)
    · rw [updFirst, if_neg first] at h
      rcases List.mem_cons.1 h with rfl | later
      · exact .inr List.mem_cons_self
      · exact (ih later).imp_right (List.mem_cons_of_mem _)

end

section

variable {c : Started} {reset : Bool}

theorem beginDrain_of_on (small : c.arg 0 ≤ 4095) (on : (s.queue (c.arg 0)).st ≠ .disabled) : s.beginDrain c reset =
    ((s.setQueue (c.arg 0) { s.queue (c.arg 0) with stopping := true }).waitCmd c
      (if c.arg 0 = c.q then .selfDrain reset else .drain (c.arg 0) reset)).settle := by
  rw [State.beginDrain, if_neg (Nat.not_lt.2 small), if_neg on]

theorem beginDrain_of_disabled (small : c.arg 0 ≤ 4095) (off : (s.queue (c.arg 0)).st = .disabled) :
    s.beginDrain c reset = s.finishCmd c (.st 0x010A) := by
  rw [State.beginDrain, if_neg (Nat.not_lt.2 small), if_pos off]
  rfl

/-- A command that waits for a queue without started commands or held replies is the one whose wait has ended. -/
theorem drained_waitCmd {q : Nat} (found : s.findStarted c.q c.seq = some c) (h : NoDrain s) (held : (s.queue q).held = [])
    (idle : ∀ d ∈ s.started, d.q ≠ q) :
    (s.waitCmd c (.drain q reset)).drained = some { c with wait := .drain q reset } := by
  have other : c.q ≠ q := idle c (List.mem_of_find?_eq_some found)
  have none_started : ∀ d ∈ (s.waitCmd c (.drain q reset)).started, d.q ≠ q := fun d hd =>
    (mem_updFirst hd).elim (fun e => by rw [e]; exact other) (idle d)
  refine find?_updFirst found ?_ fun d hd => ?_
  · have held' : ((s.waitCmd c (.drain q reset)).queue q).held = [] := held
    simp only [held', List.isEmpty_nil, Bool.true_and, Bool.not_eq_true', List.any_eq_false]
    intro d hd
    simp [none_started d hd]
  · obtain ⟨drain, selfDrain⟩ := h d hd
    cases wait : d.wait with
    | drain u r => exact absurd wait (drain u r)
    | selfDrain r => exact absurd wait (selfDrain r)
    | _ => rfl

/-- The command is applied and, under QUIET, gone. -/
theorem settle_waitCmd {q : Nat} (found : s.findStarted c.q c.seq = some c) (h : calm s) (held : (s.queue q).held = [])
    (idle : ∀ d ∈ s.started, d.q ≠ q) (quiet : tbit c.flags.toNat 2 = true) (other : q ≠ 0) :
    (s.waitCmd c (.drain q reset)).settle = (s.applyQ q reset).dropCmd c := by
  have dropped : ((s.waitCmd c (.drain q reset)).applyQ q reset).dropCmd { c with wait := .drain q reset } =
      (s.applyQ q reset).dropCmd c := by
    have same : ((s.waitCmd c (.drain q reset)).applyQ q reset).dropCmd { c with wait := .drain q reset } =
        { s.applyQ q reset with started := ((s.waitCmd c (.drain q reset)).dropCmd c).started } := by cases reset <;> rfl
    have started : (s.applyQ q reset).started = s.started := by cases reset <;> rfl
    have filtered : ((s.waitCmd c (.drain q reset)).dropCmd c).started = (s.dropCmd c).started := filter_updFirst (by simp)
    rw [same, filtered, State.dropCmd, State.dropCmd, started]
  have answered : ((s.waitCmd c (.drain q reset)).applyQ q reset).answer { c with wait := .drain q reset } (.ok) =
      (s.applyQ q reset).dropCmd c := (answer_quiet rfl quiet).trans dropped
  have applied : calm ((s.applyQ q reset).dropCmd c) := by
    refine calm_dropCmd ⟨?_, ?_⟩
    · cases reset <;> exact NoDrain.sub h.1 fun _ hd => hd
    · cases reset <;> exact (congrArg Queue.due (State.queue_setQueue_ne _ _ other.symm)).trans h.2
  rw [State.settle, State.settleQueues, drained_waitCmd found h.1 held idle]
  dsimp only
  rw [answered, abortDrains_of_noDrain applied.1, settleQueues_of_drained_none
    (drained_of_noDrain applied.1), settleQueue0_of_none applied.2]

theorem findStarted_self {q : Nat} {seq : W32} (h : s.findStarted q seq = some c) : s.findStarted c.q c.seq = some c := by
  obtain ⟨own, same⟩ := eq_of_findStarted h
  rw [own, same, h]

/-- Q_RESET or Q_DESTROY, under QUIET, of another queue of which nothing is under way. -/
theorem beginDrain_of_idle {q : Nat} {seq : W32} (found : s.findStarted q seq = some c) (small : c.arg 0 ≤ 4095)
    (other : c.arg 0 ≠ c.q) (on : (s.queue (c.arg 0)).st ≠ .disabled) (held : (s.queue (c.arg 0)).held = [])
    (idle : ∀ d ∈ s.started, d.q ≠ c.arg 0) (h : calm s) (quiet : tbit c.flags.toNat 2 = true) (zero : c.arg 0 ≠ 0) :
    s.beginDrain c reset =
      ((s.setQueue (c.arg 0) { s.queue (c.arg 0) with stopping := true }).applyQ (c.arg 0) reset).dropCmd c := by
  rw [beginDrain_of_on small on, if_neg other]
  exact settle_waitCmd (findStarted_self found) (calm_setQueue rfl h)
    ((congrArg Queue.held (State.queue_setQueue_same _ _ _)).trans held) idle quiet zero

/-- The frame of a queue written and a command that is gone. -/
theorem SetsQueue.dropCmd_frame {t : State} {q : Nat} {k : Queue} (h : SetsQueue s q k t) :
    { t.dropCmd c with queues := s.queues, waits := s.waits, started := s.started } = s :=
  congrArg (fun u : State => { u with started := s.started }) h.frame

end

/-! ## The commands' rows (R91, R92) -/

section

variable {q : QueueId} {seq : W32} {c : Started}

theorem exec_qDestroy (h : ready s 0x0102 q seq c) : exec (.qDestroy q seq) s = .next (s.beginDrain c false) :=
  congrArg Host.Outcome.next (runCmd_of_readyCmd _ h)

theorem exec_qPause (h : ready s 0x0103 q seq c) : exec (.qPause q seq) s = .next (s.moveQueue c .active .paused) :=
  congrArg Host.Outcome.next (runCmd_of_readyCmd _ h)

theorem exec_qResume (h : ready s 0x0104 q seq c) : exec (.qResume q seq) s = .next (s.moveQueue c .paused .active) :=
  congrArg Host.Outcome.next (runCmd_of_readyCmd _ h)

theorem exec_qReset (h : ready s 0x0105 q seq c) : exec (.qReset q seq) s = .next (s.beginDrain c true) :=
  congrArg Host.Outcome.next (runCmd_of_readyCmd _ h)

/-- Q_CREATE of a queue that is DISABLED. -/
theorem exec_qCreate (h : ready s 0x0101 q seq c) (off : (s.queue (c.arg 0)).st = .disabled) :
    exec (.qCreate q seq) s = .next ((s.setQueue (c.arg 0) { Queue.zero with
      st := .active, ring := BitVec.ofNat 64 (c.arg 5), cring := BitVec.ofNat 64 (c.arg 6), err := (s.queue (c.arg 0)).err
      ctrl := BitVec.ofNat 64 (c.arg 4 * 2 ^ 32 + c.arg 3 * 2 ^ 10 + c.arg 2 * 2 ^ 9 + c.arg 1 * 2 ^ 4) }).finishCmd c (.ok)) := by
  have run : exec (.qCreate q seq) s = execQCreate q seq s := rfl
  rw [run, execQCreate, runCmd_of_readyCmd _ h, if_neg (not_not_intro off)]

end

section

variable {c : Started} {a b : QState} (small : c.arg 0 ≤ 4095)

include small

/-- Q_PAUSE and Q_RESUME of another queue act before the reply. -/
theorem moveQueue_of_other (other : c.arg 0 ≠ c.q) (st : (s.queue (c.arg 0)).st = a) :
    s.moveQueue c a b = (s.setQueue (c.arg 0) { s.queue (c.arg 0) with st := b }).finishCmd c (.ok) := by
  rw [State.moveQueue, if_neg (Nat.not_lt.2 small), if_neg (not_not_intro st), if_neg other]
  exact congrArg (State.finishCmd · c (.ok)) (if_pos st)

/-- On the command's own queue they act after it. -/
theorem moveQueue_of_own (own : c.arg 0 = c.q) (st : (s.queue (c.arg 0)).st = a) :
    s.moveQueue c a b = (let u := s.finishCmd c (.ok)
      if (u.queue c.q).st = a then u.setQueue c.q { u.queue c.q with st := b } else u) := by
  rw [State.moveQueue, if_neg (Nat.not_lt.2 small), if_neg (not_not_intro st), if_pos own, own]

theorem moveQueue_of_not (out : (s.queue (c.arg 0)).st ≠ a) : s.moveQueue c a b = s.finishCmd c (.st 0x010A) := by
  rw [State.moveQueue, if_neg (Nat.not_lt.2 small), if_pos out]
  rfl

end

end Sys2Proof.Machine

namespace Sys2Proof

open Machine Claims

/-- Settles O11: a write of a register of queue 0 is one write of the queue, applied at once where nothing of it is under
way; the commands act on their target before or after their own reply. -/
theorem queueSetupAndCommands : Obligations.QueueSetupAndCommands := by
  unfold Obligations.QueueSetupAndCommands
  refine ⟨⟨?rings, ?control⟩, ?nop, ?create, ?pause, ?resume, ?reset, ?destroy, ?pauseOwn, ?waits, ?disabled⟩
  case rings =>
    intro s m completion v h
    rw [exec_queue0RingWrite h, ring0Write_eq]
    refine ⟨fun bad => congrArg Host.Outcome.next (if_pos ?_), fun good => congrArg Host.Outcome.next (if_neg ?_)⟩
    · by_contra fits
      simp only [not_or, Nat.not_lt, Bool.not_eq_false] at fits
      exact bad fits
    · obtain ⟨low, high, placed⟩ := good
      rintro (small | large | out)
      · exact Nat.not_lt.2 low small
      · exact Nat.not_lt.2 high large
      · exact Bool.noConfusion (out.symm.trans placed)
  case control =>
    intro s m v h
    rw [exec_queue0Enable h, exec_queue0Disable h, exec_queue0Reset h]
    refine ⟨fun off enable reset ring cring => ?_, fun on enable reset started held calm => ?_,
      fun on enable reset started held calm => ?_, fun on enable reset busy calm => ?_⟩
    · obtain ⟨queue, others, frame⟩ := ctrl0Write_enable off enable reset ring cring
      exact ⟨_, rfl, queue, others, frame⟩
    · obtain ⟨queue, others, frame⟩ := ctrl0Write_disable_idle on calm enable reset started held
      exact ⟨_, rfl, queue, others, frame⟩
    · obtain ⟨queue, others, frame⟩ := ctrl0Write_reset_idle on calm enable reset started held
      exact ⟨_, rfl, queue, others, frame⟩
    · obtain ⟨queue, others, frame⟩ := ctrl0Write_disable_busy on calm enable reset busy
      exact ⟨_, rfl, queue, others, frame⟩
  case nop =>
    intro s q seq c h
    exact exec_qNop h
  case create =>
    intro s q seq c h off
    exact exec_qCreate h off
  case pause =>
    intro s q seq c h small other st
    rw [exec_qPause h, moveQueue_of_other small other st]
  case resume =>
    intro s q seq c h small other st
    rw [exec_qResume h, moveQueue_of_other small other st]
  case reset =>
    intro s q seq c h small other on held idle calm quiet zero
    obtain ⟨found, -⟩ := id h
    have written := (setsQueue_setQueue (s := s) (q := c.arg 0) (v := { s.queue (c.arg 0) with stopping := true })).applyQReset
    rw [exec_qReset h, beginDrain_of_idle found small other on held idle calm quiet zero]
    refine ⟨_, rfl, written.queue.trans ?_, rfl, written.others, written.dropCmd_frame⟩
    simp only [held]
  case destroy =>
    intro s q seq c h small other on held idle calm quiet zero
    obtain ⟨found, -⟩ := id h
    have written := (setsQueue_setQueue (s := s) (q := c.arg 0) (v := { s.queue (c.arg 0) with stopping := true })).applyQDestroy
    rw [exec_qDestroy h, beginDrain_of_idle found small other on held idle calm quiet zero]
    refine ⟨_, rfl, written.queue.trans ?_, rfl, written.others, written.dropCmd_frame⟩
    simp only [held]
  case pauseOwn =>
    intro s q seq c h own small st
    rw [exec_qPause h, moveQueue_of_own small own (by rwa [own])]
  case waits =>
    intro s q seq c i op reset row h small on
    simp only [List.mem_cons, List.not_mem_nil, or_false, Prod.mk.injEq] at row
    rcases row with ⟨rfl, rfl, rfl⟩ | ⟨rfl, rfl, rfl⟩
    · rw [exec_qDestroy h, beginDrain_of_on small on]
    · rw [exec_qReset h, beginDrain_of_on small on]
  case disabled =>
    intro s q seq c i op row h small off
    have not_active : (s.queue (c.arg 0)).st ≠ .active := by rw [off]; decide
    have not_paused : (s.queue (c.arg 0)).st ≠ .paused := by rw [off]; decide
    simp only [List.mem_cons, List.not_mem_nil, or_false, Prod.mk.injEq] at row
    rcases row with ⟨rfl, rfl⟩ | ⟨rfl, rfl⟩ | ⟨rfl, rfl⟩ | ⟨rfl, rfl⟩
    · rw [exec_qDestroy h, beginDrain_of_disabled small off]
    · rw [exec_qPause h, moveQueue_of_not small not_active]
    · rw [exec_qResume h, moveQueue_of_not small not_paused]
    · rw [exec_qReset h, beginDrain_of_disabled small off]

end Sys2Proof

/-! # Schedules: tables and runs, the issue and commit of units, fences and timeouts -/

namespace Sys2Proof.Machine

open Claims

variable {s : State}

/-! ## A running schedule changed -/

theorem leastFrom_eq_some {p : Nat → Bool} {lo n i : Nat} (from_lo : lo ≤ i) (below : i < lo + n) (accepted : p i = true)
    (least : ∀ x, lo ≤ x → x < i → p x = false) : leastFrom p lo n = some i := by
  induction n generalizing lo with
  | zero => omega
  | succ n ih =>
    rw [leastFrom]
    rcases Nat.eq_or_lt_of_le from_lo with rfl | later
    · rw [if_pos accepted]
    · rw [if_neg (by rw [least lo (Nat.le_refl _) later]; exact Bool.false_ne_true)]
      exact ih later (by omega) fun x hx => least x (by omega)

theorem setJob_setJob {j : Nat} {a b : JobSlot} : (s.setJob j a).setJob j b = s.setJob j b :=
  congrArg (fun js => { s with jobs := js }) (minsert_minsert _ _ _ _)

theorem updRun_eq {j : Nat} {b : JobSlot} {r : SchedRun} (f : SchedRun → SchedRun) (job : s.job j = some b)
    (run : b.run = some r) : s.updRun j f = s.setJob j { b with run := some (f r) } := by
  rw [State.updRun, job]
  dsimp only
  rw [run]

/-! ## Tables and runs (R92, R94, R101) -/

section

variable {q : QueueId} {seq : W32} {c : Started} {j : Nat} {b : JobSlot}

/-- A table's image that lies in job space of this node and can be read. -/
structure ImageRead (s : State) (c : Started) (img : List Byte) : Prop where
  header : 64 ≤ c.arg 1
  window : windowOf (ptrOff (c.arg 0)) = .hbm
  reachable : s.jobBad c (c.arg 0) (c.arg 1) true false = none
  read : s.loadOff (ptrOff (c.arg 0)) (c.arg 1) = (s, some (some img))

theorem exec_schedLoad {img : List Byte} (h : readyJob s 0x0303 q seq c j b) (image : ImageRead s c img) :
    exec (.schedLoad q seq) s = .next (
      match s.tableCause b (readTable j (ptrOff (c.arg 0)) (c.arg 1) img) img,
        leastFrom (fun i => (mfind s.tables i).isNone) 0 16 with
      | some d, _ => s.finishCmd c { status := 0x0301, detail := d }
      | none, none => s.finishCmd c (.st 0x0302)
      | none, some i => ({ s with
          tables := minsert s.tables i (readTable j (ptrOff (c.arg 0)) (c.arg 1) img) } : State).finishCmd c (.ok i)) := by
  obtain ⟨header, window, reachable, read⟩ := image
  have run : exec (.schedLoad q seq) s = execSchedLoad q seq s := rfl
  rw [run, execSchedLoad, runJobCmd_of_readyJob _ h]
  dsimp only
  rw [if_neg (by simp [header, window, reachable]), read]
  rfl

/-- An image in which a cause is found is refused with it. -/
theorem exec_schedLoad_invalid {img : List Byte} {d : Nat} (h : readyJob s 0x0303 q seq c j b) (image : ImageRead s c img)
    (cause : s.tableCause b (readTable j (ptrOff (c.arg 0)) (c.arg 1) img) img = some d) :
    exec (.schedLoad q seq) s = .next (s.finishCmd c { status := 0x0301, detail := d }) := by
  rw [exec_schedLoad h image, cause]

/-- Another takes the lowest empty slot. -/
theorem exec_schedLoad_valid {img : List Byte} {i : Nat} (h : readyJob s 0x0303 q seq c j b) (image : ImageRead s c img)
    (cause : s.tableCause b (readTable j (ptrOff (c.arg 0)) (c.arg 1) img) img = none) (room : i < 16)
    (empty : mfind s.tables i = none) (least : ∀ x, x < i → mfind s.tables x ≠ none) :
    exec (.schedLoad q seq) s = .next (({ s with
      tables := minsert s.tables i (readTable j (ptrOff (c.arg 0)) (c.arg 1) img) } : State).finishCmd c (.ok i)) := by
  have slot : leastFrom (fun i => (mfind s.tables i).isNone) 0 16 = some i :=
    leastFrom_eq_some (Nat.zero_le i) (by omega) (by simp [empty]) fun x _ hx => by simpa [Option.isSome_iff_ne_none] using least x hx
  rw [exec_schedLoad h image, cause, slot]

theorem tableOf_eq {i : Nat} {t : TableSlot} (found : mfind s.tables i = some t) (own : t.job = j) : s.tableOf j i = some t := by
  rw [State.tableOf, found]
  exact if_pos own

theorem tableOf_eq_none {i : Nat} (other : ∀ t, mfind s.tables i = some t → t.job ≠ j) : s.tableOf j i = none := by
  cases found : mfind s.tables i with
  | none => rw [State.tableOf, found]
  | some t =>
    rw [State.tableOf, found]
    exact if_neg (other t found)

theorem exec_schedUnload (h : readyJob s 0x0304 q seq c j b) : exec (.schedUnload q seq) s = .next (
    if 15 < c.arg 0 then s.finishCmd c (.st 0x0103)
    else if (s.tableOf j (c.arg 0)).isNone then s.finishCmd c (.st 0x030A)
    else if b.run.any (fun r => r.slot == c.arg 0) then s.finishCmd c (.st 0x0305)
    else ({ s with tables := merase s.tables (c.arg 0) } : State).finishCmd c (.ok)) := by
  have run : exec (.schedUnload q seq) s = execSchedUnload q seq s := rfl
  rw [run, execSchedUnload, runJobCmd_of_readyJob _ h]
  cases b.run <;> rfl

/-- A SCHED_RUN at its start (R101). -/
def Started.schedRun (c : Started) (now : Nat) : SchedRun :=
  { q := c.q, seq := c.seq, slot := c.arg 0, first := c.arg 1, count := c.arg 2, rep := c.arg 3, timeout := c.arg 4
    cur := c.arg 1, done := 0, fences := 0, stepStart := now, units := [], halts := [], ending := none
    haltReq := false, upSent := false }

theorem exec_schedRun {t : TableSlot} (h : readyJob s 0x0305 q seq c j b) (found : s.tableOf j (c.arg 0) = some t) :
    exec (.schedRun q seq) s = .next (
      if t.steps < c.arg 1 + c.arg 2 then s.finishCmd c (.st 0x0103)
      else if b.run.isSome then s.finishCmd c (.st 0x0305)
      else if c.arg 2 = 0 then (s.setJob j { b with ran := true }).finishCmd c (.ok 0 b.step.toNat)
      else ((s.waitCmd c (.sched j)).setJob j { b with ran := true, run := some (c.schedRun s.now) }).loadStep j) := by
  have run : exec (.schedRun q seq) s = execSchedRun q seq s := rfl
  rw [run, execSchedRun, runJobCmd_of_readyJob _ h, found]
  rfl

theorem exec_schedHalt (h : readyJob s 0x0306 q seq c j b) : exec (.schedHalt q seq) s = .next (
    if b.run.isNone then s.finishCmd c (.ok b.step.toNat)
    else (s.waitCmd c (.halt j)).updRun j (fun r => { r with haltReq := true, halts := r.halts ++ [(c.q, c.seq)] })) :=
  congrArg Host.Outcome.next (runJobCmd_of_readyJob _ h)

theorem exec_stepWait (h : readyJob s 0x0307 q seq c j b) : exec (.stepWait q seq) s = .next (
    if c.arg 0 ≤ b.step.toNat then s.finishCmd c (.ok b.step.toNat)
    else s.waitCmd c (.step j (BitVec.ofNat 64 (c.arg 0)))) :=
  congrArg Host.Outcome.next (runJobCmd_of_readyJob _ h)

theorem find?_updFirst_same {α : Type} {p : α → Bool} {a a' : α} {xs : List α} (found : xs.find? p = some a)
    (accepted : p a' = true) : (updFirst p (fun _ => a') xs).find? p = some a' := by
  induction xs with
  | nil => cases found
  | cons x xs ih =>
    by_cases first : p x = true
    · simp [updFirst, first, accepted]
    · rw [List.find?_cons_of_neg first] at found
      simp [updFirst, first, ih found]

/-- A started command that has begun to wait is found with its wait. -/
theorem findStarted_waitCmd {w : CmdWait} (found : s.findStarted c.q c.seq = some c) :
    (s.waitCmd c w).findStarted c.q c.seq = some { c with wait := w } := find?_updFirst_same found (by simp)

end

end Sys2Proof.Machine

namespace Sys2Proof

open Machine Claims

/-- Settles O16: each command is the branches of its row, a table's slot being the lowest empty one and a halt a change of
the running schedule. -/
theorem scheduleCommands : Obligations.ScheduleCommands := by
  unfold Obligations.ScheduleCommands
  refine ⟨?load, ?invalid, ?unload, ?run, ?halt, ?wait⟩
  case load =>
    intro s q seq c j b img i h header window reachable read cause room empty least
    exact exec_schedLoad_valid h ⟨header, window, reachable, read⟩ cause room empty least
  case invalid =>
    intro s q seq c j b img d h header window reachable read cause
    exact exec_schedLoad_invalid h ⟨header, window, reachable, read⟩ cause
  case unload =>
    intro s q seq c j b h
    rw [exec_schedUnload h]
    refine ⟨fun large => by rw [if_pos large], fun small other => ?_, fun t small found own ⟨r, run, slot⟩ => ?_,
      fun t small found own free => ?_⟩
    · rw [if_neg (Nat.not_lt.2 small), tableOf_eq_none other]
      rfl
    · rw [if_neg (Nat.not_lt.2 small), tableOf_eq found own, run]
      simp [slot]
    · rw [if_neg (Nat.not_lt.2 small), tableOf_eq found own]
      cases run : b.run with
      | none => rfl
      | some r => simp [free r run]
  case run =>
    intro s q seq c j b t h found own
    rw [exec_schedRun h (tableOf_eq found own)]
    refine ⟨fun long => by rw [if_pos long], fun fits busy => ?_, fun fits free empty => ?_, fun fits free some_steps => ?_⟩
    · rw [if_neg (Nat.not_lt.2 fits), if_pos (Option.isSome_iff_ne_none.2 busy)]
    · rw [if_neg (Nat.not_lt.2 fits), free, if_pos empty]
      rfl
    · rw [if_neg (Nat.not_lt.2 fits), free, if_neg (Nat.ne_of_gt some_steps)]
      rfl
  case halt =>
    intro s q seq c j b h
    obtain ⟨⟨started, -, -⟩, -, -, job⟩ := id h
    obtain ⟨own, same⟩ := eq_of_findStarted started
    rw [exec_schedHalt h]
    refine ⟨fun idle => by rw [idle]; rfl, fun r run => ?_⟩
    have busy : ¬ b.run.isNone = true := by rw [run]; exact Bool.false_ne_true
    rw [if_neg busy, updRun_eq (s := s.waitCmd c (.halt j)) _ job run, own, same]
    exact ⟨_, rfl, State.job_setJob_same _ _ _, own ▸ same ▸ findStarted_waitCmd (findStarted_self started), rfl⟩
  case wait =>
    intro s q seq c j b h
    rw [exec_stepWait h]

end Sys2Proof

/-! # Fences, the next step, the end of a run and timeouts -/

namespace Sys2Proof.Machine

open Claims

variable {s : State}

/-! ## A step is loaded (R101) -/

/-- The units of a step on a logical cluster; none where they cannot be read. -/
def State.unitsOn (s : State) (tb : TableSlot) (step l : Nat) : List UnitRec := ((s.loadCluster tb step l).2).getD []

/-- Turns that each add their units, and neither change the state nor fail. -/
theorem foldl_gather {f : State × List UnitRec × List Nat → Nat → State × List UnitRec × List Nat} {g : Nat → List UnitRec}
    {ls : List Nat} {us : List UnitRec} (turn : ∀ l ∈ ls, ∀ us, f (s, us, []) l = (s, us ++ g l, [])) :
    ls.foldl f (s, us, []) = (s, us ++ ls.flatMap g, []) := by
  induction ls generalizing us with
  | nil => simp
  | cons l ls ih =>
    rw [List.foldl_cons, turn l List.mem_cons_self, ih fun x hx => turn x (List.mem_cons_of_mem _ hx), List.flatMap_cons,
      List.append_assoc]

/-- A step whose table words can all be read is loaded with its units waiting. -/
theorem loadStep_of_readable {j : Nat} {b : JobSlot} {r : SchedRun} {tb : TableSlot} (job : s.job j = some b)
    (run : b.run = some r) (table : mfind s.tables r.slot = some tb)
    (readable : ∀ l, tb.firstCluster ≤ l → l < tb.firstCluster + tb.clusters → ∃ us, s.loadCluster tb r.cur l = (s, some us)) :
    s.loadStep j = s.setJob j { b with run := some { r with
      units := (upFrom tb.firstCluster tb.clusters).flatMap (s.unitsOn tb r.cur), stepStart := s.now, upSent := false } } := by
  rw [State.loadStep, job]
  dsimp only
  rw [run]
  dsimp only
  rw [table]
  dsimp only
  rw [foldl_gather (g := s.unitsOn tb r.cur)]
  · exact updRun_eq _ job run
  · intro l hl us
    obtain ⟨first, last⟩ := mem_upFrom.1 hl
    obtain ⟨vs, read⟩ := readable l first last
    simp [State.unitsOn, read]

/-! ## A fence completes (R103, R376) -/

theorem tally_clearTallies {lo n t l k x : Nat} (hk : k < 16) (hx : x < 256) :
    (s.clearTallies (16 * lo) (16 * n) t).tally l k x = if lo ≤ l ∧ l < lo + n ∧ x < t then 0 else s.tally l k x := by
  rw [State.tally, State.clearTallies,
    mget_filter 0 s.tallies (fun i => !(256 * (16 * lo) ≤ i && i < 256 * (16 * lo + 16 * n) && i % 256 < t))]
  have index : (256 * (16 * l + k) + x) % 256 = x := by omega
  by_cases cleared : lo ≤ l ∧ l < lo + n ∧ x < t
  · rw [if_pos cleared, if_neg]
    simp
    omega
  · rw [if_neg cleared, if_pos]
    · rfl
    · simp
      omega

/-- A fence that completes, before the run goes on or ends: tallies cleared, SCH.STEP counted. -/
def State.fenced (s : State) (j : Nat) (b : JobSlot) (r : SchedRun) (tb : TableSlot) : State :=
  ((s.clearTallies (16 * tb.firstCluster) (16 * tb.clusters) tb.stepTallies).setJob j { b with
      step := b.step + 1, varyLast := b.varyCur, varyCur := 0, run := some { r with fences := r.fences + 1 } }).setSnap j
    { s.snap j with fencesSince := (s.snap j).fencesSince + 1 }

theorem job_fenced {j : Nat} {b : JobSlot} {r : SchedRun} {tb : TableSlot} : (s.fenced j b r tb).job j = some { b with
    step := b.step + 1, varyLast := b.varyCur, varyCur := 0, run := some { r with fences := r.fences + 1 } } :=
  State.job_setJob_same _ _ _

/-- A fence that completes changes jobs, tallies and the snapshot counts alone. -/
theorem fenced_eq (s : State) (j : Nat) (b : JobSlot) (r : SchedRun) (tb : TableSlot) :
    ∃ js ts ns, s.fenced j b r tb = { s with jobs := js, tallies := ts, snaps := ns } := ⟨_, _, _, rfl⟩

theorem frame_setJob_fenced {j : Nat} {b b' : JobSlot} {r : SchedRun} {tb : TableSlot} :
    { (s.fenced j b r tb).setJob j b' with jobs := s.jobs, tallies := s.tallies, snaps := s.snaps } = s := by
  obtain ⟨js, ts, ns, fenced⟩ := fenced_eq s j b r tb
  rw [fenced]
  rfl

theorem stepReached_of_none_waits {j : Nat} {step : Word} (waits : ∀ d ∈ s.started, ∀ k x, d.wait ≠ .step k x) :
    s.stepReached j step = s := by
  rw [State.stepReached, List.filter_eq_nil_iff.2, List.foldl_nil]
  intro d hd
  cases wait : d.wait with
  | step k x => exact absurd wait (waits d hd k x)
  | _ => exact Bool.false_ne_true

theorem startBatches_of_nil {j : Nat} (batches : s.batches = []) : s.startBatches j = s := by
  unfold State.startBatches
  split
  · rfl
  · rw [batches, List.map_nil, ← batches]

theorem fenceTracked_of_nil {j : Nat} (tracked : s.tracked = []) : s.fenceTracked j = s := by
  rw [State.fenceTracked, State.tracksOf, tracked]
  rfl

section

variable {j : Nat} {b : JobSlot} {r : SchedRun} {tb : TableSlot}

/-- A fence of this node alone, with no tracked tensor, waiting command or batch. -/
theorem fenceDone_eq (job : s.job j = some b) (run : b.run = some r) (table : mfind s.tables r.slot = some tb)
    (tracked : s.tracked = []) (batches : s.batches = []) (waits : ∀ d ∈ s.started, ∀ k x, d.wait ≠ .step k x) (step : Word) :
    s.fenceDone j (blankToken step) = (s.fenced j b r tb).nextStep j := by
  rw [State.fenceDone, job]
  dsimp only
  rw [run]
  dsimp only
  rw [table]
  dsimp only [blankToken]
  rw [List.foldl_nil, fenceTracked_of_nil (by exact tracked), stepReached_of_none_waits (by exact waits),
    startBatches_of_nil (by exact batches)]
  exact congrArg (State.nextStep · j) (if_neg Bool.false_ne_true)

theorem fenceTry_eq (job : s.job j = some b) (run : b.run = some r) (table : mfind s.tables r.slot = some tb)
    (node : tb.span = false) (up : r.upSent = false) (due : s.fenceReady j b r = true) :
    s.fenceTry j = s.fenceDone j (blankToken b.step) := by
  rw [State.fenceTry, job]
  dsimp only
  rw [run]
  dsimp only
  rw [table]
  simp [due, up, node]

/-- Within a repeat the run goes on with the next table step. -/
theorem nextStep_next (job : s.job j = some b) (run : b.run = some r) (within : r.cur + 1 ≠ r.first + r.count)
    (go : r.haltReq = false) :
    s.nextStep j = (s.setJob j { b with run := some { r with cur := r.cur + 1 } }).loadStep j := by
  rw [State.nextStep, job]
  dsimp only
  rw [run]
  simp [within, go, updRun_eq _ job run]

/-- At the end of the last repeat it ends. -/
theorem nextStep_end (job : s.job j = some b) (run : b.run = some r) (last : r.cur + 1 = r.first + r.count)
    (repeats : r.done + 1 = r.rep) : s.nextStep j = s.endRun j 0 := by
  rw [State.nextStep, job]
  dsimp only
  rw [run]
  simp [last, repeats, Status.success]

theorem endRun_eq {status : Nat} (job : s.job j = some b) (run : b.run = some r) (halts : r.halts = []) :
    s.endRun j status = (s.setJob j { b with run := none }).finish r.q r.seq
      { status := status, r0 := r.fences, r1 := b.step.toNat } := by
  rw [State.endRun, job]
  dsimp only
  rw [run]
  dsimp only
  rw [halts, List.foldl_nil]

end

/-! ## Timeouts (R105) -/

section

variable {j : JobSlotId} {b : JobSlot} {r : SchedRun}

theorem exec_stepTimeout (job : s.job j.val = some b) (run : b.run = some r) : exec (.stepTimeout j) s = .next (
    if r.timeout = 0 || r.ending.isSome || s.now < r.stepStart + r.timeout then s
    else ((s.raise .schStepTimeout).schedEnd j.val 0x0307 0 0 0 false).schedSettle j.val) := by
  have row : exec (.stepTimeout j) s = execStepTimeout j s := rfl
  rw [row, execStepTimeout, job]
  dsimp only
  rw [run]
  rfl

end

theorem frame_setJob_raise {e : Ev} {is : List Nat} {j : Nat} {b : JobSlot} :
    { (s.raise e is).setJob j b with jobs := s.jobs, regs := s.regs } = s := by
  obtain ⟨rs, raised⟩ : ∃ rs, s.raise e is = { s with regs := rs } := ⟨_, rfl⟩
  rw [raised]
  rfl

theorem raised_setJob {t : State} {e : Ev} {is : List Nat} {j : Nat} {b : JobSlot} (h : raised s t e is) :
    raised s (t.setJob j b) e is := raised_congr h rfl rfl rfl

/-- An end that sets no flags is kept with the run. -/
theorem schedEnd_eq {j status : Nat} {b : JobSlot} {r : SchedRun} (job : s.job j = some b) (run : b.run = some r)
    (fresh : r.ending = none) :
    s.schedEnd j status 0 0 0 false = s.setJob j { b with run := some { r with ending := some (BitVec.ofNat 16 status) } } := by
  rw [State.schedEnd, job]
  dsimp only
  rw [run]
  dsimp only
  rw [fresh]
  rfl

/-- A schedule that is due to end waits for its units in progress. -/
theorem schedSettle_of_progress {j : Nat} {b : JobSlot} {r : SchedRun} (job : s.job j = some b) (run : b.run = some r)
    (progress : ∃ u ∈ r.units, u.inProgress = true) : s.schedSettle j = s := by
  rw [State.schedSettle, job]
  dsimp only
  rw [run]
  dsimp only
  cases r.ending with
  | none => rfl
  | some st => exact if_pos (List.any_eq_true.2 progress)

end Sys2Proof.Machine

namespace Sys2Proof

open Machine Claims

/-- Settles O18: a fence that is ready clears the step's tallies and counts the step, and then the run goes on or replies;
loading a step gathers the units of its clusters; a timeout is an end that waits for the units in progress. -/
theorem fencesAndTimeouts : Obligations.FencesAndTimeouts := by
  unfold Obligations.FencesAndTimeouts
  refine ⟨?next, ?last, ?load, ?late, ?early⟩
  case next =>
    intro s j b r tb job run table node up due go within tracked batches waits
    have fence : exec (.fenceComplete j) s = .next (s.fenceTry j.val) := rfl
    rw [fence, fenceTry_eq job run table node up due, fenceDone_eq job run table tracked batches waits,
      nextStep_next job_fenced rfl within go]
    refine ⟨_, _, _, rfl, State.job_setJob_same _ _ _, rfl, rfl, rfl, rfl, rfl, fun l k x hk hx => tally_clearTallies hk hx,
      fun i hi => ?_, frame_setJob_fenced⟩
    exact (State.job_setJob_ne _ _ hi).trans (State.job_setJob_ne _ _ hi)
  case last =>
    intro s j b r tb job run table node up due last repeats tracked batches waits halts
    have fence : exec (.fenceComplete j) s = .next (s.fenceTry j.val) := rfl
    rw [fence, fenceTry_eq job run table node up due, fenceDone_eq job run table tracked batches waits,
      nextStep_end job_fenced rfl last repeats, endRun_eq job_fenced rfl halts]
    exact ⟨_, _, rfl, State.job_setJob_same _ _ _, rfl, rfl, frame_setJob_fenced⟩
  case load =>
    intro s j b r tb job run table readable
    exact loadStep_of_readable job run table readable
  case late =>
    intro s j b r job run fresh limit late progress
    rw [exec_stepTimeout job run, if_neg (by simp [limit, fresh, late]),
      schedEnd_eq (s := s.raise .schStepTimeout) job run fresh,
      schedSettle_of_progress (r := { r with ending := some 0x0307 }) (State.job_setJob_same _ _ _) rfl progress]
    exact ⟨_, rfl, raised_setJob (raised_raise (by decide) (by decide)), State.job_setJob_same _ _ _,
      fun i hi => State.job_setJob_ne _ _ hi, frame_setJob_raise⟩
  case early =>
    intro s j b r job run early
    rw [exec_stepTimeout job run, if_pos (by rcases early with none | before <;> simp [*])]

end Sys2Proof

/-! # Units: their issue and their commit -/

namespace Sys2Proof.Machine

open Claims

variable {s t : State}

/-! ## A unit of the step changed (R101) -/

theorem getElem?_setNth_same {α : Type} {xs : List α} {i : Nat} {x : α} (v : α) (h : xs[i]? = some x) :
    (setNth xs i v)[i]? = some v := by
  induction xs generalizing i with
  | nil => cases h
  | cons y ys ih =>
    cases i with
    | zero => rfl
    | succ i => simpa [setNth] using ih (by simpa using h)

theorem updUnit_eq {v : UnitRef} {b : JobSlot} {r : SchedRun} {u : UnitRec} (f : UnitRec → UnitRec) (job : s.job v.job = some b)
    (run : b.run = some r) (unit : r.units[v.idx]? = some u) :
    s.updUnit v f = s.setJob v.job { b with run := some { r with units := setNth r.units v.idx (f u) } } := by
  rw [State.updUnit, updRun_eq _ job run, unit]

/-! ## The next unit of a logical core (R97, R101) -/

theorem nextUnit_eq {r : SchedRun} {l k i : Nat} {u : UnitRec} (unit : r.units[i]? = some u) (cluster : u.lcluster = l)
    (core : u.lcore = k) (waiting : u.st = .waiting)
    (earlier : ∀ x y, x < i → r.units[x]? = some y → y.lcluster = l → y.lcore = k → y.st = .committed) :
    r.nextUnit l k = some (i, u) := by
  obtain ⟨inside, here⟩ := List.getElem?_eq_some_iff.1 unit
  have first : r.units.findIdx? (fun u => u.lcluster == l && u.lcore == k && u.st != .committed) = some i := by
    refine List.findIdx?_eq_some_iff_getElem.2 ⟨inside, by simp [here, cluster, core, waiting], fun x before => ?_⟩
    have committed := earlier x _ before (List.getElem?_eq_getElem (by omega))
    simpa using committed
  rw [SchedRun.nextUnit, first]
  dsimp only
  rw [unit]
  dsimp only
  rw [waiting]
  rfl

theorem waitsMet_iff {u : UnitRec} : s.waitsMet u = true ↔
    ∀ w ∈ u.waits, bits w.toNat 23 0 ≤ s.tally u.lcluster u.lcore (bits w.toNat 31 24) := by
  simp [State.waitsMet]

/-- UNIT_ISSUE of a logical core whose next unit waits, with nothing in its way but the unit's own waits. -/
theorem exec_unitIssue {l : LClusterId} {k : Fin 16} {j c i : Nat} {b : JobSlot} {r : SchedRun} {u : UnitRec}
    (cluster : s.jobOfCluster l.val = some (j, b)) (serving : s.servingCore l.val k.val = some c) (run : b.run = some r)
    (next : r.nextUnit l.val k.val = some (i, u)) (running : r.ending = none) (opened : b.teardown = false)
    (alive : s.package.lost = false) (free : s.heldCluster (c / 17) = false) (idle : (s.core c).phase = .idle) :
    exec (.unitIssue l k) s = .next (if s.waitsMet u then s.issueUnit ⟨j, i⟩ b u c else s) := by
  have row : exec (.unitIssue l k) s = execUnitIssue l k s := rfl
  rw [row, execUnitIssue, cluster, serving]
  dsimp only
  rw [run]
  dsimp only
  rw [next]
  simp [running, opened, alive, free, idle]

/-! ## The start of a unit (R112) -/

section

variable {k : Core} {n m : Nat} {v : Word}

theorem rg_wg (set : n ≠ 0) : (k.wg n v).rg m = if m = n then v else k.rg m := by
  rw [Core.wg, if_neg set, Core.rg]
  by_cases zero : m = 0
  · rw [if_pos zero, if_neg (by omega), Core.rg, if_pos zero]
  · rw [if_neg zero, mget_mset, Core.rg, if_neg zero]

/-- A part of a core that is not its G registers. -/
theorem eq_wg {α : Type} (f : Core → α) (apart : ∀ (k : Core) (g : SMap Word), f { k with g := g } = f k) :
    f (k.wg n v) = f k := by
  unfold Core.wg
  split
  · rfl
  · exact apart k _

end

section

variable {v : UnitRef} {b : JobSlot} {u : UnitRec} {c : Nat}

/-- A core at the start of a unit, before its G registers are set up. -/
def State.blankCore (s : State) (v : UnitRef) (b : JobSlot) (u : UnitRec) (c : Nat) : Core :=
  { Core.zero with
    phase := .running, unit := some v, pc := u.entry, ident := ((s.startRegs b u).map (BitVec.ofNat 64)).drop 1
    versions := (s.core c).versions, nextVersion := (s.core c).nextVersion, versionsAtIssue := (s.core c).versions
    nextVersionAtIssue := (s.core c).nextVersion, checkDue := (s.core c).checkDue }

/-- A core at the start of a unit. -/
def State.startCore (s : State) (v : UnitRef) (b : JobSlot) (u : UnitRec) (c : Nat) : Core :=
  (((((((s.blankCore v b u c).wg 1 (BitVec.ofNat 64 (0x1FFF * 2 ^ 51 + u.param))).wg 2 (BitVec.ofNat 64 u.unit.toNat)).wg 3
    (BitVec.ofNat 64 b.step.toNat)).wg 4 (BitVec.ofNat 64 (u.lcluster * 16 + u.lcore))).wg 5 (BitVec.ofNat 64 s.nodeNo)).wg 6
    (BitVec.ofNat 64 (b.tag.toNat * 256 + b.epoch.toNat)))

theorem startUnit_eq (s : State) (v : UnitRef) (b : JobSlot) (u : UnitRec) (c : Nat) : s.startUnit v b u c =
    (s.setCore c (s.startCore v b u c)).updUnit v (fun x => { x with st := .issued c }) := rfl

theorem eq_startCore {α : Type} (f : Core → α) (apart : ∀ (k : Core) (g : SMap Word), f { k with g := g } = f k) :
    f (s.startCore v b u c) = f (s.blankCore v b u c) := by
  simp only [State.startCore, eq_wg f apart]

theorem rg_startCore (n : Nat) : (s.startCore v b u c).rg n =
    if n = 6 then BitVec.ofNat 64 (b.tag.toNat * 256 + b.epoch.toNat) else if n = 5 then BitVec.ofNat 64 s.nodeNo
    else if n = 4 then BitVec.ofNat 64 (u.lcluster * 16 + u.lcore) else if n = 3 then b.step
    else if n = 2 then BitVec.ofNat 64 u.unit.toNat else if n = 1 then BitVec.ofNat 64 (0x1FFF * 2 ^ 51 + u.param) else 0 := by
  have blank : (s.blankCore v b u c).rg n = 0 := ite_self _
  have step : BitVec.ofNat 64 b.step.toNat = b.step := by rw [BitVec.ofNat_toNat, BitVec.setWidth_eq]
  simp only [State.startCore]
  rw [rg_wg (by decide), rg_wg (by decide), rg_wg (by decide), rg_wg (by decide), rg_wg (by decide), rg_wg (by decide), blank,
    step]

/-- A unit that has started on a core. -/
def State.issued (s : State) (v : UnitRef) (b : JobSlot) (r : SchedRun) (u : UnitRec) (c : Nat) : State :=
  (s.setCore c (s.startCore v b u c)).setJob v.job
    { b with run := some { r with units := setNth r.units v.idx { u with st := .issued c } } }

/-- A core that owes no check fault. -/
theorem issueUnit_eq {r : SchedRun} (job : s.job v.job = some b) (run : b.run = some r) (unit : r.units[v.idx]? = some u)
    (owes : (s.core c).checkDue = false) : s.issueUnit v b u c = s.issued v b r u c := by
  rw [State.issueUnit, owes, startUnit_eq, updUnit_eq (s := s.setCore c (s.startCore v b u c)) _ job run unit]
  rfl

theorem core_setJob {j x : Nat} : (s.setJob j b).core x = s.core x := rfl

theorem core_issued {r : SchedRun} : (s.issued v b r u c).core c = s.startCore v b u c := by
  rw [State.issued, core_setJob, State.core_setCore_same]

theorem core_issued_ne {r : SchedRun} {x : Nat} (other : x ≠ c) : (s.issued v b r u c).core x = s.core x := by
  rw [State.issued, core_setJob, State.core_setCore_ne _ _ other]

theorem job_issued {r : SchedRun} : (s.issued v b r u c).job v.job =
    some { b with run := some { r with units := setNth r.units v.idx { u with st := .issued c } } } :=
  State.job_setJob_same _ _ _

theorem frame_issued {r : SchedRun} : { s.issued v b r u c with cores := s.cores, jobs := s.jobs } = s := by
  obtain ⟨cs, js, set⟩ : ∃ cs js, s.issued v b r u c = { s with cores := cs, jobs := js } := ⟨_, _, rfl⟩
  rw [set]

end

/-! ## Signals to this node (R98) -/

theorem isSelf_addTally {l k x n node : Nat} : (s.addTally l k x n).isSelf node = s.isSelf node := by
  have number : (s.addTally l k x n).reg .timeNodeId [] = s.reg .timeNodeId [] := by
    refine (reg_congr regs_addTally _ _).trans ?_
    unfold State.tallySat
    split
    · exact reg_raise (by decide) (by decide)
    · rfl
  rw [State.isSelf, State.isSelf, State.nodeNo, State.nodeNo, State.getF, State.getF, number]

/-- A signal's amount added to its tally. -/
def State.addSignal (s : State) (x : Signal) : State :=
  s.addTally (bits x.toNat 34 25) (bits x.toNat 24 21) (bits x.toNat 20 13) (bits x.toNat 12 0)

section

variable {xs : List Signal}

/-- Signals to this node and the job's own clusters are all additions. -/
theorem foldl_sendSignal {j lc : Nat} {b : JobSlot} {tb : TableSlot} {unit : W16}
    (self : ∀ x ∈ xs, s.isSelf (bits x.toNat 47 35) = true ∧ b.holds (bits x.toNat 34 25) = true) :
    xs.foldl (fun s x => s.sendSignal j b tb lc unit x.toNat) s = xs.foldl State.addSignal s := by
  induction xs generalizing s with
  | nil => rfl
  | cons x xs ih =>
    obtain ⟨here, held⟩ := self x List.mem_cons_self
    have sent : s.sendSignal j b tb lc unit x.toNat = s.addSignal x := by
      rw [State.sendSignal, sigNode, if_pos here, sigCluster, if_pos held]
      rfl
    rw [List.foldl_cons, List.foldl_cons, sent]
    refine ih fun y hy => ?_
    rw [State.addSignal, isSelf_addTally]
    exact self y (List.mem_cons_of_mem _ hy)

/-- Adding signals keeps what no addition changes. -/
theorem eq_foldl_addSignal {α : Type} (f : State → α)
    (keeps : ∀ (s : State) (l k t n : Nat), f (s.addTally l k t n) = f s) :
    f (xs.foldl State.addSignal s) = f s :=
  foldl_keeps (fun t => f t = f s) _ (fun t _ same => (keeps t _ _ _ _).trans same) xs s rfl

theorem jobs_addTally (s : State) (l k x n : Nat) : (s.addTally l k x n).jobs = s.jobs := by
  have kept := congrArg State.jobs (addTally_frame s l k x n)
  exact kept

theorem mem_addTally (s : State) (l k x n : Nat) : (s.addTally l k x n).mem = s.mem := by
  have kept := congrArg State.mem (addTally_frame s l k x n)
  exact kept

end

/-! ## A commit (R102, R104) -/

theorem unitTable_eq_some {k : Core} {v : UnitRef} {b : JobSlot} {r : SchedRun} {tb : TableSlot}
    (h : s.unitTable k = some (v, b, r, tb)) : s.job v.job = some b ∧ b.run = some r := by
  unfold State.unitTable at h
  split at h
  · cases h
  · split at h
    · cases h
    next job =>
      split at h
      · cases h
      next run =>
        obtain ⟨t, -, e⟩ := Option.map_eq_some_iff.1 h
        cases e
        exact ⟨job, run⟩

/-- A schedule without an end goes on. -/
theorem schedSettle_of_going {j : Nat} {b : JobSlot} {r : SchedRun} (job : s.job j = some b) (run : b.run = some r)
    (going : r.ending = none) : s.schedSettle j = s := by
  rw [State.schedSettle, job]
  dsimp only
  rw [run]
  dsimp only
  rw [going]

section

variable {c : CoreId} {v : UnitRef} {b : JobSlot} {r : SchedRun} {tb : TableSlot} {u : UnitRec}

/-- A job whose unit has committed (R102, R104). -/
def JobSlot.committed (b : JobSlot) (v : UnitRef) (r : SchedRun) (u : UnitRec) : JobSlot :=
  { b with
    run := some { r with units := setNth r.units v.idx { u with st := .committed } }
    varyCur := if u.varies then b.varyCur + 1 else b.varyCur }

/-- A core freed by the commit of its unit, and the job's record of it. -/
def State.unitDone (s : State) (c : Nat) (v : UnitRef) (b : JobSlot) (r : SchedRun) (u : UnitRec) : State :=
  (s.setCore c (s.core c).commit).setJob v.job (b.committed v r u)

/-- A unit without updates or copies of its own commits, and its signals are sent. -/
theorem exec_unitCommit (ended : (s.core c.val).phase = .ended) (table : s.unitTable (s.core c.val) = some (v, b, r, tb))
    (unit : r.units[v.idx]? = some u) (records : (s.core c.val).recUpdates = []) (tracks : (s.core c.val).trackUpdates = [])
    (copies : u.contribs = []) (checks : u.checks = 0) :
    exec (.unitCommit c) s = .next (((u.sigs ++ (s.core c.val).sigq).foldl
      (fun s g => s.sendSignal v.job b tb (16 * u.lcluster + u.lcore) u.unit g.toNat)
      (s.unitDone c.val v b r u)).schedSettle v.job) := by
  obtain ⟨job, run⟩ := unitTable_eq_some table
  have row : exec (.unitCommit c) s = execUnitCommit c s := rfl
  rw [row, execUnitCommit, if_neg (not_not_intro ended), table]
  dsimp only
  rw [unit]
  dsimp only
  rw [records, tracks, copies, List.foldl_nil, List.foldl_nil, List.foldl_nil,
    updUnit_eq (s := s.setCore c.val (s.core c.val).commit) _ job run unit, State.job_setJob_same]
  dsimp only
  have unchecked : ¬ u.checks = 1 := by rw [checks]; decide
  rw [if_neg unchecked]
  by_cases varies : u.varies = true
  · rw [if_pos varies, setJob_setJob, State.unitDone, JobSlot.committed, if_pos varies]
  · rw [if_neg varies, State.unitDone, JobSlot.committed, if_neg varies]

end

end Sys2Proof.Machine

namespace Sys2Proof

open Machine Claims

/-- Settles O17: the next unit of a core starts once its waits are met and else the state stays; a commit frees the core
and its signals to this node are additions to tallies. -/
theorem unitsIssueAndCommit : Obligations.UnitsIssueAndCommit := by
  unfold Obligations.UnitsIssueAndCommit
  refine ⟨?issue, ?commit⟩
  case issue =>
    intro s l k j c i b r u cluster job serving run unit ofCluster ofCore waiting earlier running opened alive free idle owes
    have next := nextUnit_eq unit ofCluster ofCore waiting earlier
    have met := waitsMet_iff (s := s) (u := u)
    rw [ofCluster, ofCore] at met
    rw [exec_unitIssue cluster serving run next running opened alive free idle]
    refine ⟨fun waits => ?_, fun ⟨w, mem, short⟩ => ?_⟩
    · rw [if_pos (met.2 waits), issueUnit_eq job run unit owes]
      refine ⟨s.issued ⟨j, i⟩ b r u c, rfl, ?_⟩
      rw [core_issued]
      have same {α : Type} (f : Core → α) (apart : ∀ (k : Core) (g : SMap Word), f { k with g := g } = f k) :=
        eq_startCore (s := s) (v := ⟨j, i⟩) (b := b) (u := u) (c := c) f apart
      refine ⟨same Core.phase fun _ _ => rfl, same Core.pc fun _ _ => rfl, same Core.unit fun _ _ => rfl, rg_startCore 1,
        rg_startCore 2, rg_startCore 3, ?_, rg_startCore 5, rg_startCore 6, fun n high => ?_,
        fun n => same (Core.rf · n) fun _ _ => rfl, fun n nonzero => ?_, same Core.csrs fun _ _ => rfl,
        same Core.tiles fun _ _ => rfl, same Core.versions fun _ _ => rfl,
        ⟨_, _, job_issued, rfl, getElem?_setNth_same _ unit⟩, fun x other => core_issued_ne other, frame_issued⟩
      · rw [rg_startCore, ofCluster, ofCore]
        rfl
      · rw [rg_startCore]
        simp only [show n ≠ 6 ∧ n ≠ 5 ∧ n ≠ 4 ∧ n ≠ 3 ∧ n ≠ 2 ∧ n ≠ 1 by omega, if_false]
      · rw [same (Core.rp · n) fun _ _ => rfl, Core.rp, if_neg nonzero]
        rfl
    · rw [if_neg]
      exact fun all => Nat.not_lt.2 (met.1 all w mem) short
  case commit =>
    intro s c v b r tb u ended table unit records tracks copies checks going self
    obtain ⟨job, run⟩ := unitTable_eq_some table
    have sent := foldl_sendSignal (s := s.unitDone c.val v b r u) (j := v.job) (lc := 16 * u.lcluster + u.lcore) (tb := tb)
      (unit := u.unit) self
    have jobs := eq_foldl_addSignal (s := s.unitDone c.val v b r u) (xs := u.sigs ++ (s.core c.val).sigq) State.jobs
      jobs_addTally
    have mem := eq_foldl_addSignal (s := s.unitDone c.val v b r u) (xs := u.sigs ++ (s.core c.val).sigq) State.mem
      mem_addTally
    have job : ((u.sigs ++ (s.core c.val).sigq).foldl State.addSignal (s.unitDone c.val v b r u)).job v.job =
        some (b.committed v r u) := (congrArg (mfind · v.job) jobs).trans (State.job_setJob_same _ _ _)
    rw [exec_unitCommit ended table unit records tracks copies checks, sent, schedSettle_of_going job rfl going]
    exact ⟨_, rfl, rfl, mem⟩

end Sys2Proof

/-! # Integer results: the ALU, division and the immediate forms -/

namespace Sys2Proof.Machine

open Claims

variable {s : State}

/-! ## Fields of a word as bit vectors -/

theorem bits_zero_eq (n hi : Nat) : bits n hi 0 = n % 2 ^ (hi + 1) := rfl

theorem ofNat_wf_zero (w : W32) {n : Nat} : BitVec.ofNat (n + 1) (wf w n 0) = w.setWidth (n + 1) := by
  rw [wf, bits_zero_eq]
  apply BitVec.eq_of_toNat_eq
  simp

/-- Two's complement of the low bits of a number is the value of those bits as a bit vector. -/
theorem sext_eq_toInt (n x : Nat) (h : 0 < n) : sext n x = (BitVec.ofNat n x).toInt := by
  obtain ⟨m, rfl⟩ : ∃ m, n = m + 1 := ⟨n - 1, by omega⟩
  rw [BitVec.toInt_eq_toNat_cond, BitVec.toNat_ofNat, sext, Nat.add_sub_cancel]
  have half : 2 * (x % 2 ^ (m + 1)) < 2 ^ (m + 1) ↔ x % 2 ^ (m + 1) < 2 ^ m := by omega
  simp only [half]

theorem ofInt_sext_wf (w : W32) {n : Nat} : BitVec.ofInt 64 (sext (n + 1) (wf w n 0)) = (w.setWidth (n + 1)).signExtend 64 := by
  rw [sext_eq_toInt _ _ n.succ_pos, ofNat_wf_zero]
  rfl

theorem ofInt_simm16 (w : W32) : BitVec.ofInt 64 (simm16 w) = (w.setWidth 16).signExtend 64 := ofInt_sext_wf w

theorem ofInt_simm21 (w : W32) : BitVec.ofInt 64 (simm21 w) = (w.setWidth 21).signExtend 64 := ofInt_sext_wf w

theorem ofNat_uimm16 (w : W32) : BitVec.ofNat 64 (uimm16 w) = (w.setWidth 16 : BitVec 16).setWidth 64 := by
  apply BitVec.eq_of_toNat_eq
  simp [uimm16, wf, bits_zero_eq]

theorem wf_eq_extractLsb' (w : W32) (hi lo : Nat) : wf w hi lo = (w.extractLsb' lo (hi + 1 - lo)).toNat := by
  rw [BitVec.extractLsb'_toNat]
  rfl

/-! ## The results of the integer ALU (R118) -/

section

variable (a b : Word)

theorem slt_eq_decide : a.slt b = decide (a.toInt < b.toInt) := rfl

theorem ult_eq_decide : a.ult b = decide (a.toNat < b.toNat) := rfl

theorem ite_slt_eq_le {α : Type} {x y : α} (h : a = b → x = y) :
    (if a.slt b then x else y) = if a.toInt ≤ b.toInt then x else y := by
  rcases lt_trichotomy a.toInt b.toInt with lt | eq | gt
  · simp [slt_eq_decide, lt, lt.le]
  · simp [slt_eq_decide, h (BitVec.eq_of_toInt_eq eq)]
  · rw [if_neg (by simp [slt_eq_decide, gt.le]), if_neg (Int.not_le.2 gt)]

theorem ite_ult_eq_le {α : Type} {x y : α} (h : a = b → x = y) :
    (if a.ult b then x else y) = if a.toNat ≤ b.toNat then x else y := by
  rcases lt_trichotomy a.toNat b.toNat with lt | eq | gt
  · simp [ult_eq_decide, lt, lt.le]
  · simp [ult_eq_decide, h (BitVec.eq_of_toNat_eq eq)]
  · rw [if_neg (by simp [ult_eq_decide, gt.le]), if_neg (Nat.not_le.2 gt)]

/-- The high half of a product, formed exactly in 128 bits. -/
theorem ofInt_div_two_pow (z : Int) : BitVec.ofInt 64 (z / 2 ^ 64) = ((BitVec.ofInt 128 z) >>> 64).setWidth 64 := by
  apply BitVec.eq_of_toNat_eq
  simp only [BitVec.toNat_ofInt, BitVec.toNat_setWidth, BitVec.toNat_ushiftRight, Nat.shiftRight_eq_div_pow]
  omega

theorem setWidth_128 : b.setWidth 128 = BitVec.ofInt 128 b.toNat := by
  rw [BitVec.ofInt_natCast, BitVec.ofNat_toNat]

theorem mulh_eq : BitVec.ofInt 64 (a.toInt * b.toInt / 2 ^ 64) = ((a.signExtend 128 * b.signExtend 128) >>> 64).setWidth 64 := by
  rw [ofInt_div_two_pow, BitVec.ofInt_mul]
  rfl

theorem mulhsu_eq :
    BitVec.ofInt 64 (a.toInt * (b.toNat : Int) / 2 ^ 64) = ((a.signExtend 128 * b.setWidth 128) >>> 64).setWidth 64 := by
  rw [ofInt_div_two_pow, BitVec.ofInt_mul, setWidth_128]
  rfl

theorem mulhu_eq : BitVec.ofNat 64 (a.toNat * b.toNat / 2 ^ 64) = ((a.setWidth 128 * b.setWidth 128) >>> 64).setWidth 64 := by
  rw [setWidth_128, setWidth_128, ← BitVec.ofInt_mul, ← ofInt_div_two_pow, ← BitVec.ofInt_natCast]
  norm_cast

/-! ### Counts of bits -/

theorem find?_leading : (List.range 64).find? (fun i => a.getLsbD (63 - i)) = if a = 0 then none else some (63 - log2 a.toNat) := by
  split
  next zero => simp [zero]
  next nonzero =>
    have pos : a.toNat ≠ 0 := fun h => nonzero (BitVec.eq_of_toNat_eq h)
    have top : log2 a.toNat < 64 := (Nat.log2_lt pos).2 a.isLt
    refine List.find?_range_eq_some.2 ⟨?_, List.mem_range.2 (by omega), fun j before => ?_⟩
    · rw [Nat.sub_sub_self (by omega)]
      exact Nat.testBit_log2 pos
    · rw [Bool.not_eq_true', BitVec.getLsbD]
      refine Nat.testBit_lt_two_pow (lt_of_lt_of_le (Nat.lt_log2_self) (Nat.pow_le_pow_right (by decide) ?_))
      change log2 a.toNat + 1 ≤ _
      omega

theorem clzW_eq : clzW a = ((List.range 64).find? (fun i => a.getLsbD (63 - i))).getD 64 := by
  rw [find?_leading, clzW]
  split <;> rfl

theorem leastFrom_eq_find? (p : Nat → Bool) (lo n : Nat) : leastFrom p lo n = (upFrom lo n).find? p := by
  induction n generalizing lo with
  | zero => rfl
  | succ n ih =>
    rw [leastFrom, upFrom, List.find?_cons, ih]
    split <;> simp [*]

theorem ctzW_eq : ctzW a = ((List.range 64).find? (fun i => a.getLsbD i)).getD 64 := by
  rw [ctzW, leastFrom_eq_find?, upFrom_eq_range', List.range_eq_range']
  congr 2
  exact funext (tbit_toNat a)

theorem popW_eq : popW a = (List.range 64).countP (fun i => a.getLsbD i) := by
  rw [popW, setBits, List.countP_eq_length_filter]
  congr 2
  exact funext (tbit_toNat a)

/-! ### The bytes reversed -/

theorem testBit_leNat (bs : List Byte) (j : Nat) : (leNat bs).testBit j = (nth 0#8 bs (j / 8)).getLsbD (j % 8) := by
  induction bs generalizing j with
  | nil => simp [leNat, nth]
  | cons x xs ih =>
    rw [leNat, Nat.add_comm, show (256 : Nat) = 2 ^ 8 from rfl, Nat.testBit_two_pow_mul_add _ x.isLt]
    split
    next low => rw [Nat.div_eq_of_lt low, Nat.mod_eq_of_lt low]; rfl
    next high =>
      rw [ih, show j / 8 = (j - 8) / 8 + 1 by omega, show j % 8 = (j - 8) % 8 by omega]
      rfl

theorem nth_leBytes (n v i : Nat) (h : i < n) : nth 0#8 (leBytes n v) i = BitVec.ofNat 8 (v / 256 ^ i) := by
  induction n generalizing v i with
  | zero => omega
  | succ n ih =>
    cases i with
    | zero => simp [leBytes, nth]
    | succ i =>
      have step : nth 0#8 (leBytes (n + 1) v) (i + 1) = nth 0#8 (leBytes n (v / 256)) i := by simp [leBytes, nth]
      rw [step, ih _ _ (by omega), Nat.div_div_eq_div_mul, ← Nat.pow_succ']

theorem getLsbD_foldl_or {w : Nat} (f : Nat → BitVec w) (l : List Nat) (x : BitVec w) (j : Nat) :
    (l.foldl (fun x i => x ||| f i) x).getLsbD j = (x.getLsbD j || l.any (fun i => (f i).getLsbD j)) := by
  induction l generalizing x with
  | nil => simp
  | cons i l ih => simp [ih, Bool.or_assoc]

theorem bswapW_eq : bswapW a = (List.range 8).foldl (fun x i => x ||| (((a >>> (8 * i)) &&& 0xFF) <<< (56 - 8 * i))) 0 := by
  refine BitVec.eq_of_getLsbD_eq fun j inside => ?_
  have place : nth 0#8 (leBytes 8 a.toNat).reverse (j / 8) = BitVec.ofNat 8 (a.toNat / 256 ^ (7 - j / 8)) := by
    rw [← nth_leBytes 8 _ _ (by omega), nth, List.getElem?_reverse (by simp; omega), leBytes_length]
    rfl
  rw [bswapW, getLsbD_foldl_or, BitVec.getLsbD_ofNat, testBit_leNat, place, BitVec.getLsbD_ofNat,
    show (256 : Nat) = 2 ^ 8 from rfl, ← pow_mul, Nat.testBit_div_two_pow, decide_eq_true inside,
    decide_eq_true (Nat.mod_lt j (by decide : 0 < 8)), Bool.true_and, Bool.true_and]
  have byte (i : Nat) : (((a >>> (8 * i)) &&& 0xFF) <<< (56 - 8 * i)).getLsbD j =
      (decide (56 - 8 * i ≤ j ∧ j - (56 - 8 * i) < 8) && a.getLsbD (8 * i + (j - (56 - 8 * i)))) := by
    have mask : (0xFF : Word).getLsbD (j - (56 - 8 * i)) = decide (j - (56 - 8 * i) < 8) :=
      Nat.testBit_two_pow_sub_one 8 _
    rw [BitVec.getLsbD_shiftLeft, BitVec.getLsbD_and, BitVec.getLsbD_ushiftRight, mask, decide_eq_true inside]
    by_cases below : j < 56 - 8 * i
    · simp [below, Nat.not_le.2 below]
    · simp [below, Nat.not_lt.1 below, Bool.and_comm]
  simp only [byte]
  rw [Bool.eq_iff_iff]
  simp only [Bool.or_eq_true, List.any_eq_true, List.mem_range, Bool.and_eq_true, decide_eq_true_eq]
  constructor
  · refine fun set => Or.inr ⟨7 - j / 8, by omega, by omega, ?_⟩
    rw [BitVec.getLsbD]
    convert set using 2
    omega
  · rintro (zero | ⟨i, _, _, set⟩)
    · exact absurd zero (by simp)
    · rw [BitVec.getLsbD] at set
      convert set using 2
      omega

/-! ### Results of 32 bits -/

theorem wRes_eq (x : Nat) : wRes x = (BitVec.ofNat 32 x).signExtend 64 := by
  rw [wRes, sext_eq_toInt _ _ (by decide)]
  rfl

theorem srawW_eq (n : Nat) : srawW a n = ((a.setWidth 32).sshiftRight n).signExtend 64 := by
  rw [srawW, sext_eq_toInt _ _ (by decide), BitVec.ofNat_toNat, ← BitVec.toInt_sshiftRight]
  rfl

theorem addW_eq : wRes (a + b).toNat = (a.setWidth 32 + b.setWidth 32).signExtend 64 := by
  rw [wRes_eq, BitVec.ofNat_toNat, BitVec.setWidth_add _ _ (by decide)]

theorem subW_eq : wRes (a - b).toNat = (a.setWidth 32 - b.setWidth 32).signExtend 64 := by
  rw [wRes_eq, BitVec.ofNat_toNat]
  congr 1
  apply BitVec.eq_of_toNat_eq
  simp only [BitVec.toNat_setWidth, BitVec.toNat_sub]
  omega

theorem shlW_eq (n : Nat) : wRes (a.toNat * 2 ^ n) = (a.setWidth 32 <<< n).signExtend 64 := by
  rw [wRes_eq]
  congr 1
  apply BitVec.eq_of_toNat_eq
  simp [Nat.shiftLeft_eq]

theorem shrW_eq (n : Nat) : wRes (a.toNat % 2 ^ 32 / 2 ^ n) = (a.setWidth 32 >>> n).signExtend 64 := by
  rw [wRes_eq]
  congr 1
  apply BitVec.eq_of_toNat_eq
  have low : a.toNat % 2 ^ 32 / 2 ^ n < 2 ^ 32 := lt_of_le_of_lt (Nat.div_le_self _ _) (Nat.mod_lt _ (by decide))
  rw [BitVec.toNat_ofNat, Nat.mod_eq_of_lt low, BitVec.toNat_ushiftRight, Nat.shiftRight_eq_div_pow, BitVec.toNat_setWidth]

/-- R118's table is what the model's ALU computes. -/
theorem aluOp_of_mem_aluTable : ∀ x ∈ aluTable a b, aluOp x.1 a b = some x.2 := by
  simp only [aluTable, List.forall_mem_append, List.forall_mem_cons, List.not_mem_nil, false_implies, implies_true, and_true]
  refine ⟨⟨⟨rfl, rfl, rfl, rfl, rfl, rfl, rfl, rfl, ?lt, ?ltu, ?min, ?max, ?minu, ?maxu, rfl⟩,
    ?mulh, ?mulhu, ?mulhsu, ?clz, ?ctz, ?pop, ?bswap⟩, ?addw, ?subw, ?shlw, ?shrw, ?sraw⟩
  all_goals refine congrArg some ?_
  case lt => simp only [slt_eq_decide, decide_eq_true_eq]
  case ltu => simp only [ult_eq_decide, decide_eq_true_eq]
  case min => exact ite_slt_eq_le a b id
  case max => exact ite_slt_eq_le a b Eq.symm
  case minu => exact ite_ult_eq_le a b id
  case maxu => exact ite_ult_eq_le a b Eq.symm
  case mulh => exact mulh_eq a b
  case mulhu => exact mulhu_eq a b
  case mulhsu => exact mulhsu_eq a b
  case clz => exact congrArg _ (clzW_eq a)
  case ctz => exact congrArg _ (ctzW_eq a)
  case pop => exact congrArg _ (popW_eq a)
  case bswap => exact bswapW_eq a
  case addw => exact addW_eq a b
  case subw => exact subW_eq a b
  case shlw => exact shlW_eq a _
  case shrw => exact shrW_eq a _
  case sraw => exact srawW_eq a _

end

/-! ## Division (R119) -/

section

variable {a b : Word}

theorem toInt_ofInt_of_range {z : Int} (low : -2 ^ 63 ≤ z) (high : z < 2 ^ 63) : (BitVec.ofInt 64 z).toInt = z :=
  BitVec.toInt_ofInt_eq_self (by decide) low high

theorem toInt_ne_zero (nonzero : b ≠ 0) : b.toInt ≠ 0 := fun h => nonzero (BitVec.eq_of_toInt_eq h)

/-- The remainder of a division toward zero (R119): smaller than the divisor, with the sign of the dividend. -/
theorem tmod_facts (x y : Int) (nonzero : y ≠ 0) : x = x.tdiv y * y + x.tmod y ∧ (x.tmod y).natAbs < y.natAbs ∧
    (0 ≤ x → 0 ≤ x.tmod y) ∧ (x ≤ 0 → x.tmod y ≤ 0) := by
  refine ⟨?_, ?_, Int.tmod_nonneg y, fun neg => ?_⟩
  · rw [mul_comm, Int.mul_tdiv_add_tmod]
  · rw [Int.natAbs_tmod]
    exact Nat.mod_lt _ (Int.natAbs_pos.2 nonzero)
  · have opposite := Int.tmod_nonneg y (Int.neg_nonneg_of_nonpos neg)
    rw [Int.neg_tmod] at opposite
    omega

/-- A quotient lies outside the range of a word in one case alone. -/
theorem tdiv_lt (nonzero : b ≠ 0) (fits : ¬ (a.toInt = -2 ^ 63 ∧ b.toInt = -1)) : a.toInt.tdiv b.toInt < 2 ^ 63 := by
  obtain ⟨whole, small, _, sign⟩ := tmod_facts a.toInt b.toInt (toInt_ne_zero nonzero)
  have size := Int.natAbs_tdiv_le_natAbs a.toInt b.toInt
  have := a.toInt_lt
  have := a.le_toInt
  have := b.toInt_lt
  have := b.le_toInt
  by_contra beyond
  have quotient : a.toInt.tdiv b.toInt = 2 ^ 63 := by omega
  rw [quotient] at whole
  omega

theorem toInt_sdivW (nonzero : b ≠ 0) (fits : ¬ (a.toInt = -2 ^ 63 ∧ b.toInt = -1)) :
    (sdivW a b).toInt = a.toInt.tdiv b.toInt := by
  have := a.toInt_lt
  have := a.le_toInt
  have size := Int.natAbs_tdiv_le_natAbs a.toInt b.toInt
  rw [sdivW, if_neg nonzero]
  exact toInt_ofInt_of_range (by omega) (tdiv_lt nonzero fits)

theorem toInt_sremW (nonzero : b ≠ 0) : (sremW a b).toInt = a.toInt.tmod b.toInt := by
  have small := Nat.mod_lt a.toInt.natAbs (Int.natAbs_pos.2 (toInt_ne_zero nonzero))
  rw [← Int.natAbs_tmod] at small
  have := b.toInt_lt
  have := b.le_toInt
  rw [sremW, if_neg nonzero]
  exact toInt_ofInt_of_range (by omega) (by omega)

theorem sdivW_overflow (nonzero : b ≠ 0) (ha : a.toInt = -2 ^ 63) (hb : b.toInt = -1) : (sdivW a b).toInt = -2 ^ 63 := by
  rw [sdivW, if_neg nonzero, ha, hb]
  decide

theorem sremW_overflow (nonzero : b ≠ 0) (ha : a.toInt = -2 ^ 63) (hb : b.toInt = -1) : sremW a b = 0 := by
  rw [sremW, if_neg nonzero, ha, hb]
  decide

theorem toNat_udivW (nonzero : b ≠ 0) : (udivW a b).toNat = a.toNat / b.toNat := by
  rw [udivW, if_neg nonzero, BitVec.toNat_ofNat]
  exact Nat.mod_eq_of_lt (lt_of_le_of_lt (Nat.div_le_self _ _) a.isLt)

theorem toNat_uremW (nonzero : b ≠ 0) : (uremW a b).toNat = a.toNat % b.toNat := by
  rw [uremW, if_neg nonzero, BitVec.toNat_ofNat]
  exact Nat.mod_eq_of_lt (lt_of_le_of_lt (Nat.mod_le _ _) a.isLt)

end

/-! ## A constant in two instructions (R119) -/

theorem lui_ori (z : Int) : ((BitVec.ofInt 64 (z / 2 ^ 16)) <<< 16 ||| (BitVec.ofInt 16 z).setWidth 64 : Word) = BitVec.ofInt 64 z := by
  have apart : (BitVec.ofInt 64 (z / 2 ^ 16)) <<< 16 &&& (BitVec.ofInt 16 z).setWidth 64 = 0#64 := by
    refine BitVec.eq_of_getLsbD_eq fun i _ => ?_
    rw [BitVec.getLsbD_and, BitVec.getLsbD_shiftLeft, BitVec.getLsbD_setWidth]
    by_cases low : i < 16
    · simp [low]
    · simp [BitVec.getLsbD_of_ge (BitVec.ofInt 16 z) i (Nat.not_lt.1 low)]
  rw [← BitVec.add_eq_or_of_and_eq_zero _ _ apart]
  apply BitVec.eq_of_toNat_eq
  simp only [BitVec.toNat_add, BitVec.toNat_shiftLeft, BitVec.toNat_setWidth, BitVec.toNat_ofInt, Nat.shiftLeft_eq]
  omega

theorem exists_lui_ori (z : Int) (low : -2 ^ 36 ≤ z) (high : z < 2 ^ 36) : ∃ (hi : BitVec 21) (lo : BitVec 16),
    ((hi.signExtend 64 <<< 16) ||| lo.setWidth 64 : Word).toInt = z := by
  have upper : (BitVec.ofInt 21 (z / 2 ^ 16)).toInt = z / 2 ^ 16 := BitVec.toInt_ofInt_eq_self (by decide) (by omega) (by omega)
  refine ⟨BitVec.ofInt 21 (z / 2 ^ 16), BitVec.ofInt 16 z, ?_⟩
  rw [BitVec.signExtend, upper, lui_ori]
  exact toInt_ofInt_of_range (by omega) (by omega)

/-! ## The instructions -/

section

variable {c : CoreId} {w : W32}

/-- An instruction that reads and writes its core alone, and completes. -/
theorem coreLocal_done {op : CoreOp} {f : Core → Step1} {k : Core} (h : atInstr s op c w) (done : f (s.core c.val) = .done k) :
    coreLocal op c.val w s f = s.setCore c.val k.advance := by
  rw [coreLocal, coreExec_of_atInstr _ h]
  simp only [done]
  rfl

theorem exec_local_done {i : Instr} {op : CoreOp} {f : Core → Step1} {k : Core}
    (row : exec i s = .next (coreLocal op c.val w s f)) (h : atInstr s op c w) (done : f (s.core c.val) = .done k) :
    exec i s = .next (s.setCore c.val k.advance) := by
  rw [row, coreLocal_done h done]

theorem slt_simm16 (a : Word) : a.slt ((w.setWidth 16).signExtend 64) = decide (a.toInt < (w.setWidth 16).toInt) := by
  rw [slt_eq_decide, BitVec.toInt_signExtend_of_le (by decide)]

theorem aluOp_lt {fn : Nat} {a b v : Word} (h : aluOp fn a b = some v) : fn < 0x040 := by
  by_contra high
  revert h high
  unfold aluOp
  split
  all_goals simp

theorem integerAluStep_of_aluOp {k : Core} {v : Word} (value : aluOp (func w) (k.rg (fa w)) (k.rg (fb w)) = some v)
    (unary : 0x020 ≤ func w → func w ≤ 0x023 → fb w = 0) : integerAluStep w k = .done (k.wg (fd w) v) := by
  have sel : ¬ (0x040 ≤ func w && func w ≤ 0x047) = true := by
    have := aluOp_lt value
    simp only [Bool.and_eq_true, decide_eq_true_eq]
    omega
  have form : ¬ (aluUnary (func w) && decide (fb w ≠ 0)) = true := by
    simp only [aluUnary, Bool.and_eq_true, decide_eq_true_eq]
    exact fun ⟨⟨low, high⟩, set⟩ => set (unary low high)
  rw [integerAluStep, if_neg sel, if_neg form, value]

theorem exec_integerAlu {v : Word} (h : atInstr s .integerAlu c w)
    (value : aluOp (func w) ((s.core c.val).rg (fa w)) ((s.core c.val).rg (fb w)) = some v)
    (unary : 0x020 ≤ func w → func w ≤ 0x023 → fb w = 0) :
    exec (.integerAlu c w) s = .next (s.setCore c.val ((s.core c.val).wg (fd w) v).advance) :=
  exec_local_done rfl h (integerAluStep_of_aluOp value unary)

theorem integerAluStep_sel {k : Core} {p : Nat} (inside : p < 8) (row : func w = 0x040 + p) : integerAluStep w k =
    .done (k.wg (fd w) (if (k.rp p).getLsbD 0 then k.rg (fa w) else k.rg (fb w))) := by
  have sel : (0x040 ≤ func w && func w ≤ 0x047) = true := by
    simp only [Bool.and_eq_true, decide_eq_true_eq]
    omega
  have bit (x : BitVec 256) : tbit x.toNat 0 = x.getLsbD 0 := by
    rw [tbit, BitVec.getLsbD, Nat.testBit_zero]
    rfl
  rw [integerAluStep, if_pos sel, row, Nat.add_sub_cancel_left, bit]

end

/-! ## The registers of a core (R111) -/

section

variable {k : Core} {n m : Nat}

theorem rg_zero : k.rg 0 = 0 := rfl

theorem wg_zero {v : Word} : k.wg 0 v = k := rfl

theorem wg_frame {v : Word} : { k.wg n v with g := k.g } = k :=
  eq_wg (fun x : Core => { x with g := k.g }) fun _ _ => rfl

theorem rp_zero : k.rp 0 = BitVec.allOnes 256 := rfl

theorem wp_zero {v : BitVec 256} : k.wp 0 v = k := rfl

theorem rp_wp {v : BitVec 256} (set : n ≠ 0) : (k.wp n v).rp m = if m = n then v else k.rp m := by
  rw [Core.wp, if_neg set, Core.rp]
  by_cases zero : m = 0
  · rw [if_pos zero, if_neg (by omega), Core.rp, if_pos zero]
  · rw [if_neg zero, mget_mset, Core.rp, if_neg zero]

theorem wp_frame {v : BitVec 256} : { k.wp n v with p := k.p } = k := by
  unfold Core.wp
  split <;> rfl

end

end Sys2Proof.Machine

namespace Sys2Proof

open Machine Claims

/-- Settles O19: each func's result is an entry of R118's table, a quotient and its remainder are those of a division toward
zero, an immediate is a field of the word extended, and a register written is the one register that changes. -/
theorem integerResults : Obligations.IntegerResults := by
  unfold Obligations.IntegerResults
  refine ⟨⟨?table, ?sel, ?g, ?p⟩, ?division, ?immediate, ?shift, ?constant⟩
  case table =>
    intro s c w v h entry unary
    exact exec_integerAlu h (aluOp_of_mem_aluTable _ _ _ entry) unary
  case sel =>
    intro s c w p h inside row
    exact exec_local_done rfl h (integerAluStep_sel inside row)
  case g =>
    intro k n m v
    refine ⟨wg_zero, rg_zero, fun set => ?_, fun other => ?_, wg_frame⟩
    · rw [rg_wg set, if_pos rfl]
    · by_cases zero : n = 0
      · rw [zero, wg_zero]
      · rw [rg_wg zero, if_neg other]
  case p =>
    intro k n m v
    refine ⟨wp_zero, rp_zero, fun set => ?_, fun other => ?_, wp_frame⟩
    · rw [rp_wp set, if_pos rfl]
    · by_cases zero : n = 0
      · rw [zero, wp_zero]
      · rw [rp_wp zero, if_neg other]
  case division =>
    intro s c w h low high
    have result {v : Word} := exec_integerAlu (v := v) h
    obtain f | f | f | f : func w = 0x014 ∨ func w = 0x015 ∨ func w = 0x016 ∨ func w = 0x017 := by omega
    · refine ⟨sdivW _ _, result (by rw [f]; rfl) (by omega), fun zero => ?_, fun _ => sdivW_overflow, by omega, fun _ nonzero fits => ?_,
        by omega, by omega, by omega⟩
      · rw [if_pos (by omega), sdivW, if_pos zero]
      · rw [toInt_sdivW nonzero fits]
        exact ⟨_, tmod_facts _ _ (toInt_ne_zero nonzero)⟩
    · refine ⟨udivW _ _, result (by rw [f]; rfl) (by omega), fun zero => ?_, by omega, by omega, by omega, by omega,
        fun _ => toNat_udivW, by omega⟩
      rw [if_pos (by omega), udivW, if_pos zero]
    · refine ⟨sremW _ _, result (by rw [f]; rfl) (by omega), fun zero => ?_, by omega, fun _ => sremW_overflow, by omega,
        fun _ nonzero => ?_, by omega, by omega⟩
      · rw [if_neg (by omega), sremW, if_pos zero]
      · rw [toInt_sremW nonzero]
        exact ⟨_, tmod_facts _ _ (toInt_ne_zero nonzero)⟩
    · refine ⟨uremW _ _, result (by rw [f]; rfl) (by omega), fun zero => ?_, by omega, by omega, by omega, by omega, by omega,
        fun _ => toNat_uremW⟩
      rw [if_neg (by omega), uremW, if_pos zero]
  case immediate =>
    intro s c w i op v row h
    simp only [List.mem_cons, List.not_mem_nil, or_false, Prod.mk.injEq] at row
    rcases row with ⟨rfl, rfl, rfl⟩ | ⟨rfl, rfl, rfl⟩ | ⟨rfl, rfl, rfl⟩ | ⟨rfl, rfl, rfl⟩ | ⟨rfl, rfl, rfl⟩ | ⟨rfl, rfl, rfl⟩
    · exact exec_local_done rfl h (by rw [addiStep, ofInt_simm16])
    · exact exec_local_done rfl h (by rw [andiStep, ofInt_simm16])
    · exact exec_local_done rfl h (by rw [oriStep, ofNat_uimm16])
    · exact exec_local_done rfl h (by rw [xoriStep, ofNat_uimm16])
    · exact exec_local_done rfl h (by simp only [sltiStep, ofInt_simm16, slt_simm16, decide_eq_true_eq])
    · exact exec_local_done rfl h (by rw [luiStep, ofInt_simm21])
  case shift =>
    intro s c w v h row zero
    simp only [List.mem_cons, List.not_mem_nil, or_false, Prod.mk.injEq] at row
    refine exec_local_done rfl h ?_
    have unused : ¬ wf w 7 6 ≠ 0 := by rw [wf_eq_extractLsb', zero]; decide
    rw [shiftByImmediateStep, if_neg unused, wf_eq_extractLsb', wf_eq_extractLsb']
    rcases row with ⟨f, rfl⟩ | ⟨f, rfl⟩ | ⟨f, rfl⟩
    · rw [f]; rfl
    · rw [f]; rfl
    · rw [f]; rfl
  case constant => exact exists_lui_ori

end Sys2Proof

/-! # Comparisons, predicate logic and scalar FP32 -/

namespace Sys2Proof.Machine

open Claims

variable {s : State} {c : CoreId} {w : W32}

/-! ## Comparisons (R120, R122) -/

theorem cmpInt_of_mem {a b : Word} : ∀ x ∈ [(0, decide (a = b)), (1, decide (a ≠ b)), (2, decide (a.toInt < b.toInt)),
    (3, decide (b.toInt ≤ a.toInt)), (4, decide (a.toNat < b.toNat)), (5, decide (b.toNat ≤ a.toNat))],
    x.1 ≤ 5 ∧ cmpInt x.1 a b = x.2 := by
  have ge : (!a.slt b) = decide (b.toInt ≤ a.toInt) := by
    rw [slt_eq_decide, ← decide_not, decide_eq_decide, Int.not_lt]
  have geu : (!a.ult b) = decide (b.toNat ≤ a.toNat) := by
    rw [ult_eq_decide, ← decide_not, decide_eq_decide, Nat.not_lt]
  have ne : (a != b) = decide (a ≠ b) := by rw [bne, beq_eq_decide, ← decide_not]
  simp only [List.forall_mem_cons, List.not_mem_nil, false_implies, implies_true, and_true]
  exact ⟨⟨by decide, rfl⟩, ⟨by decide, ne⟩, ⟨by decide, rfl⟩, ⟨by decide, ge⟩, ⟨by decide, rfl⟩, by decide, geu⟩

theorem compareToPredicateStep_int {k : Core} {r : Bool} (unused : wf w 25 24 = 0) (small : func w ≤ 5)
    (value : cmpInt (func w) (k.rg (fa w)) (k.rg (fb w)) = r) :
    compareToPredicateStep w k = .done (k.wp (wf w 23 21) (if r then BitVec.allOnes 256 else 0)) := by
  rw [compareToPredicateStep, if_neg (not_not_intro unused), if_pos small, value]
  rfl

theorem compareToPredicateStep_fp {k : Core} (unused : wf w 25 24 = 0) (low : 0x010 ≤ func w) (high : func w ≤ 0x013) :
    compareToPredicateStep w k =
      (let r := f32Fmt.compare (func w - 0x010) (k.rs (fa w)) (k.rs (fb w))
       .done ((k.wp (wf w 23 21) (if r.1 then BitVec.allOnes 256 else 0)).accrue r.2)) := by
  rw [compareToPredicateStep, if_neg (not_not_intro unused), if_neg (by omega), if_pos (by simp [low, high])]
  rfl

theorem predicateLogicStep_eq {k : Core} (unused : wf w 25 24 = 0) (ha : fa w < 8) (hb : fb w < 8) :
    ∀ x ∈ [(0, k.rp (fa w) &&& k.rp (fb w)), (1, k.rp (fa w) ||| k.rp (fb w)), (2, k.rp (fa w) ^^^ k.rp (fb w)),
      (3, k.rp (fa w) &&& ~~~k.rp (fb w)), (4, ~~~k.rp (fa w))],
      func w = x.1 → predicateLogicStep w k = .done (k.wp (wf w 23 21) x.2) := by
  have form : ¬ (decide (wf w 25 24 ≠ 0) || decide (8 ≤ fa w) || decide (8 ≤ fb w)) = true := by
    simp [unused, ha, hb]
  rw [predicateLogicStep, if_neg form, Nat.mod_eq_of_lt ha, Nat.mod_eq_of_lt hb]
  simp only [List.forall_mem_cons, List.not_mem_nil, false_implies, implies_true, and_true]
  refine ⟨fun f => ?_, fun f => ?_, fun f => ?_, fun f => ?_, fun f => ?_⟩
  all_goals
    rw [f]
    rfl

/-! ## Scalar FP32 (R121) -/

theorem scalarFp32Step_eq {k : Core} (unused : func w = 4 → fb w = 0) : scalarFp32Step w k =
    match f32Op (func w) k.frm (k.rs (fa w)) (k.rs (fb w)) (k.rs (fd w)) (k.rg (fa w)) with
    | .fres v fl => .done ((k.ws (fd w) v).accrue fl)
    | .gres v fl => .done ((k.wg (fd w) (BitVec.ofNat 64 v)).accrue fl)
    | .undef => illegalW k w := by
  have form : ¬ (decide (func w = 0x004) && decide (fb w ≠ 0)) = true := by
    simp only [Bool.and_eq_true, decide_eq_true_eq]
    exact fun ⟨root, set⟩ => set (unused root)
  rw [scalarFp32Step]
  exact if_neg form

/-- A sum with a NaN. -/
theorem addVals_nan (mode : Nat) (signalling : Bool) (y : FVal) :
    ∃ fl, f32Fmt.addVals mode (.nan signalling) y = (0x7FC00000, fl) := by
  cases y <;> exact ⟨_, rfl⟩

/-- A quotient with a NaN. -/
theorem div_nan {mode a b : Nat} {signalling : Bool} (nan : f32Fmt.decode a = .nan signalling) :
    ∃ fl, f32Fmt.div mode a b = (0x7FC00000, fl) := by
  rw [FFmt.div, nan]
  cases f32Fmt.decode b <;> exact ⟨_, rfl⟩

theorem mul_nan {mode a b : Nat} {signalling : Bool} (nan : f32Fmt.decode a = .nan signalling) :
    ∃ fl, f32Fmt.mul mode a b = (0x7FC00000, fl) := by
  rw [FFmt.mul, nan]
  exact ⟨_, rfl⟩

theorem eq_nan_of_isNan {x : FVal} (h : x.isNan = true) : ∃ signalling, x = .nan signalling := by
  cases x with
  | nan signalling => exact ⟨signalling, rfl⟩
  | inf | fin => cases h

/-- FADD, FSUB, FMUL and FDIV of a NaN (R121). -/
theorem f32Op_nan {frm a b d : Nat} {g : Word} (nan : (f32Fmt.decode a).isNan = true) :
    ∀ fn ∈ [0, 1, 2, 3], ∃ fl, f32Op fn frm a b d g = .fres 0x7FC00000 fl := by
  obtain ⟨signalling, nan⟩ := eq_nan_of_isNan nan
  simp only [List.forall_mem_cons, List.not_mem_nil, false_implies, implies_true, and_true]
  refine ⟨?add, ?sub, ?mul, ?div⟩
  case add =>
    obtain ⟨fl, sum⟩ := addVals_nan frm signalling (f32Fmt.decode b)
    rw [← nan] at sum
    exact ⟨fl, congrArg fpo sum⟩
  case sub =>
    obtain ⟨fl, sum⟩ := addVals_nan frm signalling (f32Fmt.decode b).negate
    rw [← nan] at sum
    exact ⟨fl, congrArg fpo sum⟩
  case mul =>
    obtain ⟨fl, product⟩ := mul_nan (mode := frm) (b := b) nan
    exact ⟨fl, congrArg fpo product⟩
  case div =>
    obtain ⟨fl, quotient⟩ := div_nan (mode := frm) (b := b) nan
    exact ⟨fl, congrArg fpo quotient⟩

/-- FCVT of a NaN to a signed word saturates with NV (R121). -/
theorem f32Op_toInt_nan {frm a b d : Nat} {g : Word} (nan : (f32Fmt.decode a).isNan = true) :
    f32Op 0x012 frm a b d g = .gres (2 ^ 63 - 1) .invalid := by
  obtain ⟨signalling, nan⟩ := eq_nan_of_isNan nan
  rw [f32Op, nan]
  rfl

/-- FCVT of a NaN to an unsigned word saturates with NV (R121). -/
theorem f32Op_toNat_nan {frm a b d : Nat} {g : Word} (nan : (f32Fmt.decode a).isNan = true) :
    f32Op 0x013 frm a b d g = .gres (2 ^ 64 - 1) .invalid := by
  obtain ⟨signalling, nan⟩ := eq_nan_of_isNan nan
  rw [f32Op, nan]
  rfl

end Sys2Proof.Machine

namespace Sys2Proof

open Machine Claims

/-- Settles O20: each instruction is what its step comes to, and an operation whose first operand is a NaN answers before it
looks at the second. -/
theorem predicatesAndScalarFp : Obligations.PredicatesAndScalarFp := by
  unfold Obligations.PredicatesAndScalarFp
  refine ⟨?compare, ?compareFp, ?logic, ?fres, ?gres, ?nan⟩
  case compare =>
    intro s c w r h unused row
    obtain ⟨small, value⟩ := cmpInt_of_mem _ row
    exact exec_local_done rfl h (compareToPredicateStep_int unused small value)
  case compareFp =>
    intro s c w h unused low high
    exact exec_local_done rfl h (compareToPredicateStep_fp unused low high)
  case logic =>
    intro s c w v h unused ha hb row
    exact exec_local_done rfl h (predicateLogicStep_eq unused ha hb _ row rfl)
  case fres =>
    intro s c w v fl h unused k result
    refine exec_local_done rfl h ?_
    rw [scalarFp32Step_eq unused, result]
    rfl
  case gres =>
    intro s c w v fl h k result
    have unused : func w = 4 → fb w = 0 := fun root => by
      obtain ⟨x, isRes⟩ : ∃ x, f32Op 4 k.frm (k.rs (fa w)) (k.rs (fb w)) (k.rs (fd w)) (k.rg (fa w)) = fpo x := ⟨_, rfl⟩
      rw [root, isRes] at result
      cases result
    refine exec_local_done rfl h ?_
    rw [scalarFp32Step_eq unused, result]
  case nan =>
    intro frm a b g small nan
    exact ⟨f32Op_nan nan, ⟨_, rfl, f32Op_toInt_nan nan⟩, ⟨_, rfl, f32Op_toNat_nan nan⟩⟩

end Sys2Proof

/-! # Branches, jumps and loops -/

namespace Sys2Proof.Machine

open Claims

variable {s : State} {c : CoreId} {w : W32} {k : Core}

/-- An instruction that reads and writes its core alone does what its step comes to. -/
theorem exec_local {i : Instr} {op : CoreOp} {f : Core → Step1} (row : exec i s = .next (coreLocal op c.val w s f))
    (h : atInstr s op c w) : exec i s = .next (s.applyStep c.val (f (s.core c.val))) := by
  rw [row, coreLocal, coreExec_of_atInstr _ h]

/-! ## Branches and jumps (R122) -/

/-- The control transfer of a branch that is taken or not. -/
theorem applyStep_transfer {take : Bool} {target : Nat} :
    s.applyStep c.val (if take then .taken k target else .done k) =
      s.setCore c.val (if take then k.jump target else k.advance) := by
  cases take <;> rfl

theorem rel_sext {n : Nat} : k.rel (sext (n + 1) (wf w n 0)) = (((k.pc : Int) + 4 * (w.setWidth (n + 1)).toInt) % 2 ^ 51).toNat := by
  rw [sext_eq_toInt _ _ n.succ_pos, ofNat_wf_zero]
  rfl

/-- Where a branch goes when it is taken. -/
def Core.branchTarget (k : Core) (w : W32) : Nat := (((k.pc : Int) + 4 * (w.setWidth 13).toInt) % 2 ^ 51).toNat

theorem branchStep_eq : branchStep w k =
    if wf w 15 13 ≤ 5 then
      (if cmpInt (wf w 15 13) (k.rg (wf w 25 21)) (k.rg (wf w 20 16)) then .taken k (k.branchTarget w) else .done k)
    else if wf w 25 21 ≠ 0 || 8 ≤ wf w 20 16 then illegalW k w
    else (if (k.rp (wf w 20 16)).getLsbD 0 == (wf w 15 13 == 6) then .taken k (k.branchTarget w) else .done k) := by
  have bit (x : BitVec 256) : tbit x.toNat 0 = x.getLsbD 0 := by
    rw [tbit, BitVec.getLsbD, Nat.testBit_zero]
    rfl
  rw [Core.branchTarget, ← rel_sext, ← bit]
  rfl

theorem branchStep_compare (cond : wf w 15 13 ≤ 5) : branchStep w k =
    (if cmpInt (wf w 15 13) (k.rg (wf w 25 21)) (k.rg (wf w 20 16)) then .taken k (k.branchTarget w) else .done k) := by
  rw [branchStep_eq, if_pos cond]

theorem branchStep_predicate (zero : wf w 25 21 = 0) (small : wf w 20 16 < 8) (cond : 5 < wf w 15 13) : branchStep w k =
    (if (k.rp (wf w 20 16)).getLsbD 0 == (wf w 15 13 == 6) then .taken k (k.branchTarget w) else .done k) := by
  have form : ¬ (decide (wf w 25 21 ≠ 0) || decide (8 ≤ wf w 20 16)) = true := by
    simp only [Bool.or_eq_true, decide_eq_true_eq]
    omega
  rw [branchStep_eq, if_neg (Nat.not_le.2 cond), if_neg form]

theorem jalr_target (t : Word) : t.toNat / 4 * 4 = (t &&& ~~~3#64).toNat := by
  have low (i : Nat) : (3#64).getLsbD i = decide (i < 2) := Nat.testBit_two_pow_sub_one 2 i
  refine Nat.eq_of_testBit_eq fun i => ?_
  change (t.toNat / 2 ^ 2 * 2 ^ 2).testBit i = (t &&& ~~~3#64).getLsbD i
  rw [BitVec.getLsbD_and, BitVec.getLsbD_not, low, Nat.testBit_mul_two_pow, Nat.testBit_div_two_pow]
  by_cases small : i < 2
  · simp [small]
  · rw [Nat.sub_add_cancel (Nat.not_lt.1 small)]
    change (decide (2 ≤ i) && t.getLsbD i) = _
    by_cases inside : i < 64
    · simp [small, Nat.not_lt.1 small, inside]
    · simp [small, t.getLsbD_of_ge i (Nat.not_lt.1 inside)]

/-! ## The levels that a transfer leaves (R123) -/

theorem pc_jump {t : Nat} (small : t < 2 ^ 51) : (k.jump t).pc = t := Nat.mod_eq_of_lt small

theorem loops_jump (k : Core) {t : Nat} (small : t < 2 ^ 51) : (k.jump t).csrs.loops =
    (k.csrs.loops.reverse.dropWhile (fun l => !(decide (l.2.1 ≤ t) && decide (t ≤ l.2.2)))).reverse := by
  rw [Core.jump, Nat.mod_eq_of_lt small]

theorem loops_jump_nil {t : Nat} (small : t < 2 ^ 51) (loops : k.csrs.loops = []) : (k.jump t).csrs.loops = [] := by
  rw [loops_jump k small, loops]
  rfl

/-- An innermost body that holds the target stays, and so does every level around it. -/
theorem loops_jump_inside {t : Nat} {ls : List (Word × Nat × Nat)} {l : Word × Nat × Nat} (small : t < 2 ^ 51)
    (loops : k.csrs.loops = ls ++ [l]) (inside : l.2.1 ≤ t ∧ t ≤ l.2.2) : (k.jump t).csrs.loops = ls ++ [l] := by
  rw [loops_jump k small, loops, List.reverse_append, List.reverse_singleton, List.singleton_append,
    List.dropWhile_cons_of_neg (by simp [inside])]
  simp

/-- An innermost body that does not hold the target is left. -/
theorem loops_jump_outside {t : Nat} {ls : List (Word × Nat × Nat)} {l : Word × Nat × Nat} (small : t < 2 ^ 51)
    (loops : k.csrs.loops = ls ++ [l]) (outside : t < l.2.1 ∨ l.2.2 < t) :
    (k.jump t).csrs.loops = ({ k with csrs := { k.csrs with loops := ls } }.jump t).csrs.loops := by
  have left : (!(decide (l.2.1 ≤ t) && decide (t ≤ l.2.2))) = true := by
    simp only [Bool.not_eq_true', Bool.and_eq_false_iff, decide_eq_false_iff_not]
    omega
  rw [loops_jump k small, loops_jump _ small, loops, List.reverse_append, List.reverse_singleton, List.singleton_append,
    List.dropWhile_cons, if_pos left]

/-! ## The end of a body (R123) -/

theorem endAt_eq {a n : Nat} {up : List (Word × Nat × Nat)} {back : Option Nat}
    (left : endOfBody k.csrs.loops.reverse a = (up, back)) :
    k.endAt a n = { k with pc := (back.getD n) % 2 ^ 51, csrs := { k.csrs with loops := up.reverse } } := by
  rw [Core.endAt, left]

/-- Where no body ends, the PC alone moves. -/
theorem endAt_of_no_end {a n : Nat} (small : n < 2 ^ 51) (open_ : ∀ l, k.csrs.loops.getLast? = some l → l.2.2 ≠ a) :
    k.endAt a n = { k with pc := n } := by
  have left : endOfBody k.csrs.loops.reverse a = (k.csrs.loops.reverse, none) := by
    rw [← List.head?_reverse] at open_
    generalize k.csrs.loops.reverse = ls at open_
    cases ls with
    | nil => rfl
    | cons l up => exact if_neg (Ne.symm (open_ l rfl))
  rw [endAt_eq left, List.reverse_reverse, Option.getD_none, Nat.mod_eq_of_lt small]

section

variable {a n first : Nat} {ls : List (Word × Nat × Nat)} {lc : Word}

/-- A body with turns left begins again. -/
theorem endAt_of_again (loops : k.csrs.loops = ls ++ [(lc, first, a)]) (again : 1 < lc.toNat) (small : first < 2 ^ 51) :
    k.endAt a n = { k with pc := first, csrs := { k.csrs with loops := ls ++ [(lc - 1, first, a)] } } := by
  have left : endOfBody k.csrs.loops.reverse a = ((lc - 1, first, a) :: ls.reverse, some first) := by
    rw [loops, List.reverse_append, List.reverse_singleton, List.singleton_append, endOfBody, if_pos rfl, if_pos again]
  rw [endAt_eq left, Option.getD_some, Nat.mod_eq_of_lt small, List.reverse_cons, List.reverse_reverse]

/-- A body whose last turn ends leaves its level, and the level around it may end there too. -/
theorem endAt_of_last (loops : k.csrs.loops = ls ++ [(lc, first, a)]) (last : lc.toNat ≤ 1) :
    k.endAt a n = { k with csrs := { k.csrs with loops := ls } }.endAt a n := by
  have left : endOfBody k.csrs.loops.reverse a = endOfBody ls.reverse a := by
    rw [loops, List.reverse_append, List.reverse_singleton, List.singleton_append, endOfBody, if_pos rfl,
      if_neg (Nat.not_lt.2 last)]
  rw [Core.endAt, left]
  rfl

end

/-! ## LOOP (R123) -/

theorem loopStartStep_eq (zero : fa w = 0) (body : wf w 15 0 ≠ 0)
    (inside : ∀ l, k.csrs.loops.getLast? = some l → k.pc + 4 * wf w 15 0 ≤ l.2.2) : loopStartStep w k =
      (let last := k.pc + 4 * wf w 15 0
       if k.rg (fd w) = 0 then .skip k (last + 4)
       else if 2 ≤ k.csrs.loops.length then illegalW k w
       else .wait { k with
         pc := (k.pc + 4) % 2 ^ 51, csrs := { k.csrs with loops := k.csrs.loops ++ [(k.rg (fd w), k.pc + 4, last)] } }) := by
  have fields : ¬ (decide (fa w ≠ 0) || decide (uimm16 w = 0)) = true := by
    simp only [Bool.or_eq_true, decide_eq_true_eq]
    exact fun wrong => wrong.elim (· zero) body
  rw [loopStartStep, if_neg fields, if_neg]
  · rfl
  · split
    next le last => exact fun below => Nat.not_lt.2 (inside _ last) (of_decide_eq_true below)
    next => exact Bool.false_ne_true

end Sys2Proof.Machine

namespace Sys2Proof

open Machine Claims

/-- Settles O21: each instruction is what its step comes to; a transfer drops levels from the innermost outward while their
body does not hold the target, and the end of a body turns the innermost level that ends there or leaves it. -/
theorem controlFlowAndLoops : Obligations.ControlFlowAndLoops := by
  unfold Obligations.ControlFlowAndLoops
  refine ⟨?branch, ?jal, ?jalr, ?loopStart, ?jump, ?endAt⟩
  case branch =>
    intro s c w take h k ra rb a b row
    refine (exec_local rfl h).trans ?_
    rcases row with row | ⟨zero, small, row⟩
    · obtain ⟨cond, value⟩ := cmpInt_of_mem _ row
      rw [branchStep_compare cond, value, applyStep_transfer]
      rfl
    · simp only [List.mem_cons, List.not_mem_nil, or_false, Prod.mk.injEq] at row
      rcases row with ⟨cond, rfl⟩ | ⟨cond, rfl⟩
      · rw [branchStep_predicate zero small (by rw [cond]; decide), applyStep_transfer, cond, beq_self_eq_true, beq_true]
        rfl
      · rw [branchStep_predicate zero small (by rw [cond]; decide), applyStep_transfer, cond, show (7 == 6) = false from rfl, beq_false]
        rfl
  case jal =>
    intro s c w h k
    refine (exec_local rfl h).trans ?_
    rw [jalStep, simm21, rel_sext]
    rfl
  case jalr =>
    intro s c w h k
    refine (exec_local rfl h).trans ?_
    rw [jalrStep, ofInt_simm16, jalr_target]
    rfl
  case loopStart =>
    intro s c w h zero body k n last inside
    have running := h.1
    have step := (exec_local (i := .loopStart c w) rfl h).trans
      (congrArg (fun x => Host.Outcome.next (s.applyStep c.val x)) (loopStartStep_eq zero body inside))
    refine ⟨fun count room => ?_, fun none => ?_, fun count full => ?_⟩
    · rw [step, if_neg count, if_neg (Nat.not_le.2 room)]
      rfl
    · rw [step, if_pos none]
      rfl
    · rw [step, if_neg count, if_pos full]
      exact congrArg Host.Outcome.next (applyStep_fault_self running)
  case jump =>
    intro k t small
    refine ⟨pc_jump small, fun ls loops inside => ?_, fun ls l loops outside => loops_jump_outside small loops outside⟩
    obtain rfl | ⟨up, l, rfl⟩ := ls.eq_nil_or_concat'
    · exact loops_jump_nil small loops
    · exact loops_jump_inside small loops (inside l (by simp))
  case endAt =>
    intro k a n small
    exact ⟨endAt_of_no_end small, fun ls lc first => endAt_of_again, fun ls lc first => endAt_of_last⟩

end Sys2Proof

/-! # Loads and stores -/

namespace Sys2Proof.Machine

open Claims

variable {s s' : State} {c : CoreId} {w : W32} {k : Core} {a n p ea : Nat} {bs : List Byte}

/-- An instruction that may change its node does what its step comes to. -/
theorem exec_core {i : Instr} {op : CoreOp} {f : State → Core → State × Step1} {t : State} {d : Step1}
    (row : exec i s = .next (coreExec op c.val w s f)) (h : atInstr s op c w) (step : f s (s.core c.val) = (t, d)) :
    exec i s = .next (t.applyStep c.val d) := by
  rw [row, coreExec_of_atInstr f h, step]

theorem exec_core_done {i : Instr} {op : CoreOp} {f : State → Core → State × Step1} {t : State} {k' : Core}
    (row : exec i s = .next (coreExec op c.val w s f)) (h : atInstr s op c w) (step : f s (s.core c.val) = (t, .done k')) :
    exec i s = .next (t.setCore c.val k'.advance) := exec_core row h step

theorem exec_core_wait {i : Instr} {op : CoreOp} {f : State → Core → State × Step1} {t : State} {k' : Core}
    (row : exec i s = .next (coreExec op c.val w s f)) (h : atInstr s op c w) (step : f s (s.core c.val) = (t, .wait k')) :
    exec i s = .next (t.setCore c.val k') := exec_core row h step

/-- An instruction that faults with the node and its core as they were. -/
theorem exec_core_fault {i : Instr} {op : CoreOp} {f : State → Core → State × Step1} {code aux : Nat} {fa : Word}
    (row : exec i s = .next (coreExec op c.val w s f)) (h : atInstr s op c w)
    (step : f s (s.core c.val) = (s, .fault (s.core c.val) code aux fa)) :
    exec i s = .next (s.progFault c.val code aux fa) := by
  rw [exec_core row h step, applyStep_fault_self h.1]

/-! ## Bytes -/

theorem leBytes_eq_map (n v : Nat) : leBytes n v = (List.range n).map (fun j => BitVec.ofNat 8 (v / 256 ^ j)) := by
  refine List.ext_getElem (by simp) fun i inside _ => ?_
  rw [List.getElem_map, List.getElem_range, ← nth_leBytes n v i (by simpa using inside)]
  simp only [nth, List.getElem?_eq_getElem inside, Option.getD_some]

theorem leBytes_mod (n v : Nat) : leBytes n (v % 256 ^ n) = leBytes n v := by
  induction n generalizing v with
  | zero => rfl
  | succ n ih =>
    have low : BitVec.ofNat 8 (v % 256 ^ (n + 1)) = BitVec.ofNat 8 v :=
      BitVec.eq_of_toNat_eq (Nat.mod_mod_of_dvd v (pow_succ' 256 n ▸ Nat.dvd_mul_right 256 (256 ^ n)))
    rw [leBytes, leBytes, low, pow_succ', Nat.mod_mul_right_div_self, ih]

theorem leNat_lt_of_load (loaded : s.load a n = (s', some bs)) : leNat bs < 256 ^ n := by
  have read : (if (s.scan a n).2 then some (memRead (s.scan a n).1.view a n) else none) = some bs := congrArg Prod.snd loaded
  split at read
  · cases read
    simpa using leNat_lt (memRead (s.scan a n).1.view a n)
  · cases read

/-! ## Near accesses (R113) -/

theorem nearEa_eq : nearEa w k = (k.rg (fa w) + (w.setWidth 16).signExtend 64).toNat := by
  rw [nearEa, ofInt_simm16]

theorem nearTarget_of_nearView (view : nearView s c ea a) : s.nearTarget c.val (s.core c.val) ea n =
    if ea % n = 0 then .local_ a else .fault FaultCode.misaligned := by
  rcases view with ⟨pool, at_⟩ | ⟨low, high, q, placed, at_⟩ | ⟨low, high, q, placed, at_⟩
  · rw [State.nearTarget, if_pos pool, poolAddr, ← at_]
  · have notPool : ¬ ea < 0x10000 := by omega
    simp only [State.nearTarget, notPool, low, high, placed, if_false, Bool.and_self, decide_true, if_true, Option.map_some]
    rw [shaleAddr, ← at_]
  · have notPool : ¬ ea < 0x10000 := by omega
    have notShale : ¬ ea < 0x180000 := by omega
    simp only [State.nearTarget, notPool, notShale, low, high, placed, if_false, Bool.and_self, decide_true, decide_false,
      Bool.and_false, Bool.false_eq_true, if_true, Option.map_some]
    rw [shaleAddr, ← at_]

theorem nearTarget_of_no_nearView (none : ¬ ∃ a, nearView s c ea a) :
    s.nearTarget c.val (s.core c.val) ea n = .fault FaultCode.addr := by
  have notPool : ¬ ea < 0x10000 := fun pool => none ⟨_, .inl ⟨pool, rfl⟩⟩
  simp only [State.nearTarget, notPool, if_false, Bool.and_eq_true, decide_eq_true_eq]
  split
  next shale =>
    cases placed : s.placedCore ((s.core c.val).whereId / 16) ((s.core c.val).whereId % 16) with
    | none => rfl
    | some q => exact absurd ⟨_, .inr (.inl ⟨shale.1, shale.2, q, placed, rfl⟩)⟩ none
  next =>
    split
    next shale =>
      cases placed : s.placedCore ((s.core c.val).whereId / 16) ((ea - 0x1000000) / 2 ^ 19) with
      | none => rfl
      | some q => exact absurd ⟨_, .inr (.inr ⟨shale.1, shale.2, q, placed, rfl⟩)⟩ none
    next => rfl

theorem nearLoad_of_nearView {f : Nat → Core} (view : nearView s c ea a) (aligned : ea % n = 0)
    (loaded : s.load a n = (s', some bs)) : s.nearLoad c.val (s.core c.val) ea n f = (s', .done (f (leNat bs))) := by
  simp only [State.nearLoad, nearTarget_of_nearView view, if_pos aligned, State.loadAt, loaded]

theorem nearStore_of_nearView (view : nearView s c ea a) (aligned : ea % bs.length = 0) :
    s.nearStore c.val (s.core c.val) ea bs = (s.store a bs, .done (s.core c.val)) := by
  simp only [State.nearStore, nearTarget_of_nearView view, if_pos aligned]

theorem nearLoad_of_fault {f : Nat → Core} {c code : Nat} (target : s.nearTarget c k ea n = .fault code) :
    s.nearLoad c k ea n f = (s, .fault k code 0 (BitVec.ofNat 64 ea)) := by
  simp only [State.nearLoad, target]

theorem nearStore_of_fault {c code : Nat} (target : s.nearTarget c k ea bs.length = .fault code) :
    s.nearStore c k ea bs = (s, .fault k code 0 (BitVec.ofNat 64 ea)) := by
  simp only [State.nearStore, target]

/-- The majors of the near accesses (R117). -/
theorem major_of_near {op : CoreOp} (row : selectOp w = some op) : (op = .nearLoad → 0x10 ≤ major w ∧ major w ≤ 0x16) ∧
    (op = .nearStore → 0x17 ≤ major w ∧ major w ≤ 0x1A) ∧ (op = .ldf → major w = 0x1B) ∧ (op = .stf → major w = 0x1C) := by
  dsimp only [selectOp] at row
  repeat' split at row
  all_goals cases row
  all_goals simp [*]

/-- Bytes of a near access, from its major. -/
def nearBytes (m : Nat) : Nat := if m ≤ 0x16 then 2 ^ ((m - 0x10) / 2) else if m ≤ 0x1A then 2 ^ (m - 0x17) else 4

theorem nearBytes_of_mem : ∀ x ∈ [(0x12, 2), (0x13, 2), (0x14, 4), (0x15, 4), (0x16, 8), (0x18, 2), (0x19, 4), (0x1A, 8),
    (0x1B, 4), (0x1C, 4)], nearBytes x.1 = x.2 := by decide

/-- A near access whose address has no target faults with what its target says. -/
theorem exec_near_fault {i : Instr} {op : CoreOp} {code : Nat} (h : atInstr s op c w)
    (row : (i, op) ∈ [(Instr.nearLoad c w, CoreOp.nearLoad), (.nearStore c w, .nearStore), (.ldf c w, .ldf), (.stf c w, .stf)])
    (target : s.nearTarget c.val (s.core c.val) (nearEa w (s.core c.val)) (nearBytes (major w)) = .fault code) :
    exec i s = .next (s.progFault c.val code 0 (BitVec.ofNat 64 (nearEa w (s.core c.val)))) := by
  obtain ⟨load, store, ldf, stf⟩ := major_of_near h.2.2.2.1
  simp only [List.mem_cons, List.not_mem_nil, or_false] at row
  rcases row with row | row | row | row <;> cases row
  · have bytes : nearBytes (major w) = 2 ^ ((major w - 0x10) / 2) := if_pos (load rfl).2
    exact exec_core_fault rfl h (nearLoad_of_fault (bytes ▸ target))
  · have bytes : nearBytes (major w) = (leBytes (2 ^ (major w - 0x17)) ((s.core c.val).rg (fd w)).toNat).length := by
      obtain ⟨low, high⟩ := store rfl
      rw [leBytes_length, nearBytes, if_neg (by omega), if_pos high]
    exact exec_core_fault rfl h (nearStore_of_fault (bytes ▸ target))
  · have bytes : nearBytes (major w) = 4 := by rw [ldf rfl]; rfl
    exact exec_core_fault rfl h (nearLoad_of_fault (bytes ▸ target))
  · have bytes : nearBytes (major w) = (leBytes 4 ((s.core c.val).rs (fd w))).length := by rw [stf rfl, leBytes_length]; rfl
    exact exec_core_fault rfl h (nearStore_of_fault (bytes ▸ target))

theorem nearStore_bytes (w : W32) : ∀ x ∈ [(0x17, 1), (0x18, 2), (0x19, 4), (0x1A, 8)],
    major w = x.1 → 2 ^ (major w - 0x17) = x.2 := by
  simp +contextual

/-- The value and the size of a near load (R117). -/
theorem nearLoad_value (w : W32) (v : Nat) : ∀ x ∈ [(0x10, 1, true), (0x11, 1, false), (0x12, 2, true), (0x13, 2, false),
    (0x14, 4, true), (0x15, 4, false), (0x16, 8, true)], major w = x.1 → 2 ^ ((major w - 0x10) / 2) = x.2.1 ∧
    (if (major w - 0x10) % 2 = 0 then BitVec.ofInt 64 (sext (8 * x.2.1) v) else BitVec.ofNat 64 v) =
      (if x.2.2 then BitVec.ofInt 64 (sext (8 * x.2.1) v) else BitVec.ofNat 64 v) := by
  simp +contextual

/-! ## Global accesses (R114, R127, R128) -/

theorem ptrNode_eq (p : Nat) : ptrNode p = p / 2 ^ 51 % 2 ^ 13 := by rw [ptrNode, bits, Nat.shiftRight_eq_div_pow]

theorem ptrOff_eq (p : Nat) : ptrOff p = p % 2 ^ 51 := bits_zero_eq p 50

theorem globalTarget_of_globalHere {rd wr : Bool} (here : globalHere s k p n rd wr a) :
    s.globalTarget k p n rd wr = (s, .local_ a) := by
  obtain ⟨valid, self, reached, allowed, at_, aligned⟩ := here
  simp only [State.globalTarget, ptrNode_eq, ptrOff_eq, valid, self, reached, allowed, at_, aligned, Bool.false_eq_true, if_true, if_false,
    Bool.not_true, ne_eq, not_true_eq_false]

section

variable {rd wr : Bool} {e : Nat} (valid : reservedNode (p / 2 ^ 51 % 2 ^ 13) = false)
  (other : s.isSelf (p / 2 ^ 51 % 2 ^ 13) = false) (aligned : p % 2 ^ 51 % n = 0)
  (ctx : s.tableCtx k (p / 2 ^ 51 % 2 ^ 13) = some e)
  (usable : s.ctxUsable (e % 2 ^ 20) k.jobTag k.jobEpoch (p / 2 ^ 51 % 2 ^ 13) s.spanNo = true)

include valid other aligned ctx usable

/-- An access of another node goes out on its context, or waits while that may not send (R128, R354). -/
theorem globalTarget_of_other : s.globalTarget k p n rd wr =
    if (s.ctx (e % 2 ^ 20)).canSend && (s.ctx (e % 2 ^ 20)).queue.isEmpty then (s, .remote (e % 2 ^ 20) (p % 2 ^ 51))
    else (s, .wait) := by
  simp only [State.globalTarget, ptrNode_eq, ptrOff_eq, valid, other, aligned, ctx, usable, Bool.false_eq_true, if_false,
    Bool.not_true, ne_eq, not_true_eq_false]

theorem globalTarget_of_ready (ready : (s.ctx (e % 2 ^ 20)).canSend = true ∧ (s.ctx (e % 2 ^ 20)).queue = []) :
    s.globalTarget k p n rd wr = (s, .remote (e % 2 ^ 20) (p % 2 ^ 51)) := by
  rw [globalTarget_of_other valid other aligned ctx usable, ready.1, ready.2]
  rfl

theorem globalTarget_of_busy (busy : (s.ctx (e % 2 ^ 20)).canSend = false ∨ (s.ctx (e % 2 ^ 20)).queue ≠ []) :
    s.globalTarget k p n rd wr = (s, .wait) := by
  rw [globalTarget_of_other valid other aligned ctx usable]
  rcases busy with stopped | queued
  · rw [stopped]
    rfl
  · rw [List.isEmpty_eq_false_iff.2 queued, Bool.and_false]
    rfl

end

theorem globalStore_bytes (w : W32) : ∀ x ∈ [(8, 1), (9, 2), (10, 4), (11, 8)], func w = x.1 → 2 ^ (func w % 4) = x.2 := by
  simp +contextual

/-- The value and the size of a global load (R127). -/
theorem gload_value (w : W32) (v : Nat) : ∀ x ∈ [(0, 1, true), (1, 2, true), (2, 4, true), (3, 8, true), (4, 1, false),
    (5, 2, false), (6, 4, false)], func w = x.1 → v < 256 ^ x.2.1 → 2 ^ (func w % 4) = x.2.1 ∧ gload (func w) v =
      (if x.2.2 then BitVec.ofInt 64 (sext (8 * x.2.1) v) else BitVec.ofNat 64 v) := by
  simp +contextual [gload, Nat.mod_eq_of_lt]

end Sys2Proof.Machine

namespace Sys2Proof

open Machine Claims

/-- Settles O24: the near and the global accesses go through their targets, and each target hands the access to the memory
rules, to a fault or to a context. -/
theorem loadsAndStores : Obligations.LoadsAndStores := by
  unfold Obligations.LoadsAndStores
  refine ⟨?nearLoad, ?ldf, ?nearStore, ?fault, ?globalLoad, ?globalStore, ?remote⟩
  case nearLoad =>
    intro s s' c w a bs n signed row h
    obtain ⟨bytes, value⟩ := nearLoad_value w (leNat bs) _ row rfl
    dsimp only at bytes value
    rw [← nearEa_eq, ← value]
    subst bytes
    exact fun view aligned loaded => exec_core_done rfl h (nearLoad_of_nearView view aligned loaded)
  case ldf =>
    intro s s' c w a bs h
    rw [← nearEa_eq]
    exact fun view aligned loaded => exec_core_done rfl h (nearLoad_of_nearView view aligned loaded)
  case nearStore =>
    intro s c w a i op n v row h
    rw [← nearEa_eq, ← leBytes_eq_map]
    intro ea view aligned
    rcases row with ⟨row, size⟩ | ⟨row, rfl⟩
    · cases row
      have bytes : 2 ^ (major w - 0x17) = n := nearStore_bytes w _ size rfl
      subst bytes
      exact exec_core_done rfl h (nearStore_of_nearView view (by rwa [leBytes_length]))
    · cases row
      rw [← leBytes_mod]
      exact exec_core_done rfl h (nearStore_of_nearView view (by rwa [leBytes_length]))
  case fault =>
    intro s c w i op h row
    rw [← nearEa_eq]
    refine ⟨fun none => exec_near_fault h row (nearTarget_of_no_nearView none), fun a n view size misaligned => ?_⟩
    refine exec_near_fault h row ((nearTarget_of_nearView view).trans (if_neg ?_))
    rwa [nearBytes_of_mem _ size]
  case globalLoad =>
    intro s s' c w a bs n signed row h unused here loaded
    obtain ⟨bytes, value⟩ := gload_value w (leNat bs) _ row rfl (leNat_lt_of_load loaded)
    rw [← value]
    refine exec_core_done rfl h ?_
    simp only [globalLoadStep, Core.ga, unused, bytes, globalTarget_of_globalHere here, State.loadAt, loaded]
    rfl
  case globalStore =>
    intro s c w a n row h unused here
    have bytes : 2 ^ (func w % 4) = n := globalStore_bytes w _ row rfl
    rw [← leBytes_eq_map]
    refine exec_core_done rfl h ?_
    simp only [globalStoreStep, Core.ga, unused, bytes, globalTarget_of_globalHere here]
    rfl
  case remote =>
    intro s c w x e i op kind opc n bs
    dsimp only
    rintro row rfl h valid other aligned ctx rfl usable
    rcases row with ⟨row, unused⟩ | ⟨row, unused⟩ <;> cases row
    · refine ⟨fun ready => exec_core_wait rfl h ?_, fun busy => exec_core_wait rfl h ?_⟩
      · simp only [globalLoadStep, Core.ga, unused, globalTarget_of_ready valid other aligned ctx usable ready]
        rfl
      · simp only [globalLoadStep, Core.ga, unused, globalTarget_of_busy valid other aligned ctx usable busy]
        rfl
    · refine ⟨fun ready => exec_core_wait rfl h ?_, fun busy => exec_core_wait rfl h ?_⟩
      · simp only [globalStoreStep, Core.ga, unused, globalTarget_of_ready valid other aligned ctx usable ready]
        rfl
      · simp only [globalStoreStep, Core.ga, unused, globalTarget_of_busy valid other aligned ctx usable busy]
        rfl

end Sys2Proof

/-! # Atomics -/

namespace Sys2Proof.Machine

open Claims

variable {s s' : State} {c : CoreId} {w : W32} {k : Core} {i : Instr} {op : CoreOp} {a n p f old x y : Nat} {bs : List Byte}

/-! ## The new value (R129, R359) -/

theorem sext_mod (n x : Nat) : sext n (x % 2 ^ n) = sext n x := by
  rw [sext, Nat.mod_mod, ← sext]

theorem atomicBytes_of_lt : ∀ f < 32, f % 16 ≠ 11 → atomicBytes f = if f < 16 then 4 else 8 := by decide

/-- The new value of each func but the grid-add, on operands of b bits. -/
def atomicTable (b old x y : Nat) : List (Nat × Nat) :=
  [(0, (old + x) % 2 ^ b), (1, if sext b old ≤ sext b x then old else x % 2 ^ b),
   (2, if sext b old ≤ sext b x then x % 2 ^ b else old), (3, min old (x % 2 ^ b)), (4, max old (x % 2 ^ b)),
   (5, old &&& (x % 2 ^ b)), (6, old ||| (x % 2 ^ b)), (7, old ^^^ (x % 2 ^ b)), (8, x % 2 ^ b),
   (9, if old = x % 2 ^ b then y % 2 ^ b else old), (10, (f32Fmt.add 0 old (x % 2 ^ b)).1)]

theorem atomicNew_of_mem : ∀ t ∈ atomicTable (8 * atomicBytes f) old x y, f % 16 = t.1 → atomicNew f old x y = (t.2, false) := by
  simp +contextual [atomicTable, atomicNew]

theorem exists_mem_atomicTable (b old x y : Nat) : ∀ r ≤ 10, ∃ v, (r, v) ∈ atomicTable b old x y := by
  intro r small
  interval_cases r <;> exact ⟨_, by simp [atomicTable]; rfl⟩

/-- What the table says of each func, the operand reduced to its width. -/
theorem atomicTable_value : ∀ t ∈ atomicTable n old x y,
    (t.1 = 0 → t.2 = (old + x % 2 ^ n) % 2 ^ n) ∧
    (t.1 = 1 → (t.2 = old ∨ t.2 = x % 2 ^ n) ∧ sext n t.2 ≤ sext n old ∧ sext n t.2 ≤ sext n (x % 2 ^ n)) ∧
    (t.1 = 2 → (t.2 = old ∨ t.2 = x % 2 ^ n) ∧ sext n old ≤ sext n t.2 ∧ sext n (x % 2 ^ n) ≤ sext n t.2) ∧
    (t.1 = 3 → t.2 = min old (x % 2 ^ n)) ∧ (t.1 = 4 → t.2 = max old (x % 2 ^ n)) ∧
    (t.1 = 5 → t.2 = old &&& (x % 2 ^ n)) ∧ (t.1 = 6 → t.2 = old ||| (x % 2 ^ n)) ∧ (t.1 = 7 → t.2 = old ^^^ (x % 2 ^ n)) ∧
    (t.1 = 8 → t.2 = x % 2 ^ n) ∧ (t.1 = 9 → t.2 = if old = x % 2 ^ n then y % 2 ^ n else old) ∧
    (t.1 = 10 → t.2 = (f32Fmt.add 0 old (x % 2 ^ n)).1) := by
  have least : sext n (if sext n old ≤ sext n x then old else x % 2 ^ n) = min (sext n old) (sext n x) := by
    rw [apply_ite (sext n), sext_mod, min_def]
  have greatest : sext n (if sext n old ≤ sext n x then x % 2 ^ n else old) = max (sext n old) (sext n x) := by
    rw [apply_ite (sext n), sext_mod, max_def]
  simp only [atomicTable, List.forall_mem_cons, sext_mod, least, greatest]
  simp only [min_le_left, min_le_right, le_max_left, le_max_right, ite_eq_or_eq, (ite_eq_or_eq ..).symm]
  simp

/-- A grid-add saturates (R359). -/
theorem atomicNew_gadd (sum : Int) (row : f % 16 = 11) (bits : atomicBytes f = 16) (total : sext 128 old + sext 128 x = sum) :
    atomicNew f old x y = ((if sum < -2 ^ 127 then BitVec.ofInt 128 (-2 ^ 127) else if 2 ^ 127 ≤ sum then
      BitVec.ofInt 128 (2 ^ 127 - 1) else BitVec.ofInt 128 sum).toNat, decide (sum < -2 ^ 127 ∨ 2 ^ 127 ≤ sum)) := by
  have new : atomicNew f old x y = (toBits 128 (clampInt (-2 ^ 127) (2 ^ 127 - 1) sum), sum != clampInt (-2 ^ 127) (2 ^ 127 - 1) sum) := by
    simp only [atomicNew, row, bits, ← total]
  have code (z : Int) : toBits 128 z = (BitVec.ofInt 128 z).toNat := (BitVec.toNat_ofInt ..).symm
  rw [new, code, clampInt]
  by_cases low : sum < -2 ^ 127
  · have clamped : sum ≠ -2 ^ 127 := by omega
    simp only [low, if_true, true_or, decide_true, bne_iff_ne.2 clamped]
  · by_cases high : 2 ^ 127 ≤ sum
    · have above : 2 ^ 127 - 1 < sum := by omega
      have clamped : sum ≠ 2 ^ 127 - 1 := by omega
      simp only [low, high, above, if_true, if_false, or_true, decide_true, bne_iff_ne.2 clamped]
    · have inside : ¬ 2 ^ 127 - 1 < sum := by omega
      simp only [low, high, inside, if_false, or_self, decide_false, bne_self_eq_false]

/-! ## What the journal says (R416) -/

theorem runUnit_eq_some {u : UnitRef} {r : UnitRec} (run : s.runUnit k = some (u, r)) : k.unit = some u ∧ s.unitRec u = some r := by
  unfold State.runUnit at run
  split at run
  next => cases run
  next v unit =>
    obtain ⟨r', found, same⟩ := Option.map_eq_some_iff.1 run
    cases same
    exact ⟨unit, found⟩

theorem unitRec_eq_some {u : UnitRef} {r : UnitRec} (found : s.unitRec u = some r) :
    ∃ b sr, s.job u.job = some b ∧ b.run = some sr ∧ sr.units[u.idx]? = some r := by
  unfold State.unitRec at found
  split at found
  next b job =>
    split at found
    next sr run => exact ⟨b, sr, job, run, found⟩
    next => cases found
  next => cases found

/-- A unit's record after a change of it. -/
theorem runUnit_updUnit {u : UnitRef} {r : UnitRec} (run : s.runUnit k = some (u, r)) (g : UnitRec → UnitRec) :
    (s.updUnit u g).runUnit k = some (u, g r) := by
  obtain ⟨unit, found⟩ := runUnit_eq_some run
  obtain ⟨b, sr, job, running, here⟩ := unitRec_eq_some found
  rw [updUnit_eq g job running here]
  simp only [State.runUnit, unit, State.unitRec, State.job_setJob_same, getElem?_setNth_same _ here, Option.map_some]

theorem runUnit_journalAdd {u : UnitRef} {r : UnitRec} (run : s.runUnit k = some (u, r)) :
    (s.journalAdd k f p x old none).runUnit k = some (u, if 256 ≤ r.journal.length then { r with unreplayable := true }
      else { r with
        journal := r.journal ++ [⟨f, BitVec.ofNat 64 p, BitVec.ofNat 128 x, BitVec.ofNat 128 old, none⟩] }) := by
  simp only [State.journalAdd, run]
  split
  · exact runUnit_updUnit run _
  · exact runUnit_updUnit run _

theorem journalNext_of_entry {u : UnitRef} {r : UnitRec} {e : JournalEntry} (run : s.runUnit k = some (u, r))
    (entry : r.journal[k.journalPos]? = some e) (done : e.pend = none) : s.journalNext k f p x =
      if e.op = f ∧ e.addr = BitVec.ofNat 64 p ∧ e.operand = BitVec.ofNat 128 x then .take e.result.toNat else .mismatch := by
  simp only [State.journalNext, run, entry, done, Bool.and_eq_true, decide_eq_true_eq, and_assoc]

theorem journalNext_of_end {u : UnitRef} {r : UnitRec} (run : s.runUnit k = some (u, r))
    (ended : r.journal.length ≤ k.journalPos) : s.journalNext k f p x = .perform := by
  simp only [State.journalNext, run, List.getElem?_eq_none ended]

/-! ## The instructions -/

theorem func_of_atomic (row : selectOp w = some op) : (op = .atomicInteger → func w % 16 ≤ 8) ∧
    (op = .cas → func w % 16 = 9) ∧ (op = .atomicFadd → func w % 16 = 10) := by
  dsimp only [selectOp] at row
  repeat' split at row
  all_goals cases row
  all_goals simp [*]

theorem exec_atomic (row : (i, op) ∈ [(Instr.atomicInteger c w, CoreOp.atomicInteger), (.cas c w, .cas),
    (.atomicFadd c w, .atomicFadd), (.gadd c w, .gadd)]) : exec i s = .next (coreExec op c.val w s (atomicStep c.val w)) := by
  simp only [List.mem_cons, List.not_mem_nil, or_false] at row
  rcases row with row | row | row | row <;> cases row <;> rfl

theorem atomicStep_take (ok : atomicFuncOk w = true)
    (here : globalHere s k (k.rg (fa w)).toNat (atomicBytes (func w)) true true a)
    (taken : s.journalNext k (func w) (k.rg (fa w)).toNat (atomicOperand w k) = .take old) :
    atomicStep c.val w s k = (s, .done (k.journaled.atomicRet w old)) := by
  simp only [atomicStep, ok, Core.ga, globalTarget_of_globalHere here, taken]
  rfl

theorem atomicStep_perform (ok : atomicFuncOk w = true)
    (here : globalHere s k (k.rg (fa w)).toNat (atomicBytes (func w)) true true a)
    (first : s.journalNext k (func w) (k.rg (fa w)).toNat (atomicOperand w k) = .perform)
    (loaded : s.load a (atomicBytes (func w)) = (s', some bs)) {v : Nat} {sat : Bool}
    (new : atomicNew (func w) (leNat bs) (atomicX w k) (k.rg (fb w)).toNat = (v, sat)) :
    atomicStep c.val w s k =
      ((if sat then (s'.store a (leBytes (atomicBytes (func w)) v)).raise .ctxGaddSat
        else s'.store a (leBytes (atomicBytes (func w)) v)).journalAdd k (func w) (k.rg (fa w)).toNat (atomicOperand w k)
          (leNat bs) none, .done (k.journaled.atomicRet w (leNat bs))) := by
  simp only [atomicStep, ok, Core.ga, globalTarget_of_globalHere here, first, State.atomicAt, loaded, new]
  rfl

theorem atomicRet_word (small : func w < 32) (row : func w % 16 ≠ 11) : k.atomicRet w old = k.wg (fd w)
    (if func w = 1 ∨ func w = 2 then (BitVec.ofNat 32 old).signExtend 64 else BitVec.ofNat 64 old) := by
  have narrow : ∀ f < 32, (!tbit f 4 && (decide (f % 16 = 1) || decide (f % 16 = 2))) = decide (f = 1 ∨ f = 2) := by decide
  rw [Core.atomicRet, if_neg row, narrow _ small, sext_eq_toInt 32 old (by decide)]
  simp only [decide_eq_true_eq]
  split <;> rfl

theorem atomicRet_gadd (row : func w % 16 = 11) : k.atomicRet w old =
    (k.wg (fd w) (BitVec.ofNat 64 old)).wg (fd w + 1) (BitVec.ofNat 64 (old / 2 ^ 64)) := if_pos row

theorem atomicFuncOk_word (small : func w < 32) (half : func w ≠ 26) (row : func w % 16 ≠ 11) : atomicFuncOk w = true := by
  have fits : ∀ f < 32, f ≠ 26 → f % 16 ≠ 11 → (decide (f < 32) && (f % 16 != 10 || f == 10)) = true := by decide
  have grid : (func w % 16 != 11) = true := bne_iff_ne.2 row
  simp only [atomicFuncOk, fits _ small half row, grid, Bool.true_or, Bool.and_self]

theorem atomicFuncOk_gadd (row : func w = 27) (b : fb w % 2 = 0) (d : fd w % 2 = 0) : atomicFuncOk w = true := by
  simp [atomicFuncOk, row, b, d]

theorem atomicFuncOk_eq_false (bad : 32 ≤ func w ∨ func w = 26 ∨ (func w % 16 = 11 ∧ (func w ≠ 27 ∨ fb w % 2 ≠ 0 ∨ fd w % 2 ≠ 0))) :
    atomicFuncOk w = false := by
  rcases bad with wide | half | ⟨grid, wrong⟩
  · simp [atomicFuncOk, Nat.not_lt.2 wide]
  · simp [atomicFuncOk, half]
  · rcases wrong with wrong | wrong | wrong <;> simp [atomicFuncOk, grid, wrong]

end Sys2Proof.Machine

namespace Sys2Proof

open Machine Claims

/-- Settles O25: an atomic of the node's own memory is its load, its new value's store and its journal entry; each func's
new value is read off the table. -/
theorem atomics : Obligations.Atomics := by
  unfold Obligations.Atomics
  refine ⟨?word, ?gadd, ?illegal, ?journal, ?take⟩
  case word =>
    intro s s' c w i op a n bs row h small half size here first loaded
    have low : func w % 16 ≤ 10 := by
      obtain ⟨integer, cas, fadd⟩ := func_of_atomic h.2.2.2.1
      simp only [List.mem_cons, List.not_mem_nil, or_false] at row
      rcases row with row | row | row <;> cases row
      · exact (integer rfl).trans (by decide)
      · exact (cas rfl).trans_le (by decide)
      · exact (fadd rfl).le
    have grid : func w % 16 ≠ 11 := by omega
    obtain rfl : atomicBytes (func w) = n := (atomicBytes_of_lt _ small grid).trans size.symm
    obtain ⟨v, inTable⟩ := exists_mem_atomicTable (8 * atomicBytes (func w)) (leNat bs) (atomicX w (s.core c.val))
      ((s.core c.val).rg (fb w)).toNat _ low
    have new := atomicNew_of_mem _ inTable rfl
    refine ⟨v, _, exec_core_done (exec_atomic (List.mem_append_left [_] row)) h
      ((atomicStep_perform (atomicFuncOk_word small half grid) here first loaded new).trans ?_), rfl, ?_⟩
    · rw [atomicRet_word small grid]
      rfl
    · have operand : atomicX w (s.core c.val) =
          if func w % 16 = 9 then ((s.core c.val).rg (fd w)).toNat else ((s.core c.val).rg (fb w)).toNat := by
        simp only [atomicX, grid, if_false]
      have value := atomicTable_value _ inTable
      rw [operand] at value
      by_cases cas : func w % 16 = 9
      · rw [if_pos cas] at value
        obtain ⟨_, _, _, _, _, _, _, _, _, swap, _⟩ := value
        simpa [cas] using swap cas
      · rw [if_neg cas] at value
        obtain ⟨v0, v1, v2, v3, v4, v5, v6, v7, v8, _, v10⟩ := value
        exact ⟨v0, v1, v2, v3, v4, v5, v6, v7, v8, fun swap => absurd swap cas, v10⟩
  case gadd =>
    intro s s' c w a bs h row b d here
    dsimp only
    intro first loaded
    have code : atomicBytes (func w) = 16 := by rw [row]; rfl
    have wide : func w % 16 = 11 := by rw [row]
    have operand : atomicX w (s.core c.val) =
        ((s.core c.val).rg (fb w)).toNat + ((s.core c.val).rg (fb w + 1)).toNat * 2 ^ 64 := by
      simp only [atomicX, wide]
      rfl
    have compared : atomicOperand w (s.core c.val) = atomicX w (s.core c.val) := by
      simp only [atomicOperand, wide]
      rfl
    have new := atomicNew_gadd (old := leNat bs) (x := atomicX w (s.core c.val)) (y := ((s.core c.val).rg (fb w)).toNat) _ wide code rfl
    rw [sext_eq_toInt _ _ (by decide), sext_eq_toInt _ _ (by decide)] at new
    rw [← operand, ← compared, ← row] at first
    rw [← code] at loaded here
    refine exec_core_done (exec_atomic (by simp)) h
      ((atomicStep_perform (atomicFuncOk_gadd row b d) here first loaded new).trans ?_)
    simp only [decide_eq_true_eq, atomicRet_gadd wide, compared, operand, row]
    rfl
  case illegal =>
    intro s c w i op row h bad
    exact exec_core_fault (exec_atomic row) h (by simp only [atomicStep, atomicFuncOk_eq_false bad]; rfl)
  case journal =>
    intro s k u r f p x old run
    refine ⟨fun e entry done => journalNext_of_entry run entry done, journalNext_of_end run,
      _, runUnit_journalAdd run, fun room => if_neg (Nat.not_le.2 room), fun full => if_pos full⟩
  case take =>
    intro s c w i op a n old row h small size here taken
    have low : func w % 16 ≤ 9 := by
      obtain ⟨integer, cas, _⟩ := func_of_atomic h.2.2.2.1
      simp only [List.mem_cons, List.not_mem_nil, or_false] at row
      rcases row with row | row <;> cases row
      · exact (integer rfl).trans (by decide)
      · exact (cas rfl).le
    have grid : func w % 16 ≠ 11 := by omega
    obtain rfl : atomicBytes (func w) = n := (atomicBytes_of_lt _ small grid).trans size.symm
    refine exec_core_done (exec_atomic (List.mem_append_left [_, _] row)) h
      ((atomicStep_take (atomicFuncOk_word small (by omega) grid) here taken).trans ?_)
    rw [atomicRet_word small grid]
    rfl

end Sys2Proof

/-! # Weight versions -/

namespace Sys2Proof.Machine

open Claims

variable {s s' : State} {c : CoreId} {w : W32} {k : Core} {i : Instr} {op : CoreOp} {d : List Byte} {kind : Nat}

/-! ## Faults of tensor instructions (R133, R213) -/

theorem core_ne_zero_of_phase (h : k.phase ≠ .idle) : k ≠ Core.zero := fun idle => h (congrArg Core.phase idle)

/-- A core that faults with its registers as they stand. -/
theorem applyStep_fault_of_core {c code aux : Nat} {fa : Word} (busy : k ≠ Core.zero) (same : s.core c = k) :
    s.applyStep c (.fault k code aux fa) = s.progFault c code aux fa := by
  have recorded : (s.setCore c k).recordFault c 0 code aux fa = s.recordFault c 0 code aux fa := by
    rw [State.recordFault, State.core_setCore_same, setCore_setCore busy, ← same, ← State.recordFault]
  rw [State.applyStep, State.progFault, recorded, ← State.progFault]

theorem applyStep_tensorFault {cause field addr : Nat} (busy : s.core c.val ≠ Core.zero) :
    (s.tensorFault c.val (s.core c.val) w kind addr (.tensor cause field)).1.applyStep c.val
      (s.tensorFault c.val (s.core c.val) w kind addr (.tensor cause field)).2 =
    tensorTrap s c cause kind field (BitVec.ofNat 64 addr) := by
  have kept : (s.setTerr c.val cause kind field).core c.val = s.core c.val := by
    rw [State.core, State.setTerr, State.setReg_cores, ← State.core]
  simp only [State.tensorFault]
  rw [applyStep_fault_of_core busy kept, tensorTrap, State.setTerr, FaultCode.tensor]

theorem exec_core_tensor {f : State → Core → State × Step1} {cause field addr : Nat}
    (row : exec i s = .next (coreExec op c.val w s f)) (h : atInstr s op c w)
    (step : f s (s.core c.val) = s.tensorFault c.val (s.core c.val) w kind addr (.tensor cause field)) :
    exec i s = .next (tensorTrap s c cause kind field (BitVec.ofNat 64 addr)) := by
  have running : s.core c.val ≠ Core.zero := core_ne_zero_of_phase (by simp [h.1])
  rw [row, coreExec_of_atInstr f h, step, applyStep_tensorFault running]

/-! ## The descriptor (R131, R191) -/

section

variable {f : State → List Byte → State × Step1}

theorem withDesc_of_descAt (desc : descAt s c w kind d) : s.withDesc c.val (s.core c.val) w kind f = f s d := by
  obtain ⟨low, fields, small, aligned, loaded, same⟩ := desc
  have form : if kind = 2 then tSub w ≤ 1 else (decide (tSub w = 0) && decide (tVsel w = 0)) = true := by
    by_cases stream : kind = 2
    · rwa [if_pos stream] at fields ⊢
    · rw [if_neg stream] at fields ⊢
      simp only [tSub, tVsel, fields, decide_true, Bool.and_self]
  simp only [State.withDesc, Core.ga, poolAddr, form, low, Nat.not_le.2 small, aligned, loaded, same, decide_true, decide_false, Bool.false_and,
    Bool.or_self, Bool.not_true, Bool.false_eq_true, ne_eq, not_true_eq_false, if_false]

variable {a : Nat} (low : wf w 3 0 = 0) (sub : wf w 10 6 = 0) (vsel : wf w 5 4 = 0) (other : kind ≠ 2)

include low sub vsel other

/-- A descriptor's place is judged by its view, then by its alignment. -/
theorem withDesc_of_outside (outside : 0x10000 ≤ (k.rg (fd w)).toNat ∨ (k.rg (fd w)).toNat % 64 ≠ 0) :
    s.withDesc c.val k w kind f =
      if 0x10000 ≤ (k.rg (fd w)).toNat && !inShaleView (k.rg (fd w)).toNat
      then (s, .fault k FaultCode.addr 0 (BitVec.ofNat 64 (k.rg (fd w)).toNat))
      else s.tensorFault c.val k w 0 (k.rg (fd w)).toNat (badAt 0) := by
  have misplaced : (decide (0x10000 ≤ (k.rg (fd w)).toNat) || decide ((k.rg (fd w)).toNat % 64 ≠ 0)) = true := by
    simpa using outside
  simp only [State.withDesc, Core.ga, other, tSub, tVsel, low, sub, vsel, decide_true, Bool.and_self, Bool.not_true, ne_eq,
    not_true_eq_false, decide_false, Bool.or_self, Bool.false_eq_true, if_false]
  exact congrArg _ (if_pos misplaced)

theorem withDesc_of_no_view (none : 0x10000 ≤ (k.rg (fd w)).toNat ∧ (k.rg (fd w)).toNat < 0x100000 ∨
    0x180000 ≤ (k.rg (fd w)).toNat ∧ (k.rg (fd w)).toNat < 0x1000000 ∨ 0x1800000 ≤ (k.rg (fd w)).toNat) :
    s.withDesc c.val k w kind f = (s, .fault k FaultCode.addr 0 (BitVec.ofNat 64 (k.rg (fd w)).toNat)) := by
  rw [withDesc_of_outside low sub vsel other (.inl (by omega)), if_pos]
  simp only [inShaleView, Bool.and_eq_true, decide_eq_true_eq, Bool.not_eq_true', Bool.or_eq_false_iff, Bool.and_eq_false_iff,
    decide_eq_false_iff_not]
  omega

theorem withDesc_of_wrong_place (wrong : 0x100000 ≤ (k.rg (fd w)).toNat ∧ (k.rg (fd w)).toNat < 0x180000 ∨
    0x1000000 ≤ (k.rg (fd w)).toNat ∧ (k.rg (fd w)).toNat < 0x1800000 ∨
    ((k.rg (fd w)).toNat < 0x10000 ∧ (k.rg (fd w)).toNat % 64 ≠ 0)) :
    s.withDesc c.val k w kind f = s.tensorFault c.val k w 0 (k.rg (fd w)).toNat (badAt 0) := by
  rw [withDesc_of_outside low sub vsel other (by omega), if_neg]
  simp only [inShaleView, Bool.and_eq_true, decide_eq_true_eq, Bool.not_eq_true', Bool.or_eq_false_iff, Bool.and_eq_false_iff,
    decide_eq_false_iff_not]
  omega

end

/-- An instruction that begins with its descriptor faults where the descriptor's place is wrong. -/
theorem exec_misplaced {f : Core → State → List Byte → State × Step1}
    (row : exec i s = .next (coreExec op c.val w s (fun s k => s.withDesc c.val k w kind (f k)))) (h : atInstr s op c w)
    (low : wf w 3 0 = 0) (sub : wf w 10 6 = 0) (vsel : wf w 5 4 = 0) (other : kind ≠ 2) :
    (let a := ((s.core c.val).rg (fd w)).toNat
     ((0x10000 ≤ a ∧ a < 0x100000 ∨ 0x180000 ≤ a ∧ a < 0x1000000 ∨ 0x1800000 ≤ a) →
       exec i s = .next (s.progFault c.val 0x03 0 (BitVec.ofNat 64 a))) ∧
     ((0x100000 ≤ a ∧ a < 0x180000 ∨ 0x1000000 ≤ a ∧ a < 0x1800000 ∨ (a < 0x10000 ∧ a % 64 ≠ 0)) →
       exec i s = .next (tensorTrap s c 1 0 0 (BitVec.ofNat 64 a)))) :=
  ⟨fun none => exec_core_fault row h (withDesc_of_no_view low sub vsel other none),
    fun wrong => exec_core_tensor row h (withDesc_of_wrong_place low sub vsel other wrong)⟩

/-! ## The versions of a core (R208, R209) -/

theorem updNth_eq_set {α : Type} {xs : List α} {n : Nat} {x : α} (f : α → α) (here : xs[n]? = some x) :
    updNth xs n f = xs.set n (f x) := by
  refine List.ext_getElem? fun j => ?_
  rw [updNth, List.getElem?_mapIdx, List.getElem?_set]
  by_cases same : n = j
  · subst same
    obtain ⟨inside, value⟩ := List.getElem?_eq_some_iff.1 here
    simp [inside, value]
  · simp [same, Ne.symm same]

theorem setRefs_eq_set {n : Nat} {v : Version} {r : W16} (here : k.versions[n]? = some v) :
    k.setRefs n r = { k with versions := k.versions.set n { v with refs := r } } := by
  rw [Core.setRefs, updNth_eq_set _ here]

/-- The first version with a number. -/
theorem findIdx?_version {vs : List Version} {n num : Nat} {v : Version} (here : vs[n]? = some v) (named : v.number.toNat = num)
    (first : ∀ j < n, ∀ u, vs[j]? = some u → u.number ≠ v.number) : vs.findIdx? (fun v => v.number.toNat == num) = some n := by
  obtain ⟨inside, value⟩ := List.getElem?_eq_some_iff.1 here
  refine List.findIdx?_eq_some_iff_getElem.2 ⟨inside, by simpa [value] using named, fun j before => ?_⟩
  have other := first j before _ (List.getElem?_eq_getElem (before.trans inside))
  simpa [← named, BitVec.toNat_inj] using other

theorem selectVersion_eq {n : Nat} {num : Nat} {vsel : Nat} {v : Version} (here : k.versions[n]? = some v)
    (chosen : (vsel = 0 ∧ n = 0) ∨ (vsel = 1 ∧ n + 1 = k.versions.length) ∨ (vsel = 2 ∧ v.number.toNat = num % 2 ^ 16 ∧
      ∀ j < n, ∀ u, k.versions[j]? = some u → u.number ≠ v.number)) : k.selectVersion vsel num = .ok n := by
  unfold Core.selectVersion
  split
  next none => simp [none] at here
  next vs some =>
    rcases chosen with ⟨rfl, rfl⟩ | ⟨rfl, last⟩ | ⟨rfl, named, first⟩
    · rfl
    · simp [← last]
    · simp only [findIdx?_version here named first]

theorem versionNumbers_word {vs : List Version} {r : Word} (versions : k.versions = vs)
    (value : (vs = [] ∧ r = 0) ∨ (∃ v, vs = [v] ∧ r.toNat = v.number.toNat * 2 ^ 32 + v.number.toNat * 2 ^ 16 + 1) ∨
      (∃ v u, vs = [v, u] ∧ r.toNat = v.number.toNat * 2 ^ 32 + u.number.toNat * 2 ^ 16 + 2)) :
    BitVec.ofNat 64 (k.versionNumbers.1 * 2 ^ 32 + k.versionNumbers.2 * 2 ^ 16 + k.versions.length) = r := by
  have word : k.versionNumbers.1 * 2 ^ 32 + k.versionNumbers.2 * 2 ^ 16 + k.versions.length = r.toNat := by
    rw [Core.versionNumbers, versions]
    rcases value with ⟨rfl, rfl⟩ | ⟨v, rfl, value⟩ | ⟨v, u, rfl, value⟩
    · rfl
    · exact value.symm
    · exact value.symm
  rw [word, BitVec.ofNat_toNat, BitVec.setWidth_eq]

theorem mustWait_eq_false (free : k.versions.length ≤ 1 ∨ ∃ a b, k.versions = [a, b] ∧ b.refs = 0) : k.mustWait = false := by
  rcases free with few | ⟨a, b, two, free⟩
  · unfold Core.mustWait
    split
    next a b two => simp [two] at few
    next => rfl
  · simp [Core.mustWait, two, free]

theorem mustWait_eq_true {a b : Version} (two : k.versions = [a, b]) (held : b.refs ≠ 0) : k.mustWait = true := by
  simpa [Core.mustWait, two] using held

/-- What a version read from memory is like. -/
theorem readVersion_ok {tag : W16} {v : Version} (read : s.readVersion tag d = (s', .ok v)) :
    v.refs = 0 ∧ v.bad = none ∧ v.desc = d := by
  dsimp only [State.readVersion] at read
  repeat' split at read
  all_goals cases read
  all_goals exact ⟨rfl, rfl, rfl⟩

/-- TWLOAD once its descriptor has been read. -/
def Core.loaded (k : Core) (v : Version) : Core :=
  { k with phase := .running, versions := { v with number := k.nextVersion } :: k.versions.take 1,
           nextVersion := nextNumber k.nextVersion }

theorem makeVersion_of_read {v : Version} (read : s.readVersion k.jobTag d = (s', .ok v)) :
    s.makeVersion c.val k w d = (s', .done (k.loaded v)) := by
  simp only [State.makeVersion, read]
  rfl

section

variable {start : Nat} (waiting : (s.core c.val).phase = .waitVersion start w)

include waiting

theorem exec_twloadProceed_of_held (held : (s.core c.val).mustWait = true) : exec (.twloadProceed c) s = .next s := by
  refine congrArg Host.Outcome.next ?_
  simp only [waiting, held, if_true]

theorem exec_twloadProceed_of_free {v : Version} (free : (s.core c.val).mustWait = false) (desc : descAt s c w 1 d)
    (valid : s.wdescErr d = none) (read : s.readVersion (s.core c.val).jobTag d = (s', .ok v)) :
    exec (.twloadProceed c) s = .next (s'.setCore c.val ((s.core c.val).loaded v).advance) := by
  refine congrArg Host.Outcome.next ?_
  simp only [waiting, free, Bool.false_eq_true, if_false, withDesc_of_descAt desc, valid, makeVersion_of_read read, State.applyStep]

theorem exec_twloadWaitTimeout_of_due
    (due : (s.core c.val).csrs.twaitLimit ≠ 0 ∧ start + (s.core c.val).csrs.twaitLimit.toNat ≤ s.now) :
    exec (.twloadWaitTimeout c) s = .next (tensorTrap s c 11 1 0 ((s.core c.val).rg (fd w))) := by
  have busy : s.core c.val ≠ Core.zero := core_ne_zero_of_phase (by simp [waiting])
  refine congrArg Host.Outcome.next ?_
  have address : BitVec.ofNat 64 ((s.core c.val).ga (fd w)) = (s.core c.val).rg (fd w) := by
    rw [Core.ga, BitVec.ofNat_toNat, BitVec.setWidth_eq]
  rw [← address, ← applyStep_tensorFault (w := w) busy]
  simp only [waiting]
  exact if_pos due

theorem exec_twloadWaitTimeout_of_early
    (early : (s.core c.val).csrs.twaitLimit = 0 ∨ s.now < start + (s.core c.val).csrs.twaitLimit.toNat) :
    exec (.twloadWaitTimeout c) s = .next s := by
  have waits : ¬ ((s.core c.val).csrs.twaitLimit ≠ 0 ∧ start + (s.core c.val).csrs.twaitLimit.toNat ≤ s.now) := fun due =>
    early.elim due.1 (Nat.not_lt.2 due.2)
  refine congrArg Host.Outcome.next ?_
  simp only [waiting, waits, if_false]

end

end Sys2Proof.Machine

namespace Sys2Proof

open Machine Claims

/-- Settles O32: the version that VSEL or a number names is found first; TWLOAD and its proceeding step share the read of the
descriptor and the making of the version. -/
theorem weightVersions : Obligations.WeightVersions := by
  unfold Obligations.WeightVersions
  refine ⟨?acquire, ?none, ?release, ?unknown, ?query, ?load, ?wait, ?place⟩
  case acquire =>
    intro s c w i v h low k here chosen
    have selected := selectVersion_eq (num := (k.rg (fb w)).toNat) (vsel := tVsel w) here chosen
    refine ⟨fun room => exec_core_done rfl h ?_, fun full => ?_⟩
    · simp only [tvacqStep, low, k, selected, here, room, setRefs_eq_set here]
      rfl
    · rw [← BitVec.ofNat_toNat]
      refine exec_core_tensor (f := tvacqStep c.val w) rfl h ?_
      simp only [tvacqStep, low, k, selected, here, full]
      rfl
  case none =>
    intro s c w h low none
    rw [← BitVec.ofNat_toNat]
    refine exec_core_tensor (f := tvacqStep c.val w) rfl h ?_
    simp only [tvacqStep, low, Core.selectVersion, none]
    rfl
  case release =>
    intro s c w i v h low vsel k here named first
    have found := findIdx?_version here named first
    refine ⟨fun held => exec_core_done rfl h ?_, fun free => ?_⟩
    · simp only [tvrelStep, low, tVsel, vsel, k, found, here, held, setRefs_eq_set here]
      rfl
    · rw [← BitVec.ofNat_toNat]
      refine exec_core_tensor (f := tvrelStep c.val w) rfl h ?_
      simp only [tvrelStep, low, tVsel, vsel, k, found, here, free]
      rfl
  case unknown =>
    intro s c w h low vsel unknown
    rw [← BitVec.ofNat_toNat]
    refine exec_core_tensor (f := tvrelStep c.val w) rfl h ?_
    have missing := List.findIdx?_eq_none_iff.2 fun v mem => beq_eq_false_iff_ne.2 (unknown v mem)
    simp only [tvrelStep, low, tVsel, vsel, missing]
    rfl
  case query =>
    intro s c w r h low vsel value
    refine exec_local_done rfl h ?_
    rw [← versionNumbers_word rfl value]
    simp only [tvqueryStep, low, tVsel, vsel]
    rfl
  case load =>
    intro s s' c w d v start k t desc valid read free
    have made := makeVersion_of_read (c := c) (w := w) read
    obtain ⟨refs, bad, same⟩ := readVersion_ok read
    have ready := mustWait_eq_false free
    refine ⟨refs, bad, same, fun h => exec_core_done rfl h ?_, fun waiting => exec_twloadProceed_of_free waiting ready desc valid read⟩
    rw [twloadStep, withDesc_of_descAt desc]
    simp only [valid]
    exact (if_neg (Bool.eq_false_iff.1 ready)).trans made
  case wait =>
    intro s c w d a b start k two held
    have busy := mustWait_eq_true two held
    refine ⟨fun h desc valid => exec_core_wait rfl h ?_, fun waiting => ⟨exec_twloadProceed_of_held waiting busy,
      exec_twloadWaitTimeout_of_due waiting, exec_twloadWaitTimeout_of_early waiting⟩⟩
    rw [twloadStep, withDesc_of_descAt desc]
    simp only [valid]
    exact if_pos busy
  case place =>
    intro s c w i op row h low sub vsel
    simp only [List.mem_cons, List.not_mem_nil, or_false] at row
    rcases row with row | row | row <;> cases row
    · exact exec_misplaced rfl h low sub vsel (kind := 1) (by decide)
    · exact exec_misplaced rfl h low sub vsel (kind := 3) (by decide)
    · exact exec_misplaced rfl h low sub vsel (kind := 4) (by decide)

end Sys2Proof

/-! # What writes and answers leave of the transport -/

namespace Sys2Proof.Machine

open Claims

variable {s : State}

/-- Copies, contexts, jobs, snapshots and outgoing packets: what a write to memory or the answer of a command neither reads nor
changes. -/
structure Transit where
  copies : List Copy
  ctxs : SMap Ctx
  jobs : SMap JobSlot
  snaps : SMap SnapJob
  tx : List Packet

def State.transit (s : State) : Transit := ⟨s.copies, s.ctxs, s.jobs, s.snaps, s.tx⟩

def State.withTransit (s : State) (r : Transit) : State :=
  { s with copies := r.copies, ctxs := r.ctxs, jobs := r.jobs, snaps := r.snaps, tx := r.tx }

/-- A function that commutes with every replacement of the transport leaves it alone. -/
theorem transit_of_commutes {f : State → State} (h : ∀ r, f (s.withTransit r) = (f s).withTransit r) :
    (f s).transit = s.transit :=
  (congrArg State.transit (show f s = (f s).withTransit s.transit from h s.transit)).trans rfl

variable {r : Transit}

theorem ite_withTransit {p q : Prop} [Decidable p] [Decidable q] {a b t u : State} (ht : t = a.withTransit r)
    (hu : u = b.withTransit r) (same : p ↔ q) : (if p then t else u) = (if q then a else b).withTransit r := by
  rw [ht, hu, apply_ite (State.withTransit · r)]
  exact if_congr same rfl rfl

theorem foldl_withTransit {α : Type} {f : State → α → State} (h : ∀ t x, f (t.withTransit r) x = (f t x).withTransit r)
    (l : List α) (s : State) : l.foldl f (s.withTransit r) = (l.foldl f s).withTransit r := by
  induction l generalizing s with
  | nil => rfl
  | cons x l ih => rw [List.foldl_cons, List.foldl_cons, h, ih]

/-! ### Memory -/

theorem raise_withTransit {e is} : (s.withTransit r).raise e is = (s.raise e is).withTransit r := (rfl)
theorem setReg_withTransit {t is v} : (s.withTransit r).setReg t is v = (s.setReg t is v).withTransit r := (rfl)
theorem setQueue_withTransit {q v} : (s.withTransit r).setQueue q v = (s.setQueue q v).withTransit r := (rfl)

theorem correctHbm_withTransit {a} : (s.withTransit r).correctHbm a = (s.correctHbm a).withTransit r := by
  unfold State.correctHbm
  dsimp only
  split <;> split
  · rfl
  next seen unseen => exact absurd seen unseen
  next unseen seen => exact absurd seen unseen
  · rfl

theorem correctSram_withTransit {a b} : (s.withTransit r).correctSram a b = (s.correctSram a b).withTransit r := by
  unfold State.correctSram
  exact ite_withTransit (ite_withTransit rfl rfl .rfl) rfl .rfl

theorem readErr_withTransit {a e} : (s.withTransit r).readErr a e = ((s.readErr a e).1.withTransit r, (s.readErr a e).2) := by
  unfold State.readErr
  by_cases hbm : a < 2 ^ 40
  · rw [if_pos hbm, if_pos hbm]
    cases e
    · rw [correctHbm_withTransit]
    · rw [correctHbm_withTransit]
    · rfl
    · rfl
  · rw [if_neg hbm, if_neg hbm]
    cases e
    · rw [correctSram_withTransit]
    · rw [correctSram_withTransit (b := true)]
    · rfl
    · rfl

theorem mergeErr_withTransit {a e} : (s.withTransit r).mergeErr a e = (s.mergeErr a e).withTransit r := by
  unfold State.mergeErr
  cases e
  · exact congrArg Prod.fst readErr_withTransit
  · exact congrArg Prod.fst readErr_withTransit
  · exact ite_withTransit rfl rfl .rfl
  · exact ite_withTransit rfl rfl .rfl

theorem rewriteErrs_withTransit {a n} : (s.withTransit r).rewriteErrs a n = (s.rewriteErrs a n).withTransit r := by
  unfold State.rewriteErrs
  refine foldl_withTransit (fun t e => ?_) _ s
  exact ite_withTransit rfl mergeErr_withTransit .rfl

theorem put_withTransit {a bs} : (s.withTransit r).put a bs = (s.put a bs).withTransit r := by
  unfold State.put
  rw [rewriteErrs_withTransit]
  rfl

theorem emit_withTransit {o} : (s.withTransit r).emit o = (s.emit o).withTransit r := by
  unfold State.emit
  exact ite_withTransit rfl rfl .rfl

theorem storePart_withTransit {a bs} : (s.withTransit r).storePart a bs = (s.storePart a bs).withTransit r := by
  unfold State.storePart
  extract_lets hold frozen copied sent now hostPort held frozen' copied' sent' now' hostPort' held'
  have copies : copied = copied'.withTransit r := by
    have pages : (s.withTransit r).pages = s.pages := rfl
    unfold copied copied'
    rw [pages]
    generalize (if a < 2 ^ 40 then mfind s.pages (a / 2 ^ 16) else none) = o
    cases o
    · rfl
    · exact ite_withTransit rfl rfl .rfl
  clear_value copied copied'
  subst copies
  have emitted : held.emit (.biSnp (a / 64)) = (held'.emit (.biSnp (a / 64))).withTransit r := emit_withTransit (s := held')
  exact ite_withTransit rfl (ite_withTransit rfl (ite_withTransit (ite_withTransit rfl emitted .rfl) put_withTransit .rfl) .rfl) .rfl

theorem store_withTransit {a bs} : (s.withTransit r).store a bs = (s.store a bs).withTransit r := by
  unfold State.store
  exact ite_withTransit put_withTransit (foldl_withTransit (fun _ _ => storePart_withTransit) _ s) .rfl

theorem foldl_store_withTransit (segs : List (Nat × Nat)) (s : State) (bs : List Byte) :
    segs.foldl (fun r g => (r.1.store g.1 (r.2.take g.2), r.2.drop g.2)) (s.withTransit r, bs) =
      (let t := segs.foldl (fun r g => (r.1.store g.1 (r.2.take g.2), r.2.drop g.2)) (s, bs)
       (t.1.withTransit r, t.2)) := by
  induction segs generalizing s bs with
  | nil => rfl
  | cons g segs ih => rw [List.foldl_cons, List.foldl_cons, store_withTransit, ih]

theorem storeOff_withTransit {a bs} : (s.withTransit r).storeOff a bs = (s.storeOff a bs).withTransit r := by
  have same : (s.withTransit r).segments a bs.length = s.segments a bs.length := rfl
  rw [State.storeOff, same, State.storeOff]
  cases s.segments a bs.length with
  | none => rfl
  | some segs => exact congrArg Prod.fst (foldl_store_withTransit segs s bs)

/-! ### Replies -/

theorem refusedBy_withTransit {m} : (s.withTransit r).refusedBy m = (s.refusedBy m).withTransit r := by
  unfold State.refusedBy
  exact ite_withTransit rfl rfl .rfl

theorem allowed_withTransit {m node a rd wr tag} : (s.withTransit r).allowed m node a rd wr tag =
    ((s.allowed m node a rd wr tag).1.withTransit r, (s.allowed m node a rd wr tag).2) := by
  have on : (s.withTransit r).masterOn m = s.masterOn m := rfl
  rw [State.allowed, State.allowed, on]
  split <;> rfl

theorem queueError_withTransit {q status opcode seq} :
    (s.withTransit r).queueError q status opcode seq = (s.queueError q status opcode seq).withTransit r := by
  have queue : (s.withTransit r).queue q = s.queue q := rfl
  simp only [State.queueError, queue, setQueue_withTransit, setReg_withTransit, raise_withTransit]
  rw [apply_ite (State.withTransit · r)]

theorem pdieTarget_withTransit {k} : (s.withTransit r).pdieTarget k = ((s.pdieTarget k).1.withTransit r, (s.pdieTarget k).2) := by
  have failed : (s.withTransit r).package = s.package := rfl
  have map : (s.withTransit r).flash = s.flash := rfl
  rw [State.pdieTarget, State.pdieTarget, failed, map]
  split <;> rfl

theorem notify_withTransit {q} : (s.withTransit r).notify q = (s.notify q).withTransit r := by
  unfold State.notify
  extract_lets c v e
  refine ite_withTransit (ite_withTransit emit_withTransit rfl .rfl) (ite_withTransit rfl ?_ .rfl) .rfl
  rw [pdieTarget_withTransit]
  exact emit_withTransit

theorem writeReply_withTransit {q p} : (s.withTransit r).writeReply q p = (s.writeReply q p).withTransit r := by
  have queue (t : State) : (t.withTransit r).queue q = t.queue q := rfl
  unfold State.writeReply
  rw [queue]
  extract_lets k a
  have asked : (if (s.withTransit r).unreachable a 32 then (s.withTransit r, false)
      else (s.withTransit r).allowed p.master.val true a false true 0) =
      (let x := if s.unreachable a 32 then (s, false) else s.allowed p.master.val true a false true 0
       (x.1.withTransit r, x.2)) := by
    have reach : (s.withTransit r).unreachable a 32 = s.unreachable a 32 := rfl
    rw [reach, allowed_withTransit]
    split <;> rfl
  rw [asked]
  generalize (if s.unreachable a 32 then (s, false) else s.allowed p.master.val true a false true 0) = x
  obtain ⟨t, ok⟩ := x
  refine ite_withTransit queueError_withTransit ?_ .rfl
  have told (u : State) : (if p.notify then (u.withTransit r).notify q else u.withTransit r) =
      (if p.notify then u.notify q else u).withTransit r := ite_withTransit notify_withTransit rfl .rfl
  simp only [storeOff_withTransit, setQueue_withTransit, told]
  exact ite_withTransit rfl rfl .rfl

theorem putReply_withTransit {q p} : (s.withTransit r).putReply q p = (s.putReply q p).withTransit r := by
  unfold State.putReply
  exact ite_withTransit rfl writeReply_withTransit .rfl

theorem answer_withTransit {c a} : (s.withTransit r).answer c a = (s.answer c a).withTransit r := by
  unfold State.answer
  extract_lets s1 s2 job s3 s1' s2' s3'
  have denied : s2 = s2'.withTransit r := ite_withTransit rfl rfl .rfl
  have refused : s3 = s3'.withTransit r := by
    unfold s3 s3'
    rw [denied]
    exact ite_withTransit refusedBy_withTransit rfl .rfl
  rw [refused]
  exact ite_withTransit rfl putReply_withTransit .rfl

theorem applyQ_withTransit {q reset} : (s.withTransit r).applyQ q reset = (s.applyQ q reset).withTransit r := by
  unfold State.applyQ
  exact ite_withTransit rfl rfl .rfl

theorem abortDrains_withTransit {q reset} : (s.withTransit r).abortDrains q reset = (s.abortDrains q reset).withTransit r := by
  unfold State.abortDrains
  exact ite_withTransit rfl (foldl_withTransit (fun _ _ => answer_withTransit) _ s) .rfl

theorem settleQueue0_withTransit : (s.withTransit r).settleQueue0 = s.settleQueue0.withTransit r := by
  have due : ((s.withTransit r).queue 0).due = (s.queue 0).due := rfl
  rw [State.settleQueue0, due, State.settleQueue0]
  cases (s.queue 0).due with
  | none => rfl
  | some reset =>
    refine ite_withTransit rfl ?_ .rfl
    rw [applyQ_withTransit, abortDrains_withTransit]

theorem settleQueues_withTransit {n} : (s.withTransit r).settleQueues n = (s.settleQueues n).withTransit r := by
  induction n generalizing s with
  | zero => rfl
  | succ n ih =>
    have drained : (s.withTransit r).drained = s.drained := rfl
    rw [State.settleQueues, drained, State.settleQueues]
    cases s.drained with
    | none => rfl
    | some c =>
      dsimp only
      split
      · rw [applyQ_withTransit, answer_withTransit, abortDrains_withTransit, ih]
      · rw [answer_withTransit, applyQ_withTransit, abortDrains_withTransit, ih]
      · rfl

theorem finishCmd_withTransit {c a} : (s.withTransit r).finishCmd c a = (s.finishCmd c a).withTransit r := by
  rw [State.finishCmd, State.settle, answer_withTransit, settleQueues_withTransit, settleQueue0_withTransit]
  rfl

theorem transit_storeOff {o bs} : (s.storeOff o bs).transit = s.transit :=
  transit_of_commutes (f := (State.storeOff · o bs)) fun _ => storeOff_withTransit

/-! ### The node's number -/

/-- TIME.NODE_ID, from which a packet's source is taken. -/
def State.nodeReg (s : State) : Word := s.reg .timeNodeId []

theorem nodeReg_raise {e is} (hr : RegTag.off .timeNodeId [] ≠ e.info.1.off is)
    (hc : RegTag.off .timeNodeId [] ≠ e.info.2.2.off (e.counterIdx is)) : (s.raise e is).nodeReg = s.nodeReg := reg_raise hr hc

theorem nodeReg_ite {p : Prop} [Decidable p] {t u : State} (ht : t.nodeReg = s.nodeReg) (hu : u.nodeReg = s.nodeReg) :
    (if p then t else u).nodeReg = s.nodeReg := by
  split <;> assumption

theorem nodeReg_foldl {β : Type} {f : State → β → State} (h : ∀ t x, (f t x).nodeReg = t.nodeReg) (l : List β) :
    (l.foldl f s).nodeReg = s.nodeReg :=
  foldl_keeps (fun t => t.nodeReg = s.nodeReg) f (fun t x ht => (h t x).trans ht) l s rfl

theorem nodeReg_errLast {a} : (s.errLast a).nodeReg = s.nodeReg := State.reg_setReg_ne _ _ (by decide)
theorem nodeReg_failRow {a} : (s.failRow a).nodeReg = s.nodeReg := rfl

theorem nodeReg_correctHbm {a} : (s.correctHbm a).nodeReg = s.nodeReg := by
  unfold State.correctHbm
  extract_lets s1 s2 p cw s3 c
  have counted : s2.nodeReg = s.nodeReg := nodeReg_raise (s := s1) (by decide) (by decide)
  exact nodeReg_ite (nodeReg_failRow.trans counted) counted

theorem nodeReg_correctSram {a again} : (s.correctSram a again).nodeReg = s.nodeReg := by
  unfold State.correctSram
  extract_lets s1 c
  have counted : s1.nodeReg = s.nodeReg := nodeReg_raise (s := { s with errs := merase s.errs a }) (by decide) (by decide)
  exact nodeReg_ite (nodeReg_ite counted counted) counted

theorem nodeReg_hbmLost {a} : (((s.raise .memHbmUncorr).errLast a).failRow a).nodeReg = s.nodeReg :=
  nodeReg_errLast.trans (nodeReg_raise (by decide) (by decide))

theorem nodeReg_sramLost {a} : ((s.raise .memShaleUncorr).errLast a).nodeReg = s.nodeReg :=
  nodeReg_errLast.trans (nodeReg_raise (by decide) (by decide))

theorem nodeReg_readErr {a e} : (s.readErr a e).1.nodeReg = s.nodeReg := by
  unfold State.readErr
  split
  · cases e
    · exact nodeReg_correctHbm
    · exact nodeReg_correctHbm
    · exact nodeReg_hbmLost
    · rfl
  · cases e
    · exact nodeReg_correctSram
    · exact nodeReg_correctSram (again := true)
    · exact nodeReg_sramLost
    · exact nodeReg_sramLost

theorem nodeReg_mergeErr {a e} : (s.mergeErr a e).nodeReg = s.nodeReg := by
  unfold State.mergeErr
  cases e
  · exact nodeReg_readErr
  · exact nodeReg_readErr
  · exact nodeReg_ite nodeReg_hbmLost nodeReg_sramLost
  · exact nodeReg_ite rfl nodeReg_sramLost

theorem nodeReg_rewriteErrs {a n} : (s.rewriteErrs a n).nodeReg = s.nodeReg := by
  unfold State.rewriteErrs
  refine nodeReg_foldl (fun t e => ?_) _
  exact nodeReg_ite rfl nodeReg_mergeErr

theorem nodeReg_put {a bs} : (s.put a bs).nodeReg = s.nodeReg := nodeReg_rewriteErrs

theorem nodeReg_emit {o} : (s.emit o).nodeReg = s.nodeReg := by
  unfold State.emit
  exact nodeReg_ite rfl rfl

theorem nodeReg_storePart {a bs} : (s.storePart a bs).nodeReg = s.nodeReg := by
  unfold State.storePart
  extract_lets hold frozen copied sent now hostPort held
  have copies : copied.nodeReg = s.nodeReg := by
    unfold copied
    split
    · exact nodeReg_ite rfl rfl
    · rfl
  refine nodeReg_ite (nodeReg_raise (s := hold s) (by decide) (by decide)) (nodeReg_ite rfl (nodeReg_ite ?_ ?_))
  · exact nodeReg_ite copies (nodeReg_emit.trans copies)
  · exact nodeReg_put.trans copies

theorem nodeReg_store {a bs} : (s.store a bs).nodeReg = s.nodeReg := by
  unfold State.store
  exact nodeReg_ite nodeReg_put (nodeReg_foldl (fun _ _ => nodeReg_storePart) _)

theorem nodeReg_storeOff {o bs} : (s.storeOff o bs).nodeReg = s.nodeReg := by
  unfold State.storeOff
  split
  · rfl
  · exact foldl_keeps (fun u : State × List Byte => u.1.nodeReg = s.nodeReg) _ (fun _ _ h => nodeReg_store.trans h) _ _ rfl

theorem nodeReg_addTally {l k t n : Nat} : (s.addTally l k t n).nodeReg = s.nodeReg := by
  refine (reg_congr regs_addTally _ _).trans ?_
  unfold State.tallySat
  split
  · exact reg_raise (by decide) (by decide)
  · rfl

/-! ### Tallies -/

theorem transit_addTally {l k t n : Nat} : (s.addTally l k t n).transit = s.transit := by
  have frame : _ = s.transit := congrArg State.transit (addTally_frame s l k t n)
  exact frame

theorem tallyHit_eq (tag : W16) (epoch : Byte) (t : Word) (n : Nat) :
    s.tallyHit tag epoch t n = s ∨ ∃ l k i, s.tallyHit tag epoch t n = s.addTally l k i n := by
  unfold State.tallyHit
  split
  · exact .inl rfl
  · split
    · exact .inr ⟨_, _, _, rfl⟩
    · exact .inl rfl

theorem transit_tallyHit {tag : W16} {epoch : Byte} {t : Word} {n : Nat} : (s.tallyHit tag epoch t n).transit = s.transit := by
  rcases tallyHit_eq (s := s) tag epoch t n with none | ⟨l, k, i, hit⟩
  · rw [none]
  · rw [hit, transit_addTally]

theorem nodeReg_tallyHit {tag : W16} {epoch : Byte} {t : Word} {n : Nat} : (s.tallyHit tag epoch t n).nodeReg = s.nodeReg := by
  rcases tallyHit_eq (s := s) tag epoch t n with none | ⟨l, k, i, hit⟩
  · rw [none]
  · rw [hit, nodeReg_addTally]

theorem tallyHit_invalid {tag : W16} {epoch : Byte} {t : Word} {n : Nat} (invalid : tallyValid t = false) :
    s.tallyHit tag epoch t n = s := by
  unfold State.tallyHit
  split
  · rfl
  · rw [invalid]
    rfl

end Sys2Proof.Machine

/-! # Copies and messages -/

namespace Sys2Proof.Machine

open Claims

variable {s t : State} {x : Nat}

/-! ## Arrivals (R352, R398) -/

theorem onCtx_of_arrives {n : LinkId} {p : Packet} {answer : Bool} (f : Nat → State → State) (h : arrives s n p answer) :
    s.onCtx n.val p answer f = f p.dstCtx.toNat s := by
  obtain ⟨active, fresh, ok, payload, ⟨e, entry, found, accepted⟩, admitted⟩ := h
  have taken : s.takePacket n.val p = some s := by
    rw [State.takePacket, if_neg (by simpa using fresh), if_pos active]
  simp only [State.onCtx, State.onPacket, taken, ok, payload, found, accepted, admitted, Bool.not_true, Bool.or_self,
    Bool.false_eq_true, if_false, if_true]

theorem snapSettle_of_idle {j f : Nat} (idle : (s.snap j).phase = .idle) : s.snapSettle j f = s := by
  cases f with
  | zero => rfl
  | succ f =>
    rw [State.snapSettle]
    split
    · rfl
    · rw [idle]
      rfl

theorem restoreGo_of_none {j f : Nat} (none : (s.snap j).restore = none) : s.restoreGo j f = s := by
  cases f with
  | zero => rfl
  | succ f =>
    rw [State.restoreGo, none]
    cases s.job j <;> rfl

theorem snapsGoOn_of_quietJobs (quiet : quietJobs s) : s.snapsGoOn = s := by
  obtain ⟨-, snaps⟩ := quiet
  unfold State.snapsGoOn
  induction mkeys s.jobs with
  | nil => rfl
  | cons j js ih => rw [List.foldl_cons, snapSettle_of_idle (snaps j).1, restoreGo_of_none (snaps j).2, ih]

theorem quietJobs_of_same (jobs : t.jobs = s.jobs) (snaps : t.snaps = s.snaps) (quiet : quietJobs s) : quietJobs t := by
  obtain ⟨up, idle⟩ := quiet
  refine ⟨fun j b job => up j b (by rwa [State.job, jobs] at job), fun j => ?_⟩
  rw [State.snap, snaps]
  exact idle j

/-! ## Requests (R354) -/

theorem noteSeq_eq {o : ReqOrigin} {q : W32} : s.noteSeq o q = { s with copies := (s.noteSeq o q).copies } := by
  cases o <;> rfl

theorem setCtx_withTransit {c : Ctx} {r : Transit} : (s.setCtx x c).withTransit r = s.withTransit r := rfl

/-- A request that leaves changes its context, the copy that sends it, and what is sent. -/
theorem sendReq_eq (r : Req) : ∃ c' ys, s.sendReq x r = s.withTransit
    ⟨ys, mset Ctx.zero s.ctxs x c', s.jobs, s.snaps, s.tx ++ [{ r.pkt with seq := (s.ctx x).sendSeq }]⟩ ∧
      c'.sendSeq = (s.ctx x).sendSeq + 1 ∧ c'.outstanding = (s.ctx x).outstanding + 1 := by
  refine ⟨_, _, noteSeq_eq.trans rfl, rfl, ?_⟩
  simp [Ctx.outstanding]

/-- A request as its source hands it to a context. -/
def State.reqOf (s : State) (x op flags arg : Nat) (payload : List Byte) (o : ReqOrigin) : Req :=
  { seq := 0, pkt := s.ctxPacket (s.ctx x) op flags 0 arg payload, origin := o, t0 := 0, tries := 0, unresolved := false,
    answered := false, rnr := none }

theorem reqOf_pkt {op flags arg : Nat} {payload : List Byte} {o : ReqOrigin} (q : W32) :
    ({ (s.reqOf x op flags arg payload o).pkt with seq := q } : Packet) = s.ctxPacket (s.ctx x) op flags q arg payload := rfl

/-- A request on a context that may send, with none waiting, goes out at once. -/
theorem ctxRequest_of_ready {op flags arg : Nat} {payload : List Byte} {o : ReqOrigin} (may : (s.ctx x).canSend = true)
    (empty : (s.ctx x).queue = []) : ∃ cs ys, s.ctxRequest x op flags arg payload o = s.withTransit
      ⟨ys, cs, s.jobs, s.snaps, s.tx ++ [s.ctxPacket (s.ctx x) op flags (s.ctx x).sendSeq arg payload]⟩ ∧
      (mget Ctx.zero cs x).sendSeq = (s.ctx x).sendSeq + 1 ∧
      (mget Ctx.zero cs x).outstanding = (s.ctx x).outstanding + 1 := by
  have sends (r : Req) : ({ s.ctx x with queue := [r] } : Ctx).canSend = true := may
  have leaves : s.ctxRequest x op flags arg payload o = ((s.setCtx x { s.ctx x with
      queue := [s.reqOf x op flags arg payload o] }).setCtx x { s.ctx x with queue := [] }).sendReq x
        (s.reqOf x op flags arg payload o) := by
    simp only [State.ctxRequest, empty, List.nil_append, List.length_nil, State.pump, State.ctx_setCtx_same, sends, if_true]
    rfl
  obtain ⟨c', ys, sent, seq, outstanding⟩ := sendReq_eq (s := (s.setCtx x { s.ctx x with
      queue := [s.reqOf x op flags arg payload o] }).setCtx x { s.ctx x with queue := [] }) (x := x)
        (s.reqOf x op flags arg payload o)
  rw [State.ctx_setCtx_same] at sent seq outstanding
  rw [leaves, sent, reqOf_pkt, setCtx_withTransit, setCtx_withTransit]
  simp only [State.setCtx_jobs, State.setCtx_snaps, State.setCtx_tx]
  refine ⟨_, ys, rfl, ?_, ?_⟩
  · rw [mget_mset_same, seq]
  · rw [mget_mset_same, outstanding]
    rfl

/-! ## Landing pieces of a reduction (R365) -/

theorem exec_redPiece {n : LinkId} {p : Packet} (h : arrives s n p false) : exec (.redPiece n p) s = .next (s.redPieceIn p) :=
  congrArg Host.Outcome.next (onCtx_of_arrives _ h)

/-- The part of a child's result that a piece belongs to. -/
def RedIn.of (j : Nat) (id : W16) (node : Nat) (e : RedIn) : Bool := e.job == j && e.id == id && e.node == node

theorem redPieceIn_eq {p : Packet} {j : Nat} {b : JobSlot} {tr : Tree} (job : s.findJob p.tag p.epoch = some (j, b))
    (tree : b.tree = some tr) (child : p.srcNode.toNat ∈ tr.children) (small : p.arg.toNat / 2 ^ 48 < 0xFF00) :
    s.redPieceIn p =
      (let id := BitVec.ofNat 16 (p.arg.toNat / 2 ^ 48)
       let mine := RedIn.of j id p.srcNode.toNat
       let e := (s.redIn.find? mine).getD ⟨j, id, p.srcNode.toNat, [], false⟩
       if e.full || p.arg.toNat % 2 ^ 32 ≠ e.bytes.length then s
       else { s with redIn := s.redIn.filter (fun e => !mine e) ++
         [{ e with bytes := e.bytes ++ p.payload, full := p.flags.getLsbD 5 }] }) := by
  have id : fld p.arg 63 48 = p.arg.toNat / 2 ^ 48 := by
    rw [fld, bits, Nat.shiftRight_eq_div_pow]
    omega
  have named : (BitVec.ofNat 16 (p.arg.toNat / 2 ^ 48)).toNat = p.arg.toNat / 2 ^ 48 := by
    rw [BitVec.toNat_ofNat, Nat.mod_eq_of_lt (by omega)]
  have ours : tr.children.contains p.srcNode.toNat = true := by simpa using child
  have last : tbit p.flags.toNat 5 = p.flags.getLsbD 5 := by
    rw [tbit, BitVec.getLsbD, Nat.testBit_eq_decide_div_mod_eq, Nat.shiftRight_eq_div_pow]
    rfl
  simp only [State.redPieceIn, job, tree, id, named, ours, Nat.not_le.2 small, last]
  rfl

end Sys2Proof.Machine

/-! # The copy engine -/

namespace Sys2Proof.Machine

open Claims

variable {s : State}

/-! ## Copies within HBM3E (R362) -/

theorem windowOf_eq_hbm {a : Nat} : windowOf a = .hbm ↔ a < hbmTop := by
  constructor
  · intro h
    unfold windowOf at h
    split at h
    · assumption
    · repeat' split at h
      all_goals cases h
  · exact fun h => if_pos h

theorem inWindow_hbm {a n : Nat} (top : a + n ≤ hbmTop) (some_bytes : n ≠ 0) : inWindow .hbm a n = true := by
  rw [inWindow, windowOf_eq_hbm.2 (by omega), windowOf_eq_hbm.2 (by omega)]
  rfl

theorem loadOff_hbm {a n : Nat} (lies : inWindow .hbm a n = true) (some_bytes : n ≠ 0) (errs : s.errs = [])
    (held : s.heldWrites = []) : s.loadOff a n = (s, some (some (memRead s.mem a n))) := by
  have clean : s.scan a n = (s, true) := by
    rw [State.scan, State.errsIn, errs]
    rfl
  rw [State.loadOff, segments_hbm lies some_bytes]
  simp [State.load, clean, State.view, held]

/-- n bytes from o have been copied to d. -/
def CopiedTo (m0 m : List Host.Cell) (o d n : Nat) : Prop :=
  ∀ a, mget 0#8 m a = if d ≤ a ∧ a < d + n then mget 0#8 m0 (o + (a - d)) else mget 0#8 m0 a

theorem copiedTo_zero (m : List Host.Cell) (o d : Nat) : CopiedTo m m o d 0 := fun a => (if_neg (by omega)).symm

/-- The next piece of a copy between ranges that lie apart. -/
theorem CopiedTo.piece {m0 m : List Host.Cell} {o d off k n : Nat} (h : CopiedTo m0 m o d off) (fits : off + k ≤ n)
    (apart : o + n ≤ d ∨ d + n ≤ o) : CopiedTo m0 (memWrite m (d + off) (memRead m (o + off) k)) o d (off + k) := by
  intro a
  rw [mget_memWrite, memRead_length]
  by_cases here : d + off ≤ a ∧ a < d + off + k
  · have read : nth 0#8 (memRead m (o + off) k) (a - (d + off)) = mget 0#8 m (o + (a - d)) := by
      rw [nth, getElem?_memRead, if_pos (by omega), show o + off + (a - (d + off)) = o + (a - d) by omega]
      rfl
    rw [if_pos here, if_pos (by omega), read, h, if_neg (by omega)]
  · rw [if_neg here, h]
    by_cases earlier : d ≤ a ∧ a < d + off
    · rw [if_pos earlier, if_pos (by omega)]
    · rw [if_neg earlier, if_neg (by omega)]

/-- A copy within HBM3E of a node without words in error, frozen pages or tracked lines lands whole. -/
theorem copyLocal_hbm {tag : W16} {epoch : Byte} {o d n : Nat} {tally : Word} (src : o + n ≤ hbmTop) (dst : d + n ≤ hbmTop)
    (apart : o + n ≤ d ∨ d + n ≤ o) (none : tallyValid tally = false) (errs : s.errs = []) (held : s.heldWrites = [])
    (pages : s.pages = []) (snoop : s.hostPort.snoop = []) (fuel off : Nat) (m : List Host.Cell) (within : off ≤ n)
    (enough : n ≤ off + 256 * fuel) (done : CopiedTo s.mem m o d off) :
    ∃ m', (s.withMem m).copyLocal tag epoch o d n tally off fuel = (s.withMem m', n, true) ∧ CopiedTo s.mem m' o d n := by
  induction fuel generalizing off m with
  | zero =>
    obtain rfl : off = n := by omega
    exact ⟨m, rfl, done⟩
  | succ fuel ih =>
    rw [State.copyLocal]
    by_cases whole : n ≤ off
    · obtain rfl : off = n := by omega
      exact ⟨m, if_pos whole, done⟩
    · have piece : pieceLen n off ≠ 0 ∧ off + pieceLen n off ≤ n ∧ (pieceLen n off = 256 ∨ off + pieceLen n off = n) := by
        rw [pieceLen]
        omega
      obtain ⟨some_bytes, fits, progress⟩ := piece
      have loaded := loadOff_hbm (s := s.withMem m) (inWindow_hbm (a := o + off) (by omega) some_bytes) some_bytes errs held
      have stored := storeOff_hbm (s := s.withMem m) (a := d + off) (bs := memRead m (o + off) (pieceLen n off))
        (inWindow_hbm (by rw [memRead_length]; omega) (by rwa [memRead_length])) (by rwa [memRead_length]) errs pages snoop
      obtain ⟨m', copied, whole'⟩ := ih _ _ fits (by omega) (done.piece fits apart)
      refine ⟨m', ?_, whole'⟩
      rw [if_neg whole]
      simp only [loaded, Option.join_some]
      rw [← copied]
      exact congrArg (State.copyLocal · tag epoch o d n tally (off + pieceLen n off) fuel) ((tallyHit_invalid none).trans stored)

/-! ## The pointers and the parameters of a copy (R24, R360) -/

section

variable {p : Nat}

theorem namesOther_self (self : p / 2 ^ 51 = 0x1FFF) : s.namesOther p = false := by
  rw [State.namesOther, ptrNode_eq, self]
  rfl

theorem ptrNode_peer (peer : p / 2 ^ 51 < 4096) : ptrNode p = p / 2 ^ 51 := by
  rw [ptrNode_eq, Nat.mod_eq_of_lt (peer.trans (by decide))]

theorem namesOther_peer (peer : p / 2 ^ 51 < 4096) (other : p / 2 ^ 51 ≠ s.nodeNo) : s.namesOther p = true := by
  have valid : reservedNode (p / 2 ^ 51) = false := by
    rw [reservedNode, decide_eq_false (Nat.not_le.2 peer), Bool.false_and]
  have far : s.isSelf (p / 2 ^ 51) = false := by
    simp only [State.isSelf, Bool.or_eq_false_iff, beq_eq_false_iff_ne]
    exact ⟨by omega, other⟩
  rw [State.namesOther, ptrNode_peer peer, valid, far]
  rfl

end

section

variable {src dst n cls : Nat}

/-- The parameters of a copy from this node that counts at no tally. -/
theorem copyParamsOk_of_plain (some_bytes : 1 ≤ n) (fits : n ≤ 16777216) (class_ : cls ≤ 2) (here : s.namesOther src = false)
    (there : s.namesOther dst = true → windowOf (ptrOff dst) ≠ .host) : s.copyParamsOk src dst n cls 0 = true := by
  have host : (s.namesOther dst && windowOf (ptrOff dst) == .host) = false := by
    rw [Bool.and_eq_false_imp]
    exact fun far => beq_eq_false_iff_ne.2 (there far)
  have form : tallyForm 0 = true := by decide
  have valid : tallyValid 0 = false := by decide
  simp only [State.copyParamsOk, some_bytes, fits, class_, here, host, form, valid, decide_true, Bool.false_and, Bool.not_false,
    Bool.and_self, Bool.true_or]

theorem copyParamsOk_of_bad {tally : Word} (bad : n = 0 ∨ 16777216 < n ∨ 2 < cls) : s.copyParamsOk src dst n cls tally = false := by
  rcases bad with none | long | class_
  · simp [State.copyParamsOk, none]
  · simp [State.copyParamsOk, Nat.not_le.2 long]
  · simp [State.copyParamsOk, Nat.not_le.2 class_]

theorem le_jTop_of_firstBad {m o : Nat} {tag : W16} {host rd wr : Bool} (window : windowOf o = .hbm)
    (ok : s.firstBad m tag host o n rd wr = none) : o + n ≤ s.jTop := by
  by_contra above
  simp only [State.firstBad, window, above, if_false] at ok
  cases ok

/-- The ranges of a local copy that passes lie below the reserves. -/
theorem le_jTop_of_copyBad {tag : W16} {host : Bool} (ok : s.copyBad tag host src dst n = none)
    (hs : s.namesOther src = false) (hd : s.namesOther dst = false) (ws : windowOf (ptrOff src) = .hbm)
    (wd : windowOf (ptrOff dst) = .hbm) : ptrOff src + n ≤ s.jTop ∧ ptrOff dst + n ≤ s.jTop := by
  simp only [State.copyBad, hs, hd, Bool.false_eq_true, if_false] at ok
  split at ok
  next => cases ok
  next first =>
    split at first
    next => cases first
    next =>
      split at ok
      next => cases ok
      next => exact ⟨le_jTop_of_firstBad ws first, le_jTop_of_firstBad wd ok⟩

end

/-! ## MEM_COPY (R360) -/

section

variable {q : QueueId} {seq : W32} {c : Started} {j : Nat} {b : JobSlot}

theorem exec_memCopy_param (h : readyJob s 0x0201 q seq c j b)
    (bad : s.copyParamsOk (c.arg 0) (c.arg 1) (c.arg 2) (c.arg 4) (BitVec.ofNat 64 (c.arg 5)) = false) :
    exec (.memCopy q seq) s = .next (s.finishCmd c (.st 0x0645)) := by
  refine (congrArg Host.Outcome.next (runJobCmd_of_readyJob _ h)).trans (congrArg Host.Outcome.next ?_)
  simp only [bad]
  rfl

section

variable (ok : s.copyParamsOk (c.arg 0) (c.arg 1) (c.arg 2) (c.arg 4) (BitVec.ofNat 64 (c.arg 5)) = true)
  (here : s.namesOther (c.arg 0) = false)

include ok here

theorem exec_memCopy_local (h : readyJob s 0x0201 q seq c j b) (there : s.namesOther (c.arg 1) = false)
    (good : s.copyBad c.tag true (c.arg 0) (c.arg 1) (c.arg 2) = none) (hs : namesHost (c.arg 0) = false)
    (hd : namesHost (c.arg 1) = false) : exec (.memCopy q seq) s =
      .next (s.startCopy (.command c.q c.seq) c.tag c.epoch (c.arg 0) (c.arg 1) (c.arg 2) (c.arg 3) (BitVec.ofNat 64 (c.arg 5))) := by
  refine (congrArg Host.Outcome.next (runJobCmd_of_readyJob _ h)).trans (congrArg Host.Outcome.next ?_)
  simp only [ok, here, there, good, hs, hd]
  rfl

theorem exec_memCopy_unusable (h : readyJob s 0x0201 q seq c j b) (there : s.namesOther (c.arg 1) = true)
    (unusable : 2 ^ 20 ≤ c.arg 3 ∨ s.ctxUsable (c.arg 3) c.tag c.epoch (ptrNode (c.arg 1)) s.spanNo = false) :
    exec (.memCopy q seq) s = .next (s.finishCmd c (.st 0x0640)) := by
  have refused : (decide (c.arg 3 < 2 ^ 20) && s.ctxUsable (c.arg 3) c.tag c.epoch (ptrNode (c.arg 1)) s.spanNo) = false := by
    rw [Bool.and_eq_false_iff, decide_eq_false_iff_not, Nat.not_lt]
    exact unusable
  refine (congrArg Host.Outcome.next (runJobCmd_of_readyJob _ h)).trans (congrArg Host.Outcome.next ?_)
  simp only [ok, here, there, refused, Bool.false_or, Bool.false_eq_true, if_false]
  rfl

theorem exec_memCopy_remote (h : readyJob s 0x0201 q seq c j b) (there : s.namesOther (c.arg 1) = true)
    (small : c.arg 3 < 2 ^ 20) (usable : s.ctxUsable (c.arg 3) c.tag c.epoch (ptrNode (c.arg 1)) s.spanNo = true)
    (good : s.copyBad c.tag true (c.arg 0) (c.arg 1) (c.arg 2) = none) (hs : namesHost (c.arg 0) = false)
    (hd : namesHost (c.arg 1) = false) : exec (.memCopy q seq) s =
      .next ((s.waitCmd c (.copy s.nextCopy)).startCopy (.command c.q c.seq) c.tag c.epoch (c.arg 0) (c.arg 1) (c.arg 2) (c.arg 3)
        (BitVec.ofNat 64 (c.arg 5))) := by
  refine (congrArg Host.Outcome.next (runJobCmd_of_readyJob _ h)).trans (congrArg Host.Outcome.next ?_)
  simp only [ok, here, there, small, usable, good, hs, hd, Bool.false_or, Bool.false_eq_true, if_false]
  rfl

end

end

end Sys2Proof.Machine

/-! # The ACOPY descriptor, landing pieces, and the end of a copy -/

namespace Sys2Proof.Machine

open Claims

variable {s : State}

/-! ## The ACOPY descriptor (R361) -/

theorem nth_slice {bs : List Byte} {i n j : Nat} (inside : j < n) : nth 0#8 (slice bs i n) j = nth 0#8 bs (i + j) := by
  rw [nth, nth, slice, List.getElem?_append, List.length_take, List.length_drop]
  by_cases here : j < min n (bs.length - i)
  · rw [if_pos here, List.getElem?_take_of_lt inside, List.getElem?_drop]
  · rw [if_neg here, List.getElem?_eq_none (l := bs) (by omega), List.getElem?_replicate]
    split <;> rfl

theorem nth_of_slice_eq {bs : List Byte} {i n : Nat} (zero : slice bs i n = List.replicate n 0#8) {j : Nat} (low : i ≤ j)
    (high : j < i + n) : nth 0#8 bs j = 0#8 := by
  have here := nth_slice (bs := bs) (i := i) (n := n) (j := j - i) (by omega)
  rw [zero, nth, List.getElem?_replicate, if_pos (by omega), Nat.add_sub_cancel' low] at here
  exact here.symm

theorem slice_eq_replicate {bs : List Byte} {i n : Nat} (zero : ∀ j, i ≤ j → j < i + n → nth 0#8 bs j = 0#8) :
    slice bs i n = List.replicate n 0#8 := by
  refine List.ext_getElem (by simp) fun j inside _ => ?_
  have here := nth_slice (bs := bs) (i := i) (n := n) (j := j) (by simpa using inside)
  rw [zero _ (by omega) (by simp at inside; omega), nth, List.getElem?_eq_getElem inside] at here
  rw [List.getElem_replicate]
  exact here

theorem leNat_replicate_zero (n : Nat) : leNat (List.replicate n 0#8) = 0 := by
  induction n with
  | zero => rfl
  | succ n ih => rw [List.replicate_succ, leNat, ih]; rfl

theorem leAt_eq_zero {bs : List Byte} {i n : Nat} (zero : ∀ j, i ≤ j → j < i + n → nth 0#8 bs j = 0#8) : leAt bs i n = 0 := by
  rw [leAt, slice_eq_replicate zero, leNat_replicate_zero]

theorem allZero_slice {bs : List Byte} {i n : Nat} : allZero (slice bs i n) = true ↔ ∀ j, i ≤ j → j < i + n → nth 0#8 bs j = 0#8 := by
  constructor
  · intro zero
    refine fun j => nth_of_slice_eq (List.eq_replicate_iff.2 ⟨slice_length bs i n, fun b mem => ?_⟩)
    exact eq_of_beq (List.all_eq_true.1 zero b mem)
  · intro zero
    rw [slice_eq_replicate zero, allZero, List.all_replicate]
    simp

section

variable {k : Core} {desc : List Byte} {u : UnitRef} {b : JobSlot} {z : SchedRun × TableSlot} {r : UnitRec}

theorem acopy_eq (table : s.unitTable k = some (u, b, z)) (unit : s.unitRec u = some r) : s.acopy k desc =
    (if (readCopyDesc desc).kind = 0 then s.acopyPlain k u r (readCopyDesc desc)
     else if (readCopyDesc desc).kind ≤ 2 then s.acopyReduce k u r b (readCopyDesc desc) desc else (s, 0x0645)) := by
  obtain ⟨run, slot⟩ := z
  simp only [State.acopy, table, unit]
  rfl

/-- A descriptor with reserved bytes set is refused, whatever its kind. -/
theorem acopy_of_reserved (table : s.unitTable k = some (u, b, z)) (unit : s.unitRec u = some r)
    (reserved : (readCopyDesc desc).reserved = true) (kind : leAt desc 25 1 ≤ 2) : s.acopy k desc = (s, 0x0645) := by
  rw [acopy_eq table unit]
  split
  · simp only [State.acopyPlain, reserved, Bool.true_or, if_true]
    rfl
  · refine (if_pos kind).trans ?_
    simp only [State.acopyReduce, State.reduceOk, reserved, Bool.not_true, Bool.false_and, Bool.not_false, if_true]
    rfl

theorem reserved_of_byte {i : Nat} (low : 43 ≤ i) (high : i < 64) (set : nth 0#8 desc i ≠ 0) : (readCopyDesc desc).reserved = true := by
  have some_byte : allZero (slice desc 43 21) = false := by
    rw [Bool.eq_false_iff]
    exact fun zero => set (allZero_slice.1 zero i low (by omega))
  simp only [readCopyDesc, some_byte, Bool.not_false, Bool.true_or]

/-- What a plain copy of a unit within the node comes to. -/
theorem acopyPlain_of_local {d : CopyDesc} (reserved : d.reserved = false) (id : d.redId = 0) (first : d.clFirst = 0)
    (count : d.clCount = 0) (mask : d.mask = 0) (flags : d.rflags = 0)
    (ok : s.copyParamsOk d.src d.dst d.len d.cls d.tally = true) (here : s.namesOther d.src = false)
    (there : s.namesOther d.dst = false) : s.acopyPlain k u r d =
      if (s.copyBad k.jobTag false d.src d.dst d.len).isSome then (s, 0x0201)
      else (s.startCopy (.unit u.job (16 * r.lcluster + r.lcore) r.unit) k.jobTag k.jobEpoch d.src d.dst d.len (d.context % 2 ^ 20)
        d.tally, 0) := by
  simp only [State.acopyPlain, reserved, id, first, count, mask, flags, ok, here, there]
  rfl

end

theorem acopyStep_perform {s' : State} {c : CoreId} {w : W32} {k : Core} {a : Nat} {desc : List Byte} (fields : fb w = 0 ∧ func w = 0)
    (here : globalHere s k (k.rg (fa w)).toNat 64 true false a) (loaded : s.load a 64 = (s', some desc))
    (own : s.namesOther (k.rg (fa w)).toNat = false)
    (first : s'.journalNext k 0xFF ((k.rg (fa w)).toNat % 2 ^ 51) (leAt desc 0 16) = .perform) : acopyStep c.val w s k =
      ((s'.acopy k desc).1.journalAdd k 0xFF ((k.rg (fa w)).toNat % 2 ^ 51) (leAt desc 0 16) (s'.acopy k desc).2 none,
        .done (k.journaled.wg (fd w) (BitVec.ofNat 64 (s'.acopy k desc).2))) := by
  rw [← ptrOff_eq] at first ⊢
  simp only [acopyStep, fields, Core.ga, own, globalTarget_of_globalHere here, loaded, first]
  rfl

/-! ## Pieces that land (R362) -/

section

variable {x : Nat} {p : Packet} {r : RxCopy}

theorem tbit_eq_false {n i : Nat} (h : bits n i i = 0) : tbit n i = false := by
  rw [tbit_eq_bits, h]
  rfl

theorem pieceIn_of_none (put : tbit p.flags.toNat 4 = false) (none : (s.ctx x).findRx p.seq false = none) : s.pieceIn x p = s := by
  simp only [State.pieceIn, put, none]

theorem pieceIn_of_refused (put : tbit p.flags.toNat 4 = false) (found : (s.ctx x).findRx p.seq false = some r)
    (wrong : ptrOff p.arg.toNat ≠ r.expects ∨ p.payload.length ≠ pieceLen r.len r.next) : s.pieceIn x p = s := by
  have refused : (decide (ptrOff p.arg.toNat ≠ r.expects) || decide (p.payload.length ≠ pieceLen r.len r.next)) = true := by
    simpa using wrong
  simp only [State.pieceIn, put, found, refused, if_true]

/-- A piece as it lands: its bytes and its tally. -/
def State.pieceLanded (s : State) (x : Nat) (p : Packet) (r : RxCopy) : State :=
  (s.storeOff (r.dst + r.next) p.payload).tallyHit (s.ctx x).tag (s.ctx x).epoch r.tally 1

/-- The copy after a piece, none once it is whole. -/
def RxCopy.after (r : RxCopy) : Option RxCopy :=
  if r.len ≤ r.next + pieceLen r.len r.next then none else some { r with next := r.next + pieceLen r.len r.next }

theorem pieceIn_of_accepted (put : tbit p.flags.toNat 4 = false) (found : (s.ctx x).findRx p.seq false = some r)
    (recv : r.recv = none) (get : r.getId = none) (turn : ptrOff p.arg.toNat = r.dst + r.next)
    (length : p.payload.length = pieceLen r.len r.next) :
    s.pieceIn x p =
      (let u := s.pieceLanded x p r
       let n := r.next + pieceLen r.len r.next
       ((u.setCtx x ((u.ctx x).setRx p.seq false r.after)).setSlot x ⟨p.seq, 0, copyState n r.len, false⟩).sendOn x 0x11 0 p.seq n []) := by
  have expects : r.expects = r.dst + r.next := by
    rw [RxCopy.expects, recv, get]
    rfl
  simp only [State.pieceIn, put, found, expects, turn, length, ne_eq, not_true_eq_false, decide_false, Bool.or_self,
    Bool.false_eq_true, if_false, get, State.recvDone, recv, RxCopy.after]
  split <;> rfl

/-! ### What a landed piece leaves -/

theorem transit_pieceLanded : (s.pieceLanded x p r).transit = s.transit := transit_tallyHit.trans transit_storeOff

theorem nodeReg_pieceLanded : (s.pieceLanded x p r).nodeReg = s.nodeReg := nodeReg_tallyHit.trans nodeReg_storeOff

/-- A packet names its sender by TIME.NODE_ID. -/
theorem ctxPacket_congr {t : State} (node : t.nodeReg = s.nodeReg) (c : Ctx) (op flags : Nat) (q : W32) (arg : Nat)
    (payload : List Byte) : t.ctxPacket c op flags q arg payload = s.ctxPacket c op flags q arg payload := by
  have number : t.nodeNo = s.nodeNo := congrArg (fun v => fld v 12 0) node
  have span : t.spanNo = s.spanNo := congrArg (fun v => fld v 47 32) node
  rw [State.ctxPacket, State.ctxPacket, number, span]

theorem findRx_setRx {c : Ctx} {q : W32} {v : Option RxCopy} (own : ∀ r, v = some r → r.seq = q ∧ r.getId = none) :
    (c.setRx q false v).findRx q false = v := by
  have others : (c.rxCopies.filter (fun r => !(r.seq == q && r.getId.isSome == false))).find?
      (fun r => r.seq == q && r.getId.isSome == false) = none := by
    rw [List.find?_eq_none]
    intro r mem
    simpa only [Bool.not_eq_true', Bool.not_eq_true] using (List.mem_filter.1 mem).2
  cases v with
  | none => exact others
  | some r =>
    obtain ⟨seq, get⟩ := own r rfl
    simp only [Ctx.findRx, Ctx.setRx, List.find?_append, others, Option.none_or]
    simp [seq, get]

theorem findRx_some {c : Ctx} {q : W32} (found : c.findRx q false = some r) : r.seq = q ∧ r.getId = none := by
  have here := List.find?_some found
  simpa using here

theorem slot_minsert {c : Ctx} {v : ReplySlot} :
    ({ c with slots := minsert c.slots (v.seq.toNat % 16) v } : Ctx).slot v.seq = v := by
  rw [Ctx.slot, mget_eq_mfind, mfind_minsert_same]
  rfl

end

/-! ## PIECE_ACK (R362) -/

section

variable {x : Nat} {p : Packet} {y : Copy}

theorem pump_of_empty (empty : (s.ctx x).queue = []) (n : Nat) : s.pump x n = s := by
  cases n with
  | zero => rfl
  | succ n =>
    rw [State.pump, empty]

theorem settleClose_of_open (open_ : (s.ctx x).st = .open) : s.settleClose x = s := by
  have stays : ((s.ctx x).st == .closing && (s.ctx x).outstanding == 0) = false := by
    rw [open_]
    exact Bool.false_and _
  rw [State.settleClose, stays]
  exact if_neg Bool.false_ne_true

theorem teardownOf_of_up (up : ∀ j b, s.job j = some b → b.teardown = false) (tag : W16) (epoch : Byte) :
    s.teardownOf tag epoch = s := by
  unfold State.teardownOf
  split
  next j b found =>
    unfold State.teardownCheck
    split
    next b job => simp only [up j b job, Bool.false_and, Bool.false_eq_true, if_false]
    next => rfl
  next => rfl

/-- An answer on an open context with nothing waiting, of a node whose jobs are not in teardown, changes that context alone. -/
theorem afterAnswer_of_open (open_ : (s.ctx x).st = .open) (empty : (s.ctx x).queue = [])
    (up : ∀ j b, s.job j = some b → b.teardown = false) :
    s.afterAnswer x = s.setCtx x { s.ctx x with lowUnack := (s.ctx x).lowest, st := .open } := by
  have st : (if (s.ctx x).st == .resolve && !((s.ctx x).reqs.any (fun r => r.unresolved)) then CtxSt.open else (s.ctx x).st) = .open := by
    rw [open_]
    rfl
  simp only [State.afterAnswer, st]
  rw [pump_of_empty (by rw [State.ctx_setCtx_same]; exact empty), settleClose_of_open (by rw [State.ctx_setCtx_same]),
    teardownOf_of_up (s := s.setCtx x _) up]

theorem endReq_of_open {q : W32} (open_ : (s.ctx x).st = .open) (empty : (s.ctx x).queue = [])
    (up : ∀ j b, s.job j = some b → b.teardown = false) : ∃ cs, s.endReq x q = { s with ctxs := cs } := by
  have answered := afterAnswer_of_open (s := s.setCtx x { s.ctx x with reqs := (s.ctx x).reqs.filter (fun r => r.seq != q) })
    (x := x) (by rw [State.ctx_setCtx_same]; exact open_) (by rw [State.ctx_setCtx_same]; exact empty) up
  exact ⟨_, answered⟩

variable (put : tbit p.flags.toNat 4 = false)
  (found : s.copies.find? (fun y => y.ctx == x && y.seq == p.seq && y.opened && y.origin != .responder) = some y)

include put found

theorem pieceAckIn_of_stale (stale : p.arg.toNat ≤ y.acked ∨ y.limit < p.arg.toNat) : s.pieceAckIn x p = s := by
  have old : (decide (y.acked < p.arg.toNat) && decide (p.arg.toNat ≤ y.limit)) = false := by
    rw [Bool.and_eq_false_iff, decide_eq_false_iff_not, decide_eq_false_iff_not]
    omega
  simp only [State.pieceAckIn, put, found, old, Bool.false_eq_true, if_false]

/-- A copy that has come as far as an offset. -/
def Copy.at (y : Copy) (a now : Nat) : Copy := { y with acked := a, t0 := now, tries := 0 }

theorem pieceAckIn_of_progress (more : y.acked < p.arg.toNat) (part : p.arg.toNat < y.limit) :
    s.pieceAckIn x p = s.updCopy y.id (fun _ => y.at p.arg.toNat s.now) := by
  simp only [State.pieceAckIn, put, found, more, part.le, part.ne, decide_true, Bool.and_self, Bool.false_eq_true, if_true, if_false]
  rfl

theorem pieceAckIn_of_last (more : y.acked < p.arg.toNat) (last : p.arg.toNat = y.limit) :
    s.pieceAckIn x p = (s.updCopy y.id (fun _ => y.at p.arg.toNat s.now)).finishCopy (y.at p.arg.toNat s.now) := by
  have fresh : (decide (y.acked < p.arg.toNat) && decide (p.arg.toNat ≤ y.limit)) = true := by
    rw [decide_eq_true more, decide_eq_true last.le]
    rfl
  simp only [State.pieceAckIn, put, found, fresh, Bool.false_eq_true, if_true, if_false]
  exact if_pos last

omit put found in
/-- A copy that a command began ends with the command's reply; the copy and its request are gone. -/
theorem finishCopy_of_command {q : Nat} {seq : W32} {d : Started} (origin : y.origin = .command q seq)
    (started : s.findStarted q seq = some d) (open_ : (s.ctx y.ctx).st = .open) (empty : (s.ctx y.ctx).queue = [])
    (up : ∀ j b, s.job j = some b → b.teardown = false) (ys : List Copy) : ∃ cs,
      ({ s with copies := ys }).finishCopy y = (s.finishCmd d (.ok y.len)).withTransit
        ⟨ys.filter (fun z => z.id != y.id), cs, s.jobs, s.snaps, s.tx⟩ := by
  have done : ({ s with copies := ys }).copyDone y = (s.finishCmd d (.ok y.len)).withTransit
      ⟨ys.filter (fun z => z.id != y.id), s.ctxs, s.jobs, s.snaps, s.tx⟩ := by
    rw [← finishCmd_withTransit]
    simp only [State.copyDone, origin, State.finish]
    have same : (({ s with copies := ys }).dropCopy y.id).findStarted q seq = some d := started
    rw [same]
    exact rfl
  obtain ⟨cs, ended⟩ := endReq_of_open (s := (s.finishCmd d (.ok y.len)).withTransit
    ⟨ys.filter (fun z => z.id != y.id), s.ctxs, s.jobs, s.snaps, s.tx⟩) (x := y.ctx) (q := y.seq) open_ empty up
  refine ⟨cs, ?_⟩
  rw [State.finishCopy, done, ended]
  rfl

end

/-! ## The context of a message (R366) -/

theorem msgCtx_eq {c : Started} {x : Nat} : s.msgCtx c x = true ↔
    x < 2 ^ 20 ∧ (s.ctx x).tag = c.tag ∧ (s.ctx x).epoch = c.epoch ∧ ((s.ctx x).st = .open ∨ (s.ctx x).st = .resolve) := by
  simp only [State.msgCtx, State.ctxOfCmd, Ctx.ofJob, Bool.and_eq_true, Bool.or_eq_true, decide_eq_true_eq, beq_iff_eq, bne_iff_ne]
  constructor
  · rintro ⟨⟨small, ⟨-, tag⟩, epoch⟩, st⟩
    exact ⟨small, tag, epoch, st⟩
  · rintro ⟨small, tag, epoch, st⟩
    refine ⟨⟨small, ⟨?_, tag⟩, epoch⟩, st⟩
    rcases st with st | st <;> rw [st] <;> decide

end Sys2Proof.Machine

/-! # The rows of copies, pieces and messages -/

namespace Sys2Proof.Machine

open Claims

variable {s : State}

/-! ## Copies begun by a command (R360 to R362) -/

section

variable {q : QueueId} {seq : W32} {c : Started} {j : Nat} {b : JobSlot}

theorem namesHost_eq_false {p : Nat} (window : windowOf (ptrOff p) ≠ .host) : namesHost p = false :=
  beq_eq_false_iff_ne.2 window

theorem findStarted_of_readyJob {op : Nat} (h : readyJob s op q seq c j b) : s.findStarted q.val seq = some c := h.1.1

theorem findStarted_waitCmd_of_readyJob {op : Nat} {w : CmdWait} (h : readyJob s op q seq c j b) :
    (s.waitCmd c w).findStarted q.val seq = some { c with wait := w } := by
  obtain ⟨own, same⟩ := eq_of_findStarted (findStarted_of_readyJob h)
  exact own ▸ same ▸ findStarted_waitCmd (findStarted_self (findStarted_of_readyJob h))

/-- A local copy of a command that lands whole ends with the command's reply. -/
theorem startCopy_of_landed {tag : W16} {epoch : Byte} {src dst n x : Nat} {tally : Word} {m : List Host.Cell}
    (started : s.findStarted c.q c.seq = some c) (here : s.namesOther src = false) (there : s.namesOther dst = false)
    (landed : s.copyLocal tag epoch (ptrOff src) (ptrOff dst) n tally 0 (n / 256 + 2) = (s.withMem m, n, true)) :
    s.startCopy (.command c.q c.seq) tag epoch src dst n x tally =
      ((s.withMem m).dropCopy s.nextCopy).finishCmd c (.ok n) := by
  have same : ((s.withMem m).dropCopy s.nextCopy).findStarted c.q c.seq = some c := started
  simp only [State.startCopy, here, there, landed, Bool.or_self, Bool.false_eq_true, if_false, if_true, State.copyDone,
    State.finish, same]

/-- A copy to another node sends its COPY_OPEN. -/
theorem startCopy_remote {o : CopyOrigin} {tag : W16} {epoch : Byte} {src dst n x : Nat} (here : s.namesOther src = false)
    (there : s.namesOther dst = true) (may : (s.ctx x).canSend = true) (empty : (s.ctx x).queue = []) : ∃ cs ys,
      s.startCopy o tag epoch src dst n x 0 = { s with
        nextCopy := s.nextCopy + 1, copies := ys, ctxs := cs
        tx := s.tx ++ [s.ctxPacket (s.ctx x) 0x05 0 (s.ctx x).sendSeq (ptrOff dst) (leBytes 8 n ++ leBytes 8 0)] } ∧
      (mget Ctx.zero cs x).sendSeq = (s.ctx x).sendSeq + 1 ∧ (mget Ctx.zero cs x).outstanding = (s.ctx x).outstanding + 1 := by
  obtain ⟨cs, ys, sent, counts⟩ := ctxRequest_of_ready (s := { s with nextCopy := s.nextCopy + 1, copies := s.copies ++
    [{ id := s.nextCopy, origin := o, tag := tag, epoch := epoch, src := ptrOff src, dst := ptrOff dst, len := n, ctx := x,
       seq := 0, acked := 0, opened := false, limit := n, t0 := s.now, tries := 0, data := [],
       tally := if tallyValid 0 then 0 else (s.ctx x).tally, redo := 0 }] })
    (x := x) (op := 0x05) (flags := 0) (arg := ptrOff dst) (payload := leBytes 8 n ++ leBytes 8 0) (o := .copy s.nextCopy) may empty
  refine ⟨cs, ys, Eq.trans ?_ sent, counts⟩
  simp only [State.startCopy, here, there, Bool.false_or, if_true]
  rfl

/-- The fuel of a local copy is enough for all its pieces. -/
theorem le_pieces (n : Nat) : n ≤ 0 + 256 * (n / 256 + 2) := by omega

/-- A command's copy between ranges of HBM3E that lie apart. -/
theorem exec_memCopy_hbm (h : readyJob s 0x0201 q seq c j b) (src : c.arg 0 / 2 ^ 51 = 0x1FFF) (dst : c.arg 1 / 2 ^ 51 = 0x1FFF)
    (some_bytes : 1 ≤ c.arg 2) (fits : c.arg 2 ≤ 16777216) (class_ : c.arg 4 ≤ 2) (untallied : c.arg 5 = 0)
    (ws : windowOf (ptrOff (c.arg 0)) = .hbm) (wd : windowOf (ptrOff (c.arg 1)) = .hbm)
    (good : s.copyBad c.tag true (c.arg 0) (c.arg 1) (c.arg 2) = none) (top : s.jTop ≤ hbmTop)
    (apart : ptrOff (c.arg 0) + c.arg 2 ≤ ptrOff (c.arg 1) ∨ ptrOff (c.arg 1) + c.arg 2 ≤ ptrOff (c.arg 0)) (errs : s.errs = [])
    (held : s.heldWrites = []) (pages : s.pages = []) (snoop : s.hostPort.snoop = []) :
    ∃ m, exec (.memCopy q seq) s = .next (((s.withMem m).dropCopy s.nextCopy).finishCmd c (.ok (c.arg 2))) ∧
      CopiedTo s.mem m (ptrOff (c.arg 0)) (ptrOff (c.arg 1)) (c.arg 2) := by
  have here := namesOther_self (s := s) src
  have there := namesOther_self (s := s) dst
  have invalid : tallyValid (BitVec.ofNat 64 (c.arg 5)) = false := by
    rw [untallied]
    decide
  have ok : s.copyParamsOk (c.arg 0) (c.arg 1) (c.arg 2) (c.arg 4) (BitVec.ofNat 64 (c.arg 5)) = true := by
    rw [untallied]
    exact copyParamsOk_of_plain some_bytes fits class_ here fun far => absurd (there.symm.trans far) Bool.false_ne_true
  obtain ⟨belowS, belowD⟩ := le_jTop_of_copyBad good here there ws wd
  obtain ⟨m, landed, whole⟩ := copyLocal_hbm (s := s) (tag := c.tag) (epoch := c.epoch) (belowS.trans top) (belowD.trans top) apart
    invalid errs held pages snoop _ 0 s.mem (Nat.zero_le _) (le_pieces _) (copiedTo_zero _ _ _)
  refine ⟨m, ?_, whole⟩
  have hs : namesHost (c.arg 0) = false := namesHost_eq_false (ws ▸ by decide)
  have hd : namesHost (c.arg 1) = false := namesHost_eq_false (wd ▸ by decide)
  rw [exec_memCopy_local ok here h there good hs hd, startCopy_of_landed (findStarted_self (findStarted_of_readyJob h)) here there landed]

end

/-! ## Pieces and their acknowledgements (R362) -/

section

variable {n : LinkId} {p : Packet}

theorem exec_piecePacket (h : arrives s n p true) : exec (.piecePacket n p) s = .next (s.pieceIn p.dstCtx.toNat p).snapsGoOn :=
  congrArg Host.Outcome.next (onCtx_of_arrives _ h)

theorem exec_pieceAck (h : arrives s n p true) : exec (.pieceAck n p) s = .next (s.pieceAckIn p.dstCtx.toNat p).snapsGoOn :=
  congrArg Host.Outcome.next (onCtx_of_arrives _ h)

/-- With nothing in teardown and no snapshot under way, a piece has the effect on its copy alone. -/
theorem exec_piecePacket_of_quiet {t : State} (h : arrives s n p true) (quiet : quietJobs s) (result : s.pieceIn p.dstCtx.toNat p = t)
    (jobs : t.jobs = s.jobs) (snaps : t.snaps = s.snaps) : exec (.piecePacket n p) s = .next t := by
  rw [exec_piecePacket h, result, snapsGoOn_of_quietJobs (quietJobs_of_same jobs snaps quiet)]

theorem exec_pieceAck_of_quiet {t : State} (h : arrives s n p true) (quiet : quietJobs s) (result : s.pieceAckIn p.dstCtx.toNat p = t)
    (jobs : t.jobs = s.jobs) (snaps : t.snaps = s.snaps) : exec (.pieceAck n p) s = .next t := by
  rw [exec_pieceAck h, result, snapsGoOn_of_quietJobs (quietJobs_of_same jobs snaps quiet)]

variable {x : Nat} {r : RxCopy}

theorem expects_eq : r.expects = if r.recv.isSome ∨ r.getId.isSome then r.next else r.dst + r.next := by
  simp only [RxCopy.expects, Bool.or_eq_true]

theorem setSlot_setCtx {c : Ctx} {v : ReplySlot} : (s.setCtx x c).setSlot x v =
    (s.setCtx x c).setCtx x { c with slots := minsert c.slots (v.seq.toNat % 16) v } := by
  rw [State.setSlot, State.ctx_setCtx_same]

/-- What stands once an answer has gone out and stands in its reply slot. -/
theorem slotSent_keeps (u : State) (c : Ctx) (v : ReplySlot) (op flags : Nat) (q : W32) (arg : Nat) :
    (let t := ((u.setCtx x c).setSlot x v).sendOn x op flags q arg []
     t.jobs = u.jobs ∧ t.snaps = u.snaps ∧ t.mem = u.mem ∧ t.tallies = u.tallies) := by
  simp only [State.sendOn, setSlot_setCtx, State.transmit_jobs, State.transmit_snaps, State.transmit_mem, State.transmit_tallies,
    State.setCtx_jobs, State.setCtx_snaps, State.setCtx_mem, State.setCtx_tallies, and_self]

theorem ctx_slotSent (u : State) (c : Ctx) (v : ReplySlot) (op flags : Nat) (q : W32) (arg : Nat) :
    (((u.setCtx x c).setSlot x v).sendOn x op flags q arg []).ctx x = { c with slots := minsert c.slots (v.seq.toNat % 16) v } := by
  simp only [State.sendOn, setSlot_setCtx, State.ctx, State.transmit_ctxs]
  exact State.ctx_setCtx_same _ _ _

theorem tx_slotSent (u : State) (c : Ctx) (v : ReplySlot) (op flags : Nat) (q : W32) (arg : Nat) :
    (((u.setCtx x c).setSlot x v).sendOn x op flags q arg []).tx = u.tx ++ [u.ctxPacket c op flags q arg []] := by
  simp only [State.sendOn, setSlot_setCtx, State.ctx_setCtx_same, State.transmit, State.setCtx_tx]
  rfl

/-- A piece in its turn lands; its copy goes on, its slot says how far, and PIECE_ACK says so to the sender. -/
theorem pieceIn_landed (put : tbit p.flags.toNat 4 = false) (found : (s.ctx x).findRx p.seq false = some r) (recv : r.recv = none)
    (get : r.getId = none) (turn : ptrOff p.arg.toNat = r.dst + r.next) (length : p.payload.length = pieceLen r.len r.next) :
    (let u := s.pieceLanded x p r
     let n := r.next + pieceLen r.len r.next
     let t := s.pieceIn x p
     t.jobs = s.jobs ∧ t.snaps = s.snaps ∧ t.mem = u.mem ∧ t.tallies = u.tallies ∧
     t.tx = s.tx ++ [s.ctxPacket (s.ctx x) 0x11 0 p.seq n []] ∧ (t.ctx x).findRx p.seq false = r.after ∧
     (t.ctx x).slot p.seq = ⟨p.seq, 0, copyState n r.len, false⟩) := by
  rw [pieceIn_of_accepted put found recv get turn length]
  have kept : (s.pieceLanded x p r).transit = s.transit := transit_pieceLanded
  have node : (s.pieceLanded x p r).nodeReg = s.nodeReg := nodeReg_pieceLanded
  generalize s.pieceLanded x p r = u at kept node ⊢
  have ctx : u.ctx x = s.ctx x := congrArg (fun v => mget Ctx.zero (Transit.ctxs v) x) kept
  have own (r' : RxCopy) (eq : r.after = some r') : r'.seq = p.seq ∧ r'.getId = none := by
    unfold RxCopy.after at eq
    split at eq
    · cases eq
    · cases eq
      exact ⟨(findRx_some found).1, get⟩
  obtain ⟨jobs, snaps, mem, tallies⟩ := slotSent_keeps (x := x) u ((u.ctx x).setRx p.seq false r.after)
    ⟨p.seq, 0, copyState (r.next + pieceLen r.len r.next) r.len, false⟩ 0x11 0 p.seq (r.next + pieceLen r.len r.next)
  refine ⟨jobs.trans (congrArg Transit.jobs kept), snaps.trans (congrArg Transit.snaps kept), mem, tallies, ?_, ?_, ?_⟩
  · refine (tx_slotSent _ _ _ _ _ _ _).trans ?_
    rw [ctxPacket_congr node, ctx, show u.tx = s.tx from congrArg Transit.tx kept]
    rfl
  · exact (congrArg (Ctx.findRx · p.seq false) (ctx_slotSent _ _ _ _ _ _ _)).trans (findRx_setRx own)
  · exact (congrArg (Ctx.slot · p.seq) (ctx_slotSent _ _ _ _ _ _ _)).trans slot_minsert

end

/-! ## MSG_SEND and MSG_RECV_POST (R366) -/

section

variable {q : QueueId} {seq : W32} {c : Started} {j : Nat} {b : JobSlot}

theorem exec_msgSend_unusable (h : readyJob s 0x0605 q seq c j b) (refused : s.msgCtx c (c.arg 3) = false) :
    exec (.msgSend q seq) s = .next (s.finishCmd c (.st 0x0640)) := by
  refine (congrArg Host.Outcome.next (runJobCmd_of_readyJob _ h)).trans (congrArg Host.Outcome.next ?_)
  simp only [refused]
  rfl

/-- The copy that a message of a command waits for. -/
def State.msgCopy (s : State) (c : Started) : Copy :=
  { id := s.nextCopy, origin := .message c.q c.seq, tag := c.tag, epoch := c.epoch, src := ptrOff (c.arg 0), dst := 0,
    len := c.arg 2, ctx := c.arg 3, seq := 0, acked := 0, opened := false, limit := c.arg 2, t0 := s.now, tries := 0, data := [],
    tally := 0, redo := 0 }

theorem exec_msgSend_usable (h : readyJob s 0x0605 q seq c j b) (usable : s.msgCtx c (c.arg 3) = true)
    (good : s.jobBad c (c.arg 0) (c.arg 2) true false = none) : exec (.msgSend q seq) s =
      .next ({ s.waitCmd c (.msg (c.arg 3)) with nextCopy := s.nextCopy + 1, copies := s.copies ++ [s.msgCopy c] }.ctxRequest
        (c.arg 3) 0x07 0 (c.arg 1) (leBytes 8 (c.arg 2)) (.msg s.nextCopy)) := by
  refine (congrArg Host.Outcome.next (runJobCmd_of_readyJob _ h)).trans (congrArg Host.Outcome.next ?_)
  simp only [usable, good]
  rfl

theorem exec_msgRecvPost (h : readyJob s 0x0606 q seq c j b) (usable : s.msgCtx c (c.arg 4) = true)
    (good : s.jobBad c (c.arg 0) (c.arg 3) false true = none) : exec (.msgRecvPost q seq) s = .next (
      if 64 ≤ (s.ctx (c.arg 4)).recvs.length then s.finishCmd c (.st 0x0647)
      else (s.waitCmd c (.recv (c.arg 4))).setCtx (c.arg 4) { s.ctx (c.arg 4) with recvs := (s.ctx (c.arg 4)).recvs ++
        [⟨c.q, c.seq, ptrOff (c.arg 0), BitVec.ofNat 64 (c.arg 1), BitVec.ofNat 64 (c.arg 2), c.arg 3,
          BitVec.ofNat 64 (c.arg 5)⟩] }) := by
  refine (congrArg Host.Outcome.next (runJobCmd_of_readyJob _ h)).trans (congrArg Host.Outcome.next ?_)
  simp only [usable, good]
  rfl

end

/-! ## The ACOPY descriptor of a plain copy (R361) -/

theorem readCopyDesc_of_plain {bs : List Byte} (ids : slice bs 26 4 = [0, 0, 0, 0]) (count : slice bs 30 2 = [0, 0])
    (rest : slice bs 40 24 = List.replicate 24 0) (context : bits (readCopyDesc bs).context 30 20 = 0) :
    (let d := readCopyDesc bs
     d.reserved = false ∧ d.redId = 0 ∧ d.clFirst = 0 ∧ d.clCount = 0 ∧ d.mask = 0 ∧ d.rflags = 0) := by
  have idsZero (j) : 26 ≤ j → j < 30 → nth 0#8 bs j = 0#8 := nth_of_slice_eq (n := 4) ids
  have countZero (j) : 30 ≤ j → j < 32 → nth 0#8 bs j = 0#8 := nth_of_slice_eq (n := 2) count
  have restZero (j) : 40 ≤ j → j < 64 → nth 0#8 bs j = 0#8 := nth_of_slice_eq (n := 24) rest
  refine ⟨?_, leAt_eq_zero fun j low high => idsZero j low (by omega), leAt_eq_zero fun j low high => idsZero j (by omega) high,
    leAt_eq_zero countZero, leAt_eq_zero fun j low high => restZero j low (by omega),
    leAt_eq_zero fun j low high => restZero j (by omega) (by omega)⟩
  have zero : allZero (slice bs 43 21) = true := allZero_slice.2 fun j low high => restZero j (by omega) high
  have context : bits (leAt bs 20 4) 30 20 = 0 := context
  simp only [readCopyDesc, zero, context]
  rfl

/-! ## Pieces of a reduction in their turn (R365) -/

section

variable {n : LinkId} {p : Packet} {j : Nat} {b : JobSlot} {tr : Tree} {e : RedIn}

/-- What has come so far of the child's result that a piece continues. -/
def State.redPart (s : State) (j : Nat) (p : Packet) : RedIn :=
  let id := BitVec.ofNat 16 (p.arg.toNat / 2 ^ 48)
  (s.redIn.find? (RedIn.of j id p.srcNode.toNat)).getD ⟨j, id, p.srcNode.toNat, [], false⟩

variable (h : arrives s n p false) (job : s.findJob p.tag p.epoch = some (j, b)) (tree : b.tree = some tr)
  (child : p.srcNode.toNat ∈ tr.children) (small : p.arg.toNat / 2 ^ 48 < 0xFF00) (part : s.redPart j p = e)

include h job tree child small part

theorem exec_redPiece_of_turn (more : e.full = false) (turn : p.arg.toNat % 2 ^ 32 = e.bytes.length) : exec (.redPiece n p) s =
    .next { s with redIn := s.redIn.filter (fun e => !RedIn.of j (BitVec.ofNat 16 (p.arg.toNat / 2 ^ 48)) p.srcNode.toNat e) ++
      [{ e with bytes := e.bytes ++ p.payload, full := p.flags.getLsbD 5 }] } := by
  subst part
  rw [exec_redPiece h, redPieceIn_eq job tree child small]
  refine congrArg Host.Outcome.next (if_neg ?_)
  rw [← State.redPart, more, Bool.false_or, decide_eq_true_eq]
  exact not_not_intro turn

theorem exec_redPiece_of_wrong (wrong : e.full = true ∨ p.arg.toNat % 2 ^ 32 ≠ e.bytes.length) :
    exec (.redPiece n p) s = .next s := by
  subst part
  rw [exec_redPiece h, redPieceIn_eq job tree child small]
  refine congrArg Host.Outcome.next (if_pos ?_)
  rw [← State.redPart, Bool.or_eq_true, decide_eq_true_eq]
  exact wrong

end

end Sys2Proof.Machine

namespace Sys2Proof

open Machine Claims

/-- Settles O47: a copy within HBM3E lands piece by piece, one to a peer opens with COPY_OPEN, a piece in its turn lands and is
acknowledged, and the last acknowledgement ends the copy. -/
theorem copiesAndMessages : Obligations.CopiesAndMessages := by
  unfold Obligations.CopiesAndMessages
  refine ⟨?here, ?peer, ?param, ?acopy, ?descriptor, ?piece, ?noCopy, ?ack, ?send, ?recv, ?reduction⟩
  case here =>
    intro s q seq c j b h o d n src dst some_bytes fits class_ untallied ws wd good top apart errs held pages snoop
    have offO : ptrOff (c.arg 0) = o := ptrOff_eq _
    have offD : ptrOff (c.arg 1) = d := ptrOff_eq _
    clear_value o d
    subst offO offD
    obtain ⟨m, run, copied⟩ := exec_memCopy_hbm h src dst some_bytes fits class_ untallied ws wd good
      (top.trans (by decide)) apart errs held pages snoop
    exact ⟨_, run, copied, rfl⟩
  case peer =>
    intro s q seq c j b h x far e src small other some_bytes fits class_ untallied notHost ws
    rw [← ptrOff_eq] at notHost ws
    have here := namesOther_self (s := s) src
    have there := namesOther_peer small other
    have ok : s.copyParamsOk (c.arg 0) (c.arg 1) (c.arg 2) (c.arg 4) (BitVec.ofNat 64 (c.arg 5)) = true := by
      rw [untallied]
      exact copyParamsOk_of_plain some_bytes fits class_ here fun _ => notHost
    have node : ptrNode (c.arg 1) = far := ptrNode_peer small
    clear_value far
    subst node
    refine ⟨fun unusable => exec_memCopy_unusable ok here h there unusable, fun lowCtx usable may empty good _ => ?_⟩
    have hs : namesHost (c.arg 0) = false := namesHost_eq_false (ws ▸ by decide)
    have run := exec_memCopy_remote ok here h there lowCtx usable good hs (namesHost_eq_false notHost)
    rw [untallied] at run
    obtain ⟨cs, ys, sent, counts⟩ := startCopy_remote (s := s.waitCmd c (.copy s.nextCopy)) (o := .command c.q c.seq) (tag := c.tag)
      (epoch := c.epoch) (n := c.arg 2) here there may empty
    refine ⟨_, run.trans (congrArg Host.Outcome.next sent), findStarted_waitCmd_of_readyJob h, ?_, counts.1, counts.2, rfl, rfl⟩
    rw [← ptrOff_eq]
    rfl
  case param =>
    intro s q seq c j b h bad
    exact exec_memCopy_param h (copyParamsOk_of_bad bad)
  case acopy =>
    intro s s' c w a desc h zero plain here loaded k off r own first
    exact exec_core_done rfl h (acopyStep_perform ⟨zero, plain⟩ here loaded own first)
  case descriptor =>
    intro s k desc u b z r table unit
    refine ⟨fun high => ?_, fun kind ⟨i, low, high, set⟩ => acopy_of_reserved table unit (reserved_of_byte low high set) kind,
      fun plain ids count rest => ?_⟩
    · have high : 2 < (readCopyDesc desc).kind := high
      rw [acopy_eq table unit, if_neg (by omega), if_neg (by omega)]
    · intro d some_bytes fits class_ untallied here there context
      obtain ⟨reserved, id, first, size, mask, flags⟩ := readCopyDesc_of_plain ids count rest context
      have ok : s.copyParamsOk d.src d.dst d.len d.cls d.tally = true := by
        rw [untallied]
        exact copyParamsOk_of_plain some_bytes fits class_ here fun far => absurd (there.symm.trans far) Bool.false_ne_true
      have kind : (readCopyDesc desc).kind = 0 := plain
      rw [acopy_eq table unit, if_pos kind, acopyPlain_of_local reserved id first size mask flags ok here there]
      refine ⟨fun bad => if_pos (Option.isSome_iff_ne_none.2 bad), fun good => ?_⟩
      rw [good, untallied]
      rfl
  case piece =>
    intro s n p r h quiet x e k put found
    have put := tbit_eq_false put
    refine ⟨fun wrong => ?_, fun recv get turn length more => ?_⟩
    · rw [← ptrOff_eq, ← expects_eq] at wrong
      exact exec_piecePacket_of_quiet h quiet (pieceIn_of_refused put found wrong) rfl rfl
    · rw [← ptrOff_eq] at turn
      obtain ⟨jobs, snaps, mem, tallies, tx, rx, slot⟩ := pieceIn_landed put found recv get turn length
      refine ⟨_, exec_piecePacket_of_quiet h quiet rfl jobs snaps, mem, tallies, tx, rx.trans ?_, slot⟩
      rw [RxCopy.after, ← ite_not]
      simp only [Nat.not_le]
      rfl
  case noCopy =>
    intro s n p h quiet put none
    exact exec_piecePacket_of_quiet h quiet (pieceIn_of_none (tbit_eq_false put) none) rfl rfl
  case ack =>
    intro s n p y h quiet put found
    have put := tbit_eq_false put
    refine ⟨fun stale => exec_pieceAck_of_quiet h quiet (pieceAckIn_of_stale put found stale) rfl rfl,
      fun more part => exec_pieceAck_of_quiet h quiet (pieceAckIn_of_progress put found more part) rfl rfl,
      fun q seq d more last _ origin started open_ empty => ?_⟩
    obtain ⟨cs, ended⟩ := finishCopy_of_command (y := y.at p.arg.toNat s.now) origin started open_ empty quiet.1
      (updFirst (fun z => z.id == y.id) (fun _ => y.at p.arg.toNat s.now) s.copies)
    refine ⟨_, exec_pieceAck_of_quiet h quiet ((pieceAckIn_of_last put found more last).trans ended) rfl rfl, rfl, rfl, rfl, ?_⟩
    intro z mem
    exact bne_iff_ne.1 (List.mem_filter.1 mem).2
  case send =>
    intro s q seq c j b h
    refine ⟨fun unusable => exec_msgSend_unusable h (Bool.eq_false_iff.2 fun usable => unusable (msgCtx_eq.1 usable)),
      fun usable may empty good => ?_⟩
    obtain ⟨cs, ys, sent, seq, -⟩ := ctxRequest_of_ready (s := { s.waitCmd c (.msg (c.arg 3)) with
      nextCopy := s.nextCopy + 1, copies := s.copies ++ [s.msgCopy c] }) (op := 0x07) (flags := 0) (arg := c.arg 1)
      (payload := leBytes 8 (c.arg 2)) (o := .msg s.nextCopy) may empty
    exact ⟨_, (exec_msgSend_usable h (msgCtx_eq.2 usable) good).trans (congrArg Host.Outcome.next sent),
      findStarted_waitCmd_of_readyJob h, rfl, seq, rfl⟩
  case recv =>
    intro s q seq c j b h x e small tag epoch st good
    rw [exec_msgRecvPost h (msgCtx_eq.2 ⟨small, tag, epoch, st⟩) good, ← ptrOff_eq]
    exact ⟨fun full => congrArg Host.Outcome.next (if_pos full), fun room => congrArg Host.Outcome.next (if_neg (Nat.not_le.2 room))⟩
  case reduction =>
    intro s n p j b tr h job tree child small id mine
    have found {e : RedIn} (some_part : s.redIn.find? mine = some e) : s.redPart j p = e := congrArg (Option.getD · _) some_part
    refine ⟨fun none first => ?_, fun e part more turn => exec_redPiece_of_turn h job tree child small (found part) more turn,
      fun e part wrong => exec_redPiece_of_wrong h job tree child small (found part) wrong⟩
    have part : s.redPart j p = ⟨j, id, p.srcNode.toNat, [], false⟩ := congrArg (Option.getD · _) none
    exact exec_redPiece_of_turn h job tree child small part rfl first

end Sys2Proof
